-- ==== Sys2Proof/Word.lean ====
section
/-! DEFINITION. The word types of the model and the name of a register field (spec 00_scope.md: R13, Table 00-5). -/

namespace Sys2Proof

/-- A REGWIN register word (R13): 32 bits, little-endian. -/
abbrev Word := BitVec 32

/-- One byte of a MEMWIN space. -/
abbrev Byte := BitVec 8

/-- One Ibcor bundle (R106): 128 bits. -/
abbrev Bundle := BitVec 128

/-- A sparse map from numbers to values: a list of pairs whose keys rise strictly and
none of whose values is the one that an unlisted key reads as. -/
abbrev Sparse (α : Type) := List (Nat × α)

/-- A field of a REGWIN register: the word's window offset, the field's lowest bit and its width. -/
structure Fld where
  off : Nat
  lo  : Nat
  wid : Nat
  deriving DecidableEq, Repr

end Sys2Proof
end

