-- ==== Sys2Proof/Syntax.lean ====
section
/-! DEFINITION. The commands the block takes: one constructor of `Instr` per row of spec/opcode_table.json, in the
table's order, and the types of their operands. -/

namespace Sys2Proof

/-- One change of a fault source's pair as it arrives at the collector (R459, R466): the source, the pair's new value as
2 · P + N (1 good, 2 fault, 0 and 3 wire faults), and, for a departure that has already returned to good, its length in
picoseconds. -/
structure FcChange where
  src  : Nat
  pair : Nat
  ps   : Option Nat
  deriving DecidableEq, Repr

/-- The bundle a stall operation belongs to: the stall, the ENG cycle after the boundary at which the bundle issues, the
bundle predicate (PK, PNEG of Table 04-2), and whether this is the bundle's last operation. The operations of one bundle
come in the order CTL, LS0, LS1, VEC. -/
structure OpCtx where
  stall : Nat
  cyc   : Nat
  pk    : Nat
  pneg  : Bool
  last  : Bool
  deriving DecidableEq, Repr

/-- AMODE codes (Table 04-5). -/
inductive AMode where
  | plain | postm | prem | posts | brev | ppcur | ppprev
  deriving DecidableEq, Repr

/-- SHAPE codes (Table 04-7), LANE8 with its ELEM. -/
inductive Shape where
  | cont | lane8 (elem : Nat) | quad | splat
  deriving DecidableEq, Repr

/-- The operands of an LA-format operation (Table 04-4): which load/store slot, REG, PN, MN, AMODE, SZ = P24, SHAPE, KP.
A scalar access has SHAPE, ELEM and KP zero. -/
structure LaOp where
  slot1 : Bool
  reg   : Nat
  pn    : Nat
  mn    : Nat
  amode : AMode
  p24   : Bool
  shape : Shape
  kp    : Nat
  deriving DecidableEq, Repr

/-- Operand b of a VX-format operation (Table 04-9): by element, by lane with BE, or global with BL and BE. -/
inductive BSel where
  | elemw | laneb (be : Nat) | glob (bl be : Nat)
  deriving DecidableEq, Repr

/-- The operands of a VX-format operation (Table 04-8). -/
structure VxOp where
  xd : Nat
  va : Nat
  vb : Nat
  kp : Nat
  b  : BSel
  deriving DecidableEq, Repr

/-- The operands of RDX in its four forms (format VR, Table 04-8). -/
structure VrOp where
  vd : Nat
  xs : Nat
  sh : Nat
  kp : Nat
  deriving DecidableEq, Repr

/-- The register operands of formats VE and VS (Table 04-8). -/
structure VeOp where
  vd : Nat
  va : Nat
  vb : Nat
  kp : Nat
  deriving DecidableEq, Repr

/-- The MODE of ENV (Table 05-9): DET = positive half-wave, SEED, ASH, RSH. -/
structure EnvMode where
  half : Bool
  seed : Nat
  ash  : Nat
  rsh  : Nat
  deriving DecidableEq, Repr

/-- What carries a PTP message (Table 12-3): IEEE 802.3 or UDP over IPv4; UDP over IPv6 is not supported. -/
inductive PtpVia where
  | ethernet | udp4 | udp6
  deriving DecidableEq, Repr

/-- A PTP message as received on a port (R382, R383): the node time of its stamp in root cycles, port, transport, versionPTP and
domainNumber. -/
structure PtpIn where
  at_     : Nat
  port    : Nat
  via     : PtpVia
  version : Nat
  dom     : Nat
  deriving DecidableEq, Repr

/-- A foreign master that a slot has heard (R382, R384): its data set in the order in which two are compared, its source
identity, its grandmaster's clockIdentity, stepsRemoved, and the node times of its last two Announce messages (ns), which
a received message leaves to the block. -/
structure ForeignMaster where
  dataset : List Nat
  source  : Nat
  gm      : Nat
  steps   : Nat
  last    : Nat
  prev    : Option Nat
  deriving DecidableEq, Repr

/-- An audio stream packet as received (R358 to R360). For AES67 (`aaf` false): `ok` says IPv4, unfragmented, header checksum
valid, UDP checksum valid or 0; `dst` and `port` its UDP destination, `src` its IPv4 source, `version` and `pt` of the RTP
header, `payload` after CSRC entries, extension and padding. For AAF: `ok` says subtype AAF and sv = 1; `dst` is the stream_id,
`format` the FMT code its format field stands for, `nsr` its rate in Hz, `channels` its channels_per_frame, `tv` its tv bit. -/
structure AudioPkt where
  aaf      : Bool
  ok       : Bool
  src      : Nat
  dst      : Nat
  port     : Nat
  version  : Nat
  pt       : Nat
  format   : Nat
  nsr      : Nat
  channels : Nat
  tv       : Bool
  stamp    : Nat
  seq      : Nat
  payload  : List Byte
  deriving DecidableEq, Repr


/-- What a received frame carries, as far as the forwarding rules tell it apart (R346). -/
inductive NetBody where
  | audio (p : AudioPkt)
  | ptp
  | igmp
  | arp (target : Nat)
  | supervision
  | other
  deriving DecidableEq, Repr

/-- A frame at an external port: bytes from the destination address to the FCS, FCS valid, source and destination MAC
address, number of VLAN tags with the PCP and VID of the first, and the redundancy trailer or tag (sequence number, LAN B)
where it is valid (R349). -/
structure NetFrame where
  len   : Nat
  fcsOk : Bool
  src   : Nat
  dst   : Nat
  tags  : Nat
  pcp   : Nat
  vid   : Nat
  red   : Option (Nat × Bool)
  body  : NetBody
  deriving DecidableEq, Repr

/-- One received AES3 subframe (R404, R405): preamble (0 missing or invalid, 1 X, 2 Y, 3 Z), a biphase violation in it, the
24 audio bits, V, U and C, and whether its parity is even. -/
structure AesSub where
  pre    : Nat
  bip    : Bool
  audio  : Nat
  v      : Bool
  u      : Bool
  c      : Bool
  parity : Bool
  deriving DecidableEq, Repr

/-- The header of a tether block as received (R500): SEQ, FRAME, the lowest SEQ that the peer still misses, the SEQ it asks
for again, whether the CRC is correct, LAST; whether its TYPE is assigned (R501); and the lanes of which the receive crossing lost a data
block of it, being full (R58). -/
structure TthHdr where
  seq   : Nat
  frame : Nat
  ack   : Nat
  nak   : Option Nat
  crcOk : Bool
  last  : Bool
  lost  : List Nat := []
  known : Bool := true
  deriving DecidableEq, Repr

/-- The payload of a HELLO (Table 17-6). -/
structure Hello where
  cap      : Nat
  baleRoot : Nat
  root     : Nat
  gen      : Nat
  k        : Nat
  role     : Nat
  own      : Bool
  elig     : Bool
  senior   : Bool
  haysync  : Bool
  cold     : Bool
  deriving DecidableEq, Repr

/-- The payload of a DIGEST (R510). -/
structure TwnDigest where
  out    : Nat
  bus    : Nat
  mir    : Nat
  ufD    : Bool
  ufD1   : Bool
  ovr    : Bool
  exempt : Bool
  deriving DecidableEq, Repr

/-- The drive record of one channel (R508): STATE, remaining hold-off in ms, ages of the trips in ms, newest first. -/
structure DrvRecord where
  state : Nat
  hold  : Nat
  ages  : List Nat
  deriving DecidableEq, Repr

/-- The resync record of a Gate A slot or an outlet channel (R516): fade index m (none: no fade), old setting, running FADE and
CURVE, deferred setting with its FADE and CURVE; for an outlet channel also the limiter's e and h. -/
structure FadeNote where
  m      : Option Nat
  old    : List Nat
  fade   : Nat
  curve  : Nat
  defer  : Option (List Nat × Nat × Nat)
  limE   : Int
  limH   : Nat
  deriving DecidableEq, Repr

/-- What a SYNC block carries: leaves 1,024–5,119 with their values (phase 0), pages as SPACE, PAGE and bytes (phase 1), the Gate
A or outlet records (phase 2). -/
inductive SyncBody where
  | leaves (l : List (Nat × Nat))
  | pages (l : List (Nat × Nat × List Byte))
  | gateA (l : List (Nat × FadeNote))
  | outlet (l : List (Nat × FadeNote))
  deriving DecidableEq, Repr

/-- A message of the tether (Table 17-6) as the block sends it. -/
inductive TthBody where
  | hello (h : Hello)
  | input (used : Bool) (samples : List (Nat × Int))
  | mirror (bytes : List Byte) (mir : Nat) (unclean uf : Bool)
  | digest (d : TwnDigest)
  | cmd (ticket : Nat) (words data : List Word)
  | cmdAck (ticket status reason : Nat)
  | take (swap : Bool) (ticket : Nat)
  | role (arg role : Nat)
  | drvRec (l : List DrvRecord)
  | refresh (units rows : List (Nat × List Byte))
  | sync (phase : Nat) (b : SyncBody)
  | bale (slot : Nat) (bytes : List Byte)
  | rcd (gen k root baleRoot : Nat)
  | nop
  deriving DecidableEq, Repr

/-- How the host answers a memory access of the device (R334, R335): the read data of a PARAM_WRITE, an error to a command's
access, or an error to a ring write. -/
inductive HostAnswer where
  | data (ws : List Word)
  | error
  | ringError
  deriving DecidableEq, Repr

/-- What becomes of a matrix transaction that is granted (R222, R236, R238): served; discarded by its target for a beat with wrong
parity; applied, with an answer that fails its check; applied and not answered; on its way and neither applied nor answered. -/
inductive MtxFate where
  | served | badBeat | badAnswer | lost | inFlight
  deriving DecidableEq, Repr

/-- A transaction of the bus matrix (R222): its master, whether it writes, whether it carries audio stream data (R232), its matrix
addresses with the bytes written (a read ignores them), and whether the master has room for the response and the target for the
beats (R224). -/
structure MtxReq where
  master : Nat
  write  : Bool
  audio  : Bool
  cells  : List (Nat × Byte)
  room   : Bool
  deriving DecidableEq, Repr

/-- Another request that waits at the same arbitration point: its master, whether it carries audio stream data, and the FAB cycles it
has waited (R230). -/
structure MtxRival where
  master : Nat
  audio  : Bool
  waited : Nat
  deriving DecidableEq, Repr

/-- The commands (spec/opcode_table.json). Each docstring gives the row's name, its rule and the row's summary. -/
inductive Instr where
  /-- CMD_SUBMIT (R322). A write to the last word of CMD_SUBMIT submits the 64-byte descriptor; it is accepted with a
      new ticket, or refused when 1,024 tickets are outstanding or the command processor is not ready. `ws`: the
      words written, the last of them at offset 0x3C. -/
  | cmdSubmit (ws : List Word)
  /-- LOAD_BALE (R293). The command erases an unarmed slot, or checks the format and section CRCs of an OPEN slot and
      makes it LOADED; on an ACTIVE device it sends the image to the peer. -/
  | loadBale
  /-- VERIFY_BALE (R294). The command checks a LOADED slot against bale reasons 0x01 to 0x11, computes the bale root
      and leaf hashes, and makes the slot VERIFIED or records the failing reason. -/
  | verifyBale
  /-- ARM_BALE (R297). The command checks the slot against the live bale, demotes any other ARMED slot, makes the
      arming writes and makes the slot ARMED. -/
  | armBale
  /-- SWAP_BALE (R298). The command names an ARMED slot and waits to be taken at a bus close that meets the swap
      conditions. `peerOk`: the peer has an ARMED slot with the same bale root (R304). -/
  | swapBale (peerOk : Bool)
  /-- PARAM_WRITE (R329). The command writes COUNT words, inline or read from host memory, into the shadow of one
      register page or stall parameter page, with adjustment. -/
  | paramWrite
  /-- PARAM_COMMIT (R250). The command is accepted and waits to be taken at the next admissible bus close. -/
  | paramCommit
  /-- PARAM_READ (R330). The command writes COUNT live or shadow words of one page to host memory and reports the
      boundary of the live view. `ok`: the host answers the writes of the command without an error. -/
  | paramRead (ok : Bool)
  /-- DIGEST_QUERY (R313). The command writes 2^DEPTH nodes of the published digest tree to TOP_QRES[SLOT], or
      completes SUPERSEDED on a generation change. -/
  | digestQuery
  /-- SAVE_TACK (R540). The command completes once the backlog is zero and every page live at its start is held in
      the save-area index. -/
  | saveTack
  /-- METER_SNAPSHOT (R331). The command writes COUNT meter records of one kind, all from one frame, to host memory.
      `ok`: the host answers the writes of the command without an error. -/
  | meterSnapshot (ok : Bool)
  /-- FC_RELEASE (R478). The command releases the named fault sources that are clear, clearing their pending bits,
      held reactions, latches and any first-fault record. -/
  | fcRelease
  /-- TWIN_HANDOVER (R517). The owner drops ownership with cause 1 if the peer is eligible, and reclaims ownership if
      the peer does not take it. -/
  | twinHandover
  /-- TWIN_RESYNC (R518). The command resyncs the pair, with a preparation that equalises differing parameter pages
      when the roots differ. -/
  | twinResync
  /-- UNDEFINED_OPCODE (R328). A descriptor with an unassigned OPCODE completes REJECTED_FORMAT with reason OPCODE
      when it starts in the short queue. -/
  | undefinedOpcode
  /-- CMD_RING_HEAD_WRITE (R334). The host writes a new HEAD, which frees ring space so that waiting records are
      copied to the ring. -/
  | cmdRingHeadWrite (v : Nat)
  /-- RING_ENABLE (R334). A write of 1 to CMD_RING_CTL.EN resets TAIL, HEAD and the phase, then copies every record
      in the ring queue. -/
  | ringEnable
  /-- REQ_FB (R240). A write of 1 to MTX_CTL.REQ_FB requests a planned switch to the fall-back matrix. -/
  | reqFb
  /-- REQ_FAST (R241). A write of 1 to MTX_CTL.REQ_FAST requests a planned switch to the fast matrix, or is refused
      unless FAST_STATE is READY. `withFb`: the same write also set REQ_FB. -/
  | reqFast (withFb : Bool)
  /-- RETEST (R242). A write of 1 to MTX_CTL.RETEST starts the pattern test of the fast matrix while the fall-back
      matrix is in service. -/
  | retest
  /-- INJECT (R102). A write of 1 to STL_RESIDUE_CTL.INJECT arms one injected residue mismatch. -/
  | inject (stall : Nat)
  /-- STL_RESIDUE_VALID_CLEAR (R101). A write of 1 to STL_RESIDUE.VALID clears VALID, OVF and COUNT and re-arms the
      syndrome. -/
  | stlResidueValidClear (stall : Nat)
  /-- STL_EXC_CLEAR (R146). A W1C write to STL_EXC clears VALID, OVF and COUNT, or clears ADDR and re-arms the
      address-fault capture. `valid`, `addr`: the bits VALID and ADDR as written. -/
  | stlExcClear (stall : Nat) (valid : Bool) (addr : Bool)
  /-- TOP_MEM_STAT_UE_CLEAR (R198). A write of 1 to TOP_MEM_STAT.UE clears UE and UE_OVF and re-arms TOP_MEM_UE_LOC.
      -/
  | topMemStatUeClear
  /-- TOP_TACK_STAT_UE_CLEAR (R581). A write of 1 to TOP_TACK_STAT.UE clears UE and UE_OVF and re-arms
      TOP_TACK_UE_LOC. -/
  | topTackStatUeClear
  /-- MTX_ERR_CLEAR (R235). A write of 1 to MTX_ERR.VALID clears VALID, OVF and COUNT and re-arms the matrix error
      record. -/
  | mtxErrClear
  /-- RESTEP (R379). A write of 1 to TKP_CTL.RESTEP stops frames at the next boundary or idle mark and returns the
      timekeeper to WAIT. -/
  | restep
  /-- SNAP (R389). A write of 1 to TKP_CTL.SNAP latches TSC, WRAP_HI, EPOCH and the boundary number in one NET cycle.
      `at_` is the node time of the event in root cycles. -/
  | snap (at_ : Nat)
  /-- SEL_WRITE (R385). A write of TKP_CTL.SEL moves SEL_LIVE to the wanted domain slot at once. -/
  | selWrite (sel : Nat)
  /-- TKP_TSQ_TS_READ (R390). A read of TKP_TSQ_TS removes the oldest transmit timestamp entry and latches its
      identifier into TKP_TSQ_ID. -/
  | tkpTsqTsRead
  /-- PH_CLR (R281). A write of 1 to GRAPH_METER_CTL.PH_CLR sets every PHOLD to its PEAK at the next boundary. -/
  | phClr
  /-- WARM (R530). A write of 1 to PWR_CTL.WARM asserts WARM_N internally for 1 µs. -/
  | warm
  /-- PWR_BLKRST (R531). A write of 1 to a bit of PWR_BLKRST resets the named block or barn. `v`: the word written.
      -/
  | pwrBlkrst (v : Word)
  /-- DRV_UNLATCH (R448). A write of 1 to a bit of DRV_UNLATCH returns that LATCHED channel to OFF and clears its
      trip history. -/
  | drvUnlatch (w : Nat) (v : Word)
  /-- DRV_CTL_EN_WRITE (R457). A write of DRV_CTL.EN starts the drive stage, or on 0 ramps every running channel down
      and then stops it. -/
  | drvCtlEnWrite (en : Bool)
  /-- OWN_EN_WRITE (R494). A write of 0 to TWN_CTL.OWN_EN makes the owner drop ownership at the next carrier boundary
      with cause 2. -/
  | ownEnWrite (en : Bool)
  /-- TWN_CTL_EN_WRITE (R490). A write of 0 to TWN_CTL.EN returns the device to role SOLO and takes the tether down.
      -/
  | twnCtlEnWrite (en : Bool)
  /-- STRM_EN_WRITE (R362). A write of NSW_CTL.STRM_EN starts or stops the stream engine; a write of 1 tests the
      receive buffer for CLASH. -/
  | strmEnWrite (en : Bool)
  /-- SFB_CTL_EN_WRITE (R432). A write of SFB_CTL.EN starts the sense filter bank and restarts its channels, or stops
      it. -/
  | sfbCtlEnWrite (en : Bool)
  /-- EVU_RAW_WRITE (R342). A W1C write to EVU_RAW clears event bits and requests an MSI-X message for any vector
      left pending. -/
  | evuRawWrite (w : Nat) (v : Word)
  /-- EVU_EN_WRITE (R342). A write to EVU_EN changes the enabled sources and requests an MSI-X message for any vector
      left pending. -/
  | evuEnWrite (w : Nat) (v : Word)
  /-- EVU_MAP_WRITE (R342). A write to EVU_MAP moves a source to another vector, which is evaluated as if the source
      had just become pending. -/
  | evuMapWrite (e : Nat) (v : Word)
  /-- TOP_RCD_LATCH (R315). A read of TOP_RCD at 0x000400 latches every word of the record. -/
  | topRcdLatch
  /-- LOW_WORD_READ (R14). A read of the low word of a changing 64-bit register latches its high word. `off`: window
      offset of the word. -/
  | lowWordRead (off : Nat)
  /-- AES_RXCS_LATCH (R415). A read of word 0 of AES_RXCS latches the channel-status, user-bit and sequence registers
      of that port. -/
  | aesRxcsLatch (port : Nat)
  /-- REGISTER_READ_CLEAR (R16). A read of a register with RC fields returns their values and then clears them. A
      read of any register is sent as this row. `at_`: node time of the read in root cycles. -/
  | registerReadClear (at_ : Nat) (off : Nat)
  /-- REGISTER_WRITE (R317). A REGWIN write to a register without behaviour of its own sets RW fields, clears or sets
      W1C and W1S bits, or places SH values in the shadow queue. `whole`: every byte enable of the word is set
      (R317). A write of any register may be sent as this row. -/
  | registerWrite (off : Nat) (v : Word) (whole : Bool)
  /-- MEMWIN_WRITE (R196). A MEMWIN write to the hayloft, a barn store or a local memory takes effect while RUN = 0
      and is discarded and counted while RUN = 1. `cells`: MEMWIN offsets and bytes of one posted write. -/
  | memwinWrite (cells : List (Nat × Byte))
  /-- TACK_ROOM_WRITE (R285). A MEMWIN write to the tack room takes effect only inside an EMPTY or OPEN bale slot,
      making an EMPTY slot OPEN, and is otherwise discarded and counted. `cells`: MEMWIN offsets and bytes of one
      posted write. -/
  | tackRoomWrite (cells : List (Nat × Byte))
  /-- PERST_N (R319). Assertion of PERST_N resets the HST side, clears the ring enable, cancels device reads and
      discards completions in flight. `low`: the pin is asserted; `reqs`, `comps`: the items then in flight at crossings
      1 and 2, which the crossing's depth bounds. -/
  | perstN (low : Bool) (reqs : Nat) (comps : Nat)
  /-- FUNCTION_LEVEL_RESET (R319). A Function Level Reset clears the ring enable, cancels device reads and discards
      completions in flight. `comps`: the completions in flight at crossing 2. -/
  | functionLevelReset (comps : Nat)
  /-- LINK_DOWN (R319). A PCIe link down clears the ring enable, cancels device reads and discards completions in
      flight. `comps`: the completions in flight at crossing 2. -/
  | linkDown (comps : Nat)
  /-- BUS_MASTER_ENABLE_CLEAR (R319). A clear of Bus Master Enable clears the ring enable and cancels device reads.
      `comps`: the completions in flight at crossing 2. -/
  | busMasterEnableClear (comps : Nat)
  /-- MSIX_ENABLE (R342). Enabling MSI-X, or clearing the function mask or a vector mask, sends messages for every
      pending vector. The MSI-X Enable bit, the function mask and the vector mask bits as the host now sets them. -/
  | msixEnable (enable : Bool) (funcMask : Bool) (mask : Nat)
  /-- EVU_HOLD_EXPIRY (R342). The hold interval of a vector ends and a waiting message request is sent if the vector
      is still pending. -/
  | evuHoldExpiry (v : Nat)
  /-- FRAME_BOUNDARY (R25). The timekeeper strikes boundary k, at which commits, swaps and role changes take effect
      and the frame stages hand over. `k`: the number of the boundary. -/
  | frameBoundary (k : Nat)
  /-- IDLE_MARK (R377). The timekeeper marks an idle mark while no bale is live; a bale that becomes live takes its
      first boundary there. `m`: the idle mark lies m/3,000 s after the PTP epoch. -/
  | idleMark (m : Nat)
  /-- COMPUTE_WINDOW_OPEN (R130). At cycle 1,844 or 4,301 each stall with code clears its registers and begins issue
      at bundle address 0. -/
  | computeWindowOpen
  /-- STATE_CUT (R214). At ENG cycle CUT an ACTIVE twin unit reads the frame-k copies of the mirrored regions and
      sends them to the standby. -/
  | stateCut
  /-- BUS_CLOSE (R177). At cycle Z the bus summers freeze, every stall stops issue, overruns are detected, and
      waiting commits and swaps are taken. `peerOk`: the peer has an ARMED slot with the same bale root (R304). -/
  | busClose (peerOk : Bool)
  /-- STORES_LAND (R179). Every store and BUSADD issued before bus close has landed 1.0 µs after bus close, after
      which migration sources are read. `units`: 4 KiB units of the refresh area that the active reads in this frame.
      -/
  | storesLand (units : Nat)
  /-- CAPTURE_WINDOW_CLOSE (R30). The capture window closes and the intake pass trims, high-passes and meters N
      samples of every intake channel. -/
  | captureWindowClose
  /-- STALL_PAGE_WRITE (R254). Changed stall parameter pages of a taken commit are written into their local memory
      areas between boundary − 1.0 µs and the boundary. -/
  | stallPageWrite
  /-- NOP_BUNDLE (R107). A bundle with no slot in use issues in one cycle and changes nothing. -/
  | nopBundle (c : OpCtx)
  /-- ILLEGAL (R145). A bundle with a reserved encoding reaches issue and raises a stopping exception. -/
  | illegal (c : OpCtx)
  /-- PMEM_UNCORR (R143). A fetch meets an uncorrectable program memory error and raises a stopping exception. -/
  | pmemUncorr (c : OpCtx)
  /-- FETCH_END (R144). Sequential issue past address 4095 raises a stopping exception. -/
  | fetchEnd (c : OpCtx)
  /-- WAITF (R150). The stall ends its work for the frame. -/
  | waitf (c : OpCtx)
  /-- SYNC (R151). The stall makes its n-th arrival at a barrier among the stalls of its barn and is held. -/
  | sync (c : OpCtx)
  /-- SYNC_RELEASE (R151). Once every other stall has arrived or finished and the covered stores are written, the
      held SYNC bundle issues. -/
  | syncRelease (c : OpCtx)
  /-- RET (R133). The stall pops the return stack and goes to the popped address. -/
  | ret (c : OpCtx)
  /-- BR (R132). The stall branches to TARGET and pops the loop entries that do not contain it. -/
  | br (c : OpCtx) (target : Nat)
  /-- BRC_ANY (R149). The stall branches when K[CK] is not zero. -/
  | brcAny (c : OpCtx) (ck : Nat) (target : Nat)
  /-- BRC_NONE (R149). The stall branches when K[CK] is zero. -/
  | brcNone (c : OpCtx) (ck : Nat) (target : Nat)
  /-- BRC_ALL (R149). The stall branches when every bit of K[CK] is set. -/
  | brcAll (c : OpCtx) (ck : Nat) (target : Nat)
  /-- BRC_NALL (R149). The stall branches when not every bit of K[CK] is set. -/
  | brcNall (c : OpCtx) (ck : Nat) (target : Nat)
  /-- CALL (R133). The stall pushes the next address and goes to TARGET, or raises RSTACK_OVF when the stack is full.
      -/
  | call (c : OpCtx) (target : Nat)
  /-- LOOP (R135). The stall starts a zero-overhead loop with its count read from a G register. `last` is END. -/
  | loop (c : OpCtx) (gs : Nat) (last : Nat)
  /-- LOOPI (R135). The stall starts a zero-overhead loop with an immediate count of 1 to 64. `last` is END. -/
  | loopi (c : OpCtx) (count : Nat) (last : Nat)
  /-- ADD (R154). Scalar a + b. -/
  | add (c : OpCtx) (gd : Nat) (ga : Nat) (gb : Nat)
  /-- SUB (R154). Scalar a − b. -/
  | sub (c : OpCtx) (gd : Nat) (ga : Nat) (gb : Nat)
  /-- MUL (R154). Low 32 bits of a × b. -/
  | mul (c : OpCtx) (gd : Nat) (ga : Nat) (gb : Nat)
  /-- MULH (R154). Bits 63..32 of the signed product a × b. -/
  | mulh (c : OpCtx) (gd : Nat) (ga : Nat) (gb : Nat)
  /-- MIN (R154). Signed minimum. -/
  | min (c : OpCtx) (gd : Nat) (ga : Nat) (gb : Nat)
  /-- MAX (R154). Signed maximum. -/
  | max (c : OpCtx) (gd : Nat) (ga : Nat) (gb : Nat)
  /-- MINU (R154). Unsigned minimum. -/
  | minu (c : OpCtx) (gd : Nat) (ga : Nat) (gb : Nat)
  /-- MAXU (R154). Unsigned maximum. -/
  | maxu (c : OpCtx) (gd : Nat) (ga : Nat) (gb : Nat)
  /-- AND (R154). Bitwise AND. -/
  | and (c : OpCtx) (gd : Nat) (ga : Nat) (gb : Nat)
  /-- OR (R154). Bitwise OR. -/
  | or (c : OpCtx) (gd : Nat) (ga : Nat) (gb : Nat)
  /-- XOR (R154). Bitwise XOR. -/
  | xor (c : OpCtx) (gd : Nat) (ga : Nat) (gb : Nat)
  /-- ANDN (R154). a AND NOT b. -/
  | andn (c : OpCtx) (gd : Nat) (ga : Nat) (gb : Nat)
  /-- SHL (R154). Shift left by b mod 32. -/
  | shl (c : OpCtx) (gd : Nat) (ga : Nat) (gb : Nat)
  /-- SHR (R154). Logical shift right by b mod 32. -/
  | shr (c : OpCtx) (gd : Nat) (ga : Nat) (gb : Nat)
  /-- SRA (R154). Arithmetic shift right by b mod 32. -/
  | sra (c : OpCtx) (gd : Nat) (ga : Nat) (gb : Nat)
  /-- SEQ (R154). 1 if a = b, else 0. -/
  | seq (c : OpCtx) (gd : Nat) (ga : Nat) (gb : Nat)
  /-- SNE (R154). 1 if a ≠ b, else 0. -/
  | sne (c : OpCtx) (gd : Nat) (ga : Nat) (gb : Nat)
  /-- SLT (R154). 1 if a < b signed, else 0. -/
  | slt (c : OpCtx) (gd : Nat) (ga : Nat) (gb : Nat)
  /-- SLTU (R154). 1 if a < b unsigned, else 0. -/
  | sltu (c : OpCtx) (gd : Nat) (ga : Nat) (gb : Nat)
  /-- SLE (R154). 1 if a ≤ b signed, else 0. -/
  | sle (c : OpCtx) (gd : Nat) (ga : Nat) (gb : Nat)
  /-- SLEU (R154). 1 if a ≤ b unsigned, else 0. -/
  | sleu (c : OpCtx) (gd : Nat) (ga : Nat) (gb : Nat)
  /-- ADDI (R154). a plus a sign-extended 8-bit immediate. -/
  | addi (c : OpCtx) (gd : Nat) (ga : Nat) (imm : Nat)
  /-- ANDI (R154). Bitwise AND with an immediate. -/
  | andi (c : OpCtx) (gd : Nat) (ga : Nat) (imm : Nat)
  /-- ORI (R154). Bitwise OR with an immediate. -/
  | ori (c : OpCtx) (gd : Nat) (ga : Nat) (imm : Nat)
  /-- XORI (R154). Bitwise XOR with an immediate. -/
  | xori (c : OpCtx) (gd : Nat) (ga : Nat) (imm : Nat)
  /-- SHLI (R155). Shift left by an immediate of 0 to 31. -/
  | shli (c : OpCtx) (gd : Nat) (ga : Nat) (imm : Nat)
  /-- SHRI (R155). Logical shift right by an immediate of 0 to 31. -/
  | shri (c : OpCtx) (gd : Nat) (ga : Nat) (imm : Nat)
  /-- SRAI (R155). Arithmetic shift right by an immediate of 0 to 31. -/
  | srai (c : OpCtx) (gd : Nat) (ga : Nat) (imm : Nat)
  /-- SLTI (R154). 1 if a is less than a signed immediate, else 0. -/
  | slti (c : OpCtx) (gd : Nat) (ga : Nat) (imm : Nat)
  /-- MOVI (R156). Writes a sign-extended 13-bit immediate to a G register. -/
  | movi (c : OpCtx) (gd : Nat) (imm : Nat)
  /-- MOVSH (R156). Shifts a G register left by 13 bits and inserts an immediate. -/
  | movsh (c : OpCtx) (gd : Nat) (imm : Nat)
  /-- MOVA (R157). Moves a value between a G register and a P, B, L, M or K register. -/
  | mova (c : OpCtx) (areg : Nat) (g : Nat) (toG : Bool)
  /-- LD_V (R158). Vector load from local data memory. -/
  | ldV (c : OpCtx) (o : LaOp)
  /-- ST_V (R158). Vector store to local data memory. -/
  | stV (c : OpCtx) (o : LaOp)
  /-- LD_S (R159). Scalar load from local data memory into a G register. -/
  | ldS (c : OpCtx) (o : LaOp)
  /-- ST_S (R159). Scalar store of a G register to local data memory. -/
  | stS (c : OpCtx) (o : LaOp)
  /-- LDB (R158). Vector load from the barn store of the stall's barn. -/
  | ldb (c : OpCtx) (o : LaOp)
  /-- STB (R158). Vector store to the barn store of the stall's barn. -/
  | stb (c : OpCtx) (o : LaOp)
  /-- LDH (R158). Vector load from the hayloft. -/
  | ldh (c : OpCtx) (o : LaOp)
  /-- STH (R158). Vector store to the hayloft. -/
  | sth (c : OpCtx) (o : LaOp)
  /-- BUSADD (R160). Adds enabled vector elements into bus samples by the acc procedure with w = 64. -/
  | busadd (c : OpCtx) (o : LaOp)
  /-- LI (R114). Writes an 18-bit immediate to an address register, zero- or sign-extended. -/
  | li (c : OpCtx) (areg : Nat) (imm : Nat)
  /-- LIH (R114). Writes 14 immediate bits to bits 31..18 of an address register. -/
  | lih (c : OpCtx) (areg : Nat) (imm : Nat)
  /-- LDB_DATA_RETURN (R189). The data of an LDB returns 24 to 42 ENG cycles after issue and its destination becomes
      ready. -/
  | ldbDataReturn (stall : Nat) (vd : Nat)
  /-- STB_WRITTEN (R189). An STB has been written to the barn store. -/
  | stbWritten (stall : Nat)
  /-- LDH_DATA_RETURN (R192). The data of an LDH returns 60 to 180 ENG cycles after issue and its destination becomes
      ready. -/
  | ldhDataReturn (stall : Nat) (vd : Nat)
  /-- STH_WRITTEN (R192). An STH has been written to the hayloft. -/
  | sthWritten (stall : Nat)
  /-- VMUL (R81). Clears accumulator elements and adds the products. -/
  | vmul (c : OpCtx) (o : VxOp)
  /-- VMAC (R81). Adds products into accumulator elements. -/
  | vmac (c : OpCtx) (o : VxOp)
  /-- VMAC_N (R81). Subtracts products from accumulator elements. -/
  | vmacN (c : OpCtx) (o : VxOp)
  /-- VCMAC (R82). Complex multiply-accumulate on one half of each lane. -/
  | vcmac (c : OpCtx) (o : VxOp) (h : Nat)
  /-- VCMAC_C (R82). Complex multiply-accumulate with the conjugate of b. -/
  | vcmacC (c : OpCtx) (o : VxOp) (h : Nat)
  /-- VCMAC_N (R82). Negated complex multiply-accumulate. -/
  | vcmacN (c : OpCtx) (o : VxOp) (h : Nat)
  /-- VCMAC_CN (R82). Negated complex multiply-accumulate with the conjugate of b. -/
  | vcmacCn (c : OpCtx) (o : VxOp) (h : Nat)
  /-- CLRX (R81). Clears accumulator elements. -/
  | clrx (c : OpCtx) (xd : Nat) (kp : Nat)
  /-- RDX (R90). Reads accumulator elements out to 32-bit elements with a rounding shift and saturation. -/
  | rdx (c : OpCtx) (o : VrOp)
  /-- RDX_C (R91). Reads accumulator elements out as RDX does, then clears them. -/
  | rdxC (c : OpCtx) (o : VrOp)
  /-- RDX_S24 (R90). Reads accumulator elements out with 24-bit saturation. -/
  | rdxS24 (c : OpCtx) (o : VrOp)
  /-- RDX_C_S24 (R91). Reads accumulator elements out with 24-bit saturation, then clears them. -/
  | rdxCS24 (c : OpCtx) (o : VrOp)
  /-- VADD (R93). Saturating element add. -/
  | vadd (c : OpCtx) (o : VeOp)
  /-- VSUB (R93). Saturating element subtract. -/
  | vsub (c : OpCtx) (o : VeOp)
  /-- VABS (R93). Saturating element absolute value. -/
  | vabs (c : OpCtx) (vd : Nat) (va : Nat) (kp : Nat)
  /-- VMAX (R93). Element signed maximum. -/
  | vmax (c : OpCtx) (o : VeOp)
  /-- VMIN (R162). Element signed minimum. -/
  | vmin (c : OpCtx) (o : VeOp)
  /-- VSHL (R94). Element shift by a signed count, saturating left and rounding right. -/
  | vshl (c : OpCtx) (o : VeOp) (imm : Option Int)
  /-- VCMP_EQ (R163). Writes predicate bits for a = b. -/
  | vcmpEq (c : OpCtx) (kd : Nat) (va : Nat) (vb : Nat) (kp : Nat)
  /-- VCMP_NE (R163). Writes predicate bits for a ≠ b. -/
  | vcmpNe (c : OpCtx) (kd : Nat) (va : Nat) (vb : Nat) (kp : Nat)
  /-- VCMP_LT (R163). Writes predicate bits for a < b. -/
  | vcmpLt (c : OpCtx) (kd : Nat) (va : Nat) (vb : Nat) (kp : Nat)
  /-- VCMP_LE (R163). Writes predicate bits for a ≤ b. -/
  | vcmpLe (c : OpCtx) (kd : Nat) (va : Nat) (vb : Nat) (kp : Nat)
  /-- XFLG_SAT (R164). Copies the SAT flags of accumulator elements into a predicate register. -/
  | xflgSat (c : OpCtx) (kd : Nat) (xs : Nat) (kp : Nat)
  /-- XFLG_LOST (R164). Copies the LOST flags of accumulator elements into a predicate register. -/
  | xflgLost (c : OpCtx) (kd : Nat) (xs : Nat) (kp : Nat)
  /-- XFLG_WRAP (R164). Sets predicate bits where WRAP is not zero. -/
  | xflgWrap (c : OpCtx) (kd : Nat) (xs : Nat) (kp : Nat)
  /-- XFLG_OUT (R164). Sets predicate bits where RDX would saturate. -/
  | xflgOut (c : OpCtx) (kd : Nat) (xs : Nat) (kp : Nat)
  /-- ENV (R168). Runs an attack/release envelope follower over the four elements of each lane. -/
  | env (c : OpCtx) (o : VeOp) (m : EnvMode)
  /-- GCURVE (R169). Computes the static gain of a compressor or expander in LG24. -/
  | gcurve (c : OpCtx) (o : VeOp) (expand : Bool)
  /-- VLOG2 (R166). Writes the LG24 level of each element. -/
  | vlog2 (c : OpCtx) (vd : Nat) (va : Nat) (kp : Nat)
  /-- VEXP2 (R167). Writes the linear gain of each LG24 element. -/
  | vexp2 (c : OpCtx) (vd : Nat) (va : Nat) (kp : Nat)
  /-- BFLY4 (R171). Performs half of a radix-4 butterfly in each lane. -/
  | bfly4 (c : OpCtx) (o : VeOp) (sc : Nat) (inv : Bool) (out : Bool)
  /-- SCRUB_ROW (R200). The groom reads, corrects and writes back a memory row, recording uncorrectable words.
      `upsets`: words struck by an error before, with true for an uncorrectable one; `last`: the last of a pass. -/
  | scrubRow (row : Nat) (upsets : List (Nat × Bool)) (last : Bool)
  /-- SCRUB_BUNDLE (R201). The groom reads a program memory bundle outside issue, correcting it or raising the
      program-memory fault source. `upset`: 1 or 2 for an error that has struck the bundle before; `last`: the last
      of a pass. -/
  | scrubBundle (stall : Nat) (bank : Nat) (addr : Nat) (upset : Nat) (last : Bool)
  /-- MATRIX_TRANSACTION (R222). A master's row transaction is arbitrated at its point, granted and answered with a
      response of Table 07-5. `waited`: FAB cycles that the request has waited; `slot`: slot of the wheel (R226);
      `rivals`: the requests that wait at the same point; a request that is not granted is sent again. -/
  | matrixTransaction (t : MtxReq) (waited : Nat) (slot : Nat) (rivals : List MtxRival) (fate : MtxFate)
  /-- MATRIX_TIMEOUT (R236). A transaction unanswered 2,048 FAB cycles after its grant fails the check. -/
  | matrixTimeout
  /-- MASTER_WATCHDOG (R484). A master that holds a transaction unanswered for 4,096 FAB cycles pulses its watchdog
      fault source. -/
  | masterWatchdog (master : Nat)
  /-- FAST_MATRIX_RESET (R237). The RESET reaction of the fast-matrix source stops granting and brings the fall-back
      matrix into service. -/
  | fastMatrixReset
  /-- REISSUE_COMPLETE (R238). Masters reissue unanswered transactions in order and duplicates return without effect,
      then held requests are released. -/
  | reissueComplete
  /-- PLANNED_SWITCH (R240). At bus close + 1.0 µs a pending planned switch stops granting, drains and puts the other
      matrix in service. -/
  | plannedSwitch
  /-- PATTERN_TEST_DONE (R242). The pattern test of the fast matrix ends and FAST_STATE becomes READY or FAILED. -/
  | patternTestDone (pass : Bool)
  /-- PAGE_STAGE (R537). The parameter writer writes a changed page to a free slot of the save area. `page`: register
      page p at p, stall parameter page q at 256 + q; `swap`: for the waiting swap. -/
  | pageStage (page : Nat) (swap : Bool)
  /-- RCD_PUBLISH (R309). The digest unit publishes a new record in TOP_RCD and fires E053. -/
  | rcdPublish
  /-- RCD_COMPARE (R310). Once per second the twin unit compares digest records of equal K and sets PEER_MATCH or
      raises the mismatch event. -/
  | rcdCompare
  /-- ANNOUNCE_PERIODIC (R311). The periodic configuration announce datagram is sent. -/
  | announcePeriodic
  /-- ANNOUNCE_ON_CHANGE (R311). An extra announce is sent at most 10 ms after a publication. -/
  | announceOnChange
  /-- NETWORK_FRAME_RECEIVED (R346). A frame received on an external port is filtered, duplicate-checked and
      forwarded to the engine port, the command processor port or the HSR partner, or dropped. `at_` is the node
      time, in root cycles, at which the last byte reaches the port. -/
  | networkFrameReceived (port : Nat) (at_ : Nat) (lost : Bool) (f : NetFrame)
  /-- STREAM_PACKET_RECEIVED (R364). A matching stream packet has its samples placed by presentation time, or counted
      late, early or malformed. -/
  | streamPacketReceived
  /-- DUPLICATE_ENTRY_EXPIRY (R351). A duplicate-table entry is forgotten 400 ms after its first copy. -/
  | duplicateEntryExpiry (pair : Nat) (src : Nat) (seqNo : Nat)
  /-- SUPERVISION_FRAME_SEND (R352). The command processor sends a supervision frame on a redundant pair every SUP_S
      seconds. -/
  | supervisionFrameSend (pair : Nat)
  /-- PATH_TIMEOUT (R352). PATH_A or PATH_B clears when no valid trailer or tag has arrived for 2 × SUP_S seconds. -/
  | pathTimeout (port : Nat)
  /-- LINK_CHANGE (R345). NSW_PORT.LINK follows a change of block lock, FEC lock or fault state and fires E080 + p.
      Block lock, FEC lock, local fault and remote fault as they now stand. -/
  | linkChange (port : Nat) (block : Bool) (fec : Bool) (loc : Bool) (rem : Bool)
  /-- STREAM_PACKET_LAUNCH (R370). A transmit stream packet is formed and launched into queue 7 at the stamp instant
      of its last sample. -/
  | streamPacketLaunch (stream : Nat)
  /-- EGRESS_FRAME_SENT (R348). The last byte of a frame leaves an external port and its buffer cells return. -/
  | egressFrameSent (at_ : Nat) (port : Nat)
  /-- IGMP_QUERY (R354). The command processor answers an IGMP query for the groups of enabled AES67 receive streams.
      `group`: the group asked for; none for a general query. -/
  | igmpQuery (port : Nat) (group : Option Nat)
  /-- ARP_REQUEST (R354). The command processor answers an ARP request for the device's IPv4 address. -/
  | arpRequest (port : Nat) (target : Nat) (sender : Nat)
  /-- PTP_ANNOUNCE (R384). A received Announce message qualifies a foreign master and takes a domain slot from LISTEN
      to MEASURE. `at_` is the node time of the event in root cycles. -/
  | ptpAnnounce (p : PtpIn) (m : ForeignMaster) (log : Int)
  /-- PTP_SYNC (R382). A received Sync message is stamped and taken by its domain slot. `at_` is the node time of the
      event in root cycles. `origin` is given by a one-step Sync. -/
  | ptpSync (p : PtpIn) (src : Nat) (seqNo : Nat) (log : Int) (origin : Option Int) (corr : Int)
  /-- PTP_FOLLOW_UP (R380). A received Follow_Up completes a Sync timestamp and updates the offset estimates and the
      servo. `at_` is the node time of the event in root cycles. -/
  | ptpFollowUp (p : PtpIn) (src : Nat) (seqNo : Nat) (origin : Int) (corr : Int)
  /-- PTP_DELAY_RESP (R382). A received Delay_Resp updates the mean path delay of its slot. `at_` is the node time of
      the event in root cycles. -/
  | ptpDelayResp (p : PtpIn) (src : Nat) (seqNo : Nat) (t4 : Int) (corr : Int)
  /-- PTP_PDELAY_REQ (R382). A received Pdelay_Req is answered with Pdelay_Resp and Pdelay_Resp_Follow_Up. `at_` is
      the node time of the event in root cycles. -/
  | ptpPdelayReq (p : PtpIn) (reply : Nat) (seqNo : Nat)
  /-- PTP_PDELAY_RESP (R382). A received Pdelay_Resp is taken for the peer delay measurement. `at_` is the node time
      of the event in root cycles. -/
  | ptpPdelayResp (p : PtpIn) (seqNo : Nat) (t2 : Option Int) (corr : Int)
  /-- PTP_PDELAY_RESP_FOLLOW_UP (R382). A received Pdelay_Resp_Follow_Up completes a peer delay measurement. `at_` is
      the node time of the event in root cycles. -/
  | ptpPdelayRespFollowUp (p : PtpIn) (seqNo : Nat) (t3 : Int) (corr : Int)
  /-- PTP_DELAY_REQ_SEND (R382). A domain slot sends a Delay_Req or Pdelay_Req. `at_` is the node time of the event
      in root cycles. -/
  | ptpDelayReqSend (at_ : Nat) (slot : Nat)
  /-- DOMAIN_LOSS (R384). A VALID slot sees no Sync, Follow_Up or Announce for LOSS intervals and leaves VALID. -/
  | domainLoss (slot : Nat)
  /-- FREE_TIMEOUT (R375). After FREE_S seconds in WAIT without a VALID domain the timekeeper enters FREE, which
      counts as a step. -/
  | freeTimeout
  /-- TSC_WRAP (R388). The timestamp counter wraps, WRAP_HI increments and E076 fires. -/
  | tscWrap
  /-- CLOCK_LOSS_WINDOW (R70). A clock-loss detector window ends and declares its clock lost or present again. `det`:
      0 REFCLK, 1 ETH_REFCLK, 2 PCIE_REFCLK, 3 SNS_CLK_I, 4 AON; `count`: edges counted. -/
  | clockLossWindow (det : Nat) (count : Nat)
  /-- AON_RETURN (R481). When AON returns the collector examines every source and records those at fault with
      RESUMED. -/
  | aonReturn (aon : Nat) (strobe : Bool)
  /-- PLL_LOCK (R42). The root PLL reaches LOCKED after the phase error has stayed below 0.5 ns for 100 µs, and the
      root-derived clocks start. -/
  | pllLock
  /-- PLL_UNLOCK (R41). REFCLK loss or 32 REFCLK cycles of phase error above 2 ns takes the root PLL to HOLDOVER. -/
  | pllUnlock
  /-- PLL_REGAIN (R41). REFCLK present for 1 ms takes the root PLL from HOLDOVER to REGAIN. -/
  | pllRegain
  /-- PLL_RELOCK (R42). A frequency error below 0.1 ppm for 1 ms takes the root PLL from REGAIN to LOCKED. -/
  | pllRelock
  /-- FAULT_PAIR_CHANGE (R459). The dual-rail pair of a fault source changes state, setting the asynchronous latch
      for SAFE and leaving good on the next AON edge. `aon` is the AON cycle of the record, `strobe` whether the
      strobe of the most recent boundary has reached AON. -/
  | faultPairChange (aon : Nat) (strobe : Bool) (changes : List FcChange)
  /-- RAIL_DISAGREE (R462). A pair reading 00 or 11 on 3 consecutive AON edges makes its source leave good with
      syndrome RAIL_DISAGREE. -/
  | railDisagree (aon : Nat) (strobe : Bool) (src : Nat)
  /-- RESET_PULSE_END (R471). A reset pulse of 16 AON cycles ends and its block leaves reset. -/
  | resetPulseEnd (src : Nat)
  /-- CONSEQUENCE_WINDOW_CLOSE (R473). A consequence window closes and every masked source still at fault leaves good
      unmasked. -/
  | consequenceWindowClose (aon : Nat) (strobe : Bool) (src : Nat)
  /-- MUTE_AUTO_RELEASE (R470). A MUTE source with AUTO releases its reaction after its hold-off of HOLD × 10 ms
      clear. -/
  | muteAutoRelease (src : Nat)
  /-- VIN_MON_ARMED (R528). After VIN_MON has stayed above the rising threshold for 1 ms the comparator arms. -/
  | vinMonArmed
  /-- SAVE_WARN (R541). A VIN_MON fall lasting 2.0 µs while armed raises SAVE_WARN and starts the power-loss actions.
      -/
  | saveWarn
  /-- SAVE_IMAGE_COMPLETE (R544). The saddlebag writer finishes the save image with its trailer. `us`: microseconds
      since SAVE_WARN. -/
  | saveImageComplete (us : Nat)
  /-- POWER_RESTART (R549). VIN_MON back above 0.650 V for 20 ms after SAVE_WARN triggers a PORST_N-like reset once
      the save is complete. `sel`, `senior`: the straps BOOT_SEL and SENIOR as a release samples them. -/
  | powerRestart (sel : Nat) (senior : Bool)
  /-- RAIL_MONITOR_FAULT (R523). A rail outside its window for 1.0 µs puts its source at fault and changes RAIL_OK.
      `rail`: the bit of RAIL_OK; 6 is VSAVE. -/
  | railMonitorFault (rail : Nat)
  /-- RAIL_MONITOR_GOOD (R523). A rail back inside its window for 100 µs returns its source to good. `rail`: the bit
      of RAIL_OK; 6 is VSAVE. -/
  | railMonitorGood (rail : Nat)
  /-- TEMPERATURE_CHANGE (R524). A junction temperature reading crosses TWARN or 115 °C, or falls 5 °C below one, and
      changes F093 or F094. `tj`: the highest junction temperature in °C. -/
  | temperatureChange (tj : Int)
  /-- POWER_ON_RESET (R525). An internal power-on reset holds the device while a core, SRAM or I/O rail or VSAVE is
      below its limit. `on`: the reset holds the device. `sel`, `senior`: the straps BOOT_SEL and SENIOR as a release
      samples them. -/
  | powerOnReset (on : Bool) (sel : Nat) (senior : Bool)
  /-- PORST_N (R529). Assertion and release of PORST_N reset the whole device and sample the straps. `low`: the pin
      is asserted. `sel`, `senior`: the straps BOOT_SEL and SENIOR as a release samples them. -/
  | porstN (low : Bool) (sel : Nat) (senior : Bool)
  /-- WARM_N (R530). WARM_N resets state outside AON and the PCIe endpoint but keeps configuration. `low`: the pin is
      asserted. -/
  | warmN (low : Bool)
  /-- BOOT (R533). After reset the boot restores the saddlebag, applies the QSPI image, verifies and arms the bale
      and sets CPX_READY. `flash`: what the boot flash holds from offset 0; `ms`: milliseconds from the release of
      PORST_N. -/
  | boot (flash : List Byte) (ms : Nat)
  /-- CARRIER_PERIOD (R439). At a carrier boundary each drive channel computes its gain, duty and noise-shaped pulses
      and takes its state transitions. `count` is the count c whose sample is rendered, `period` the period within
      the sample. -/
  | carrierPeriod (count : Nat) (period : Nat)
  /-- TRIP (R446). A trip request to a running channel forces its pins low within 12 ns and enters TRIPPED or
      LATCHED. `at_`: the instant on node time, in root cycles. -/
  | trip (chan : Nat) (at_ : Nat)
  /-- HOLDOFF_EXPIRY (R447). The hold-off of a TRIPPED channel ends and the channel returns to OFF for a retry once
      the request is 0. -/
  | holdoffExpiry (chan : Nat)
  /-- SENSE_LOSS (R444). Invalid rail values or protection held for 64 µs set sense loss and apply the SLOSS
      reaction. -/
  | senseLoss (chan : Nat)
  /-- MAIN_SAMPLE (R421). At d(c) each filter channel forms a main-path sample, marked or settled, and writes it to
      the sense buffer. `count` is c; `bits`: by input, the bits of the periods that end after d(c − 1) up to d(c),
      oldest first, of every input that has them all. -/
  | mainSample (count : Nat) (bits : List (Nat × List Bool))
  /-- FAST_SAMPLE (R428). A fast-path sample passes both comparators with hysteresis and qualifier, setting HIT bits
      and trip requests. `at_`: the period end on node time, in root cycles; `bits`: the 8 bits of the period, oldest
      first; fewer where some are missing. -/
  | fastSample (chan : Nat) (at_ : Nat) (bits : List Bool)
  /-- RAIL_VALUE (R431). A rail-path value is formed and delivered with its validity to the drive stage. `bits`: the
      64 bits of the period, oldest first; fewer where some are missing. -/
  | railValue (chan : Nat) (bits : List Bool)
  /-- GAP_BEGIN (R418). A bit not arrived by its deadline, or an elastic-buffer fault, starts a gap on an input.
      `full`: the bit was lost at a full crossing FIFO. -/
  | gapBegin (input : Nat) (full : Bool)
  /-- GAP_END (R418). After 64 consecutive periods without a gap the bits flow again and the channels reading the
      input restart. `at_`: the instant on node time, in root cycles. -/
  | gapEnd (input : Nat) (at_ : Nat)
  /-- SAP_FRAME_RECEIVE (R396). A receive SAP frame assigns its count, slips if needed and writes its enabled slots
      to the port buffer. `at_` is the instant of the frame-sync edge or preamble start on node time, in root cycles.
      `bclks`: BCLK periods counted in the frame; `lost`: the crossing lost an item; `words`: the WL most significant
      bits of each slot. -/
  | sapFrameReceive (port : Nat) (at_ : Nat) (bclks : Nat) (lost : Bool) (words : List Nat)
  /-- SAP_FRAME_TRANSMIT (R401). A transmit SAP frame plays the outlet samples of its count in its enabled slots.
      `at_` is the instant of the frame-sync edge or preamble start on node time, in root cycles. -/
  | sapFrameTransmit (port : Nat) (at_ : Nat) (bclks : Nat)
  /-- SAP_CLOCK_LOSS (R403). A slave SAP that sees no frame-sync edge in time, or wrong BCLK counts, clears CLK_OK
      and fires E096 + p. -/
  | sapClockLoss (port : Nat)
  /-- SAP_CLOCK_PRESENT (R403). After 256 good frames a slave SAP sets CLK_OK again. -/
  | sapClockPresent (port : Nat)
  /-- AES_FRAME_RECEIVE (R404). A received AES3 frame gives its subframe samples a count and checks preambles and
      parity. `at_` is the instant of the frame-sync edge or preamble start on node time, in root cycles. `rate`: the
      frame rate over the last 64 frames lies within fs ± 0.5 %. -/
  | aesFrameReceive (port : Nat) (at_ : Nat) (lost : Bool) (s0 : AesSub) (s1 : AesSub) (rate : Bool)
  /-- AES_NOSIG (R405). No transition on AESn_RX for 2 µs takes the receiver to NOSIG. -/
  | aesNosig (port : Nat)
  /-- AES_SEEK (R405). Transitions at the right cell rate over 32 µs take the receiver to SEEK. -/
  | aesSeek (port : Nat)
  /-- AES_FRAME_TRANSMIT (R408). The transmitter sends a frame with preamble, audio, channel status and parity. `at_`
      is the instant of the frame-sync edge or preamble start on node time, in root cycles. -/
  | aesFrameTransmit (port : Nat) (at_ : Nat)
  /-- PEER_OWN_CHANGE (R491). The synchronised PEER_OWN pair changes, restarting or advancing the ownership
      qualification. `at_`: the instant on node time, in root cycles; `p`, `n`: the synchronised PEER_OWN_P and
      PEER_OWN_N. -/
  | peerOwnChange (at_ : Nat) (p : Bool) (n : Bool)
  /-- OWNERSHIP_ASSERT (R493). An eligible non-owner whose qualification is complete asserts ownership at its carrier
      boundary and applies the peer's drive record. `at_`: the carrier boundary on node time, in root cycles. -/
  | ownershipAssert (at_ : Nat)
  /-- OWN_AMBIG (R493). A peer pair reading 00 or 11 for 64 MOD cycles puts F072 at fault and blocks assertion. -/
  | ownAmbig
  /-- HEARTBEAT_TOGGLE (R498). HB_O changes level every 10 µs. -/
  | heartbeatToggle
  /-- HB_EDGE (R498). An edge on HB_I counts towards HB_OK. `within`: the edge came at most 20 µs after the edge
      before it. -/
  | hbEdge (within : Bool)
  /-- HB_LOSS (R498). No HB_I edge for HBLOSS × 10 µs clears HB_OK and puts F073 at fault. -/
  | hbLoss
  /-- LANE_LOCK (R499). A tether lane locks after 64 valid sync headers, or loses lock after 16 invalid in 64.
      `locked`: locked and deskewed; else the lane lost its lock. -/
  | laneLock (lane : Nat) (locked : Bool)
  /-- HELLO (R501). A received HELLO updates the peer's role, eligibility, roots and capabilities and can take the
      link to UP or a role from SOLO. -/
  | hello (h : TthHdr) (m : Hello)
  /-- HELLO_SEND (R501). A device sends a HELLO at the boundary + 0.5 µs, every 100 µs while RUN = 0, or every 10 µs
      in TRAIN. -/
  | helloSend
  /-- HELLO_TIMEOUT (R503). No HELLO for 2 frames, or for 1 ms while RUN = 0, takes the link DOWN. -/
  | helloTimeout
  /-- DOWN_BLOCK (R503). A received DOWN control block takes the link DOWN. -/
  | downBlock
  /-- INPUT_MESSAGE (R505). A received INPUT block fills the forward image, and Gate A fills the slots from the
      arrived channels. `words`: image words by index in the message (Table 17-6). -/
  | inputMessage (h : TthHdr) (used : Bool) (words : List (Nat × Int))
  /-- INPUT_FORWARD_TIMEOUT (R38). A forwarded input set incomplete 3.0 µs after the boundary makes the follower
      leave its role and compute from its own capture. -/
  | inputForwardTimeout
  /-- MIRROR_MESSAGE (R506). A received MIRROR block carries mirrored state, with cleanliness, unit-fault flag and
      the active's MIR in the last block. `bytes` follow those of the messages before it; `mir`, `unclean` and `uf`
      count in the last block. -/
  | mirrorMessage (h : TthHdr) (bytes : List Byte) (mir : Nat) (unclean : Bool) (uf : Bool)
  /-- DIGEST_MESSAGE (R511). A received DIGEST lets each device compare OUT, BUS and MIR of data frame d and
      attribute a mismatch. -/
  | digestMessage (h : TthHdr) (d : TwnDigest)
  /-- CMD_MESSAGE (R507). A mirrored command received by the standby is executed in its own queue and answered with
      CMDACK. -/
  | cmdMessage (h : TthHdr) (ticket : Nat) (words : List Word) (data : List Word)
  /-- CMDACK (R507). The standby's answer becomes PEER_STATUS and PEER_REASON of the active's completion. -/
  | cmdack (h : TthHdr) (ticket : Nat) (status : Nat) (reason : Nat)
  /-- TAKE (R507). A received TAKE makes the standby take the snapshot of the mirrored commit or swap for boundary k.
      -/
  | take (h : TthHdr) (swap : Bool) (ticket : Nat)
  /-- TAKE_TIMEOUT (R507). No TAKE 1.2 µs before k makes the standby leave its role and take the change at its own
      next bus close. -/
  | takeTimeout
  /-- ROLE_MESSAGE (R497). A received ROLE message names a new owner, a resync start or a detached peer. -/
  | roleMessage (h : TthHdr) (arg : Nat) (role : Nat)
  /-- DRVREC (R508). The non-owner keeps the most recent drive record of the owner. -/
  | drvrec (h : TthHdr) (l : List DrvRecord)
  /-- REFRESH_MESSAGE (R509). The standby writes received hayloft refresh units and rows at the next boundary.
      `units` by 4 KiB unit index, `rows` by hayloft offset of a 64-byte row. -/
  | refreshMessage (h : TthHdr) (units : List (Nat × List Byte)) (rows : List (Nat × List Byte))
  /-- SYNC_MESSAGE (R516). A received SYNC block carries resync leaves, pages, Gate A or outlet records. -/
  | syncMessage (h : TthHdr) (phase : Nat) (b : SyncBody)
  /-- BALE_MESSAGE (R303). The peer's command processor writes received bale bytes into the slot and runs LOAD_BALE
      when the image is complete. -/
  | baleMessage (h : TthHdr) (slot : Nat) (off : Nat) (bytes : List Byte)
  /-- RCD_MESSAGE (R310). A received RCD message stores the peer's published digest record. -/
  | rcdMessage (h : TthHdr) (gen : Nat) (k : Nat) (root : Nat) (baleRoot : Nat)
  /-- NOP_MESSAGE (R502). A received NOP block carries acknowledgements only. -/
  | nopMessage (h : TthHdr)
  /-- AUTO_RESYNC_START (R515). The active starts an automatic resync of a DETACHED peer with equal roots by sending
      ROLE naming boundary r. `at_`: the instant on node time, in root cycles. -/
  | autoResyncStart (at_ : Nat)
  /-- HANDOVER_JWAIT_EXPIRY (R517). When the peer has not asserted within JWAIT after a handover the old owner
      asserts again. `at_`: the carrier boundary on node time, in root cycles. -/
  | handoverJwaitExpiry (at_ : Nat)
  /-- ALIGN_MISSING (R503). ALIGN blocks missing at 2 consecutive block positions on the tether take the link from
      TRAIN or UP to DOWN. -/
  | alignMissing
  /-- HOST_MEMORY_ACCESS_ANSWER (R335). The host answers a device-issued memory access: the read data of a
      PARAM_WRITE with INLINE = 0 arrives, or an error ends the command with reason DMA or clears the ring enable
      with RING_ERR. -/
  | hostMemoryAccessAnswer (a : HostAnswer)
  /-- D3HOT_TRANSITION (R319). The host moves the endpoint between D0 and D3hot; in D3hot the endpoint serves no BAR
      access and sends no MSI-X message, while audio and accepted commands continue. -/
  | d3hotTransition (enter : Bool)
  /-- ARMING_WRITES_COMPLETE (R297). The arming writes of an ARM_BALE, which run for up to 40 ms beside the frames,
      complete, the slot becomes ARMED and the completion is posted. -/
  | armingWritesComplete
  /-- DEBUG_PORT_TCK (R569). A TCK edge of the IEEE 1149.1 debug port, or TRST_N low, advances or resets the test
      logic, which runs BYPASS, IDCODE, SAMPLE/PRELOAD and EXTEST subject to the debug lock fuse. `trstLow`: TRST_N
      is low; `rise`: a rising edge of TCK. -/
  | debugPortTck (trstLow : Bool) (rise : Bool) (tms : Bool) (tdi : Bool)
  deriving DecidableEq, Repr

end Sys2Proof
end

