-- ==== Sys2Proof/Decode.lean ====
section
/-! DEFINITION. The command a table word spells. The table of this hardware gives its rows no bits, so no word spells a
command; the bundles of a stall, which are data of the block, are decoded in Machine/Bundle.lean. -/

namespace Sys2Proof

/-- The command that a word of `nbits` bits spells by the bits of spec/opcode_table.json: none, since no row gives bits. -/
def decodeTableWord (_nbits _w : Nat) : Option Instr := none

end Sys2Proof
end

