-- ==== Sys2Proof/Config.lean ====
section
/-! DEFINITION. What a device fixes at manufacture (the variant), and the FREE VALUES of the model: values that the
spec leaves open. Each is an opaque constant, so nothing can evaluate it or prove a value of it; a claim that mentions
one holds for every value. The assumption log names each. -/

namespace Sys2Proof

/-- The three variants of the die (spec 00_scope.md, Table 00-1). -/
inductive Variant where
  | bd9648 | bd9632 | bd9616
  deriving DecidableEq, Repr

/-- FREE: a bit that a draw from the counter `State.free` gives (for example the outcome of R466 for a departure of at
least 0.5 ns and less than 1.0 ns). DESIGN CHOICE, log 13 and 14. -/
opaque Config.freeBit : Nat → Bool

/-- FREE: a 32-bit word that a draw from the counter `State.free` gives (an RMS word, R282). DESIGN CHOICE, log 6, 15 and 16. -/
opaque Config.freeWord : Nat → BitVec 32

/-- FREE: a number that a draw from the counter `State.free` gives (a servo step, R380; a race, R195). DESIGN CHOICE, log 13 and 16. -/
opaque Config.freeNat : Nat → Nat

/-- FREE: whether a read of CLK_XFLAG[85] that finds the configuration of the collector still moving (R57) shows STALE_NOW. DESIGN CHOICE,
log 68. -/
opaque Config.staleNow : Nat → Bool

/-- FREE: the length of the debug port's instruction register less two (R569 gives none; IEEE 1149.1 asks for at least two bits). -/
opaque Config.irMore : Nat

/-- FREE: the instruction that a code of the debug port selects (R569 gives no codes): 0 IDCODE, 1 BYPASS, 2 SAMPLE/PRELOAD, 3 EXTEST, any
other BYPASS. -/
opaque Config.irCode : Nat → Nat

/-- FREE: the number of cells of the boundary-scan register (R569 gives none). -/
opaque Config.cells : Nat

end Sys2Proof
end

