-- ==== Sys2Proof/Machine/State.lean ====
section
/-! DEFINITION. The machine's state as plain data, the faults and refusals, and the state after reset.
Registers live in one map keyed by REGWIN offset (their reset values are `Reg.reset`); memory lives in one map keyed by
MEMWIN offset; everything the spec gives the machine beside them has a field of its own. -/

namespace Sys2Proof.Machine

/-- Why the machine can stop with a fault. No command of this hardware stops it: `badQueue` is raised by nothing, and the
type is closed. Safe. -/
inductive Fault where
  | badQueue
  deriving DecidableEq, Repr

/-- Why a command is refused. `notModelled` is raised by `exec` for a command whose meaning is not written. Safe: nothing is
claimed of such a command. -/
inductive Refusal where
  | notModelled (mnemonic : String)
  deriving DecidableEq, Repr

/-- A synchronised dual-rail source's state (Table 16-4). -/
inductive SrcState where
  | idle | fault | held | shadow
  deriving DecidableEq, Repr

/-- One fault source of the collector: its synchronised pair (2·P + N: 1 good, 2 fault, 0 and 3 wire faults; R459), its
asynchronous latch (R466), its state and the class with which its reaction started (R464). -/
structure FcSource where
  pair  : Nat := 1
  latch : Bool := false
  st    : SrcState := .idle
  cls   : Nat := 0
  /-- The pin groups that the latch was given when it was set. -/
  groups : Nat := 0
  deriving DecidableEq, Repr

/-- An open consequence window: its source and the mask with which it opened (R472). -/
structure FcWindow where
  src  : Nat
  mask : Nat
  deriving DecidableEq, Repr

/-- Fault collector state that no register holds. -/
structure FcState where
  /-- The sources that differ from good and idle, by number. -/
  src     : Sparse FcSource := []
  /-- The consequence windows that are open, oldest first (R472). -/
  windows : List FcWindow := []
  /-- Sources whose reset pulse is asserted, oldest first (R471). -/
  pulses  : List Nat := []
  deriving DecidableEq, Repr

/-- A crossing of pulse type: the pulses that wait (each the events of one AON edge) and the AON cycle at which the running
handshake completes (R53, R54). -/
structure PulseXing where
  wait : List (List Nat) := []
  busy : Option Nat := none
  deriving DecidableEq, Repr

/-- A clock-loss detector: declared lost, and the run of windows that counted at least 90 % (R70). -/
structure ClkDet where
  lost : Bool := false
  good : Nat := 0
  deriving DecidableEq, Repr

/-- Clock and crossing state that no register holds. -/
structure ClkState where
  /-- Detectors by index: 0 REFCLK, 1 ETH_REFCLK, 2 PCIE_REFCLK, 3 SNS_CLK_I, 4 AON. -/
  det     : Sparse ClkDet := []
  /-- Crossing 84, fault events (R486). -/
  x84     : PulseXing := {}
  /-- Crossing 86, FC_RELEASE: the releases that AON has not taken, oldest first (R53, R54, R478), as SCOPE and SOURCE. The oldest is
  launched, the others are pending. -/
  x86     : List (Nat × Nat) := []
  /-- Crossing 85, the collector's configuration: the changes of a configuration register, to 8 at most (R56, R57). -/
  cfg     : Nat := 0
  /-- Crossings whose far side's epoch is odd, as listed by their CLK_XFLAG index, with how many resets hold them. -/
  odd     : Sparse Nat := []
  deriving DecidableEq, Repr

/-- One MSI-X vector of the event unit: the hold interval runs, and a request waits for its end (R342). -/
structure EvuVec where
  hold : Bool := false
  wait : Bool := false
  deriving DecidableEq, Repr

/-- The MSI-X side of the event unit: capability enable, function mask, vector mask bits and pending bit array. -/
structure EvuState where
  vec      : Sparse EvuVec := []
  enable   : Bool := false
  funcMask : Bool := false
  mask     : Nat := 0xFFFFFFFF
  pba      : Nat := 0
  deriving DecidableEq, Repr

/-- An accumulator element or a bus sample (R83, R88): value, WRAP, SAT and LOST. -/
structure Acc where
  v    : Int := 0
  wrap : Int := 0
  sat  : Bool := false
  lost : Bool := false
  deriving DecidableEq, Repr

/-- The register files of a stall (R75, Table 03-1). V and X are keyed by 32 × register + element. -/
structure RegFile where
  g : Sparse Word := []
  k : Sparse Word := []
  v : Sparse Word := []
  x : Sparse Acc := []
  p : Sparse Word := []
  b : Sparse Word := []
  l : Sparse Word := []
  m : Sparse Word := []
  deriving DecidableEq, Repr

/-- An entry of the loop stack (R135). -/
structure LoopEntry where
  start : Nat
  last  : Nat
  count : Nat
  depth : Nat
  deriving DecidableEq, Repr

/-- What the control slot of the bundle in issue will do when the bundle completes. -/
inductive CtlAct where
  | branch (target : Nat)
  | call (target : Nat)
  | ret
  | loopPush (last count : Nat)
  | loopSkip (last : Nat)
  | waitf
  deriving DecidableEq, Repr

/-- What a stall does now: not opened, issuing, held at SYNC, finished by WAITF, stopped by an exception, or stopped at
bus close without having finished (R131, R145, R151, R178). -/
inductive StallStatus where
  | idle | running | atSync | waitf | exception | overrun
  deriving DecidableEq, Repr

/-- A memory element of a load in flight: its MEMWIN address and its destination elements. -/
structure LoadElem where
  addr  : Nat
  dests : List Nat
  deriving DecidableEq, Repr

/-- A barn store or hayloft load in flight (R139, R189, R192): its space, its destination V register, its SZ, the SYNC
bundles its stall had issued, the number of shared stores issued before it in the frame, and its memory elements. -/
structure LoadRec where
  hay   : Bool
  dest  : Nat
  p24   : Bool
  rel   : Nat
  after : Nat
  elems : List LoadElem
  deriving DecidableEq, Repr

/-- A barn store or hayloft store in flight, with the number of SYNC arrivals its stall had made (R151) and the rows of 64 bytes it
writes, as MEMWIN addresses divided by 64. -/
structure StoreRec where
  hay   : Bool
  stamp : Nat
  rows  : List Nat
  deriving DecidableEq, Repr

/-- One stall. -/
structure Stall where
  rf      : RegFile := {}
  /-- The registers as the bundle in issue read them (R109); none between bundles. -/
  snap    : Option RegFile := none
  ctl     : Option CtlAct := none
  pc      : Nat := 0
  status  : StallStatus := .idle
  /-- ENG cycle after the boundary at which the bundle in issue issues. -/
  cyc     : Nat := 0
  rstack  : List Nat := []
  loops   : List LoopEntry := []
  syncCnt : Nat := 0
  syncRel : Nat := 0
  loads   : List LoadRec := []
  stores  : List StoreRec := []
  frXsat  : Bool := false
  frXlost : Bool := false
  frVsat  : Bool := false
  /-- The live bale holds code for this stall. -/
  code    : Bool := false
  /-- Program memory, keyed by 4096 × bank + bundle address (R141). -/
  prog    : Sparse Bundle := []
  /-- Program memory errors by the same key: 1 correctable, 2 uncorrectable (R143). -/
  progErr : Sparse Nat := []
  deriving DecidableEq, Repr

/-- A mirrored region of the live bale (R210). `space`: 0 local memory of stall `unit`, 1 barn store `unit`, 2 hayloft. -/
structure MirrorRegion where
  space : Nat
  unit  : Nat
  base  : Nat
  len   : Nat
  pp    : Bool
  deriving DecidableEq, Repr

/-- One element that a stall stored to a barn store or the hayloft in this frame (R128, R190, R194, R195): the stall, the SYNC arrivals it
had made and the SYNC bundles it had issued, the number of the store in order of issue, its MEMWIN address and its bytes. -/
structure SharedStore where
  stall : Nat
  stamp : Nat
  rel   : Nat
  num   : Nat
  addr  : Nat
  bytes : List Byte
  deriving DecidableEq, Repr

/-- Memory and schedule state that no register holds. -/
structure MemState where
  /-- The MEMWIN space byte by byte: hayloft at 0x0000000, barn stores at 0x8000000, tack room at 0x9000000, stall local
  memories at 0xA000000. -/
  bytes   : List Host.Cell := []
  /-- Words with a memory error, by MEMWIN offset of the word: 1 correctable, 2 uncorrectable (R197, R198). -/
  err     : Sparse Nat := []
  /-- Stores of this frame to barn stores and the hayloft, in the order in which their bytes remain; the bytes that they replaced, by
  MEMWIN offset; and how many have been issued. -/
  shared  : List SharedStore := []
  before  : Sparse Byte := []
  issued  : Nat := 0
  /-- Beats of BUSADD issued in this frame that may not have been answered (R179, R238). -/
  adds    : Nat := 0
  /-- Bus summers: 4096 × bank + sample index (R203, R204). -/
  bus     : Sparse Acc := []
  /-- Mirrored regions of the live bale (R210). -/
  regions : List MirrorRegion := []
  /-- The state cut of the frame has passed, the frame's copy is unclean, and a breach occurred in the frame (R213, R214). -/
  cutDone : Bool := false
  unclean : Bool := false
  breach  : Bool := false
  deriving DecidableEq, Repr


/-- A BAR of the endpoint (Table 10-1): its index, its size in bytes, and whether it is prefetchable; every BAR is a 64-bit one. -/
structure PciBar where
  index    : Nat
  bytes    : Nat
  prefetch : Bool
  deriving DecidableEq, Repr

/-- The configuration header of the endpoint (R2, R316, Table 10-1), whose values nothing changes; the subsystem IDs, which a boot
image sets (R535), are PwrState.ssvid and PwrState.ssid. -/
structure PciHeader where
  vendor    : Nat := 0x1FB2
  device    : Nat := 0x9600
  revision  : Nat := 0x10
  classCode : Nat := 0x048000
  /-- BAR 0 is REGWIN, BAR 2 MEMWIN, BAR 4 MSI-X. -/
  bars      : List PciBar := [⟨0, 0x1000000, false⟩, ⟨2, 0x10000000, true⟩, ⟨4, 0x2000, false⟩]
  /-- Offsets of the MSI-X table and of its pending bit array in BAR 4. -/
  msixTable : Nat := 0x0000
  msixPba   : Nat := 0x1000
  intPin    : Nat := 0x00
  deriving DecidableEq, Repr

/-- The host link: PERST_N asserted, the endpoint in D3hot (R319), and its configuration header. -/
structure HostLink where
  perst : Bool := false
  d3hot : Bool := false
  pci   : PciHeader := {}
  deriving DecidableEq, Repr


/-- The phases of a frame (R226): before any boundary, S from the boundary to the opening of the compute window, C to bus
close, D to the next boundary. -/
inductive Phase where
  | none | s | c | d
  deriving DecidableEq, Repr

/-- What has become of a granted transaction that is not answered: it is on its way; its target has applied it; its target has discarded it
for a beat of wrong parity (R236, R238). -/
inductive MtxStage where
  | flying | applied | dropped
  deriving DecidableEq, Repr

/-- A granted transaction that is not answered (R238): its request, its arbitration point, its sequence number mod 256, its stage, and, where
its target has applied a read, the words that this returned. -/
structure MtxTx where
  req   : MtxReq
  point : Nat
  seq   : Nat
  stage : MtxStage
  words : List (Nat × Word)
  deriving DecidableEq, Repr

/-- A request that is not granted (R223, R224): the master keeps it in its place. `waited`: the FAB cycles it has waited, as last presented.
-/
structure MtxWait where
  req    : MtxReq
  waited : Nat
  deriving DecidableEq, Repr

/-- Bus matrix state that no register holds. -/
structure MtxState where
  /-- The planned switch that is pending: to the fall-back matrix (true) or the fast one (R240). -/
  req        : Option Bool := none
  /-- The request came after this frame's phase D had begun, so the next frame's serves it. -/
  reqLate    : Bool := false
  /-- The requests that are not granted, oldest first (R223, R224). -/
  queue      : List MtxWait := []
  /-- Unanswered transactions, oldest first (R238). -/
  unanswered : List MtxTx := []
  /-- Next sequence number mod 256, by 1024 × master + arbitration point. -/
  seq        : Sparse Nat := []
  /-- The highest sequence number applied at each point for each master, plus one, by the same key; 0 none yet. -/
  applied    : Sparse Nat := []
  /-- Master granted last at each arbitration point, plus one (R230, R233). -/
  last       : Sparse Nat := []
  /-- The fall-back matrix has entered service on a fault, and the reissue of R238 is not complete. -/
  replay     : Bool := false
  deriving DecidableEq, Repr


/-- A received Sync that waits for its Follow_Up: sequence number, receive stamp (ns) and correction (ns). -/
structure PtpSync where
  seq  : Nat
  t2   : Nat
  corr : Int
  deriving DecidableEq, Repr

/-- A Delay_Req or Pdelay_Req that waits for its answer: its sequence number and, once it has begun to leave, its transmit stamp (ns); once a
two-step Pdelay_Resp has arrived, the peer's receive stamp and our receive stamp of the answer. -/
structure PtpReq where
  seq  : Nat
  t3   : Option Nat := none
  resp : Option (Int × Nat) := none
  deriving DecidableEq, Repr

/-- A domain slot beside its registers (R382 to R384). -/
structure TkpSlot where
  masters : List ForeignMaster := []
  chosen  : Option Nat := none
  pending : Option PtpSync := none
  /-- The last completed Sync: origin time with correction, and receive stamp (ns). -/
  last    : Option (Int × Nat) := none
  /-- The most recent consecutive offset samples, newest first, at most 8. -/
  samples : List Int := []
  req     : Option PtpReq := none
  nextSeq : Nat := 0
  /-- The delayAsymmetry of the port at the latest path delay measurement (R387). -/
  asym    : Int := 0
  deriving DecidableEq, Repr

/-- Timekeeper state that no register holds. -/
structure TkpState where
  /-- Node time in root cycles from the PTP epoch (R373, R374). -/
  node    : Nat := 0
  slot0   : TkpSlot := {}
  slot1   : TkpSlot := {}
  /-- A RESTEP waits for the next boundary or idle mark (R379). -/
  restep  : Bool := false
  /-- No boundary is struck before this node time (R378). -/
  notBefore : Nat := 0
  /-- The number of the most recent idle mark (R377). -/
  mark    : Nat := 0
  /-- The steering saved in the saddlebag (R380). -/
  savedSteer : Word := 0
  /-- The transmit timestamp queue: stamp and identifier, oldest first (R390). -/
  tsq     : List (Word × Word) := []
  deriving DecidableEq, Repr



/-- A transmit stream packet in the making or complete (R368, R369): its stream, the count of its first sample, the fields
live when that sample's playout frame began, and its samples so far, one row of channel values per count. -/
structure TxPkt where
  stream : Nat
  count  : Nat
  fmt    : Nat
  spp    : Nat
  nch    : Nat
  first  : Nat
  ports  : Nat
  /-- Words 1 to 7 of NSW_SO at that boundary. -/
  words  : List Word
  rows   : List (List Int)
  deriving DecidableEq, Repr

/-- The IPv4 and UDP headers of a frame that the device originates (R311, R353, R368): addresses, time-to-live, DSCP, the UDP source and
destination ports where it is UDP, and the UDP checksum where the spec states one. -/
structure IpHead where
  src   : Nat
  dst   : Nat
  ttl   : Nat
  dscp  : Nat
  ports : Option (Nat × Nat)
  sum   : Option Nat
  deriving DecidableEq, Repr

/-- The headers of a frame that the device originates (R353): MAC addresses, VLAN tag (PCP, VID), IPv4. -/
structure EgHead where
  smac : Nat
  dmac : Nat
  tag  : Option (Nat × Nat)
  ip   : Option IpHead
  deriving DecidableEq, Repr

/-- What an egress frame carries. -/
inductive EgBody where
  /-- An AES67 packet (R368): stream, RTP marker, payload type, sequence number, timestamp, SSRC, payload. -/
  | rtp (stream : Nat) (marker : Bool) (pt seq stamp ssrc : Nat) (payload : List Byte)
  /-- An AAF packet (R368): stream, stream_id, sequence_num, avtp_timestamp, tv, the FMT code of its format, nsr in Hz,
  channels_per_frame, payload. -/
  | aaf (stream id seq stamp : Nat) (tv : Bool) (format nsr channels : Nat) (payload : List Byte)
  /-- A PTP message (R382): domain slot, messageType, sequenceId, domainNumber, and the time in ns that its body carries, where the spec
  states one. -/
  | ptp (slot msgType seq dom : Nat) (time : Option Nat)
  /-- The UDP payload of a configuration announce (R312). -/
  | announce (payload : List Byte)
  | supervision
  | igmpReport (group : Nat)
  | arpReply (target : Nat)
  /-- A frame forwarded around a ring (R350). -/
  | hsr (f : NetFrame)
  deriving DecidableEq, Repr

/-- A frame in an egress queue: queue, cells of the queue's reserve and of the pool (R348), redundancy sequence number
(R349), headers (none: a frame forwarded around a ring keeps its own), contents. -/
structure EgFrame where
  queue : Nat
  own   : Nat
  pool  : Nat
  red   : Option Nat
  head  : Option EgHead
  body  : EgBody
  deriving DecidableEq, Repr

/-- An external port beside its registers: receiver block lock and FEC lock as last seen (R345), a valid trailer or tag
received within the time of R352, the frame being sent and the frames queued, oldest first. -/
structure EgPort where
  block  : Bool := false
  fec    : Bool := false
  seen   : Bool := false
  now    : Option EgFrame := none
  queued : List EgFrame := []
  deriving DecidableEq, Repr

/-- A receive stream beside its registers (R360, R365): fade index m, held values h and last values supplied by channel number n of the
stream, last sequence number. -/
structure SiRec where
  m    : Nat := 0
  h    : Sparse Int := []
  last : Sparse Int := []
  seq  : Option Nat := none
  deriving DecidableEq, Repr

/-- Network switch and stream engine beside their registers. -/
structure NswState where
  ports    : Sparse EgPort := []
  /-- Duplicate tables: pair, source MAC address, sequence number (R351). -/
  dup      : List (Nat × Nat × Nat) := []
  /-- Next redundancy sequence number of each pair (R349). -/
  pairSeq  : Sparse Nat := []
  /-- Packets forwarded to the engine port, oldest first: packet, VLAN tag, instant L in root cycles. -/
  engine   : List (AudioPkt × Option Nat × Nat) := []
  si       : Sparse SiRec := []
  /-- Written marks (R364): 1 at 1024 × (count mod D) + receive channel. -/
  marks    : Sparse Nat := []
  /-- What the latest intake pass took from the streams: receive channel to its samples (R365). -/
  supplied : Sparse (List Int) := []
  /-- Receive channels that the latest pass supplied in FADE_OUT or MUTED (R366). -/
  late     : List Nat := []
  tx       : List TxPkt := []
  /-- Samples into the ramp of the MUTE level, and into the fade in after it, of the transmit streams (R469, R470). -/
  mute     : Nat := 0
  fade     : Nat := 0
  /-- Announces sent since reset (R312). -/
  annSeq   : Nat := 0
  deriving DecidableEq, Repr



/-- The state of Table 11-3 of a receive stream or port: code, fade index m, held values h and last values supplied, per
channel. -/
structure RxSt where
  st   : Nat := 0
  m    : Nat := 0
  h    : List Int := []
  last : List Int := []
  deriving DecidableEq, Repr

/-- A serial audio or AES3 port, one direction, beside its registers (R396, R403, R412, R413): the count of its latest
frame, the samples of that frame, consecutive frames with a wrong BCLK count or a bad preamble, the fade's index, held and last
values, the slot mask before the latest boundary where that boundary changed it (R400). -/
structure PortRec where
  count   : Option Nat := none
  prev    : List Int := []
  bad     : Nat := 0
  m       : Nat := 0
  h       : List Int := []
  last    : List Int := []
  oldMask : Option Nat := none
  /-- Samples into the ramp of the MUTE level (R469). -/
  mute    : Nat := 0
  deriving DecidableEq, Repr

/-- The block side of an AES3 port (R405 to R408): frames since the Z preamble that SEEK counts from, position in the block,
whole so far, channel-status and user bits of both subframes so far, and the channel-status words being sent. -/
structure AesRec where
  seek  : Option Nat := none
  pos   : Option Nat := none
  whole : Bool := false
  cs0   : List Bool := []
  cs1   : List Bool := []
  u0    : List Bool := []
  u1    : List Bool := []
  txcs  : List Word := []
  deriving DecidableEq, Repr

/-- The outlet samples that play out at one count: whether the role at the boundary of its playout frame was SOLO or ACTIVE, and the values
by transmit slot (32 × port + slot, 512 + 2 × AES port + subframe, or 528 + drive channel) under the maps live in that frame. -/
structure PlayRow where
  count : Nat
  owner : Bool
  vals  : Sparse Int
  deriving DecidableEq, Repr

/-- Serial audio and AES3 ports beside their registers. -/
structure PortState where
  /-- By port: SAP p at p, AES n's receiver at 16 + n and transmitter at 24 + n. -/
  ports    : Sparse PortRec := []
  aes      : Sparse AesRec := []
  /-- Written marks (R412) at port × 1024 + count mod D: 2^32 + the slot mask of the frame that brought the samples (R400). -/
  marks    : Sparse Nat := []
  /-- What the latest intake pass took: 32 × port + slot, or 512 + 2 × AES port + subframe, to its samples. -/
  supplied : Sparse (List Int) := []
  /-- The slots that the latest pass supplied in FADE_OUT or MUTED. -/
  late     : List Nat := []
  /-- The counts that play out, oldest first. -/
  play     : List PlayRow := []
  deriving DecidableEq, Repr



/-- A CIC decimator as integrators and combs, cleared at a restart (R420). -/
structure Cic where
  ints  : List Int := []
  combs : List Int := []
  deriving DecidableEq, Repr

/-- A comparator's raw and hist (R428). -/
structure SfbCmp where
  raw  : Bool := false
  hist : Nat := 0
  deriving DecidableEq, Repr

/-- A filter channel beside its registers: EN, SRC and RESP in force, the first count of a restart that waits for its
instant, c_s of the latest one, the main path, the CIC outputs the compensation filter spans (newest first), the fast and
rail paths with their samples since the restart, the comparators, and words 1 to 3 of SFB_CH before the latest boundary where
it changed them. -/
structure SfbChan where
  on    : Bool := false
  src   : Nat := 0
  resp  : Nat := 0
  pend  : Option Nat := none
  cs    : Nat := 0
  main  : Cic := {}
  cics  : List Int := []
  fast  : Cic := {}
  fastN : Nat := 0
  rail  : Cic := {}
  railN : Nat := 0
  cmpA  : SfbCmp := {}
  cmpB  : SfbCmp := {}
  oldW  : Option (Word × Word × Word) := none
  deriving DecidableEq, Repr

/-- Sense filter bank beside its registers. -/
structure SfbState where
  chans   : Sparse SfbChan := []
  /-- Inputs whose bits flow (R418): 1 at the input; every other input is in a gap. -/
  flows   : Sparse Nat := []
  /-- Inputs whose bits have flowed since the bank started. -/
  flowed  : Sparse Nat := []
  /-- Positions of the sense buffer written since the intake last read them: 1 at 128 × (count mod D) + channel (R426). -/
  written : Sparse Nat := []
  deriving DecidableEq, Repr



/-- A drive channel beside its registers (R439 to R448): mute gain, its cause and ramp (start, period, length), the common-mode
ramp periods completed, the last quantiser errors e1 to e4, peak envelope, sag gain, feed-forward ratio, the instants of the
last trips (newest first), the end of the hold-off and whether it has ended, all instants in root cycles. -/
structure DrvChan where
  gm    : Nat := 0
  cause : Nat := 0
  g0    : Nat := 0
  m     : Nat := 0
  len   : Nat := 0
  cm    : Nat := 0
  e     : List Int := []
  sag   : Int := 0
  gs    : Nat := 8388608
  ff    : Nat := 65536
  trips : List Nat := []
  hold  : Nat := 0
  held  : Bool := false
  deriving DecidableEq, Repr

/-- Drive stage beside its registers: the channels, carrier periods into the SAVE_WARN ramp while it runs, and the stop until
the next reset that follows it (R454). -/
structure DrvState where
  chans : Sparse DrvChan := []
  save  : Option Nat := none
  dead  : Bool := false
  deriving DecidableEq, Repr



/-- A fade engine (R257 to R260): the settings the running fade leaves, its next sample index m, length L and law; a deferred
target with its FADE and CURVE. A fade runs while m < L. -/
structure FadeRec where
  old   : List Nat := []
  m     : Nat := 0
  len   : Nat := 0
  cos   : Bool := false
  defer : Option (List Nat × Nat × Nat) := none
  deriving DecidableEq, Repr

/-- High-pass history of an intake channel (R265): t1, t2, y1, y2. -/
structure HpfRec where
  t1 : Int := 0
  t2 : Int := 0
  y1 : Int := 0
  y2 : Int := 0
  deriving DecidableEq, Repr

/-- Limiter state of an outlet channel (R277). -/
structure LimRec where
  e : Int := 0
  h : Nat := 0
  deriving DecidableEq, Repr

/-- Signal graph beside its registers. Meters are numbered IC c at c, OC c at 1536 + c, MB b at 3072 + b. -/
structure GraphState where
  fadeIn  : Sparse FadeRec := []
  fadeGa  : Sparse FadeRec := []
  fadeOut : Sparse FadeRec := []
  hpf     : Sparse HpfRec := []
  lim     : Sparse LimRec := []
  /-- Delay lines of the live bale by outlet channel: MEMWIN address, P24 packing (R276). -/
  lines   : Sparse (Nat × Bool) := []
  /-- Outlet store by data frame, newest first; samples at 16 × channel + j (R244, R275). -/
  store   : List (Nat × Sparse Int) := []
  /-- Bus sums as read out at the latest boundary, at 256 × j + bus (R207), and the buses that saturated. -/
  sums    : Sparse Int := []
  satBus  : List Nat := []
  /-- Stalls whose output slots read zero at the next outlet pass (R180). -/
  overran : List Nat := []
  /-- The intake pass and the outlet pass of the frame have run, so the fades advance at the next boundary. -/
  inDone  : Bool := false
  outDone : Bool := false
  /-- Frames since PHOLD rose, by meter (R281), and the pending PH_CLR. -/
  phAge   : Sparse Nat := []
  /-- The mean squares of the meters, in units of 2^-32 (R282), by meter. -/
  meanSq  : Sparse Nat := []
  phClr   : Bool := false
  /-- A reset of the graph takes effect at the next boundary (Table 18-3). -/
  rst     : Bool := false
  deriving DecidableEq, Repr



/-- A descriptor that was accepted (R322, R328): its ticket, its 64 bytes as 16 words, and whether it came over the tether
(R507; it then has no ticket of this device and `ticket` is the active's), with the host data the active appended. -/
structure Desc where
  ticket : Nat
  words  : List Word
  peer   : Bool := false
  data   : List Word := []
  /-- It was sent to the standby at its acceptance (R507). -/
  sent   : Bool := false
  deriving DecidableEq, Repr

/-- What a command that has started waits for. -/
inductive Wait where
  /-- PARAM_WRITE: the host's data (R329). -/
  | hostRead
  /-- METER_SNAPSHOT: the next boundary (R331); `ok`: the host answers its writes without an error (R335). -/
  | boundary (ok : Bool)
  /-- ARM_BALE: its arming writes (R297). -/
  | arming
  /-- PARAM_COMMIT: the bus close, then boundary `k`; the writes that belong to it (R250, R582), as register offsets below
  2^24 and 2^24 + page for stall parameter pages. -/
  | commit (k : Option Nat) (writes : List Nat)
  /-- SWAP_BALE: the bus close, then its boundaries; `k` is the boundary it reports (R298, R299). -/
  | swap (slot : Nat) (k : Option Nat)
  /-- SAVE_TACK: the pages live at its start that the index does not hold yet, and the bytes the writer has written (R540). -/
  | save (pages : List Nat) (bytes : Nat)
  /-- FC_RELEASE: AON, which is lost, to take the release (R71, R478). -/
  | release
  /-- TWIN_HANDOVER (R517). -/
  | handover
  /-- TWIN_RESYNC (R518). -/
  | resync
  /-- Done on this device with status, reason and result words, and waiting for the CMDACK of the standby (R326, R507). -/
  | ack (status reason : Nat) (res : List Nat)
  deriving DecidableEq, Repr

/-- A command that has started and has not completed: which queue it holds, adjustments made so far, what it waits for, the
standby's answer (status, reason), and whether it was sent to the standby (R326). -/
structure Run where
  d      : Desc
  long   : Bool
  adj    : Nat
  wait   : Wait
  sent   : Bool := false
  answer : Option (Nat × Nat) := none
  deriving DecidableEq, Repr

/-- A snapshot that was taken (R582): the boundary at which it becomes live, the F words it changes and the stall parameter
pages it changes. -/
structure Snapshot where
  k     : Nat
  regs  : Sparse Word
  pages : List (Nat × List Byte)
  deriving DecidableEq, Repr

/-- Command processor state that no register holds. -/
structure CmdState where
  /-- The staging buffer CMD_SUBMIT, by word (R321). -/
  stage  : Sparse Word := []
  short  : List Desc := []
  long   : List Desc := []
  /-- The commands that have started, in order of start. -/
  run    : List Run := []
  /-- Shadow writes that belong to no PARAM_COMMIT yet (R582). -/
  writes : List Nat := []
  /-- Outstanding tickets in ticket order, with OPCODE and TAG (R324). -/
  openT  : List (Nat × Nat × Word) := []
  /-- Tickets whose records wait in the ring queue (R334). -/
  ringQ  : List Nat := []
  /-- The snapshot taken at the last bus close. -/
  taken  : Option Snapshot := none
  deriving DecidableEq, Repr


/-- A migration record read into the groom's copy buffer (R301): the destination space, unit, offset, whether it is ping-pong,
and the bytes read. -/
structure MigCopy where
  space : Nat
  unit  : Nat
  dst   : Nat
  pp    : Bool
  bytes : List Byte
  deriving DecidableEq, Repr

/-- Bale, swap and parameter page state that no register holds. -/
structure BaleState where
  /-- Bale roots by slot, as the last VERIFY_BALE computed them (R295). -/
  roots    : Sparse Nat := []
  /-- The slot whose arming writes run (R297). -/
  arming   : Option Nat := none
  /-- The slot that a waiting or taken swap makes the directory name as LIVE (R298). -/
  mark     : Option Nat := none
  /-- The slot of the swap that was taken and becomes live at the next boundary, and whether it is the boot swap. -/
  taken    : Option Nat := none
  boot     : Bool := false
  /-- Boundary k of a swap whose outlet part becomes live at k+1 (R299). -/
  outPart  : Option Nat := none
  /-- The swap changes fs or N, so playout carries zero from boundary k to boundary k+2 (R302): the boundary k. -/
  gapFrom  : Option Nat := none
  migrate  : List MigCopy := []
  /-- Declared stall parameter pages (64 · stall + area). -/
  pages    : List Nat := []
  /-- Live and shadow bytes of the stall parameter pages, at 4096 · page + offset (R254). -/
  pageLive : Sparse Byte := []
  pageShad : Sparse Byte := []
  deriving DecidableEq, Repr


/-- Digest unit state that no register holds. -/
structure RcdState where
  /-- The generation (R308). -/
  gen     : Nat := 0
  /-- Boundary at which the live configuration became live. -/
  k       : Nat := 0
  /-- The boot swap brings back the configuration that the generation already counts (R308, R530). -/
  keep    : Bool := false
  /-- Leaves of the published tree by index; `built` says that one has been published since the last reset that rebuilds it. -/
  leaves  : Sparse Nat := []
  built   : Bool := false
  /-- The peer's records of the last RCD messages: GEN, K, ROOT, BALE_ROOT. -/
  peer    : List (Nat × Nat × Nat × Nat) := []
  /-- The records published here, newest first: K and ROOT. -/
  own     : List (Nat × Nat) := []
  /-- A swap is live in part, since its boundary k, and nothing is published before k+1 (R299, R309). -/
  half    : Bool := false
  /-- An announce was published and ONCHG has not sent its datagram yet (R311). -/
  onchg   : Bool := false
  deriving DecidableEq, Repr


/-- A tether message that the transmitter holds until the peer has acknowledged it (R502): first SEQ, number of blocks, SEQs
resent, FRAME and message. -/
structure TthHeld where
  seq    : Nat
  n      : Nat
  resent : List Nat
  frame  : Nat
  body   : TthBody
  deriving DecidableEq, Repr

/-- A resync in progress (R516, R518): boundary r (none during the preparation), whether TWIN_RESYNC started it, the first ROOT
comparison failed so that the preparation runs, the latest boundary when it began. -/
structure Resync where
  r     : Option Nat
  cmd   : Bool
  prep  : Bool
  began : Nat := 0
  deriving DecidableEq, Repr

/-- Twin unit state that no register holds. -/
structure TwnState where
  /-- Lanes that are locked and deskewed, as a mask (R499). -/
  lanes    : Nat := 0
  txSeq    : Nat := 0
  rxNext   : Nat := 0
  held     : List TthHeld := []
  /-- Messages of priority 3–6 that wait for room in the holding space (R502): FRAME, message. -/
  wait     : List (Nat × TthBody) := []
  rxCount  : Nat := 0
  crcRun   : Nat := 0
  /-- The SEQs of the reverse direction that this device has reported in NAK_SEQ, newest first. -/
  naks     : List Nat := []
  /-- A HELLO was received in TRAIN; the SEQ of the own HELLO that the peer must acknowledge. -/
  helloIn  : Bool := false
  helloSeq : Option Nat := none
  peer     : Option Hello := none
  /-- The link has been UP, and HB_OK has been 1, since EN last became 1. -/
  wasUp    : Bool := false
  wasHb    : Bool := false
  hbEdges  : Nat := 0
  hbo      : Bool := false
  /-- The cause with which the owner drops ownership at its next carrier boundary. -/
  drop     : Option Nat := none
  /-- The device has dropped ownership and has not seen the peer assert since (R493). -/
  blind    : Bool := false
  /-- The causes of drops since the last role change out of ACTIVE matter for Table 17-2: the last drop's cause. -/
  lastDrop : Nat := 0
  /-- The instant, in root cycles on node time, at which the qualification restarted; none while the peer pair does not read 01 (R493). -/
  qual     : Option Nat := none
  ambig    : Bool := false
  /-- The boundary at which a role change takes effect, and the role. -/
  roleAt   : Option (Nat × Nat) := none
  /-- The boundary at which this device, which has taken ownership, becomes ACTIVE (R497). -/
  takeAt   : Option Nat := none
  /-- Forward image arrival in this frame: the channels × samples arrived so far, and whether it is complete (R505). -/
  fwdGot   : List Nat := []
  fwdDone  : Bool := false
  /-- The mirrored state received for a frame: bytes, the active's MIR, UNCLEAN, UF; complete once the last block has come. -/
  mirFrame : Nat := 0
  mirBytes : List Byte := []
  mirLast  : Option (Nat × Bool × Bool) := none
  /-- Digests by data frame: own and the peer's, newest first. -/
  own      : List (Nat × TwnDigest) := []
  theirs   : List (Nat × TwnDigest) := []
  /-- Data frames with unattributed mismatches in the last 1,000 (R513). -/
  unattr   : List Nat := []
  /-- First exact data frame of the current pairing (R516). -/
  exact    : Option Nat := none
  /-- Frames in which a unit fault was reported, and in which a stall overran, newest first (R480, R510). -/
  faults   : List Nat := []
  ovr      : List Nat := []
  /-- The roles held during the last frames, newest first: frame, role. -/
  roles    : List (Nat × Nat) := []
  /-- The sum of bus read-outs and MIR values by frame, for the digest: frame, BUS, MIR. -/
  sums     : List (Nat × Nat × Nat) := []
  drvRec   : List DrvRecord := []
  /-- The boundary that the drive records describe. -/
  drvFrame : Nat := 0
  /-- Slots whose bale image has come over the tether whole (R303). -/
  images   : List Nat := []
  /-- Refresh: units and rows received for the next boundary; the boundary at which the running pass began; a pass that ends
  sets HAYSYNC if it began at or after `hayFrom` (R509, R516). -/
  units    : List (Nat × List Byte) := []
  rows     : List (Nat × List Byte) := []
  passFrom : Nat := 0
  hayFrom  : Option Nat := none
  resync   : Option Resync := none
  lastAuto : Option Nat := none
  /-- Resync records received: Gate A and outlet. -/
  gaNotes  : List (Nat × FadeNote) := []
  ocNotes  : List (Nat × FadeNote) := []
  /-- The phase-0 leaves of the peer. -/
  peerLeaf : List (Nat × Nat) := []
  /-- Answers of the standby to commands that have not started here yet: ticket, status, reason. -/
  answers  : List (Nat × Nat × Nat) := []
  deriving DecidableEq, Repr


/-- A record of the parameter save area (R537): page (register page p at p, stall parameter page q at 256 + q), the bale root it
was saved under, its bytes, and whether the index names it or it is only staged. -/
structure SaveRec where
  page   : Nat
  root   : Nat
  bytes  : List Byte
  staged : Bool
  deriving DecidableEq, Repr

/-- The save image of the saddlebag (Table 18-9), as what it says. -/
structure SaveImage where
  fc      : List Word
  gen     : Nat
  k       : Nat
  root    : Nat
  baleRoot : Nat
  slot    : Option Nat
  baleId  : Nat
  aon     : Nat
  frame   : Nat
  steer   : Word
  tkp     : List Word
  role    : Nat
  own     : Bool
  peer    : Nat
  link    : Nat
  next    : Nat
  tickets : List (Nat × Nat × Word)
  pages   : List (Nat × Nat × List Byte)
  deriving DecidableEq, Repr

/-- The persistent record of the saddlebag (R543): next ticket, GEN, K, ROOT, BALE_ROOT, backlog in pages. -/
structure Persist where
  next     : Nat := 0
  gen      : Nat := 0
  k        : Nat := 0
  root     : Nat := 0
  baleRoot : Nat := 0
  backlog  : Nat := 0
  deriving DecidableEq, Repr

/-- Power, boot and save state that no register holds. -/
structure PwrState where
  /-- The straps as sampled at the release of PORST_N. -/
  sel     : Nat := 0
  senior  : Bool := false
  /-- The save image begun at SAVE_WARN and not complete; the complete one that is not consumed; whether a save has begun since
  the last image was consumed. -/
  saving  : Option SaveImage := none
  image   : Option SaveImage := none
  begun   : Bool := false
  persist : Persist := {}
  area    : List SaveRec := []
  /-- What the boot swap gives pages in place of the bale's values (R539, R545): page and bytes. -/
  restore : List (Nat × List Byte) := []
  /-- The internal power-on reset, PORST_N and WARM_N hold the device (R525, R529). -/
  por     : Bool := false
  porst   : Bool := false
  warm    : Bool := false
  /-- The boot that is due: 0 the whole one, 1 that of WARM_N, 2 none (R530, R533). -/
  stage   : Nat := 0
  /-- PWR_LAST.CAUSE of the last reset. -/
  cause   : Nat := 0
  /-- The monitors that have taken their first value: bits 0 to 5 the rails, 6 VSAVE, 7 the temperature (R523). -/
  seen    : Nat := 0
  /-- PWR_LAST_SAVE, kept in the tack room. -/
  lastSave : Word := 0
  /-- Fuses: the MAC address, the four key hashes, the debug lock (R316, R291, R569). -/
  mac     : Nat := 0
  keys    : List Nat := []
  lock    : Bool := false
  /-- Subsystem Vendor ID and Subsystem ID (R316, R535). -/
  ssvid   : Nat := 0x1FB2
  ssid    : Nat := 0x9600
  deriving DecidableEq, Repr


/-- The debug port (R569). `tap`: state of the IEEE 1149.1 controller: 0 Test-Logic-Reset, 1 Run-Test/Idle, 2 to 8 Select-DR-Scan, Capture-DR,
Shift-DR, Exit1-DR, Pause-DR, Exit2-DR, Update-DR, 9 to 15 the same for IR. `ir`: the instruction that acts: 0 IDCODE, 1 BYPASS,
2 SAMPLE/PRELOAD, 3 EXTEST. `shift`: the register between TDI and TDO, the bit next to TDO first. `bsr`: the update stage of the boundary
cells, which EXTEST drives. -/
structure DbgState where
  tap   : Nat := 0
  ir    : Nat := 0
  shift : List Bool := []
  bsr   : List Bool := []
  deriving DecidableEq, Repr
/-- The responses of a transaction (Table 07-5). -/
inductive MtxResp where
  | ok | absent | uncorr | decode | nopath
  deriving DecidableEq, Repr

/-- What the block sends outside: each constructor is one observable act. -/
inductive Emit where
  /-- The MSI-X message of a vector (R342). -/
  | msix (vector : Nat)
  /-- The data a host read returns: the matrix address of the word (Table 07-2) and its value. -/
  | readData (addr : Nat) (value : Word)
  /-- The response of the matrix to a transaction (R234): its master, whether it wrote, the response, and the words of the read data with
  their matrix addresses. -/
  | response (master : Nat) (write : Bool) (code : MtxResp) (words : List (Nat × Word))
  /-- A frame that has left an external port (R348). -/
  | frame (port : Nat) (red : Option Nat) (head : Option EgHead) (body : EgBody)
  /-- A SAP frame sent: port, count, slot words of SW bits; none is high impedance (R400). -/
  | sap (port count : Nat) (slots : List (Option Nat))
  /-- An AES3 frame sent: port, count, preamble Z, and both subframes as audio + 2^24 V + 2^25 U + 2^26 C + 2^27 P (R408). -/
  | aes (port count : Nat) (z : Bool) (s0 s1 : Nat)
  /-- A carrier period of the drive stage: count, period within the sample, and for each channel with DRV_GEN high its number
  and the ticks of legs A and B (R439, R445). -/
  | drv (count i : Nat) (legs : List (Nat × Nat × Nat))
  /-- A posted write to host memory. -/
  | hostWrite (addr : Nat) (words : List Word)
  /-- A read request to host memory: address and bytes. -/
  | hostRead (addr n : Nat)
  /-- A message sent over the tether: FRAME and message. -/
  | tether (frame : Nat) (body : TthBody)
  /-- DOWN blocks sent on all lanes (R503). -/
  | tetherDown
  /-- The level of HB_O (R498). -/
  | heartbeat (level : Bool)
  /-- OWN_P and OWN_N change (R491). -/
  | own (asserted : Bool)
  /-- The level of TDO of the debug port. -/
  | tdo (level : Bool)
  deriving DecidableEq, Repr


/-- The state of the machine. -/
structure State where
  /-- The variant fused at manufacture (R4). Reset BD9648: DESIGN CHOICE, log 1. -/
  variant : Variant := .bd9648
  /-- REGWIN registers by window offset; an unlisted one has its reset value `Reg.reset`. -/
  regs : Sparse Word := []
  /-- Shadow values of SH fields by window offset (R248); an unlisted one has its reset value. -/
  shadow : Sparse Word := []
  /-- Latched words of registers that latch on a read (R14, TOP_RCD, AES_RXCS), by window offset. -/
  hiLatch : Sparse Word := []
  /-- The window offsets whose latch is armed: the next read returns the latched word (R14). -/
  latched : List Nat := []
  /-- Fault collector. -/
  fc : FcState := {}
  /-- Clock-loss detectors and crossings. -/
  clk : ClkState := {}
  /-- Event unit and MSI-X. -/
  evu : EvuState := {}
  /-- The stalls that differ from a fresh stall, by number. -/
  stalls : Sparse Stall := []
  /-- Memories, bus summers and the mirrored state of the frame. -/
  mem : MemState := {}
  /-- The host link (R319). -/
  host : HostLink := {}
  /-- What the block has sent, oldest first (the model's own observation trace). -/
  out : List Emit := []
  /-- Draws made from the free values so far (the model's own counter). Reset 0: DESIGN CHOICE. -/
  free : Nat := 0
  /-- The phase of the frame (R226). -/
  phase : Phase := .none
  /-- Bus matrix. -/
  mtx : MtxState := {}
  /-- Timekeeper. -/
  tkp : TkpState := {}
  /-- Network switch and audio streams. -/
  nsw : NswState := {}
  /-- Serial audio and AES3 ports. -/
  sap : PortState := {}
  /-- Sense filter bank. -/
  sfb : SfbState := {}
  /-- Drive stage. -/
  drv : DrvState := {}
  /-- Signal graph. -/
  graph : GraphState := {}
  /-- Command processor. -/
  cmd : CmdState := {}
  /-- Bales, swaps and stall parameter pages. -/
  bale : BaleState := {}
  /-- Digest unit. -/
  rcd : RcdState := {}
  /-- Twin unit and tether. -/
  twn : TwnState := {}
  /-- Power, boot, save and fuses. -/
  pwr : PwrState := {}
  /-- Debug port. -/
  dbg : DbgState := {}
  /-- The commands that wait, first in, first out. -/
  pending : List Instr := []
  deriving DecidableEq, Repr

/-- The machine right after reset: every register at its reset value (no entry of `regs`), no memory byte listed, no unit
active, no command waiting. -/
def State.reset : State := {}

end Sys2Proof.Machine
end

