-- ==== Sys2Proof/Machine/Arith.lean ====
section
/-! DEFINITION. The arithmetic of a stall (spec 03_stall_datapath.md, 05_ibcor_instructions.md): saturation, convergent
rounding, the accumulator element, its read-out, and the element functions of the vector slot, over exact integers. -/

namespace Sys2Proof.Machine

/-- `y` saturated to an `n`-bit two's complement integer. -/
def Arith.sat (n : Nat) (y : Int) : Int :=
  if y > 2 ^ (n - 1) - 1 then 2 ^ (n - 1) - 1 else if y < -(2 ^ (n - 1)) then -(2 ^ (n - 1)) else y

/-- The convergent rounding right shift (R89). -/
def Arith.conv (y : Int) (s : Nat) : Int :=
  if s = 0 then y
  else
    let q := y.fdiv (2 ^ s)
    let f := y - q * 2 ^ s
    if f > 2 ^ (s - 1) ∨ (f = 2 ^ (s - 1) ∧ q.emod 2 = 1) then q + 1 else q

/-- The carry c of acc (R84): adding `d` into an element whose value field has `w` bits. -/
def Acc.carry (x : Acc) (d : Int) (w : Nat) : Int :=
  if x.v + d ≥ 2 ^ (w - 1) then 1 else if x.v + d < -(2 ^ (w - 1)) then -1 else 0

/-- A residue modulo 15, in the range 0–14 (R97). -/
def Arith.residue (x : Int) : Nat := (x.emod 15).toNat

/-- The reference residue of a checker as compared: inverted, as four bits, by an injection (R102). -/
def Arith.reference (r : Nat) (inverted : Bool) : Nat := if inverted then 15 - r else r

/-- The checker of a multiplier mismatches (R97): operands `a` and `b`, product `p`. -/
def Arith.mulMismatch (a b p : Int) (inverted : Bool) : Bool :=
  Arith.reference (Arith.residue a * Arith.residue b % 15) inverted != Arith.residue p

/-- The checker of an accumulate adder with a value field of `w` bits mismatches (R98): `x` takes the addition of `d` and becomes `y`. -/
def Arith.addMismatch (w : Nat) (x : Acc) (d : Int) (y : Acc) (inverted : Bool) : Bool :=
  Arith.reference (Arith.residue (x.v + d)) inverted != Arith.residue (y.v + x.carry d w * 2 ^ w)

/-- The procedure acc of R84: adding the exact integer `d` into an element whose value field has `w` bits. -/
def Acc.add (x : Acc) (d : Int) (w : Nat) : Acc :=
  let s := x.v + d
  let c := x.carry d w
  let y := { x with v := s - c * 2 ^ w }
  if x.lost = false ∧ c ≠ 0 then
    if x.wrap + c > 7 ∨ x.wrap + c < -8 then { y with lost := true } else { y with wrap := x.wrap + c }
  else y

/-- The read-out of R90: the element's value shifted by `sh` to `n` bits, and whether it saturated. -/
def Acc.read (x : Acc) (sh n : Nat) : Int × Bool :=
  if x.lost = true ∨ x.wrap ≠ 0 then
    (if x.wrap > 0 then 2 ^ (n - 1) - 1 else -(2 ^ (n - 1)), true)
  else
    let r := Arith.conv x.v sh
    (Arith.sat n r, decide (Arith.sat n r ≠ r))

/-- The element after RDX: SAT set where the read-out saturated (R90). -/
def Acc.rdx (x : Acc) (sh n : Nat) : Acc := if (x.read sh n).2 then { x with sat := true } else x

/-- The signed value of a word. -/
def Arith.int (w : Word) : Int := w.toInt

/-- The word that holds an integer, modulo 2^32. -/
def Arith.word (y : Int) : Word := BitVec.ofInt 32 y

/-- Sign extension of the low `n` bits of `v` to a word. -/
def Arith.sext (n v : Nat) : Word :=
  if v / 2 ^ (n - 1) % 2 = 1 then BitVec.ofNat 32 (v % 2 ^ n + (2 ^ 32 - 2 ^ n)) else BitVec.ofNat 32 (v % 2 ^ n)

/-- The bytes of a word, least significant first. -/
def Arith.bytes (n v : Nat) : List Byte := (List.range n).map fun i => BitVec.ofNat 8 (v / 2 ^ (8 * i))

/-- The number that bytes spell, least significant first. -/
def Arith.ofBytes : List Byte → Nat
  | [] => 0
  | b :: bs => b.toNat + 256 * Arith.ofBytes bs

/-- LT[j] = 2^24 · log2(1 + j / 64) rounded to the nearest integer, j = 0–64 (R166). -/
def Arith.logTable : List Int :=
  [0, 375270, 744810, 1108793, 1467383, 1820738, 2169009, 2512340] ++
  [2850868, 3184728, 3514044, 3838941, 4159533, 4475935, 4788255, 5096595] ++
  [5401057, 5701737, 5998727, 6292118, 6581994, 6868440, 7151536, 7431359] ++
  [7707984, 7981483, 8251926, 8519380, 8783912, 9045584, 9304457, 9560591] ++
  [9814042, 10064867, 10313120, 10558852, 10802114, 11042956, 11281425, 11517568] ++
  [11751428, 11983051, 12212479, 12439752, 12664911, 12887994, 13109041, 13328087] ++
  [13545168, 13760320, 13973576, 14184969, 14394532, 14602297, 14808293, 15012551] ++
  [15215099, 15415967, 15615181, 15812769, 16008758, 16203172, 16396036, 16587377] ++
  [16777216]

/-- ET[j] = 2^30 · 2^(j / 64) rounded to the nearest integer, j = 0–64 (R167). -/
def Arith.expTable : List Int :=
  [1073741824, 1085434106, 1097253708, 1109202018, 1121280436, 1133490379, 1145833280, 1158310587] ++
  [1170923762, 1183674286, 1196563654, 1209593378, 1222764986, 1236080024, 1249540052, 1263146652] ++
  [1276901417, 1290805962, 1304861917, 1319070932, 1333434672, 1347954824, 1362633090, 1377471191] ++
  [1392470869, 1407633882, 1422962010, 1438457051, 1454120821, 1469955159, 1485961921, 1502142985] ++
  [1518500250, 1535035634, 1551751076, 1568648537, 1585730000, 1602997467, 1620452965, 1638098541] ++
  [1655936265, 1673968228, 1692196547, 1710623359, 1729250827, 1748081133, 1767116489, 1786359126] ++
  [1805811301, 1825475297, 1845353420, 1865448001, 1885761398, 1906295993, 1927054196, 1948038440] ++
  [1969251188, 1990694927, 2012372174, 2034285470, 2056437387, 2078830522, 2101467502, 2124350982] ++
  [2147483648]

/-- VLOG2 of one element (R166). -/
def Arith.vlog2 (w : Word) : Word :=
  let a : Nat := min (Arith.int w).natAbs (2 ^ 31 - 1)
  if a = 0 then Arith.word (-(2 ^ 31))
  else
    let m := Nat.log2 a
    let u := a * 2 ^ (30 - m)
    let j := (u - 2 ^ 30) / 2 ^ 24
    let r : Int := ((u - 2 ^ 30) % 2 ^ 24 : Nat)
    let l := Arith.logTable.getD j 0
    let h := Arith.logTable.getD (j + 1) 0
    Arith.word (((m : Int) - 23) * 2 ^ 24 + (l + Arith.conv ((h - l) * r) 24))

/-- VEXP2 of one element (R167). -/
def Arith.vexp2 (w : Word) : Word :=
  let y := Arith.int w
  let n := y.fdiv (2 ^ 24)
  let f := (y - n * 2 ^ 24).toNat
  if n ≥ 8 then Arith.word (2 ^ 31 - 1)
  else
    let j := f / 2 ^ 18
    let r : Int := (f % 2 ^ 18 : Nat)
    let l := Arith.expTable.getD j 0
    let h := Arith.expTable.getD (j + 1) 0
    let e := l + Arith.conv ((h - l) * r) 18
    Arith.word (Arith.sat 32 (Arith.conv e (7 - n).toNat))

/-- One step of the envelope follower of R168 from envelope `e` with sample `a` and coefficients `ca`, `cr`. -/
def Arith.envStep (m : EnvMode) (ca cr : Nat) (e : Int) (a : Int) : Int :=
  let t : Int := if m.half then max a 0 else min (a.natAbs : Int) (2 ^ 31 - 1)
  let d := t - e
  let e1 := if d > 0 then e + Arith.conv (ca * d) (16 + m.ash) else e + Arith.conv (cr * d) (16 + m.rsh)
  Arith.sat 32 e1

/-- GCURVE of one level `a` with the lane's parameters (R169): LAW 0 compresses above the threshold, LAW 1 expands below. -/
def Arith.gcurve (expand : Bool) (a t s hw0 kc : Int) : Int :=
  let hw := max hw0 0
  let o := a - t
  let g :=
    if expand then
      if o ≥ hw then 0 else if o ≤ -hw then Arith.conv (s * o) 24 else -Arith.conv (kc * (hw - o) ^ 2) 48
    else
      if o ≤ -hw then 0 else if o ≥ hw then -Arith.conv (s * o) 24 else -Arith.conv (kc * (o + hw) ^ 2) 48
  Arith.sat 32 g

/-- The outputs of BFLY4 for one lane before scaling (R171): the parts of pair 0 and pair 1 as (re, im). -/
def Arith.bfly (inv out : Bool) (x0 x1 x2 x3 : Int × Int) : (Int × Int) × (Int × Int) :=
  let u0 := (x0.1 + x2.1, x0.2 + x2.2)
  let u1 := (x0.1 - x2.1, x0.2 - x2.2)
  let u2 := (x1.1 + x3.1, x1.2 + x3.2)
  let w := (x1.1 - x3.1, x1.2 - x3.2)
  let u3 := if inv then (-w.2, w.1) else (w.2, -w.1)
  if out then ((u0.1 - u2.1, u0.2 - u2.2), (u1.1 - u3.1, u1.2 - u3.2))
  else ((u0.1 + u2.1, u0.2 + u2.2), (u1.1 + u3.1, u1.2 + u3.2))

/-- The results of the scalar ALU with two 32-bit operands (R154, Table 05-6), by operation. -/
def Arith.mulh (a b : Word) : Word := Arith.word ((a.toInt * b.toInt).fdiv (2 ^ 32))

/-- 1 or 0 as a word. -/
def Arith.bit (b : Bool) : Word := if b then 1 else 0

end Sys2Proof.Machine
end

