-- ==== Sys2Proof/Machine/Bundle.lean ====
section
/-! DEFINITION. Which 128-bit bundles a bale may hold (spec 04_ibcor_encoding.md: R106 to R118, R134, R138;
05_ibcor_instructions.md: Tables 05-2 to 05-11): reserved encodings, registers written twice, loops. -/

namespace Sys2Proof.Machine

/-- Bits `lo + wid - 1 .. lo` of a number. -/
def Enc.fld (w lo wid : Nat) : Nat := w / 2 ^ lo % 2 ^ wid

/-- A control slot operation has no reserved encoding (Tables 04-3, 05-2; R155, R157). -/
def Enc.ctlOk (w : Nat) : Bool :=
  let op := Enc.fld w 18 6
  let z (lo wid : Nat) : Bool := Enc.fld w lo wid == 0
  if op = 0x01 ∨ op = 0x02 ∨ op = 0x03 then z 0 18
  else if op = 0x04 ∨ op = 0x06 then z 12 6
  else if op = 0x05 then z 12 1
  else if op = 0x08 then z 17 1
  else if op = 0x09 ∨ op = 0x10 then true
  else if op = 0x11 then Enc.fld w 0 3 != 7
  else if op = 0x12 then decide (Enc.fld w 0 3 ≤ 5)
  else if 0x1C ≤ op ∧ op ≤ 0x1E then decide (Enc.fld w 0 8 ≤ 31)
  else if 0x18 ≤ op ∧ op ≤ 0x1F then true
  else if op = 0x20 ∨ op = 0x21 then true
  else if op = 0x24 then decide (Enc.fld w 12 6 < 40) && z 0 6
  else false

/-- A load/store slot operation has no reserved encoding (Tables 04-4 to 04-7, 05-3, 05-7; R113, R114). -/
def Enc.lsOk (w : Nat) : Bool :=
  let op := Enc.fld w 23 5
  let am := Enc.fld w 9 3
  let sz := Enc.fld w 7 2
  let sh := Enc.fld w 5 2
  let el := Enc.fld w 3 2
  if op = 0x10 then true
  else if op = 0x11 then Enc.fld w 14 4 == 0
  else if op = 0 ∨ 9 < op then false
  else
    am != 7 && decide (sz ≤ 1) &&
    (if am = 0 ∨ am = 3 then Enc.fld w 12 3 == 0 else true) &&
    (if op = 3 ∨ op = 4 then sh == 0 && el == 0 && Enc.fld w 0 3 == 0
     else (el == 0 || sh == 1) && (if op = 2 ∨ op = 6 ∨ op = 8 ∨ op = 9 then decide (sh ≤ 1) else true)) &&
    (if op = 9 then sz == 0 && am != 5 && am != 6 else true)

/-- A vector slot operation has no reserved encoding (Tables 04-8, 04-9, 05-4, 05-8, 05-9, 05-11; R161 to R171). -/
def Enc.vecOk (w : Nat) : Bool :=
  let op := Enc.fld w 33 7
  let z (lo wid : Nat) : Bool := Enc.fld w lo wid == 0
  let bsel := Enc.fld w 14 2
  let bOk := bsel != 3 && (if bsel = 0 then z 12 2 else true) && (if bsel = 2 then true else z 9 3)
  if op = 0x10 then bOk && z 8 1 && z 7 1 && z 0 6
  else if op = 0x11 then bOk && z 0 9
  else if op = 0x12 then bOk && z 13 1 && z 0 6
  else if op = 0x13 then z 19 10 && z 0 16
  else if op = 0x18 then z 0 13
  else if op = 0x25 then
    z 0 8 && (if Enc.fld w 14 1 = 1 then z 18 5 && Enc.fld w 8 6 != 32 else z 8 6)
  else if op = 0x22 then z 0 15 && z 18 5
  else if 0x20 ≤ op ∧ op ≤ 0x24 then z 0 15
  else if op = 0x28 then decide (Enc.fld w 14 3 ≤ 3) && z 0 14
  else if op = 0x29 then decide (Enc.fld w 14 3 ≤ 3) && z 0 14 && z 20 5 && z 29 1
  else if op = 0x30 then decide (Enc.fld w 13 2 ≤ 1) && z 8 3
  else if op = 0x31 then z 1 14
  else if op = 0x32 ∨ op = 0x33 then z 18 5 && z 0 15
  else if op = 0x34 then z 4 11 && Enc.fld w 2 2 != 3
  else false

/-- A register as a number: G at 0, V at 32, X at 64, K at 80, then P, B, L and M at 88 with the AREG numbering. -/
def Enc.areg (a : Nat) : Nat := if a < 32 then 88 + a else 80 + (a - 32)

/-- The registers a control slot operation writes. -/
def Enc.ctlWrites (w : Nat) : List Nat :=
  let op := Enc.fld w 18 6
  if op = 0x10 ∨ op = 0x11 ∨ op = 0x12 ∨ (0x18 ≤ op ∧ op ≤ 0x1F) ∨ op = 0x20 ∨ op = 0x21 then [Enc.fld w 13 5]
  else if op = 0x24 then (if Enc.fld w 6 1 = 1 then [Enc.fld w 7 5] else [Enc.areg (Enc.fld w 12 6)])
  else []

/-- The registers a load/store slot operation writes; a post-modify counts as a write of the pointer (R110). -/
def Enc.lsWrites (w : Nat) : List Nat :=
  let op := Enc.fld w 23 5
  if op = 0x10 ∨ op = 0x11 then [Enc.areg (Enc.fld w 18 5)]
  else if op = 0 ∨ 9 < op then []
  else
    (if Enc.fld w 9 3 = 0 then [] else [88 + Enc.fld w 15 3]) ++
    (if op = 3 then [Enc.fld w 18 5] else if op = 1 ∨ op = 5 ∨ op = 7 then [32 + Enc.fld w 18 5] else [])

/-- The registers a vector slot operation writes. -/
def Enc.vecWrites (w : Nat) : List Nat :=
  let op := Enc.fld w 33 7
  if 0x10 ≤ op ∧ op ≤ 0x13 then [64 + Enc.fld w 29 4]
  else if op = 0x18 then [32 + Enc.fld w 28 5]
  else if op = 0x28 ∨ op = 0x29 then [80 + Enc.fld w 30 3]
  else [32 + Enc.fld w 28 5]

/-- The slots of a bundle: present, bits, check, registers written (Tables 04-1, 04-2). -/
def Enc.slots (w : Nat) : List (Bool × Nat × (Nat → Bool) × (Nat → List Nat)) :=
  [(w.testBit 127, Enc.fld w 96 24, Enc.ctlOk, Enc.ctlWrites),
   (w.testBit 126, Enc.fld w 68 28, Enc.lsOk, Enc.lsWrites),
   (w.testBit 125, Enc.fld w 40 28, Enc.lsOk, Enc.lsWrites),
   (w.testBit 124, Enc.fld w 0 40, Enc.vecOk, Enc.vecWrites)]

/-- No two of the numbers are equal. -/
def Enc.distinct : List Nat → Bool
  | [] => true
  | a :: l => !l.contains a && Enc.distinct l

/-- The bundle holds no reserved encoding (R107, R118) and writes no register in two slots (R110). -/
def Enc.bundleOk (w : Nat) : Bool :=
  (Enc.slots w).all (fun x => if x.1 then x.2.2.1 x.2.1 else x.2.1 == 0) &&
  Enc.distinct ((Enc.slots w).flatMap fun x => if x.1 then (x.2.2.2 x.2.1).eraseDups else [])

/-- The control opcode of a bundle; 0 where the slot is empty. -/
def Enc.ctlOp (w : Nat) : Nat := if w.testBit 127 then Enc.fld w 114 6 else 0

/-- The bundle may not stand at the end of a loop (R138). -/
def Enc.endBarred (w : Nat) : Bool := [1, 3, 4, 5, 6, 8, 9].contains (Enc.ctlOp w)

/-- The loops of a stall image hold R134 and R138. -/
def Enc.loopsOk (img : List Nat) : Bool :=
  (img.zipIdx).all fun x =>
    let op := Enc.ctlOp x.1
    if op = 8 ∨ op = 9 then
      let e := Enc.fld x.1 96 12
      decide (x.2 + 1 ≤ e) && !Enc.endBarred (img.getD e 0)
    else true

end Sys2Proof.Machine
end

