-- ==== Sys2Proof/Machine/FaultTable.lean ====
section
/-! DEFINITION. The fixed properties of the fault sources F000 to F191: minimum class, unit-fault mark, minimum pin
groups, RESET target and reset consequence mask (spec 16_fault_collector.md: R484, Tables 16-1, 16-2 and 16-7). -/

namespace Sys2Proof

/-- The block that a RESET reaction resets (column RESET target of Table 16-7; R471). -/
inductive ResetTarget where
  | barn (b : Nat)
  | fastMatrix | switch | sapAes | sap | aes | sfb | twin | graph | evu | cpx | digest | groom
  | port (p : Nat)
  deriving DecidableEq, Repr

/-- Reaction class codes of Table 16-1. -/
def Fc.note : Nat := 0
def Fc.reset : Nat := 1
def Fc.mute : Nat := 2
def Fc.safe : Nat := 3

/-- Pin groups of Table 16-2: bit 0 DRV, bit 1 PORT, bit 2 OWN. -/
def Fc.grpDrv : Nat := 1
def Fc.grpPort : Nat := 2
def Fc.grpOwn : Nat := 4

/-- Whether source `n` is one that Table 16-7 assigns (a reserved source is not). -/
def Fc.assigned (n : Nat) : Bool :=
  (n < 76) || (80 ≤ n && n ≤ 86) || (88 ≤ n && n ≤ 95) || (100 ≤ n && n ≤ 123)

/-- Minimum class MIN of source `n` (R464, Table 16-7). -/
def Fc.minClass (n : Nat) : Nat :=
  if n = 50 then Fc.reset
  else if n = 51 ∨ n = 58 then Fc.mute
  else if 59 ≤ n ∧ n ≤ 61 then Fc.reset
  else if 63 ≤ n ∧ n ≤ 68 then Fc.reset
  else if n = 86 ∨ (88 ≤ n ∧ n ≤ 91) ∨ n = 94 ∨ (100 ≤ n ∧ n ≤ 115) then Fc.safe
  else if 116 ≤ n ∧ n ≤ 118 then Fc.reset
  else Fc.note

/-- Column U of Table 16-7: the faults of this source are unit faults (R480). -/
def Fc.unitFault (n : Nat) : Bool :=
  (n ≤ 5) || (24 ≤ n && n ≤ 51) || (55 ≤ n && n ≤ 58) || n == 63 || n == 88 || n == 89

/-- Minimum pin groups of Table 16-7. -/
def Fc.minGroups (n : Nat) : Nat :=
  if n = 86 ∨ (88 ≤ n ∧ n ≤ 90) ∨ n = 94 then 7
  else if n = 91 ∨ (100 ≤ n ∧ n ≤ 115) then 5
  else 0

/-- RESET target of Table 16-7. -/
def Fc.target (n : Nat) : Option ResetTarget :=
  if n < 42 then some (.barn (n % 6))
  else match n with
  | 50 => some .fastMatrix
  | 52 => some .switch
  | 53 => some .sapAes
  | 54 => some .sfb
  | 55 => some .twin
  | 56 => some .graph
  | 59 => some .evu
  | 60 => some .cpx
  | 61 => some .digest
  | 63 => some .groom
  | 64 => some (.port 0)
  | 65 => some (.port 1)
  | 66 => some (.port 2)
  | 67 => some (.port 3)
  | 68 => some .switch
  | 70 => some .twin
  | 71 => some .twin
  | 116 => some .sfb
  | 117 => some .sap
  | 118 => some .aes
  | _ => none

/-- The sources of the consequence mask of Table 16-7 at reset. -/
def Fc.maskSources (n : Nat) : List Nat :=
  let b := n % 6
  if n ≤ 5 then [6 + b, 12 + b, 18 + b]
  else if n ≤ 11 then [12 + b, 18 + b]
  else if n ≤ 17 then [6 + b, 18 + b]
  else if n ≤ 23 then [12 + b]
  else if n ≤ 41 then [6 + b, 12 + b, 18 + b]
  else match n with
  | 50 => [12, 13, 14, 15, 16, 17, 52, 53, 54, 55, 56]
  | 60 => [61]
  | 63 => [71]
  | 64 => [52]
  | 65 => [52]
  | 66 => [52]
  | 67 => [52]
  | 68 => [52, 64, 65, 66, 67]
  | 116 => [54]
  | 117 => [53]
  | 118 => [53]
  | _ => []

/-- Word `w` of the reset consequence mask of source `n`. -/
def Fc.maskWord (n w : Nat) : Nat :=
  (Fc.maskSources n).foldl (fun acc m => if m / 32 = w then acc + 2 ^ (m % 32) else acc) 0

/-- Reset value of FC_SRC[n] word 0 (Table 16-14): CLASS = MIN, AUTO = 0, HOLD = 1, GROUPS the minimum groups for a
source of MIN SAFE and 0b111 for every other. -/
def Fc.srcReset (n : Nat) : Nat :=
  if Fc.assigned n then
    let m := Fc.minClass n
    let g := if m = Fc.safe then Fc.minGroups n else 7
    m * 2 ^ 30 + m * 2 ^ 28 + (if Fc.unitFault n then 2 ^ 27 else 0) + 2 ^ 16 + g * 2 ^ 8 + Fc.minGroups n
  else 0

end Sys2Proof
end

