-- ==== Sys2Proof/Machine/Regs.lean ====
section
/-! DEFINITION. The REGWIN register map: one row per register word, written from the field tables of spec/
(the access and effect codes of Tables 00-6 and 00-7), and one name per register field. -/

namespace Sys2Proof

/-- How a register word's reset value is formed from its index. -/
inductive ResetRule where
  | const (v : Nat)
  | idx | idxDiv8 | xflag | qos | park | fcSrc
  | fcCq (w : Nat)
  | cap (w : Nat)
  deriving DecidableEq, Repr

/-- One register word: `count` instances `stride` bytes apart from window offset `base`, the reset rule,
and the masks of its bits by access and effect code: RW of effect I, RW of effect S, W1C, RC, SH (effect F) and WO.
A bit in no mask is RO or reserved. -/
structure RegRow where
  name   : String
  base   : Nat
  stride : Nat := 0
  count  : Nat := 1
  reset  : ResetRule := .const 0
  rw     : Nat := 0
  rws    : Nat := 0
  w1c    : Nat := 0
  rc     : Nat := 0
  sh     : Nat := 0
  wo     : Nat := 0
  deriving DecidableEq, Repr

/-- The register words of the block at REGWIN 0x000000 (spec Tables 00-3, 01-2, 01-3, 06-10, 06-11, 06-12, 06-13, 06-14, 06-16, 06-17, 06-3,
06-8, 09-14, 09-15, 09-16, 09-17, 09-18, 09-19, 09-20, 09-21, 09-23). -/
def Reg.topRows : List RegRow :=
  [ { name := "TOP_CAP_UNITS_W0", base := 0x000010, reset := .cap 0 },
    { name := "TOP_CAP_UNITS_W1", base := 0x000014, reset := .cap 1 },
    { name := "TOP_FRAME_CFG", base := 0x000020 },
    { name := "TOP_FRAME_NO_W0", base := 0x000028 },
    { name := "TOP_FRAME_NO_W1", base := 0x00002C },
    { name := "TOP_SCHED", base := 0x000040 },
    { name := "TOP_OVR_STALLS_W0", base := 0x000050, w1c := 0xFFFFFFFF },
    { name := "TOP_OVR_STALLS_W1", base := 0x000054, w1c := 0x0000FFFF },
    { name := "TOP_MEM_STAT", base := 0x000100, w1c := 0x80000000, rc := 0x00FFFFFF },
    { name := "TOP_MEM_UE_LOC", base := 0x000104 },
    { name := "TOP_GROOM", base := 0x000108, rc := 0x000000FF },
    { name := "TOP_BUS_SAT", base := 0x000180, stride := 0x4, count := 8, w1c := 0xFFFFFFFF },
    { name := "TOP_BUS_IMG", base := 0x0001A0 },
    { name := "TOP_MIRROR", base := 0x000044 },
    { name := "TOP_MIRROR_STAT", base := 0x000048, rc := 0xFFFFFFFF },
    { name := "TOP_BALE_SLOT_W0", base := 0x000300, stride := 0x10, count := 2 },
    { name := "TOP_BALE_SLOT_W1", base := 0x000304, stride := 0x10, count := 2 },
    { name := "TOP_BALE_SLOT_W2", base := 0x000308, stride := 0x10, count := 2 },
    { name := "TOP_BALE_SLOT_W3", base := 0x00030C, stride := 0x10, count := 2 },
    { name := "TOP_BALE_LIVE", base := 0x000320 },
    { name := "TOP_SEC", base := 0x000330 },
    { name := "TOP_TACK_STAT", base := 0x000334, w1c := 0x80000000, rc := 0x00FFFFFF },
    { name := "TOP_TACK_UE_LOC", base := 0x000338 },
    { name := "TOP_RCD_FLAGS", base := 0x000450 },
    { name := "TOP_NODE_ID_W0", base := 0x000460, rw := 0xFFFFFFFF },
    { name := "TOP_NODE_ID_W1", base := 0x000464, rw := 0xFFFFFFFF },
    { name := "TOP_ANN_CTL", base := 0x000468, reset := .const 0xC1F0010A, rw := 0xFFFF01FF },
    { name := "TOP_ANN_DST", base := 0x00046C, reset := .const 0xEFFF6030, rw := 0xFFFFFFFF },
    { name := "TOP_RCD", base := 0x000400, stride := 0x4, count := 20 },
    { name := "TOP_QRES", base := 0x002000, stride := 0x4, count := 2048 } ]

/-- The register words of the block at REGWIN 0x010000 (spec Tables 02-11, 02-12, 02-13, 02-14, 02-15, 02-16). -/
def Reg.clkRows : List RegRow :=
  [ { name := "CLK_STATUS", base := 0x010000 },
    { name := "CLK_GATE", base := 0x010004, reset := .const 0x4, rw := 0x00000004, rws := 0x00000003 },
    { name := "CLK_STEER", base := 0x010008 },
    { name := "CLK_LOSS", base := 0x01000C, w1c := 0x0000007F },
    { name := "CLK_XFLAG", base := 0x010100, stride := 0x8, count := 128, reset := .xflag, w1c := 0x00000003 },
    { name := "CLK_XDISC", base := 0x010104, stride := 0x8, count := 128, rc := 0x0000FFFF } ]

/-- The register words of the block at REGWIN 0x020000 (spec Tables 16-12, 16-13, 16-14, 16-15). -/
def Reg.fcRows : List RegRow :=
  [ { name := "FC_FIRST", base := 0x020000 },
    { name := "FC_FIRST_TS", base := 0x020004 },
    { name := "FC_FIRST_FRAME", base := 0x020008 },
    { name := "FC_AON_NOW", base := 0x02000C },
    { name := "FC_STAT", base := 0x020010 },
    { name := "FC_SHADOW_COUNT", base := 0x020014, rc := 0x0000FFFF },
    { name := "FC_PEND", base := 0x020020, stride := 0x4, count := 6 },
    { name := "FC_LIVE", base := 0x020040, stride := 0x4, count := 6 },
    { name := "FC_HELD", base := 0x020060, stride := 0x4, count := 6 },
    { name := "FC_SHADOW", base := 0x020080, stride := 0x4, count := 6, w1c := 0xFFFFFFFF },
    { name := "FC_SRC_W0", base := 0x020400, stride := 0x8, count := 192, reset := .fcSrc, rw := 0x34FF0700 },
    { name := "FC_SRC_W1", base := 0x020404, stride := 0x8, count := 192, reset := .const 0x7FF, rw := 0x00000FFF, rc := 0xFFFF0000 },
    { name := "FC_CQ_W0", base := 0x021000, stride := 0x20, count := 192, reset := .fcCq 0, rw := 0xFFFFFFFF },
    { name := "FC_CQ_W1", base := 0x021004, stride := 0x20, count := 192, reset := .fcCq 1, rw := 0xFFFFFFFF },
    { name := "FC_CQ_W2", base := 0x021008, stride := 0x20, count := 192, reset := .fcCq 2, rw := 0xFFFFFFFF },
    { name := "FC_CQ_W3", base := 0x02100C, stride := 0x20, count := 192, reset := .fcCq 3, rw := 0xFFFFFFFF },
    { name := "FC_CQ_W4", base := 0x021010, stride := 0x20, count := 192, reset := .fcCq 4, rw := 0xFFFFFFFF },
    { name := "FC_CQ_W5", base := 0x021014, stride := 0x20, count := 192, reset := .fcCq 5, rw := 0xFFFFFFFF } ]

/-- The register words of the block at REGWIN 0x030000 (spec Tables 10-22, 10-23, 10-24, 10-25). -/
def Reg.evuRows : List RegRow :=
  [ { name := "EVU_RAW", base := 0x030000, stride := 0x4, count := 8, w1c := 0xFFFFFFFF },
    { name := "EVU_EN", base := 0x030020, stride := 0x4, count := 8, rw := 0xFFFFFFFF },
    { name := "EVU_MAP", base := 0x030100, stride := 0x4, count := 256, reset := .idxDiv8, rw := 0x0000001F },
    { name := "EVU_HOLD", base := 0x030500, stride := 0x4, count := 32, rw := 0x0000FFFF, rc := 0xFFFF0000 },
    { name := "EVU_PENDING", base := 0x030580 } ]

/-- The register words of the block at REGWIN 0x040000 (spec Tables 10-13, 10-14, 10-15, 10-16, 10-17, 10-18, 10-19). -/
def Reg.cmdRows : List RegRow :=
  [ { name := "CMD_TICKET", base := 0x040040 },
    { name := "CMD_STAT", base := 0x040044, w1c := 0x00000005, rc := 0xFFFF0000 },
    { name := "CMD_ADJUSTED_COUNT", base := 0x040048, rc := 0xFFFFFFFF },
    { name := "CMD_ADJ_LAST", base := 0x04004C },
    { name := "CMD_OUTSTANDING", base := 0x040050 },
    { name := "CMD_RING_CTL", base := 0x040054, reset := .const 0x600, rw := 0x00000001, rws := 0x00000F00 },
    { name := "CMD_RING_BASE_W0", base := 0x040058, rws := 0xFFFFF000 },
    { name := "CMD_RING_BASE_W1", base := 0x04005C, rws := 0xFFFFFFFF },
    { name := "CMD_RING_HEAD", base := 0x040060, rw := 0x00000FFF },
    { name := "CMD_RING_TAIL", base := 0x040064 },
    { name := "CMD_SUBMIT", base := 0x040000, stride := 0x4, count := 16, wo := 0xFFFFFFFF },
    { name := "CMD_LOG", base := 0x048000, stride := 0x4, count := 8192 } ]

/-- The register words of the block at REGWIN 0x050000 (spec Tables 12-10, 12-11, 12-12, 12-13, 12-14, 12-15, 12-16, 12-17, 12-9). -/
def Reg.tkpRows : List RegRow :=
  [ { name := "TKP_CTL", base := 0x050000, reset := .const 0x2, rw := 0x00000003, wo := 0x00000030 },
    { name := "TKP_CFG", base := 0x050004, reset := .const 0x1320A0A, rw := 0x17FFFFFF },
    { name := "TKP_STAT", base := 0x050008 },
    { name := "TKP_DOM_W0", base := 0x050010, stride := 0x20, count := 2, reset := .const 0x300, rw := 0x80000000, rws := 0x07FF3F00 },
    { name := "TKP_DOM_W1", base := 0x050014, stride := 0x20, count := 2 },
    { name := "TKP_DOM_W2", base := 0x050018, stride := 0x20, count := 2 },
    { name := "TKP_DOM_W3", base := 0x05001C, stride := 0x20, count := 2 },
    { name := "TKP_DOM_W4", base := 0x050020, stride := 0x20, count := 2 },
    { name := "TKP_DOM_W5", base := 0x050024, stride := 0x20, count := 2, rc := 0xFFFFFFFF },
    { name := "TKP_DOM_W6", base := 0x050028, stride := 0x20, count := 2 },
    { name := "TKP_DOM_W7", base := 0x05002C, stride := 0x20, count := 2 },
    { name := "TKP_NS", base := 0x050050 },
    { name := "TKP_WRAP_HI", base := 0x050054 },
    { name := "TKP_SNAP_W0", base := 0x050058 },
    { name := "TKP_SNAP_W1", base := 0x05005C },
    { name := "TKP_SNAP_W2", base := 0x050060 },
    { name := "TKP_SNAP_W3", base := 0x050064 },
    { name := "TKP_BND", base := 0x050068 },
    { name := "TKP_SNAP_FHI", base := 0x05006C },
    { name := "TKP_TSQ_TS", base := 0x050070 },
    { name := "TKP_TSQ_ID", base := 0x050074 },
    { name := "TKP_TSQ_STAT", base := 0x050078, w1c := 0x00000080, rc := 0xFFFF0000 },
    { name := "TKP_ASYM", base := 0x050080, stride := 0x4, count := 4, rw := 0x0000FFFF } ]

/-- The register words of the block at REGWIN 0x060000 (spec Tables 11-10, 11-11, 11-12, 11-13, 11-14, 11-15, 11-16, 11-17, 11-18, 11-7,
11-8, 11-9). -/
def Reg.nswRows : List RegRow :=
  [ { name := "NSW_CTL", base := 0x060000, rw := 0x00000001 },
    { name := "NSW_PORT_W0", base := 0x060010, stride := 0x8, count := 4, rw := 0x000000E1, rws := 0x00000012 },
    { name := "NSW_PORT_W1", base := 0x060014, stride := 0x8, count := 4 },
    { name := "NSW_RED_W0", base := 0x060030, stride := 0x8, count := 2, reset := .const 0x2000000, rws := 0xFF000003 },
    { name := "NSW_RED_W1", base := 0x060034, stride := 0x8, count := 2 },
    { name := "NSW_RXBUF", base := 0x060040, reset := .const 0x2, rws := 0x07FC0007 },
    { name := "NSW_SRC_W0", base := 0x060048, rw := 0xFFFFFFFF },
    { name := "NSW_SRC_W1", base := 0x06004C, rw := 0x0000FFFF },
    { name := "NSW_SRC_W2", base := 0x060050, rw := 0xFFFFFFFF },
    { name := "NSW_SRC_W3", base := 0x060054, reset := .const 0xF008, rw := 0xFFFFF0FF },
    { name := "NSW_GROUP", base := 0x060080, stride := 0x4, count := 16, reset := .const 0xFA, sh := 0x00000FFF },
    { name := "NSW_GROUP_STAT", base := 0x0600C0 },
    { name := "NSW_SI_W0", base := 0x061000, stride := 0x20, count := 128, sh := 0x87F1FFFF },
    { name := "NSW_SI_W1", base := 0x061004, stride := 0x20, count := 128, sh := 0xFFFF1FFF },
    { name := "NSW_SI_W2", base := 0x061008, stride := 0x20, count := 128, sh := 0xFFFFFFFF },
    { name := "NSW_SI_W3", base := 0x06100C, stride := 0x20, count := 128, sh := 0xFFFFFFFF },
    { name := "NSW_SI_W4", base := 0x061010, stride := 0x20, count := 128, sh := 0xFFFFFFFF },
    { name := "NSW_SI_W5", base := 0x061014, stride := 0x20, count := 128, reset := .const 0x60, sh := 0x0000007F },
    { name := "NSW_SO_W0", base := 0x062000, stride := 0x20, count := 128, reset := .const 0x40000, sh := 0x87FDFFFF },
    { name := "NSW_SO_W1", base := 0x062004, stride := 0x20, count := 128, sh := 0xFFFFFFFF },
    { name := "NSW_SO_W2", base := 0x062008, stride := 0x20, count := 128, reset := .const 0xE0000000, sh := 0xFFFFFFFF },
    { name := "NSW_SO_W3", base := 0x06200C, stride := 0x20, count := 128, sh := 0xFFFFFFFF },
    { name := "NSW_SO_W4", base := 0x062010, stride := 0x20, count := 128, reset := .const 0x60, sh := 0xFFFFF07F },
    { name := "NSW_SO_W5", base := 0x062014, stride := 0x20, count := 128, sh := 0xFFFFFFFF },
    { name := "NSW_SO_W6", base := 0x062018, stride := 0x20, count := 128, sh := 0xFFFFFFFF },
    { name := "NSW_SO_W7", base := 0x06201C, stride := 0x20, count := 128, sh := 0x0000FFFF },
    { name := "NSW_TXMAP", base := 0x063000, stride := 0x4, count := 1024, reset := .const 0x7FF, sh := 0x000007FF },
    { name := "NSW_SI_STAT_W0", base := 0x064000, stride := 0x10, count := 128, rc := 0xFFFFFFFF },
    { name := "NSW_SI_STAT_W1", base := 0x064004, stride := 0x10, count := 128, rc := 0xFFFFFFFF },
    { name := "NSW_SI_STAT_W2", base := 0x064008, stride := 0x10, count := 128, rc := 0xFFFFFFFF },
    { name := "NSW_SI_STAT_W3", base := 0x06400C, stride := 0x10, count := 128, rc := 0xFFFF0000 },
    { name := "NSW_SO_STAT_W0", base := 0x064800, stride := 0x10, count := 128, rc := 0xFFFFFFFF },
    { name := "NSW_SO_STAT_W1", base := 0x064804, stride := 0x10, count := 128, rc := 0xFFFF0000 },
    { name := "NSW_SO_STAT_W2", base := 0x064808, stride := 0x10, count := 128 },
    { name := "NSW_SO_STAT_W3", base := 0x06480C, stride := 0x10, count := 128 },
    { name := "NSW_PCNT_W0", base := 0x065000, stride := 0x20, count := 4, rc := 0xFFFFFFFF },
    { name := "NSW_PCNT_W1", base := 0x065004, stride := 0x20, count := 4, rc := 0xFFFFFFFF },
    { name := "NSW_PCNT_W2", base := 0x065008, stride := 0x20, count := 4, rc := 0xFFFFFFFF },
    { name := "NSW_PCNT_W3", base := 0x06500C, stride := 0x20, count := 4, rc := 0x0000FFFF },
    { name := "NSW_PCNT_W4", base := 0x065010, stride := 0x20, count := 4, rc := 0xFFFFFFFF },
    { name := "NSW_PCNT_W5", base := 0x065014, stride := 0x20, count := 4, rc := 0xFFFF0000 } ]

/-- The register words of the block at REGWIN 0x070000 (spec Tables 13-7, 13-8, 13-9). -/
def Reg.sapRows : List RegRow :=
  [ { name := "SAP_CFG", base := 0x070000, stride := 0x20, count := 16, reset := .const 0x120000, rw := 0x90000000, rws := 0x6FFFF800 },
    { name := "SAP_SLOT", base := 0x070004, stride := 0x20, count := 16, reset := .const 0x3, sh := 0xFFFFFFFF },
    { name := "SAP_ST", base := 0x070008, stride := 0x20, count := 16, reset := .const 0x80000000 },
    { name := "SAP_CNT", base := 0x07000C, stride := 0x20, count := 16, rc := 0xFFFFFFFF },
    { name := "SAP_PBUF", base := 0x070200, reset := .const 0x1, rws := 0x07FC0003 },
    { name := "SAP_TXMAP", base := 0x071000, stride := 0x4, count := 512, reset := .const 0x7FF, sh := 0x000007FF } ]

/-- The register words of the block at REGWIN 0x080000 (spec Tables 13-10, 13-11). -/
def Reg.aesRows : List RegRow :=
  [ { name := "AES_CFG", base := 0x080000, stride := 0x20, count := 8, reset := .const 0x4000000, rw := 0xD4000000, rws := 0x28000000 },
    { name := "AES_TXMAP", base := 0x080004, stride := 0x20, count := 8, reset := .const 0x7FF07FF, sh := 0x07FF07FF },
    { name := "AES_ST", base := 0x080008, stride := 0x20, count := 8 },
    { name := "AES_CNT0", base := 0x08000C, stride := 0x20, count := 8, rc := 0xFFFFFFFF },
    { name := "AES_CNT1", base := 0x080010, stride := 0x20, count := 8, rc := 0xFFFFFFFF },
    { name := "AES_CSSEQ", base := 0x080014, stride := 0x20, count := 8 },
    { name := "AES_RXCS_W0", base := 0x080400, stride := 0x40, count := 8 },
    { name := "AES_RXCS_W1", base := 0x080404, stride := 0x40, count := 8 },
    { name := "AES_RXCS_W2", base := 0x080408, stride := 0x40, count := 8 },
    { name := "AES_RXCS_W3", base := 0x08040C, stride := 0x40, count := 8 },
    { name := "AES_RXCS_W4", base := 0x080410, stride := 0x40, count := 8 },
    { name := "AES_RXCS_W5", base := 0x080414, stride := 0x40, count := 8 },
    { name := "AES_RXCS_W6", base := 0x080418, stride := 0x40, count := 8 },
    { name := "AES_RXCS_W7", base := 0x08041C, stride := 0x40, count := 8 },
    { name := "AES_RXCS_W8", base := 0x080420, stride := 0x40, count := 8 },
    { name := "AES_RXCS_W9", base := 0x080424, stride := 0x40, count := 8 },
    { name := "AES_RXCS_W10", base := 0x080428, stride := 0x40, count := 8 },
    { name := "AES_RXCS_W11", base := 0x08042C, stride := 0x40, count := 8 },
    { name := "AES_RXU_W0", base := 0x080800, stride := 0x40, count := 8 },
    { name := "AES_RXU_W1", base := 0x080804, stride := 0x40, count := 8 },
    { name := "AES_RXU_W2", base := 0x080808, stride := 0x40, count := 8 },
    { name := "AES_RXU_W3", base := 0x08080C, stride := 0x40, count := 8 },
    { name := "AES_RXU_W4", base := 0x080810, stride := 0x40, count := 8 },
    { name := "AES_RXU_W5", base := 0x080814, stride := 0x40, count := 8 },
    { name := "AES_RXU_W6", base := 0x080818, stride := 0x40, count := 8 },
    { name := "AES_RXU_W7", base := 0x08081C, stride := 0x40, count := 8 },
    { name := "AES_RXU_W8", base := 0x080820, stride := 0x40, count := 8 },
    { name := "AES_RXU_W9", base := 0x080824, stride := 0x40, count := 8 },
    { name := "AES_RXU_W10", base := 0x080828, stride := 0x40, count := 8 },
    { name := "AES_RXU_W11", base := 0x08082C, stride := 0x40, count := 8 },
    { name := "AES_TXCS_W0", base := 0x080C00, stride := 0x40, count := 8, reset := .const 0x1, sh := 0xFFFFFFFF },
    { name := "AES_TXCS_W1", base := 0x080C04, stride := 0x40, count := 8, sh := 0xFFFFFFFF },
    { name := "AES_TXCS_W2", base := 0x080C08, stride := 0x40, count := 8, sh := 0xFFFFFFFF },
    { name := "AES_TXCS_W3", base := 0x080C0C, stride := 0x40, count := 8, sh := 0xFFFFFFFF },
    { name := "AES_TXCS_W4", base := 0x080C10, stride := 0x40, count := 8, sh := 0xFFFFFFFF },
    { name := "AES_TXCS_W5", base := 0x080C14, stride := 0x40, count := 8, sh := 0xFFFFFFFF },
    { name := "AES_TXCS_W6", base := 0x080C18, stride := 0x40, count := 8, reset := .const 0x1, sh := 0xFFFFFFFF },
    { name := "AES_TXCS_W7", base := 0x080C1C, stride := 0x40, count := 8, sh := 0xFFFFFFFF },
    { name := "AES_TXCS_W8", base := 0x080C20, stride := 0x40, count := 8, sh := 0xFFFFFFFF },
    { name := "AES_TXCS_W9", base := 0x080C24, stride := 0x40, count := 8, sh := 0xFFFFFFFF },
    { name := "AES_TXCS_W10", base := 0x080C28, stride := 0x40, count := 8, sh := 0xFFFFFFFF },
    { name := "AES_TXCS_W11", base := 0x080C2C, stride := 0x40, count := 8, sh := 0xFFFFFFFF } ]

/-- The register words of the block at REGWIN 0x090000 (spec Tables 14-6, 14-7, 14-8, 14-9). -/
def Reg.sfbRows : List RegRow :=
  [ { name := "SFB_CTL", base := 0x090000, reset := .const 0x20, rw := 0x00000001, rws := 0x00000036 },
    { name := "SFB_ST", base := 0x090004 },
    { name := "SFB_CNT", base := 0x090008, rc := 0xFFFFFFFF },
    { name := "SFB_SBUF", base := 0x09000C, reset := .const 0x1, rws := 0x07FC0003 },
    { name := "SFB_CH_W0", base := 0x091000, stride := 0x10, count := 128, reset := .idx, sh := 0x80000F7F },
    { name := "SFB_CH_W1", base := 0x091004, stride := 0x10, count := 128, reset := .const 0x200, sh := 0xCFFFFFFF },
    { name := "SFB_CH_W2", base := 0x091008, stride := 0x10, count := 128, reset := .const 0x200, sh := 0xFFFFFFFF },
    { name := "SFB_CH_W3", base := 0x09100C, stride := 0x10, count := 128, sh := 0xC000003F },
    { name := "SFB_CHST", base := 0x092000, stride := 0x4, count := 128 },
    { name := "SFB_HIT_A", base := 0x092200, stride := 0x4, count := 4, w1c := 0xFFFFFFFF },
    { name := "SFB_HIT_B", base := 0x092210, stride := 0x4, count := 4, w1c := 0xFFFFFFFF } ]

/-- The register words of the block at REGWIN 0x0A0000 (spec Tables 15-10, 15-8, 15-9). -/
def Reg.drvRows : List RegRow :=
  [ { name := "DRV_CTL", base := 0x0A0000, reset := .const 0x100100, rw := 0x80000000, rws := 0x00FF0314 },
    { name := "DRV_ST", base := 0x0A0004 },
    { name := "DRV_CH_W0", base := 0x0A1000, stride := 0x10, count := 64, reset := .const 0x21007FF, sh := 0xC73007FF },
    { name := "DRV_CH_W1", base := 0x0A1004, stride := 0x10, count := 64, sh := 0xF80FFFFF },
    { name := "DRV_CH_W2", base := 0x0A1008, stride := 0x10, count := 64, reset := .const 0x600000, sh := 0x7FFFFFFF },
    { name := "DRV_CH_W3", base := 0x0A100C, stride := 0x10, count := 64, reset := .const 0xA40064, sh := 0x0FFFFFFF },
    { name := "DRV_CHST_W0", base := 0x0A2000, stride := 0x8, count := 64 },
    { name := "DRV_CHST_W1", base := 0x0A2004, stride := 0x8, count := 64, rc := 0xFFFFFFFF },
    { name := "DRV_LATCHED", base := 0x0A3000, stride := 0x4, count := 2 },
    { name := "DRV_UNLATCH", base := 0x0A3010, stride := 0x4, count := 2, wo := 0xFFFFFFFF } ]

/-- The register words of the block at REGWIN 0x0B0000 (spec Tables 07-10, 07-12, 07-13, 07-14, 07-8, 07-9). -/
def Reg.mtxRows : List RegRow :=
  [ { name := "MTX_CTL", base := 0x0B0000, wo := 0x00000007 },
    { name := "MTX_STAT", base := 0x0B0004, w1c := 0x00000100, rc := 0xFF000000 },
    { name := "MTX_QOS", base := 0x0B0010, stride := 0x4, count := 16, reset := .qos, rw := 0x0000000F },
    { name := "MTX_AGE", base := 0x0B0050, reset := .const 0x200, rw := 0x0000FFFF },
    { name := "MTX_PARK", base := 0x0B0060, stride := 0x4, count := 17, reset := .park, rw := 0x0000000F },
    { name := "MTX_ERR", base := 0x0B00B0, w1c := 0x80000000 },
    { name := "MTX_ERR_ADDR", base := 0x0B00B4 },
    { name := "MTX_REPLAY", base := 0x0B00B8, rc := 0xFFFFFFFF } ]

/-- The register words of the block at REGWIN 0x0C0000 (spec Tables 08-11, 08-12, 08-13, 08-14, 08-15, 08-16, 08-5, 08-6, 08-7, 08-9). -/
def Reg.graphRows : List RegRow :=
  [ { name := "GRAPH_IN_W0", base := 0x0C1000, stride := 0x8, count := 1536, reset := .const 0x1000, sh := 0x000FFFFF },
    { name := "GRAPH_IN_W1", base := 0x0C1004, stride := 0x8, count := 1536, sh := 0x000073FF },
    { name := "GRAPH_GA", base := 0x0C4000, stride := 0x4, count := 3072, reset := .const 0x7FF, sh := 0x000077FF },
    { name := "GRAPH_SIO_W0", base := 0x0C0400, stride := 0x8, count := 48 },
    { name := "GRAPH_SIO_W1", base := 0x0C0404, stride := 0x8, count := 48 },
    { name := "GRAPH_OUT_W0", base := 0x0C8000, stride := 0x10, count := 1536, reset := .const 0x1FFF, sh := 0x0000FFFF },
    { name := "GRAPH_OUT_W1", base := 0x0C8004, stride := 0x10, count := 1536, sh := 0x000FFFFF },
    { name := "GRAPH_OUT_W2", base := 0x0C8008, stride := 0x10, count := 1536, sh := 0xFFFFFFFF },
    { name := "GRAPH_OUT_W3", base := 0x0C800C, stride := 0x10, count := 1536, sh := 0x00000FFF },
    { name := "GRAPH_VIEW", base := 0x0C0000, rw := 0x00000001 },
    { name := "GRAPH_COMMIT", base := 0x0C0004 },
    { name := "GRAPH_COMMIT_K", base := 0x0C0008 },
    { name := "GRAPH_FADE_STAT", base := 0x0C000C },
    { name := "GRAPH_METER_CTL", base := 0x0C0010, reset := .const 0x115, rw := 0x0000F3FF, wo := 0x80000000 },
    { name := "GRAPH_INIMG", base := 0x0C0014 },
    { name := "GRAPH_ICLIP", base := 0x0C0100, stride := 0x4, count := 48, w1c := 0xFFFFFFFF },
    { name := "GRAPH_OCLIP", base := 0x0C0200, stride := 0x4, count := 48, w1c := 0xFFFFFFFF } ]

/-- The register words of the block at REGWIN 0x0D0000 (spec Tables 17-15, 17-16, 17-17). -/
def Reg.twnRows : List RegRow :=
  [ { name := "TWN_CTL", base := 0x0D0000, reset := .const 0x30000000, rw := 0xF0000000 },
    { name := "TWN_CFG", base := 0x0D0004, reset := .const 0xA050A, rw := 0x00FFFFFF },
    { name := "TWN_ST", base := 0x0D0008, reset := .const 0x8000 },
    { name := "TWN_CNT0", base := 0x0D000C, rc := 0xFFFFFFFF },
    { name := "TWN_CNT1", base := 0x0D0010, rc := 0xFFFFFFFF },
    { name := "TWN_MM_FRAME", base := 0x0D0014 },
    { name := "TWN_MM", base := 0x0D0018, w1c := 0x80000000 },
    { name := "TWN_REFRESH", base := 0x0D001C },
    { name := "TWN_TAKE_FRAME", base := 0x0D0020 },
    { name := "TWN_TAKE", base := 0x0D0024 },
    { name := "TWN_PEER_CAP_W0", base := 0x0D0028 },
    { name := "TWN_PEER_CAP_W1", base := 0x0D002C } ]

/-- The register words of the block at REGWIN 0x0E0000 (spec Tables 18-14, 18-15, 18-16). -/
def Reg.pwrRows : List RegRow :=
  [ { name := "PWR_CTL", base := 0x0E0000, wo := 0x00000001 },
    { name := "PWR_BLKRST", base := 0x0E0004, wo := 0x0003FFFF },
    { name := "PWR_CFG", base := 0x0E0008, reset := .const 0x64, rw := 0x000000FF },
    { name := "PWR_STAT", base := 0x0E000C },
    { name := "PWR_TACK", base := 0x0E0018 },
    { name := "PWR_BOOT", base := 0x0E0010 },
    { name := "PWR_LAST", base := 0x0E0014 },
    { name := "PWR_LAST_SAVE", base := 0x0E001C } ]

/-- The register words of the block at REGWIN 0x100000 (spec Tables 03-10, 03-11, 03-12, 03-8, 03-9, 04-20, 04-21, 04-22, 04-23, 04-24,
04-25, 06-5, 06-6, 06-7). -/
def Reg.stlRows : List RegRow :=
  [ { name := "STL_ARITH", base := 0x100100, stride := 0x4000, count := 48, w1c := 0x0000000F },
    { name := "STL_ARITH_CNT", base := 0x100104, stride := 0x4000, count := 48, rc := 0xFFFFFFFF },
    { name := "STL_RESIDUE", base := 0x100108, stride := 0x4000, count := 48, w1c := 0x80000000 },
    { name := "STL_RESIDUE_LOC", base := 0x10010C, stride := 0x4000, count := 48 },
    { name := "STL_RESIDUE_CTL", base := 0x100110, stride := 0x4000, count := 48, rw := 0x0000003F, wo := 0x00000080 },
    { name := "STL_EXC", base := 0x100120, stride := 0x4000, count := 48, w1c := 0x81000000 },
    { name := "STL_EXC_LOC", base := 0x100124, stride := 0x4000, count := 48 },
    { name := "STL_ADDR_LOC", base := 0x100128, stride := 0x4000, count := 48 },
    { name := "STL_ADDR_EA", base := 0x10012C, stride := 0x4000, count := 48 },
    { name := "STL_PMEM", base := 0x100130, stride := 0x4000, count := 48, rc := 0x00FFFF00 },
    { name := "STL_PP_LOC", base := 0x100134, stride := 0x4000, count := 48 },
    { name := "STL_PP_BST", base := 0x100138, stride := 0x4000, count := 48 },
    { name := "STL_PP_HAY", base := 0x10013C, stride := 0x4000, count := 48 },
    { name := "STL_SCHED", base := 0x100140, stride := 0x4000, count := 48, w1c := 0x00000003, rc := 0xFFFF0000 },
    { name := "STL_SPAN", base := 0x100144, stride := 0x4000, count := 48 },
    { name := "STL_SPAN_MAX", base := 0x100148, stride := 0x4000, count := 48, rc := 0x0007FFFF } ]

/-- The register words of the block at REGWIN 0x200000 (spec Tables 08-10). -/
def Reg.meterRows : List RegRow :=
  [ { name := "METER_IC_W0", base := 0x200000, stride := 0x10, count := 1536, reset := .const 0x80000000 },
    { name := "METER_IC_W1", base := 0x200004, stride := 0x10, count := 1536, reset := .const 0x80000000 },
    { name := "METER_IC_W2", base := 0x200008, stride := 0x10, count := 1536, reset := .const 0x80000000 },
    { name := "METER_IC_W3", base := 0x20000C, stride := 0x10, count := 1536 },
    { name := "METER_OC_W0", base := 0x206000, stride := 0x10, count := 1536, reset := .const 0x80000000 },
    { name := "METER_OC_W1", base := 0x206004, stride := 0x10, count := 1536, reset := .const 0x80000000 },
    { name := "METER_OC_W2", base := 0x206008, stride := 0x10, count := 1536, reset := .const 0x80000000 },
    { name := "METER_OC_W3", base := 0x20600C, stride := 0x10, count := 1536 },
    { name := "METER_MB_W0", base := 0x20C000, stride := 0x10, count := 256, reset := .const 0x80000000 },
    { name := "METER_MB_W1", base := 0x20C004, stride := 0x10, count := 256, reset := .const 0x80000000 },
    { name := "METER_MB_W2", base := 0x20C008, stride := 0x10, count := 256, reset := .const 0x80000000 },
    { name := "METER_MB_W3", base := 0x20C00C, stride := 0x10, count := 256 } ]

def Reg.TOP_CAP_UNITS_VARIANT : Fld := ⟨0x000014, 24, 4⟩
def Reg.TOP_CAP_UNITS_PARK_LAST : Fld := ⟨0x000014, 21, 1⟩
def Reg.TOP_CAP_UNITS_AES : Fld := ⟨0x000014, 17, 4⟩
def Reg.TOP_CAP_UNITS_SAP : Fld := ⟨0x000014, 12, 5⟩
def Reg.TOP_CAP_UNITS_NP : Fld := ⟨0x000014, 9, 3⟩
def Reg.TOP_CAP_UNITS_TTH : Fld := ⟨0x000014, 8, 1⟩
def Reg.TOP_CAP_UNITS_SNS_IN : Fld := ⟨0x000014, 0, 8⟩
def Reg.TOP_CAP_UNITS_DRV_CH : Fld := ⟨0x000010, 24, 7⟩
def Reg.TOP_CAP_UNITS_HAY_MIB : Fld := ⟨0x000010, 16, 8⟩
def Reg.TOP_CAP_UNITS_BARNS : Fld := ⟨0x000010, 8, 3⟩
def Reg.TOP_CAP_UNITS_STALLS : Fld := ⟨0x000010, 0, 6⟩
def Reg.TOP_FRAME_CFG_LATE_WIN : Fld := ⟨0x000020, 12, 1⟩
def Reg.TOP_FRAME_CFG_NLOG : Fld := ⟨0x000020, 8, 3⟩
def Reg.TOP_FRAME_CFG_FS : Fld := ⟨0x000020, 4, 2⟩
def Reg.TOP_FRAME_CFG_RUN : Fld := ⟨0x000020, 0, 1⟩
def Reg.TOP_FRAME_NO_FRAME_LO : Fld := ⟨0x000028, 0, 32⟩
def Reg.TOP_FRAME_NO_FRAME_HI : Fld := ⟨0x00002C, 0, 32⟩
def Reg.CLK_STATUS_BARN_RUN : Fld := ⟨0x010000, 16, 6⟩
def Reg.CLK_STATUS_RUN : Fld := ⟨0x010000, 8, 8⟩
def Reg.CLK_STATUS_AON_OK : Fld := ⟨0x010000, 7, 1⟩
def Reg.CLK_STATUS_PCIE_REF_OK : Fld := ⟨0x010000, 6, 1⟩
def Reg.CLK_STATUS_ETH_REF_OK : Fld := ⟨0x010000, 5, 1⟩
def Reg.CLK_STATUS_REF_OK : Fld := ⟨0x010000, 4, 1⟩
def Reg.CLK_STATUS_PLL_STATE : Fld := ⟨0x010000, 0, 3⟩
def Reg.CLK_GATE_ENG_IDLE : Fld := ⟨0x010004, 2, 1⟩
def Reg.CLK_GATE_SNS_EN : Fld := ⟨0x010004, 1, 1⟩
def Reg.CLK_GATE_MOD_EN : Fld := ⟨0x010004, 0, 1⟩
def Reg.CLK_STEER_STEER : Fld := ⟨0x010008, 0, 32⟩
def Reg.CLK_LOSS_HOLDOVER : Fld := ⟨0x01000C, 6, 1⟩
def Reg.CLK_LOSS_SNS_CLK_LOSS : Fld := ⟨0x01000C, 5, 1⟩
def Reg.CLK_LOSS_AON_LOSS : Fld := ⟨0x01000C, 4, 1⟩
def Reg.CLK_LOSS_PCIE_REF_LOSS : Fld := ⟨0x01000C, 3, 1⟩
def Reg.CLK_LOSS_ETH_REF_LOSS : Fld := ⟨0x01000C, 2, 1⟩
def Reg.CLK_LOSS_PLL_UNLOCK : Fld := ⟨0x01000C, 1, 1⟩
def Reg.CLK_LOSS_REF_LOSS : Fld := ⟨0x01000C, 0, 1⟩
def Reg.CLK_XFLAG_TYPE (i : Nat) : Fld := ⟨0x010100 + 0x8 * i, 4, 4⟩
def Reg.CLK_XFLAG_PEER_IN_RESET (i : Nat) : Fld := ⟨0x010100 + 0x8 * i, 3, 1⟩
def Reg.CLK_XFLAG_STALE_NOW (i : Nat) : Fld := ⟨0x010100 + 0x8 * i, 2, 1⟩
def Reg.CLK_XFLAG_STALE (i : Nat) : Fld := ⟨0x010100 + 0x8 * i, 1, 1⟩
def Reg.CLK_XFLAG_OVERRUN (i : Nat) : Fld := ⟨0x010100 + 0x8 * i, 0, 1⟩
def Reg.CLK_XDISC_DISCARD (i : Nat) : Fld := ⟨0x010104 + 0x8 * i, 0, 16⟩
def Reg.STL_ARITH_RESIDUE (i : Nat) : Fld := ⟨0x100100 + 0x4000 * i, 3, 1⟩
def Reg.STL_ARITH_VSAT (i : Nat) : Fld := ⟨0x100100 + 0x4000 * i, 2, 1⟩
def Reg.STL_ARITH_XLOST (i : Nat) : Fld := ⟨0x100100 + 0x4000 * i, 1, 1⟩
def Reg.STL_ARITH_XSAT (i : Nat) : Fld := ⟨0x100100 + 0x4000 * i, 0, 1⟩
def Reg.STL_ARITH_CNT_XSAT_FRAMES (i : Nat) : Fld := ⟨0x100104 + 0x4000 * i, 16, 16⟩
def Reg.STL_ARITH_CNT_XLOST_FRAMES (i : Nat) : Fld := ⟨0x100104 + 0x4000 * i, 8, 8⟩
def Reg.STL_ARITH_CNT_VSAT_FRAMES (i : Nat) : Fld := ⟨0x100104 + 0x4000 * i, 0, 8⟩
def Reg.STL_RESIDUE_VALID (i : Nat) : Fld := ⟨0x100108 + 0x4000 * i, 31, 1⟩
def Reg.STL_RESIDUE_OVF (i : Nat) : Fld := ⟨0x100108 + 0x4000 * i, 30, 1⟩
def Reg.STL_RESIDUE_UNIT (i : Nat) : Fld := ⟨0x100108 + 0x4000 * i, 28, 1⟩
def Reg.STL_RESIDUE_XREG (i : Nat) : Fld := ⟨0x100108 + 0x4000 * i, 24, 4⟩
def Reg.STL_RESIDUE_LANE (i : Nat) : Fld := ⟨0x100108 + 0x4000 * i, 21, 3⟩
def Reg.STL_RESIDUE_ELEM (i : Nat) : Fld := ⟨0x100108 + 0x4000 * i, 19, 2⟩
def Reg.STL_RESIDUE_COUNT (i : Nat) : Fld := ⟨0x100108 + 0x4000 * i, 0, 16⟩
def Reg.STL_RESIDUE_LOC_FRAME (i : Nat) : Fld := ⟨0x10010C + 0x4000 * i, 16, 16⟩
def Reg.STL_RESIDUE_LOC_BANK (i : Nat) : Fld := ⟨0x10010C + 0x4000 * i, 12, 1⟩
def Reg.STL_RESIDUE_LOC_ADDR (i : Nat) : Fld := ⟨0x10010C + 0x4000 * i, 0, 12⟩
def Reg.STL_RESIDUE_CTL_INJECT (i : Nat) : Fld := ⟨0x100110 + 0x4000 * i, 7, 1⟩
def Reg.STL_RESIDUE_CTL_ARMED (i : Nat) : Fld := ⟨0x100110 + 0x4000 * i, 6, 1⟩
def Reg.STL_RESIDUE_CTL_UNITSEL (i : Nat) : Fld := ⟨0x100110 + 0x4000 * i, 5, 1⟩
def Reg.STL_RESIDUE_CTL_LANE (i : Nat) : Fld := ⟨0x100110 + 0x4000 * i, 2, 3⟩
def Reg.STL_RESIDUE_CTL_ELEM (i : Nat) : Fld := ⟨0x100110 + 0x4000 * i, 0, 2⟩
def Reg.STL_EXC_VALID (i : Nat) : Fld := ⟨0x100120 + 0x4000 * i, 31, 1⟩
def Reg.STL_EXC_OVF (i : Nat) : Fld := ⟨0x100120 + 0x4000 * i, 30, 1⟩
def Reg.STL_EXC_ADDR (i : Nat) : Fld := ⟨0x100120 + 0x4000 * i, 24, 1⟩
def Reg.STL_EXC_COUNT (i : Nat) : Fld := ⟨0x100120 + 0x4000 * i, 16, 8⟩
def Reg.STL_EXC_CAUSE (i : Nat) : Fld := ⟨0x100120 + 0x4000 * i, 0, 4⟩
def Reg.STL_EXC_LOC_FRAME (i : Nat) : Fld := ⟨0x100124 + 0x4000 * i, 16, 16⟩
def Reg.STL_EXC_LOC_BANK (i : Nat) : Fld := ⟨0x100124 + 0x4000 * i, 12, 1⟩
def Reg.STL_EXC_LOC_ADDR (i : Nat) : Fld := ⟨0x100124 + 0x4000 * i, 0, 12⟩
def Reg.STL_ADDR_LOC_FRAME (i : Nat) : Fld := ⟨0x100128 + 0x4000 * i, 16, 16⟩
def Reg.STL_ADDR_LOC_SPACE (i : Nat) : Fld := ⟨0x100128 + 0x4000 * i, 14, 2⟩
def Reg.STL_ADDR_LOC_SLOT (i : Nat) : Fld := ⟨0x100128 + 0x4000 * i, 13, 1⟩
def Reg.STL_ADDR_LOC_BANK (i : Nat) : Fld := ⟨0x100128 + 0x4000 * i, 12, 1⟩
def Reg.STL_ADDR_LOC_ADDR (i : Nat) : Fld := ⟨0x100128 + 0x4000 * i, 0, 12⟩
def Reg.STL_ADDR_EA_EA (i : Nat) : Fld := ⟨0x10012C + 0x4000 * i, 0, 32⟩
def Reg.STL_PMEM_CORR (i : Nat) : Fld := ⟨0x100130 + 0x4000 * i, 8, 16⟩
def Reg.STL_PMEM_LIVE_BANK (i : Nat) : Fld := ⟨0x100130 + 0x4000 * i, 0, 1⟩
def Reg.STL_PP_LOC_STRIDE (i : Nat) : Fld := ⟨0x100134 + 0x4000 * i, 0, 32⟩
def Reg.STL_PP_BST_STRIDE (i : Nat) : Fld := ⟨0x100138 + 0x4000 * i, 0, 32⟩
def Reg.STL_PP_HAY_STRIDE (i : Nat) : Fld := ⟨0x10013C + 0x4000 * i, 0, 32⟩
def Reg.TOP_SCHED_CUT : Fld := ⟨0x000040, 0, 19⟩
def Reg.STL_SCHED_OVR_FRAMES (i : Nat) : Fld := ⟨0x100140 + 0x4000 * i, 16, 16⟩
def Reg.STL_SCHED_AT_SYNC (i : Nat) : Fld := ⟨0x100140 + 0x4000 * i, 3, 1⟩
def Reg.STL_SCHED_CUT_BREACH (i : Nat) : Fld := ⟨0x100140 + 0x4000 * i, 1, 1⟩
def Reg.STL_SCHED_OVR (i : Nat) : Fld := ⟨0x100140 + 0x4000 * i, 0, 1⟩
def Reg.STL_SPAN_LAST (i : Nat) : Fld := ⟨0x100144 + 0x4000 * i, 0, 19⟩
def Reg.STL_SPAN_MAX_MAX (i : Nat) : Fld := ⟨0x100148 + 0x4000 * i, 0, 19⟩
def Reg.TOP_OVR_STALLS_OVR_LO : Fld := ⟨0x000050, 0, 32⟩
def Reg.TOP_OVR_STALLS_OVR_HI : Fld := ⟨0x000054, 0, 16⟩
def Reg.TOP_MEM_STAT_UE : Fld := ⟨0x000100, 31, 1⟩
def Reg.TOP_MEM_STAT_UE_OVF : Fld := ⟨0x000100, 30, 1⟩
def Reg.TOP_MEM_STAT_HOST_WR_DISC : Fld := ⟨0x000100, 16, 8⟩
def Reg.TOP_MEM_STAT_CE : Fld := ⟨0x000100, 0, 16⟩
def Reg.TOP_MEM_UE_LOC_SRC : Fld := ⟨0x000104, 30, 2⟩
def Reg.TOP_MEM_UE_LOC_ADDR : Fld := ⟨0x000104, 0, 28⟩
def Reg.TOP_GROOM_PASS : Fld := ⟨0x000108, 16, 16⟩
def Reg.TOP_GROOM_PM_CE : Fld := ⟨0x000108, 0, 8⟩
def Reg.TOP_BUS_SAT_SAT (i : Nat) : Fld := ⟨0x000180 + 0x4 * i, 0, 32⟩
def Reg.TOP_BUS_IMG_EN : Fld := ⟨0x0001A0, 31, 1⟩
def Reg.TOP_BUS_IMG_BASE : Fld := ⟨0x0001A0, 0, 21⟩
def Reg.TOP_MIRROR_REGIONS : Fld := ⟨0x000044, 24, 6⟩
def Reg.TOP_MIRROR_BYTES : Fld := ⟨0x000044, 0, 22⟩
def Reg.TOP_MIRROR_STAT_UNCLEAN : Fld := ⟨0x000048, 16, 16⟩
def Reg.TOP_MIRROR_STAT_BREACH_FRAMES : Fld := ⟨0x000048, 0, 16⟩
def Reg.MTX_CTL_RETEST : Fld := ⟨0x0B0000, 2, 1⟩
def Reg.MTX_CTL_REQ_FAST : Fld := ⟨0x0B0000, 1, 1⟩
def Reg.MTX_CTL_REQ_FB : Fld := ⟨0x0B0000, 0, 1⟩
def Reg.MTX_STAT_SWITCHES : Fld := ⟨0x0B0004, 24, 8⟩
def Reg.MTX_STAT_REFUSED : Fld := ⟨0x0B0004, 8, 1⟩
def Reg.MTX_STAT_LAST_CAUSE : Fld := ⟨0x0B0004, 7, 1⟩
def Reg.MTX_STAT_PENDING : Fld := ⟨0x0B0004, 6, 1⟩
def Reg.MTX_STAT_FAST_STATE : Fld := ⟨0x0B0004, 4, 2⟩
def Reg.MTX_STAT_IN_SERVICE : Fld := ⟨0x0B0004, 0, 1⟩
def Reg.MTX_QOS_FIXED (i : Nat) : Fld := ⟨0x0B0010 + 0x4 * i, 4, 1⟩
def Reg.MTX_QOS_QOS (i : Nat) : Fld := ⟨0x0B0010 + 0x4 * i, 0, 4⟩
def Reg.MTX_AGE_LIMIT : Fld := ⟨0x0B0050, 0, 16⟩
def Reg.MTX_PARK_LAST (i : Nat) : Fld := ⟨0x0B0060 + 0x4 * i, 8, 4⟩
def Reg.MTX_PARK_DEF (i : Nat) : Fld := ⟨0x0B0060 + 0x4 * i, 0, 4⟩
def Reg.MTX_ERR_VALID : Fld := ⟨0x0B00B0, 31, 1⟩
def Reg.MTX_ERR_OVF : Fld := ⟨0x0B00B0, 30, 1⟩
def Reg.MTX_ERR_CODE : Fld := ⟨0x0B00B0, 28, 2⟩
def Reg.MTX_ERR_WRITE : Fld := ⟨0x0B00B0, 27, 1⟩
def Reg.MTX_ERR_TARGET : Fld := ⟨0x0B00B0, 20, 5⟩
def Reg.MTX_ERR_MASTER : Fld := ⟨0x0B00B0, 16, 4⟩
def Reg.MTX_ERR_COUNT : Fld := ⟨0x0B00B0, 0, 16⟩
def Reg.MTX_ERR_ADDR_ADDR : Fld := ⟨0x0B00B4, 0, 32⟩
def Reg.MTX_REPLAY_DUP : Fld := ⟨0x0B00B8, 16, 16⟩
def Reg.MTX_REPLAY_REPLAYED : Fld := ⟨0x0B00B8, 0, 16⟩
def Reg.GRAPH_IN_HPF (i : Nat) : Fld := ⟨0x0C1000 + 0x8 * i, 17, 3⟩
def Reg.GRAPH_IN_POL (i : Nat) : Fld := ⟨0x0C1000 + 0x8 * i, 16, 1⟩
def Reg.GRAPH_IN_TRIM (i : Nat) : Fld := ⟨0x0C1000 + 0x8 * i, 0, 16⟩
def Reg.GRAPH_IN_KIND (i : Nat) : Fld := ⟨0x0C1004 + 0x8 * i, 12, 3⟩
def Reg.GRAPH_IN_INDEX (i : Nat) : Fld := ⟨0x0C1004 + 0x8 * i, 0, 10⟩
def Reg.GRAPH_GA_CURVE (i : Nat) : Fld := ⟨0x0C4000 + 0x4 * i, 14, 1⟩
def Reg.GRAPH_GA_FADE (i : Nat) : Fld := ⟨0x0C4000 + 0x4 * i, 12, 2⟩
def Reg.GRAPH_GA_SRC (i : Nat) : Fld := ⟨0x0C4000 + 0x4 * i, 0, 11⟩
def Reg.GRAPH_SIO_NIN (i : Nat) : Fld := ⟨0x0C0400 + 0x8 * i, 24, 7⟩
def Reg.GRAPH_SIO_INBASE (i : Nat) : Fld := ⟨0x0C0400 + 0x8 * i, 0, 18⟩
def Reg.GRAPH_SIO_NOUT (i : Nat) : Fld := ⟨0x0C0404 + 0x8 * i, 24, 7⟩
def Reg.GRAPH_SIO_OUTBASE (i : Nat) : Fld := ⟨0x0C0404 + 0x8 * i, 0, 18⟩
def Reg.GRAPH_OUT_CURVE (i : Nat) : Fld := ⟨0x0C8000 + 0x10 * i, 15, 1⟩
def Reg.GRAPH_OUT_FADE (i : Nat) : Fld := ⟨0x0C8000 + 0x10 * i, 13, 2⟩
def Reg.GRAPH_OUT_SRC (i : Nat) : Fld := ⟨0x0C8000 + 0x10 * i, 0, 13⟩
def Reg.GRAPH_OUT_DELAY (i : Nat) : Fld := ⟨0x0C8004 + 0x10 * i, 0, 20⟩
def Reg.GRAPH_OUT_RC (i : Nat) : Fld := ⟨0x0C8008 + 0x10 * i, 16, 16⟩
def Reg.GRAPH_OUT_RSH (i : Nat) : Fld := ⟨0x0C8008 + 0x10 * i, 12, 4⟩
def Reg.GRAPH_OUT_LAW (i : Nat) : Fld := ⟨0x0C8008 + 0x10 * i, 10, 2⟩
def Reg.GRAPH_OUT_TH (i : Nat) : Fld := ⟨0x0C8008 + 0x10 * i, 0, 10⟩
def Reg.GRAPH_OUT_DLEN (i : Nat) : Fld := ⟨0x0C800C + 0x10 * i, 12, 20⟩
def Reg.GRAPH_OUT_HOLD (i : Nat) : Fld := ⟨0x0C800C + 0x10 * i, 0, 12⟩
def Reg.GRAPH_VIEW_SHADOW : Fld := ⟨0x0C0000, 0, 1⟩
def Reg.GRAPH_COMMIT_COUNT : Fld := ⟨0x0C0004, 16, 16⟩
def Reg.GRAPH_COMMIT_TAKEN : Fld := ⟨0x0C0004, 1, 1⟩
def Reg.GRAPH_COMMIT_PENDING : Fld := ⟨0x0C0004, 0, 1⟩
def Reg.GRAPH_COMMIT_K_K : Fld := ⟨0x0C0008, 0, 32⟩
def Reg.GRAPH_FADE_STAT_DEFERRED : Fld := ⟨0x0C000C, 16, 13⟩
def Reg.GRAPH_FADE_STAT_RUNNING : Fld := ⟨0x0C000C, 0, 13⟩
def Reg.GRAPH_METER_CTL_PH_CLR : Fld := ⟨0x0C0010, 31, 1⟩
def Reg.GRAPH_METER_CTL_PH_TIME : Fld := ⟨0x0C0010, 12, 4⟩
def Reg.GRAPH_METER_CTL_RMS_TC : Fld := ⟨0x0C0010, 8, 2⟩
def Reg.GRAPH_METER_CTL_DECAY : Fld := ⟨0x0C0010, 0, 8⟩
def Reg.GRAPH_INIMG_BASE : Fld := ⟨0x0C0014, 0, 27⟩
def Reg.GRAPH_ICLIP_CLIP (i : Nat) : Fld := ⟨0x0C0100 + 0x4 * i, 0, 32⟩
def Reg.GRAPH_OCLIP_CLIP (i : Nat) : Fld := ⟨0x0C0200 + 0x4 * i, 0, 32⟩
def Reg.TOP_BALE_SLOT_KEYIDX (i : Nat) : Fld := ⟨0x000300 + 0x10 * i, 28, 2⟩
def Reg.TOP_BALE_SLOT_SIGNED (i : Nat) : Fld := ⟨0x000300 + 0x10 * i, 27, 1⟩
def Reg.TOP_BALE_SLOT_NLOG (i : Nat) : Fld := ⟨0x000300 + 0x10 * i, 24, 3⟩
def Reg.TOP_BALE_SLOT_FS (i : Nat) : Fld := ⟨0x000300 + 0x10 * i, 20, 2⟩
def Reg.TOP_BALE_SLOT_REASON (i : Nat) : Fld := ⟨0x000300 + 0x10 * i, 8, 8⟩
def Reg.TOP_BALE_SLOT_STATE (i : Nat) : Fld := ⟨0x000300 + 0x10 * i, 0, 3⟩
def Reg.TOP_BALE_SLOT_LEN (i : Nat) : Fld := ⟨0x000304 + 0x10 * i, 0, 32⟩
def Reg.TOP_BALE_SLOT_ID_LO (i : Nat) : Fld := ⟨0x000308 + 0x10 * i, 0, 32⟩
def Reg.TOP_BALE_SLOT_ID_HI (i : Nat) : Fld := ⟨0x00030C + 0x10 * i, 0, 32⟩
def Reg.TOP_BALE_LIVE_VALID : Fld := ⟨0x000320, 31, 1⟩
def Reg.TOP_BALE_LIVE_SLOT : Fld := ⟨0x000320, 16, 1⟩
def Reg.TOP_BALE_LIVE_SWAPS : Fld := ⟨0x000320, 0, 16⟩
def Reg.TOP_SEC_ENFORCE : Fld := ⟨0x000330, 8, 1⟩
def Reg.TOP_SEC_REVOKED : Fld := ⟨0x000330, 4, 4⟩
def Reg.TOP_SEC_KEYS : Fld := ⟨0x000330, 0, 4⟩
def Reg.TOP_TACK_STAT_UE : Fld := ⟨0x000334, 31, 1⟩
def Reg.TOP_TACK_STAT_UE_OVF : Fld := ⟨0x000334, 30, 1⟩
def Reg.TOP_TACK_STAT_CE : Fld := ⟨0x000334, 16, 8⟩
def Reg.TOP_TACK_STAT_WR_DISC : Fld := ⟨0x000334, 0, 16⟩
def Reg.TOP_TACK_UE_LOC_ADDR : Fld := ⟨0x000338, 0, 23⟩
def Reg.TOP_RCD_FLAGS_NO_BALE : Fld := ⟨0x000450, 2, 1⟩
def Reg.TOP_RCD_FLAGS_PEER_MATCH : Fld := ⟨0x000450, 1, 1⟩
def Reg.TOP_RCD_FLAGS_STALE : Fld := ⟨0x000450, 0, 1⟩
def Reg.TOP_NODE_ID_ID_LO : Fld := ⟨0x000460, 0, 32⟩
def Reg.TOP_NODE_ID_ID_HI : Fld := ⟨0x000464, 0, 32⟩
def Reg.TOP_ANN_CTL_PORT : Fld := ⟨0x000468, 16, 16⟩
def Reg.TOP_ANN_CTL_ONCHG : Fld := ⟨0x000468, 8, 1⟩
def Reg.TOP_ANN_CTL_PERIOD : Fld := ⟨0x000468, 0, 8⟩
def Reg.TOP_ANN_DST_GROUP : Fld := ⟨0x00046C, 0, 32⟩
def Reg.CMD_TICKET_ACCEPTED : Fld := ⟨0x040040, 31, 1⟩
def Reg.CMD_TICKET_FULL : Fld := ⟨0x040040, 30, 1⟩
def Reg.CMD_TICKET_NOTREADY : Fld := ⟨0x040040, 29, 1⟩
def Reg.CMD_TICKET_TICKET : Fld := ⟨0x040040, 0, 16⟩
def Reg.CMD_STAT_REFUSED : Fld := ⟨0x040044, 16, 16⟩
def Reg.CMD_STAT_CPX_READY : Fld := ⟨0x040044, 3, 1⟩
def Reg.CMD_STAT_RESTORED : Fld := ⟨0x040044, 2, 1⟩
def Reg.CMD_STAT_RING_FULL : Fld := ⟨0x040044, 1, 1⟩
def Reg.CMD_STAT_RING_ERR : Fld := ⟨0x040044, 0, 1⟩
def Reg.CMD_ADJUSTED_COUNT_COUNT : Fld := ⟨0x040048, 0, 32⟩
def Reg.CMD_ADJ_LAST_SRC : Fld := ⟨0x04004C, 31, 1⟩
def Reg.CMD_ADJ_LAST_WHERE : Fld := ⟨0x04004C, 0, 24⟩
def Reg.CMD_OUTSTANDING_NEXT : Fld := ⟨0x040050, 16, 16⟩
def Reg.CMD_OUTSTANDING_COUNT : Fld := ⟨0x040050, 0, 11⟩
def Reg.CMD_RING_CTL_LOG2SZ : Fld := ⟨0x040054, 8, 4⟩
def Reg.CMD_RING_CTL_EN : Fld := ⟨0x040054, 0, 1⟩
def Reg.CMD_RING_BASE_BASE_LO : Fld := ⟨0x040058, 12, 20⟩
def Reg.CMD_RING_BASE_BASE_HI : Fld := ⟨0x04005C, 0, 32⟩
def Reg.CMD_RING_HEAD_HEAD : Fld := ⟨0x040060, 0, 12⟩
def Reg.CMD_RING_TAIL_PHASE : Fld := ⟨0x040064, 31, 1⟩
def Reg.CMD_RING_TAIL_TAIL : Fld := ⟨0x040064, 0, 12⟩
def Reg.EVU_RAW_RAW (i : Nat) : Fld := ⟨0x030000 + 0x4 * i, 0, 32⟩
def Reg.EVU_EN_EN (i : Nat) : Fld := ⟨0x030020 + 0x4 * i, 0, 32⟩
def Reg.EVU_MAP_VECTOR (i : Nat) : Fld := ⟨0x030100 + 0x4 * i, 0, 5⟩
def Reg.EVU_HOLD_SENT (i : Nat) : Fld := ⟨0x030500 + 0x4 * i, 16, 16⟩
def Reg.EVU_HOLD_HOLD (i : Nat) : Fld := ⟨0x030500 + 0x4 * i, 0, 16⟩
def Reg.EVU_PENDING_PEND : Fld := ⟨0x030580, 0, 32⟩
def Reg.NSW_CTL_STRM_EN : Fld := ⟨0x060000, 0, 1⟩
def Reg.NSW_PORT_DEF_PCP (i : Nat) : Fld := ⟨0x060010 + 0x8 * i, 5, 3⟩
def Reg.NSW_PORT_FEC (i : Nat) : Fld := ⟨0x060010 + 0x8 * i, 4, 1⟩
def Reg.NSW_PORT_SPEED (i : Nat) : Fld := ⟨0x060010 + 0x8 * i, 1, 1⟩
def Reg.NSW_PORT_EN (i : Nat) : Fld := ⟨0x060010 + 0x8 * i, 0, 1⟩
def Reg.NSW_PORT_REM_FAULT (i : Nat) : Fld := ⟨0x060014 + 0x8 * i, 3, 1⟩
def Reg.NSW_PORT_LOC_FAULT (i : Nat) : Fld := ⟨0x060014 + 0x8 * i, 2, 1⟩
def Reg.NSW_PORT_FEC_LOCK (i : Nat) : Fld := ⟨0x060014 + 0x8 * i, 1, 1⟩
def Reg.NSW_PORT_LINK (i : Nat) : Fld := ⟨0x060014 + 0x8 * i, 0, 1⟩
def Reg.NSW_RED_SUP_S (i : Nat) : Fld := ⟨0x060030 + 0x8 * i, 24, 8⟩
def Reg.NSW_RED_MODE (i : Nat) : Fld := ⟨0x060030 + 0x8 * i, 0, 2⟩
def Reg.NSW_RED_NODES (i : Nat) : Fld := ⟨0x060034 + 0x8 * i, 16, 16⟩
def Reg.NSW_RED_PATH_B (i : Nat) : Fld := ⟨0x060034 + 0x8 * i, 1, 1⟩
def Reg.NSW_RED_PATH_A (i : Nat) : Fld := ⟨0x060034 + 0x8 * i, 0, 1⟩
def Reg.NSW_RXBUF_CLASH : Fld := ⟨0x060040, 31, 1⟩
def Reg.NSW_RXBUF_BASE : Fld := ⟨0x060040, 18, 9⟩
def Reg.NSW_RXBUF_DLOG : Fld := ⟨0x060040, 0, 3⟩
def Reg.NSW_SRC_MAC_LO : Fld := ⟨0x060048, 0, 32⟩
def Reg.NSW_SRC_MAC_HI : Fld := ⟨0x06004C, 0, 16⟩
def Reg.NSW_SRC_IPV4 : Fld := ⟨0x060050, 0, 32⟩
def Reg.NSW_SRC_PCP : Fld := ⟨0x060054, 29, 3⟩
def Reg.NSW_SRC_TAGGED : Fld := ⟨0x060054, 28, 1⟩
def Reg.NSW_SRC_VID : Fld := ⟨0x060054, 16, 12⟩
def Reg.NSW_SRC_ANN_PORTS : Fld := ⟨0x060054, 12, 4⟩
def Reg.NSW_SRC_TTL : Fld := ⟨0x060054, 0, 8⟩
def Reg.NSW_GROUP_PRES_US (i : Nat) : Fld := ⟨0x060080 + 0x4 * i, 0, 12⟩
def Reg.NSW_GROUP_STAT_SILENT : Fld := ⟨0x0600C0, 16, 16⟩
def Reg.NSW_GROUP_STAT_DEGRADED : Fld := ⟨0x0600C0, 0, 16⟩
def Reg.NSW_SI_EN (i : Nat) : Fld := ⟨0x061000 + 0x20 * i, 31, 1⟩
def Reg.NSW_SI_FMT (i : Nat) : Fld := ⟨0x061000 + 0x20 * i, 24, 3⟩
def Reg.NSW_SI_GROUP (i : Nat) : Fld := ⟨0x061000 + 0x20 * i, 20, 4⟩
def Reg.NSW_SI_NCH (i : Nat) : Fld := ⟨0x061000 + 0x20 * i, 10, 7⟩
def Reg.NSW_SI_FIRST (i : Nat) : Fld := ⟨0x061000 + 0x20 * i, 0, 10⟩
def Reg.NSW_SI_UDP_PORT (i : Nat) : Fld := ⟨0x061004 + 0x20 * i, 16, 16⟩
def Reg.NSW_SI_TAGGED (i : Nat) : Fld := ⟨0x061004 + 0x20 * i, 12, 1⟩
def Reg.NSW_SI_VID (i : Nat) : Fld := ⟨0x061004 + 0x20 * i, 0, 12⟩
def Reg.NSW_SI_ADDR0 (i : Nat) : Fld := ⟨0x061008 + 0x20 * i, 0, 32⟩
def Reg.NSW_SI_ADDR1 (i : Nat) : Fld := ⟨0x06100C + 0x20 * i, 0, 32⟩
def Reg.NSW_SI_SRC_IP (i : Nat) : Fld := ⟨0x061010 + 0x20 * i, 0, 32⟩
def Reg.NSW_SI_PT (i : Nat) : Fld := ⟨0x061014 + 0x20 * i, 0, 7⟩
def Reg.NSW_SO_EN (i : Nat) : Fld := ⟨0x062000 + 0x20 * i, 31, 1⟩
def Reg.NSW_SO_FMT (i : Nat) : Fld := ⟨0x062000 + 0x20 * i, 24, 3⟩
def Reg.NSW_SO_SPP (i : Nat) : Fld := ⟨0x062000 + 0x20 * i, 18, 6⟩
def Reg.NSW_SO_NCH (i : Nat) : Fld := ⟨0x062000 + 0x20 * i, 10, 7⟩
def Reg.NSW_SO_FIRST (i : Nat) : Fld := ⟨0x062000 + 0x20 * i, 0, 10⟩
def Reg.NSW_SO_UDP_PORT (i : Nat) : Fld := ⟨0x062004 + 0x20 * i, 16, 16⟩
def Reg.NSW_SO_PCP (i : Nat) : Fld := ⟨0x062004 + 0x20 * i, 13, 3⟩
def Reg.NSW_SO_TAGGED (i : Nat) : Fld := ⟨0x062004 + 0x20 * i, 12, 1⟩
def Reg.NSW_SO_VID (i : Nat) : Fld := ⟨0x062004 + 0x20 * i, 0, 12⟩
def Reg.NSW_SO_ADDR0 (i : Nat) : Fld := ⟨0x062008 + 0x20 * i, 0, 32⟩
def Reg.NSW_SO_ADDR1 (i : Nat) : Fld := ⟨0x06200C + 0x20 * i, 0, 32⟩
def Reg.NSW_SO_MTT_US (i : Nat) : Fld := ⟨0x062010 + 0x20 * i, 16, 16⟩
def Reg.NSW_SO_PORTS (i : Nat) : Fld := ⟨0x062010 + 0x20 * i, 12, 4⟩
def Reg.NSW_SO_PT (i : Nat) : Fld := ⟨0x062010 + 0x20 * i, 0, 7⟩
def Reg.NSW_SO_SSRC (i : Nat) : Fld := ⟨0x062014 + 0x20 * i, 0, 32⟩
def Reg.NSW_SO_DMAC_LO (i : Nat) : Fld := ⟨0x062018 + 0x20 * i, 0, 32⟩
def Reg.NSW_SO_DMAC_HI (i : Nat) : Fld := ⟨0x06201C + 0x20 * i, 0, 16⟩
def Reg.NSW_TXMAP_OC (i : Nat) : Fld := ⟨0x063000 + 0x4 * i, 0, 11⟩
def Reg.NSW_SI_STAT_RX_PKT (i : Nat) : Fld := ⟨0x064000 + 0x10 * i, 0, 32⟩
def Reg.NSW_SI_STAT_LATE_PKT (i : Nat) : Fld := ⟨0x064004 + 0x10 * i, 16, 16⟩
def Reg.NSW_SI_STAT_EARLY_PKT (i : Nat) : Fld := ⟨0x064004 + 0x10 * i, 0, 16⟩
def Reg.NSW_SI_STAT_BAD_PKT (i : Nat) : Fld := ⟨0x064008 + 0x10 * i, 16, 16⟩
def Reg.NSW_SI_STAT_SEQ_GAP (i : Nat) : Fld := ⟨0x064008 + 0x10 * i, 0, 16⟩
def Reg.NSW_SI_STAT_UNDERRUN (i : Nat) : Fld := ⟨0x06400C + 0x10 * i, 16, 16⟩
def Reg.NSW_SI_STAT_STATE (i : Nat) : Fld := ⟨0x06400C + 0x10 * i, 0, 3⟩
def Reg.NSW_SO_STAT_TX_PKT (i : Nat) : Fld := ⟨0x064800 + 0x10 * i, 0, 32⟩
def Reg.NSW_SO_STAT_QDROP (i : Nat) : Fld := ⟨0x064804 + 0x10 * i, 16, 16⟩
def Reg.NSW_SO_STAT_SEQ (i : Nat) : Fld := ⟨0x064804 + 0x10 * i, 0, 16⟩
def Reg.NSW_SO_STAT_STATE (i : Nat) : Fld := ⟨0x06480C + 0x10 * i, 0, 3⟩
def Reg.NSW_PCNT_RX_FRAMES (i : Nat) : Fld := ⟨0x065000 + 0x20 * i, 0, 32⟩
def Reg.NSW_PCNT_TX_FRAMES (i : Nat) : Fld := ⟨0x065004 + 0x20 * i, 0, 32⟩
def Reg.NSW_PCNT_RX_ERR (i : Nat) : Fld := ⟨0x065008 + 0x20 * i, 16, 16⟩
def Reg.NSW_PCNT_RX_FILT (i : Nat) : Fld := ⟨0x065008 + 0x20 * i, 0, 16⟩
def Reg.NSW_PCNT_TX_DROP (i : Nat) : Fld := ⟨0x06500C + 0x20 * i, 0, 16⟩
def Reg.NSW_PCNT_RED_DUP (i : Nat) : Fld := ⟨0x065010 + 0x20 * i, 16, 16⟩
def Reg.NSW_PCNT_RED_WRONG_LAN (i : Nat) : Fld := ⟨0x065010 + 0x20 * i, 0, 16⟩
def Reg.NSW_PCNT_RED_OVF (i : Nat) : Fld := ⟨0x065014 + 0x20 * i, 16, 16⟩
def Reg.TKP_CTL_SNAP : Fld := ⟨0x050000, 5, 1⟩
def Reg.TKP_CTL_RESTEP : Fld := ⟨0x050000, 4, 1⟩
def Reg.TKP_CTL_AUTO : Fld := ⟨0x050000, 1, 1⟩
def Reg.TKP_CTL_SEL : Fld := ⟨0x050000, 0, 1⟩
def Reg.TKP_CFG_JOIN : Fld := ⟨0x050004, 28, 1⟩
def Reg.TKP_CFG_BW : Fld := ⟨0x050004, 24, 3⟩
def Reg.TKP_CFG_SEAM_US : Fld := ⟨0x050004, 16, 8⟩
def Reg.TKP_CFG_SLEW : Fld := ⟨0x050004, 8, 8⟩
def Reg.TKP_CFG_FREE_S : Fld := ⟨0x050004, 0, 8⟩
def Reg.TKP_STAT_EPOCH : Fld := ⟨0x050008, 8, 2⟩
def Reg.TKP_STAT_OFF_FAR : Fld := ⟨0x050008, 7, 1⟩
def Reg.TKP_STAT_STEPPED : Fld := ⟨0x050008, 6, 1⟩
def Reg.TKP_STAT_SLEWING : Fld := ⟨0x050008, 5, 1⟩
def Reg.TKP_STAT_SEL_LIVE : Fld := ⟨0x050008, 4, 1⟩
def Reg.TKP_STAT_STATE : Fld := ⟨0x050008, 0, 3⟩
def Reg.TKP_DOM_EN (i : Nat) : Fld := ⟨0x050010 + 0x20 * i, 31, 1⟩
def Reg.TKP_DOM_PROFILE (i : Nat) : Fld := ⟨0x050010 + 0x20 * i, 24, 3⟩
def Reg.TKP_DOM_DNUM (i : Nat) : Fld := ⟨0x050010 + 0x20 * i, 16, 8⟩
def Reg.TKP_DOM_PORT (i : Nat) : Fld := ⟨0x050010 + 0x20 * i, 12, 2⟩
def Reg.TKP_DOM_LOSS (i : Nat) : Fld := ⟨0x050010 + 0x20 * i, 8, 4⟩
def Reg.TKP_DOM_STEPS_RM (i : Nat) : Fld := ⟨0x050014 + 0x20 * i, 24, 8⟩
def Reg.TKP_DOM_DSTATE (i : Nat) : Fld := ⟨0x050014 + 0x20 * i, 0, 3⟩
def Reg.TKP_DOM_OFFSET (i : Nat) : Fld := ⟨0x050018 + 0x20 * i, 0, 32⟩
def Reg.TKP_DOM_RATE (i : Nat) : Fld := ⟨0x05001C + 0x20 * i, 0, 32⟩
def Reg.TKP_DOM_MPD (i : Nat) : Fld := ⟨0x050020 + 0x20 * i, 0, 32⟩
def Reg.TKP_DOM_SYNC_CNT (i : Nat) : Fld := ⟨0x050024 + 0x20 * i, 0, 32⟩
def Reg.TKP_DOM_GM_LO (i : Nat) : Fld := ⟨0x050028 + 0x20 * i, 0, 32⟩
def Reg.TKP_DOM_GM_HI (i : Nat) : Fld := ⟨0x05002C + 0x20 * i, 0, 32⟩
def Reg.TKP_NS_TSC : Fld := ⟨0x050050, 0, 32⟩
def Reg.TKP_WRAP_HI_HI : Fld := ⟨0x050054, 0, 32⟩
def Reg.TKP_SNAP_TSC : Fld := ⟨0x050058, 0, 32⟩
def Reg.TKP_SNAP_HI : Fld := ⟨0x05005C, 0, 32⟩
def Reg.TKP_SNAP_EPOCH : Fld := ⟨0x050060, 0, 2⟩
def Reg.TKP_SNAP_FRAME : Fld := ⟨0x050064, 0, 32⟩
def Reg.TKP_BND_TSC : Fld := ⟨0x050068, 0, 32⟩
def Reg.TKP_SNAP_FHI_FRAME_HI : Fld := ⟨0x05006C, 0, 32⟩
def Reg.TKP_TSQ_TS_TS : Fld := ⟨0x050070, 0, 32⟩
def Reg.TKP_TSQ_ID_SEQ : Fld := ⟨0x050074, 16, 16⟩
def Reg.TKP_TSQ_ID_MSGTYPE : Fld := ⟨0x050074, 12, 4⟩
def Reg.TKP_TSQ_ID_PORT : Fld := ⟨0x050074, 10, 2⟩
def Reg.TKP_TSQ_ID_SLOT : Fld := ⟨0x050074, 9, 1⟩
def Reg.TKP_TSQ_ID_EPOCH : Fld := ⟨0x050074, 7, 2⟩
def Reg.TKP_TSQ_ID_VALID : Fld := ⟨0x050074, 0, 1⟩
def Reg.TKP_TSQ_STAT_LOST : Fld := ⟨0x050078, 16, 16⟩
def Reg.TKP_TSQ_STAT_OVF : Fld := ⟨0x050078, 7, 1⟩
def Reg.TKP_TSQ_STAT_LEVEL : Fld := ⟨0x050078, 0, 7⟩
def Reg.TKP_ASYM_ASYM (i : Nat) : Fld := ⟨0x050080 + 0x4 * i, 0, 16⟩
def Reg.SAP_CFG_EN (i : Nat) : Fld := ⟨0x070000 + 0x20 * i, 31, 1⟩
def Reg.SAP_CFG_DIR (i : Nat) : Fld := ⟨0x070000 + 0x20 * i, 30, 1⟩
def Reg.SAP_CFG_SLAVE (i : Nat) : Fld := ⟨0x070000 + 0x20 * i, 29, 1⟩
def Reg.SAP_CFG_ROLE_GATE (i : Nat) : Fld := ⟨0x070000 + 0x20 * i, 28, 1⟩
def Reg.SAP_CFG_HIZ (i : Nat) : Fld := ⟨0x070000 + 0x20 * i, 27, 1⟩
def Reg.SAP_CFG_PACK (i : Nat) : Fld := ⟨0x070000 + 0x20 * i, 26, 1⟩
def Reg.SAP_CFG_FMT (i : Nat) : Fld := ⟨0x070000 + 0x20 * i, 24, 2⟩
def Reg.SAP_CFG_SLOTS (i : Nat) : Fld := ⟨0x070000 + 0x20 * i, 21, 3⟩
def Reg.SAP_CFG_SW (i : Nat) : Fld := ⟨0x070000 + 0x20 * i, 19, 2⟩
def Reg.SAP_CFG_WL (i : Nat) : Fld := ⟨0x070000 + 0x20 * i, 17, 2⟩
def Reg.SAP_CFG_FSPOL (i : Nat) : Fld := ⟨0x070000 + 0x20 * i, 16, 1⟩
def Reg.SAP_CFG_FSW (i : Nat) : Fld := ⟨0x070000 + 0x20 * i, 15, 1⟩
def Reg.SAP_CFG_DLY (i : Nat) : Fld := ⟨0x070000 + 0x20 * i, 14, 1⟩
def Reg.SAP_CFG_BEDGE (i : Nat) : Fld := ⟨0x070000 + 0x20 * i, 13, 1⟩
def Reg.SAP_CFG_MCLK (i : Nat) : Fld := ⟨0x070000 + 0x20 * i, 11, 2⟩
def Reg.SAP_SLOT_MASK (i : Nat) : Fld := ⟨0x070004 + 0x20 * i, 0, 32⟩
def Reg.SAP_ST_CLK_OK (i : Nat) : Fld := ⟨0x070008 + 0x20 * i, 31, 1⟩
def Reg.SAP_ST_STATE (i : Nat) : Fld := ⟨0x070008 + 0x20 * i, 28, 3⟩
def Reg.SAP_ST_PHASE (i : Nat) : Fld := ⟨0x070008 + 0x20 * i, 0, 11⟩
def Reg.SAP_CNT_SLIP (i : Nat) : Fld := ⟨0x07000C + 0x20 * i, 16, 16⟩
def Reg.SAP_CNT_LOSS (i : Nat) : Fld := ⟨0x07000C + 0x20 * i, 8, 8⟩
def Reg.SAP_CNT_FRM_ERR (i : Nat) : Fld := ⟨0x07000C + 0x20 * i, 0, 8⟩
def Reg.SAP_PBUF_CLASH : Fld := ⟨0x070200, 31, 1⟩
def Reg.SAP_PBUF_BASE : Fld := ⟨0x070200, 18, 9⟩
def Reg.SAP_PBUF_DLOG : Fld := ⟨0x070200, 0, 2⟩
def Reg.SAP_TXMAP_OC (i : Nat) : Fld := ⟨0x071000 + 0x4 * i, 0, 11⟩
def Reg.AES_CFG_RX_EN (i : Nat) : Fld := ⟨0x080000 + 0x20 * i, 31, 1⟩
def Reg.AES_CFG_TX_EN (i : Nat) : Fld := ⟨0x080000 + 0x20 * i, 30, 1⟩
def Reg.AES_CFG_TX_SLAVE (i : Nat) : Fld := ⟨0x080000 + 0x20 * i, 29, 1⟩
def Reg.AES_CFG_ROLE_GATE (i : Nat) : Fld := ⟨0x080000 + 0x20 * i, 28, 1⟩
def Reg.AES_CFG_PACK (i : Nat) : Fld := ⟨0x080000 + 0x20 * i, 27, 1⟩
def Reg.AES_CFG_AUTOCRC (i : Nat) : Fld := ⟨0x080000 + 0x20 * i, 26, 1⟩
def Reg.AES_TXMAP_OCB (i : Nat) : Fld := ⟨0x080004 + 0x20 * i, 16, 11⟩
def Reg.AES_TXMAP_OCA (i : Nat) : Fld := ⟨0x080004 + 0x20 * i, 0, 11⟩
def Reg.AES_ST_LOCK (i : Nat) : Fld := ⟨0x080008 + 0x20 * i, 30, 2⟩
def Reg.AES_ST_STATE (i : Nat) : Fld := ⟨0x080008 + 0x20 * i, 27, 3⟩
def Reg.AES_ST_TXSTATE (i : Nat) : Fld := ⟨0x080008 + 0x20 * i, 24, 3⟩
def Reg.AES_ST_CS_PRO (i : Nat) : Fld := ⟨0x080008 + 0x20 * i, 23, 1⟩
def Reg.AES_ST_RATE_ERR (i : Nat) : Fld := ⟨0x080008 + 0x20 * i, 22, 1⟩
def Reg.AES_ST_PHASE (i : Nat) : Fld := ⟨0x080008 + 0x20 * i, 0, 11⟩
def Reg.AES_CNT0_PAR_ERR (i : Nat) : Fld := ⟨0x08000C + 0x20 * i, 16, 16⟩
def Reg.AES_CNT0_SLIP (i : Nat) : Fld := ⟨0x08000C + 0x20 * i, 0, 16⟩
def Reg.AES_CNT1_BLK_ERR (i : Nat) : Fld := ⟨0x080010 + 0x20 * i, 16, 16⟩
def Reg.AES_CNT1_CS_CRC (i : Nat) : Fld := ⟨0x080010 + 0x20 * i, 0, 16⟩
def Reg.AES_CSSEQ_SEQ (i : Nat) : Fld := ⟨0x080014 + 0x20 * i, 0, 16⟩
def Reg.SFB_CTL_LAT : Fld := ⟨0x090000, 4, 2⟩
def Reg.SFB_CTL_MODCLK : Fld := ⟨0x090000, 1, 2⟩
def Reg.SFB_CTL_EN : Fld := ⟨0x090000, 0, 1⟩
def Reg.SFB_ST_RUN : Fld := ⟨0x090004, 31, 1⟩
def Reg.SFB_ST_CLK_OK : Fld := ⟨0x090004, 30, 1⟩
def Reg.SFB_ST_DRIVING : Fld := ⟨0x090004, 29, 1⟩
def Reg.SFB_ST_SETTLED : Fld := ⟨0x090004, 0, 8⟩
def Reg.SFB_CNT_GAPS : Fld := ⟨0x090008, 16, 16⟩
def Reg.SFB_CNT_RESTARTS : Fld := ⟨0x090008, 0, 16⟩
def Reg.SFB_SBUF_CLASH : Fld := ⟨0x09000C, 31, 1⟩
def Reg.SFB_SBUF_BASE : Fld := ⟨0x09000C, 18, 9⟩
def Reg.SFB_SBUF_DLOG : Fld := ⟨0x09000C, 0, 2⟩
def Reg.SFB_CH_EN (i : Nat) : Fld := ⟨0x091000 + 0x10 * i, 31, 1⟩
def Reg.SFB_CH_RESP (i : Nat) : Fld := ⟨0x091000 + 0x10 * i, 8, 4⟩
def Reg.SFB_CH_SRC (i : Nat) : Fld := ⟨0x091000 + 0x10 * i, 0, 7⟩
def Reg.SFB_CH_MODE (i : Nat) : Fld := ⟨0x091004 + 0x10 * i, 30, 2⟩
def Reg.SFB_CH_K (i : Nat) : Fld := ⟨0x091004 + 0x10 * i, 24, 4⟩
def Reg.SFB_CH_M (i : Nat) : Fld := ⟨0x091004 + 0x10 * i, 20, 4⟩
def Reg.SFB_CH_HYST (i : Nat) : Fld := ⟨0x091004 + 0x10 * i, 10, 10⟩
def Reg.SFB_CH_TH (i : Nat) : Fld := ⟨0x091004 + 0x10 * i, 0, 10⟩
def Reg.SFB_CH_B (i : Nat) : Fld := ⟨0x091008 + 0x10 * i, 0, 32⟩
def Reg.SFB_CH_TRIPA (i : Nat) : Fld := ⟨0x09100C + 0x10 * i, 31, 1⟩
def Reg.SFB_CH_TRIPB (i : Nat) : Fld := ⟨0x09100C + 0x10 * i, 30, 1⟩
def Reg.SFB_CH_TRIP_DRV (i : Nat) : Fld := ⟨0x09100C + 0x10 * i, 0, 6⟩
def Reg.SFB_CHST_STATE (i : Nat) : Fld := ⟨0x092000 + 0x4 * i, 30, 2⟩
def Reg.SFB_CHST_QA (i : Nat) : Fld := ⟨0x092000 + 0x4 * i, 29, 1⟩
def Reg.SFB_CHST_QB (i : Nat) : Fld := ⟨0x092000 + 0x4 * i, 28, 1⟩
def Reg.SFB_CHST_FVALID (i : Nat) : Fld := ⟨0x092000 + 0x4 * i, 27, 1⟩
def Reg.SFB_CHST_RVALID (i : Nat) : Fld := ⟨0x092000 + 0x4 * i, 26, 1⟩
def Reg.SFB_CHST_RAIL (i : Nat) : Fld := ⟨0x092000 + 0x4 * i, 0, 24⟩
def Reg.SFB_HIT_A_HIT (i : Nat) : Fld := ⟨0x092200 + 0x4 * i, 0, 32⟩
def Reg.SFB_HIT_B_HIT (i : Nat) : Fld := ⟨0x092210 + 0x4 * i, 0, 32⟩
def Reg.DRV_CTL_EN : Fld := ⟨0x0A0000, 31, 1⟩
def Reg.DRV_CTL_MINP : Fld := ⟨0x0A0000, 16, 8⟩
def Reg.DRV_CTL_EDGE : Fld := ⟨0x0A0000, 8, 2⟩
def Reg.DRV_CTL_CAR : Fld := ⟨0x0A0000, 4, 1⟩
def Reg.DRV_CTL_INTERP : Fld := ⟨0x0A0000, 2, 1⟩
def Reg.DRV_ST_RUN : Fld := ⟨0x0A0004, 31, 1⟩
def Reg.DRV_ST_OWN : Fld := ⟨0x0A0004, 30, 1⟩
def Reg.DRV_ST_MUTE_FC : Fld := ⟨0x0A0004, 29, 1⟩
def Reg.DRV_ST_SAVE : Fld := ⟨0x0A0004, 28, 1⟩
def Reg.DRV_ST_PLAYING : Fld := ⟨0x0A0004, 0, 7⟩
def Reg.DRV_CH_EN (i : Nat) : Fld := ⟨0x0A1000 + 0x10 * i, 31, 1⟩
def Reg.DRV_CH_MUTE (i : Nat) : Fld := ⟨0x0A1000 + 0x10 * i, 30, 1⟩
def Reg.DRV_CH_CMR (i : Nat) : Fld := ⟨0x0A1000 + 0x10 * i, 24, 3⟩
def Reg.DRV_CH_GRAMP (i : Nat) : Fld := ⟨0x0A1000 + 0x10 * i, 20, 2⟩
def Reg.DRV_CH_OC (i : Nat) : Fld := ⟨0x0A1000 + 0x10 * i, 0, 11⟩
def Reg.DRV_CH_FFEN (i : Nat) : Fld := ⟨0x0A1004 + 0x10 * i, 31, 1⟩
def Reg.DRV_CH_SAGEN (i : Nat) : Fld := ⟨0x0A1004 + 0x10 * i, 30, 1⟩
def Reg.DRV_CH_SLOSS (i : Nat) : Fld := ⟨0x0A1004 + 0x10 * i, 28, 2⟩
def Reg.DRV_CH_PROT (i : Nat) : Fld := ⟨0x0A1004 + 0x10 * i, 27, 1⟩
def Reg.DRV_CH_SRSH (i : Nat) : Fld := ⟨0x0A1004 + 0x10 * i, 16, 4⟩
def Reg.DRV_CH_SAGRC (i : Nat) : Fld := ⟨0x0A1004 + 0x10 * i, 0, 16⟩
def Reg.DRV_CH_RAILCH (i : Nat) : Fld := ⟨0x0A1008 + 0x10 * i, 24, 7⟩
def Reg.DRV_CH_RNOM (i : Nat) : Fld := ⟨0x0A1008 + 0x10 * i, 0, 24⟩
def Reg.DRV_CH_LATCH_S (i : Nat) : Fld := ⟨0x0A100C + 0x10 * i, 20, 8⟩
def Reg.DRV_CH_LATCH_N (i : Nat) : Fld := ⟨0x0A100C + 0x10 * i, 16, 4⟩
def Reg.DRV_CH_HOLDOFF (i : Nat) : Fld := ⟨0x0A100C + 0x10 * i, 0, 16⟩
def Reg.DRV_CHST_STATE (i : Nat) : Fld := ⟨0x0A2000 + 0x8 * i, 29, 3⟩
def Reg.DRV_CHST_REQ (i : Nat) : Fld := ⟨0x0A2000 + 0x8 * i, 28, 1⟩
def Reg.DRV_CHST_SLOST (i : Nat) : Fld := ⟨0x0A2000 + 0x8 * i, 27, 1⟩
def Reg.DRV_CHST_GS (i : Nat) : Fld := ⟨0x0A2000 + 0x8 * i, 0, 24⟩
def Reg.DRV_CHST_TRIPS (i : Nat) : Fld := ⟨0x0A2004 + 0x8 * i, 24, 8⟩
def Reg.DRV_CHST_NOTRIPS (i : Nat) : Fld := ⟨0x0A2004 + 0x8 * i, 16, 8⟩
def Reg.DRV_CHST_CLIPP (i : Nat) : Fld := ⟨0x0A2004 + 0x8 * i, 0, 16⟩
def Reg.DRV_LATCHED_LATCHED (i : Nat) : Fld := ⟨0x0A3000 + 0x4 * i, 0, 32⟩
def Reg.DRV_UNLATCH_UNLATCH (i : Nat) : Fld := ⟨0x0A3010 + 0x4 * i, 0, 32⟩
def Reg.FC_FIRST_VALID : Fld := ⟨0x020000, 31, 1⟩
def Reg.FC_FIRST_OVF : Fld := ⟨0x020000, 30, 1⟩
def Reg.FC_FIRST_CLASS : Fld := ⟨0x020000, 28, 2⟩
def Reg.FC_FIRST_RESUMED : Fld := ⟨0x020000, 20, 1⟩
def Reg.FC_FIRST_CLEARED : Fld := ⟨0x020000, 19, 1⟩
def Reg.FC_FIRST_ASYNC : Fld := ⟨0x020000, 18, 1⟩
def Reg.FC_FIRST_RAIL : Fld := ⟨0x020000, 16, 2⟩
def Reg.FC_FIRST_SRC : Fld := ⟨0x020000, 0, 8⟩
def Reg.FC_FIRST_TS_TS : Fld := ⟨0x020004, 0, 32⟩
def Reg.FC_FIRST_FRAME_FRAME : Fld := ⟨0x020008, 0, 32⟩
def Reg.FC_AON_NOW_NOW : Fld := ⟨0x02000C, 0, 32⟩
def Reg.FC_STAT_WINDOWS : Fld := ⟨0x020010, 8, 8⟩
def Reg.FC_STAT_MUTE : Fld := ⟨0x020010, 4, 1⟩
def Reg.FC_STAT_SAFE : Fld := ⟨0x020010, 0, 3⟩
def Reg.FC_SHADOW_COUNT_COUNT : Fld := ⟨0x020014, 0, 16⟩
def Reg.FC_PEND_PEND (i : Nat) : Fld := ⟨0x020020 + 0x4 * i, 0, 32⟩
def Reg.FC_LIVE_LIVE (i : Nat) : Fld := ⟨0x020040 + 0x4 * i, 0, 32⟩
def Reg.FC_HELD_HELD (i : Nat) : Fld := ⟨0x020060 + 0x4 * i, 0, 32⟩
def Reg.FC_SHADOW_SHADOW (i : Nat) : Fld := ⟨0x020080 + 0x4 * i, 0, 32⟩
def Reg.FC_SRC_MIN (i : Nat) : Fld := ⟨0x020400 + 0x8 * i, 30, 2⟩
def Reg.FC_SRC_CLASS (i : Nat) : Fld := ⟨0x020400 + 0x8 * i, 28, 2⟩
def Reg.FC_SRC_U (i : Nat) : Fld := ⟨0x020400 + 0x8 * i, 27, 1⟩
def Reg.FC_SRC_AUTO (i : Nat) : Fld := ⟨0x020400 + 0x8 * i, 26, 1⟩
def Reg.FC_SRC_HOLD (i : Nat) : Fld := ⟨0x020400 + 0x8 * i, 16, 8⟩
def Reg.FC_SRC_GROUPS (i : Nat) : Fld := ⟨0x020400 + 0x8 * i, 8, 3⟩
def Reg.FC_SRC_MINGRP (i : Nat) : Fld := ⟨0x020400 + 0x8 * i, 0, 3⟩
def Reg.FC_SRC_COUNT (i : Nat) : Fld := ⟨0x020404 + 0x8 * i, 16, 16⟩
def Reg.FC_SRC_CQWIN (i : Nat) : Fld := ⟨0x020404 + 0x8 * i, 0, 12⟩
def Reg.TWN_CTL_EN : Fld := ⟨0x0D0000, 31, 1⟩
def Reg.TWN_CTL_OWN_EN : Fld := ⟨0x0D0000, 30, 1⟩
def Reg.TWN_CTL_AUTO_RESYNC : Fld := ⟨0x0D0000, 29, 1⟩
def Reg.TWN_CTL_SUSPECT_TAKE : Fld := ⟨0x0D0000, 28, 1⟩
def Reg.TWN_CFG_RESYNC : Fld := ⟨0x0D0004, 16, 8⟩
def Reg.TWN_CFG_HBLOSS : Fld := ⟨0x0D0004, 8, 8⟩
def Reg.TWN_CFG_JWAIT : Fld := ⟨0x0D0004, 0, 8⟩
def Reg.TWN_ST_ROLE : Fld := ⟨0x0D0008, 29, 3⟩
def Reg.TWN_ST_PEER_ROLE : Fld := ⟨0x0D0008, 26, 3⟩
def Reg.TWN_ST_OWN : Fld := ⟨0x0D0008, 25, 1⟩
def Reg.TWN_ST_ELIG : Fld := ⟨0x0D0008, 24, 1⟩
def Reg.TWN_ST_PEER_ELIG : Fld := ⟨0x0D0008, 23, 1⟩
def Reg.TWN_ST_PEER_P : Fld := ⟨0x0D0008, 22, 1⟩
def Reg.TWN_ST_PEER_N : Fld := ⟨0x0D0008, 21, 1⟩
def Reg.TWN_ST_LINK : Fld := ⟨0x0D0008, 19, 2⟩
def Reg.TWN_ST_HB_OK : Fld := ⟨0x0D0008, 18, 1⟩
def Reg.TWN_ST_HAYSYNC : Fld := ⟨0x0D0008, 17, 1⟩
def Reg.TWN_ST_WARM : Fld := ⟨0x0D0008, 16, 1⟩
def Reg.TWN_ST_COLD : Fld := ⟨0x0D0008, 15, 1⟩
def Reg.TWN_ST_SENIOR : Fld := ⟨0x0D0008, 14, 1⟩
def Reg.TWN_ST_CONFLICT : Fld := ⟨0x0D0008, 13, 1⟩
def Reg.TWN_ST_FWD_OVER : Fld := ⟨0x0D0008, 12, 1⟩
def Reg.TWN_ST_UNATTR : Fld := ⟨0x0D0008, 10, 2⟩
def Reg.TWN_ST_RESYNC : Fld := ⟨0x0D0008, 9, 1⟩
def Reg.TWN_CNT0_CRC_ERR : Fld := ⟨0x0D000C, 16, 16⟩
def Reg.TWN_CNT0_RESENT : Fld := ⟨0x0D000C, 0, 16⟩
def Reg.TWN_CNT1_DOWNS : Fld := ⟨0x0D0010, 24, 8⟩
def Reg.TWN_CNT1_TAKES : Fld := ⟨0x0D0010, 16, 8⟩
def Reg.TWN_CNT1_MISMATCH : Fld := ⟨0x0D0010, 8, 8⟩
def Reg.TWN_CNT1_UNATTR : Fld := ⟨0x0D0010, 0, 8⟩
def Reg.TWN_MM_FRAME_FRAME : Fld := ⟨0x0D0014, 0, 32⟩
def Reg.TWN_MM_VALID : Fld := ⟨0x0D0018, 31, 1⟩
def Reg.TWN_MM_OUT : Fld := ⟨0x0D0018, 30, 1⟩
def Reg.TWN_MM_BUS : Fld := ⟨0x0D0018, 29, 1⟩
def Reg.TWN_MM_MIR : Fld := ⟨0x0D0018, 28, 1⟩
def Reg.TWN_MM_ATTR : Fld := ⟨0x0D0018, 26, 2⟩
def Reg.TWN_MM_PRE : Fld := ⟨0x0D0018, 25, 1⟩
def Reg.TWN_REFRESH_PASS : Fld := ⟨0x0D001C, 16, 16⟩
def Reg.TWN_REFRESH_NEXT : Fld := ⟨0x0D001C, 0, 15⟩
def Reg.TWN_TAKE_FRAME_FRAME : Fld := ⟨0x0D0020, 0, 32⟩
def Reg.TWN_TAKE_VALID : Fld := ⟨0x0D0024, 31, 1⟩
def Reg.TWN_TAKE_FROM : Fld := ⟨0x0D0024, 28, 3⟩
def Reg.TWN_TAKE_DROP : Fld := ⟨0x0D0024, 25, 3⟩
def Reg.TWN_TAKE_GAP : Fld := ⟨0x0D0024, 0, 12⟩
def Reg.TWN_PEER_CAP_CAP_LO : Fld := ⟨0x0D0028, 0, 32⟩
def Reg.TWN_PEER_CAP_CAP_HI : Fld := ⟨0x0D002C, 0, 32⟩
def Reg.PWR_CTL_WARM : Fld := ⟨0x0E0000, 0, 1⟩
def Reg.PWR_BLKRST_BLK : Fld := ⟨0x0E0004, 6, 12⟩
def Reg.PWR_BLKRST_BARN : Fld := ⟨0x0E0004, 0, 6⟩
def Reg.PWR_CFG_TWARN : Fld := ⟨0x0E0008, 0, 8⟩
def Reg.PWR_STAT_SAVE_WARN : Fld := ⟨0x0E000C, 31, 1⟩
def Reg.PWR_STAT_ARMED : Fld := ⟨0x0E000C, 30, 1⟩
def Reg.PWR_STAT_HOLD_OK : Fld := ⟨0x0E000C, 29, 1⟩
def Reg.PWR_STAT_TWARN_ON : Fld := ⟨0x0E000C, 28, 1⟩
def Reg.PWR_STAT_TCRIT_ON : Fld := ⟨0x0E000C, 27, 1⟩
def Reg.PWR_STAT_TJ : Fld := ⟨0x0E000C, 16, 8⟩
def Reg.PWR_STAT_RAIL_OK : Fld := ⟨0x0E000C, 0, 6⟩
def Reg.PWR_TACK_WAIT : Fld := ⟨0x0E0018, 31, 1⟩
def Reg.PWR_TACK_BACKLOG : Fld := ⟨0x0E0018, 16, 4⟩
def Reg.PWR_TACK_STAGED : Fld := ⟨0x0E0018, 0, 9⟩
def Reg.PWR_BOOT_SEL : Fld := ⟨0x0E0010, 30, 2⟩
def Reg.PWR_BOOT_SOURCE : Fld := ⟨0x0E0010, 28, 2⟩
def Reg.PWR_BOOT_RESULT : Fld := ⟨0x0E0010, 24, 4⟩
def Reg.PWR_BOOT_MS : Fld := ⟨0x0E0010, 0, 16⟩
def Reg.PWR_LAST_CAUSE : Fld := ⟨0x0E0014, 29, 3⟩
def Reg.PWR_LAST_IMAGE : Fld := ⟨0x0E0014, 27, 2⟩
def Reg.PWR_LAST_ROLE : Fld := ⟨0x0E0014, 24, 3⟩
def Reg.PWR_LAST_OWN : Fld := ⟨0x0E0014, 23, 1⟩
def Reg.PWR_LAST_PAGES_LOST : Fld := ⟨0x0E0014, 19, 4⟩
def Reg.PWR_LAST_UNKNOWN : Fld := ⟨0x0E0014, 0, 11⟩
def Reg.PWR_LAST_SAVE_SAVES : Fld := ⟨0x0E001C, 16, 16⟩
def Reg.PWR_LAST_SAVE_US : Fld := ⟨0x0E001C, 0, 10⟩

end Sys2Proof
end

