-- ==== Sys2Proof/Machine/Sparse.lean ====
section
/-! DEFINITION. Reading and writing sparse maps in their one canonical form. Registers, memories and every
indexed family of instances (stalls, channels, ports, sources) are held in maps of this kind. -/

namespace Sys2Proof

/-- The entry of key `k`, where the map lists one. -/
def Sparse.look {α : Type} : Sparse α → Nat → Option α
  | [], _ => none
  | (a, v) :: m, k => if k = a then some v else Sparse.look m k

/-- The value at key `k`; `d` is what the key reads as when nothing is listed for it. -/
def Sparse.get {α : Type} (m : Sparse α) (k : Nat) (d : α) : α := (Sparse.look m k).getD d

/-- The map without key `k`. -/
def Sparse.erase {α : Type} : Sparse α → Nat → Sparse α
  | [], _ => []
  | (a, v) :: m, k => if k = a then Sparse.erase m k else (a, v) :: Sparse.erase m k

/-- The map with `v` listed at key `k`, the keys still rising. -/
def Sparse.insert {α : Type} : Sparse α → Nat → α → Sparse α
  | [], k, v => [(k, v)]
  | (a, w) :: m, k, v =>
    if k < a then (k, v) :: (a, w) :: m
    else if k = a then (k, v) :: m
    else (a, w) :: Sparse.insert m k v

/-- Writing `v` at key `k`, where an unlisted `k` reads as `d`: writing `d` removes the entry. -/
def Sparse.put {α : Type} [DecidableEq α] (m : Sparse α) (k : Nat) (d v : α) : Sparse α :=
  if v = d then Sparse.erase m k else Sparse.insert m k v

/-- Every key of the map is above `k`. -/
def Sparse.above {α : Type} (k : Nat) (m : Sparse α) : Bool := m.all fun p => decide (k < p.1)

/-- The canonical form: keys rise strictly, and no entry equals what its key reads as unlisted. -/
def Sparse.wf {α : Type} [DecidableEq α] (d : Nat → α) : Sparse α → Bool
  | [] => true
  | (a, v) :: m => Sparse.above a m && decide (v ≠ d a) && Sparse.wf d m

/-- The keys listed, in rising order. -/
def Sparse.keys {α : Type} (m : Sparse α) : List Nat := m.map fun p => p.1

end Sys2Proof
end

