-- ==== Sys2Proof/Machine/RegMap.lean ====
section
/-! DEFINITION. Which units a variant has (spec 00_scope.md: R3 to R7, Table 00-2), which register word lies at a
window offset, and every register's reset value. -/

namespace Sys2Proof

/-- Number of stalls (Table 00-2). -/
def Variant.stalls : Variant → Nat
  | .bd9648 => 48 | .bd9632 => 32 | .bd9616 => 16
/-- Number of barns. -/
def Variant.barns : Variant → Nat
  | .bd9648 => 6 | .bd9632 => 4 | .bd9616 => 2
/-- Hayloft capacity in MiB. -/
def Variant.hayMib : Variant → Nat
  | .bd9648 => 128 | .bd9632 => 96 | .bd9616 => 32
/-- Number of hayloft matrix targets HAY0, HAY1, .... -/
def Variant.hays : Variant → Nat
  | .bd9648 => 8 | .bd9632 => 6 | .bd9616 => 2
/-- Number of drive stage channels. -/
def Variant.drvCh : Variant → Nat
  | .bd9648 => 64 | .bd9632 => 32 | .bd9616 => 0
/-- Number of sense filter bank inputs. -/
def Variant.snsIn : Variant → Nat
  | .bd9648 => 128 | .bd9632 => 64 | .bd9616 => 0
/-- Tether and twin unit present. -/
def Variant.tether : Variant → Bool
  | .bd9648 => true | .bd9632 => true | .bd9616 => false
/-- Number of external network ports. -/
def Variant.ports : Variant → Nat
  | .bd9648 => 4 | .bd9632 => 4 | .bd9616 => 2
/-- Number of serial audio ports. -/
def Variant.saps : Variant → Nat
  | .bd9648 => 16 | .bd9632 => 16 | .bd9616 => 8
/-- Number of AES3 ports. -/
def Variant.aess : Variant → Nat
  | .bd9648 => 8 | .bd9632 => 8 | .bd9616 => 4
/-- The fast matrix parks on the last master (TOP_CAP_UNITS.PARK_LAST). -/
def Variant.parkLast : Variant → Bool
  | .bd9648 => true | _ => false
/-- TOP_CAP_UNITS (R4, Table 00-3). -/
def Variant.cap : Variant → Nat
  | .bd9648 => 0x0131098040800630
  | .bd9632 => 0x0211094020600420
  | .bd9616 => 0x0308840000200210

/-- CLK_XFLAG[n].TYPE in place, from column Type of Table 02-8 (R68). -/
def Reg.xflagReset (n : Nat) : Nat :=
  if n = 0 then 0x10
  else if n ≤ 82 then 0x40
  else if n = 83 ∨ n = 85 then 0x30
  else if n = 84 ∨ n = 86 ∨ n = 87 then 0x20
  else if n ≤ 95 then 0x40
  else 0

/-- MTX_QOS[m] at reset (Tables 07-10 and 07-11). -/
def Reg.qosReset (m : Nat) : Nat :=
  if m ≤ 5 then 0x1F
  else match m with
  | 6 => 12 | 7 => 12 | 8 => 4 | 9 => 13 | 10 => 13 | 11 => 14 | 12 => 2 | 13 => 1 | 14 => 6 | 15 => 0x1F | _ => 0

/-- MTX_PARK[t] at reset (Table 07-13). -/
def Reg.parkReset (t : Nat) : Nat :=
  if t ≤ 13 then 0xF else if t = 14 then 0 else if t = 15 then 0xE else if t = 16 then 0x8 else 0

/-- The rows of the register block that holds window offset `off`. -/
def Reg.blockRows (off : Nat) : List RegRow :=
  match off / 0x10000 with
  | 0x0 => Reg.topRows
  | 0x1 => Reg.clkRows
  | 0x2 => Reg.fcRows
  | 0x3 => Reg.evuRows
  | 0x4 => Reg.cmdRows
  | 0x5 => Reg.tkpRows
  | 0x6 => Reg.nswRows
  | 0x7 => Reg.sapRows
  | 0x8 => Reg.aesRows
  | 0x9 => Reg.sfbRows
  | 0xA => Reg.drvRows
  | 0xB => Reg.mtxRows
  | 0xC => Reg.graphRows
  | 0xD => Reg.twnRows
  | 0xE => Reg.pwrRows
  | n => if 0x10 ≤ n ∧ n < 0x1C then Reg.stlRows else if n = 0x20 then Reg.meterRows else []

/-- Whether the row has an instance at `off`. -/
def RegRow.covers (r : RegRow) (off : Nat) : Bool :=
  if r.count = 1 then off == r.base
  else decide (r.base ≤ off) && (off - r.base) % r.stride == 0 && decide ((off - r.base) / r.stride < r.count)

/-- The index of the instance at `off`. -/
def RegRow.index (r : RegRow) (off : Nat) : Nat := if r.count = 1 then 0 else (off - r.base) / r.stride

/-- The first row of the list that covers `off`. -/
def Reg.findRow (off : Nat) : List RegRow → Option RegRow
  | [] => none
  | r :: rs => if r.covers off then some r else Reg.findRow off rs

/-- The register row at window offset `off` (none: reserved space). -/
def Reg.rowAt (off : Nat) : Option RegRow := Reg.findRow off (Reg.blockRows off)

/-- The value a reset rule gives instance `i`. -/
def ResetRule.value (i : Nat) : ResetRule → Nat
  | .const v => v
  | .idx => i
  | .idxDiv8 => i / 8
  | .xflag => Reg.xflagReset i
  | .qos => Reg.qosReset i
  | .park => Reg.parkReset i
  | .fcSrc => Fc.srcReset i
  | .fcCq w => if Fc.assigned i then Fc.maskWord i w else 0
  | .cap w => Variant.bd9648.cap / 2 ^ (32 * w) % 2 ^ 32

/-- Reset value of the register word at window offset `off`, as the field tables of spec/ give it. TOP_CAP_UNITS is read
from the variant (`State.regPeek`); fields loaded from fuses, straps or the tack room are written by the reset. -/
def Reg.reset (off : Nat) : Word :=
  match Reg.rowAt off with
  | none => 0
  | some r => BitVec.ofNat 32 (r.reset.value (r.index off))

/-- Presence of fault source `n` (R485): assigned, and its unit present. -/
def Fc.present (v : Variant) (n : Nat) : Bool :=
  Fc.assigned n &&
  (if n < 42 then decide (n % 6 < v.barns)
   else if n ≤ 49 then decide (n - 42 < v.hays)
   else if n = 54 ∨ n = 116 ∨ n = 85 then decide (0 < v.snsIn)
   else if n = 55 ∨ (70 ≤ n ∧ n ≤ 75) then v.tether
   else if 64 ≤ n ∧ n ≤ 67 then decide (n - 64 < v.ports)
   else if 100 ≤ n ∧ n ≤ 107 then decide (8 * (n - 100) < v.drvCh)
   else if 108 ≤ n ∧ n ≤ 115 then decide (8 * (n - 108) < v.drvCh)
   else true)

/-- Presence of event source `e` (R341): Table 10-21 assigns it, and its unit is present. -/
def Evu.present (v : Variant) (e : Nat) : Bool :=
  if e ≤ 4 then true
  else if 8 ≤ e ∧ e ≤ 10 then true
  else if 16 ≤ e ∧ e ≤ 23 then true
  else if 32 ≤ e ∧ e ≤ 49 then decide ((e - 32) % 6 < v.barns)
  else if 50 ≤ e ∧ e ≤ 56 then true
  else if 64 ≤ e ∧ e ≤ 70 then v.tether
  else if 72 ≤ e ∧ e ≤ 77 then true
  else if 80 ≤ e ∧ e ≤ 83 then decide (e - 80 < v.ports)
  else if e = 84 then true
  else if e = 85 then decide (2 < v.ports)
  else if 86 ≤ e ∧ e ≤ 89 then true
  else if 96 ≤ e ∧ e ≤ 111 then decide (e - 96 < v.saps)
  else if 112 ≤ e ∧ e ≤ 119 then decide (e - 112 < v.aess)
  else if 120 ≤ e ∧ e ≤ 123 then decide (0 < v.snsIn)
  else if 128 ≤ e ∧ e ≤ 191 then decide (e - 128 < v.drvCh)
  else if 192 ≤ e ∧ e ≤ 196 then true
  else false

/-- Presence of the crossing with flag index `n` (Table 02-8; absent instances read 0). -/
def Clk.crossingPresent (v : Variant) (n : Nat) : Bool :=
  if n ≤ 2 then true
  else if 3 ≤ n ∧ n ≤ 6 then decide (n - 3 < v.ports)
  else if 7 ≤ n ∧ n ≤ 10 then decide (n - 7 < v.ports)
  else if 11 ≤ n ∧ n ≤ 26 then v.tether
  else if 27 ≤ n ∧ n ≤ 42 then decide (n - 27 < v.saps)
  else if 43 ≤ n ∧ n ≤ 58 then decide (n - 43 < v.saps)
  else if 59 ≤ n ∧ n ≤ 66 then decide (n - 59 < v.aess)
  else if 67 ≤ n ∧ n ≤ 82 then decide (8 * (n - 67) < v.snsIn)
  else if 83 ≤ n ∧ n ≤ 87 then true
  else if 88 ≤ n ∧ n ≤ 95 then decide (n - 88 < v.aess)
  else false

/-- Items that the crossing with flag index `n` holds (column Depth of Table 02-8, R54, R58); 0 for the types T and W. -/
def Clk.depth (n : Nat) : Nat :=
  if n = 1 ∨ n = 2 then 64
  else if 3 ≤ n ∧ n ≤ 26 then 32
  else if 27 ≤ n ∧ n ≤ 66 then 8
  else if 67 ≤ n ∧ n ≤ 82 then 16
  else if n = 84 ∨ n = 86 ∨ n = 87 then 3
  else if 88 ≤ n ∧ n ≤ 95 then 8
  else 0

/-- The writer of the crossing loses what it cannot place (Table 02-8): a full FIFO loses the item, a fourth pending pulse is lost; every
other writer waits. -/
def Clk.loses (n : Nat) : Bool :=
  (decide (3 ≤ n) && decide (n ≤ 6)) || (decide (11 ≤ n) && decide (n ≤ 18)) || (decide (27 ≤ n) && decide (n ≤ 42)) ||
    (decide (59 ≤ n) && decide (n ≤ 82)) || n == 84 || n == 86 || n == 87

/-- Whether the register word at `off` lies in the block or per-instance region of a present unit (R6). -/
def Reg.present (v : Variant) (off : Nat) : Bool :=
  let b := off / 0x10000
  if 0x10 ≤ b ∧ b < 0x1C then decide ((off - 0x100000) / 0x4000 < v.stalls)
  else if b = 0x9 then
    decide (0 < v.snsIn) &&
    (if 0x091000 ≤ off ∧ off < 0x092000 then decide ((off - 0x091000) / 16 < v.snsIn)
     else if 0x092000 ≤ off ∧ off < 0x092200 then decide ((off - 0x092000) / 4 < v.snsIn)
     else true)
  else if b = 0xA then
    decide (0 < v.drvCh) &&
    (if 0x0A1000 ≤ off ∧ off < 0x0A2000 then decide ((off - 0x0A1000) / 16 < v.drvCh)
     else if 0x0A2000 ≤ off ∧ off < 0x0A3000 then decide ((off - 0x0A2000) / 8 < v.drvCh)
     else true)
  else if b = 0xD then v.tether
  else if b = 0x5 then (if 0x050080 ≤ off ∧ off < 0x050090 then decide ((off - 0x050080) / 4 < v.ports) else true)
  else if b = 0x6 then
    (if 0x060010 ≤ off ∧ off < 0x060030 then decide ((off - 0x060010) / 8 < v.ports)
     else if 0x060030 ≤ off ∧ off < 0x060040 then decide (2 * ((off - 0x060030) / 8) < v.ports)
     else if 0x065000 ≤ off ∧ off < 0x065080 then decide ((off - 0x065000) / 0x20 < v.ports)
     else true)
  else if b = 0x7 then
    (if off < 0x070200 then decide ((off - 0x070000) / 0x20 < v.saps)
     else if 0x071000 ≤ off then decide ((off - 0x071000) / 0x80 < v.saps)
     else true)
  else if b = 0x8 then
    (if off < 0x080100 then decide ((off - 0x080000) / 0x20 < v.aess)
     else if 0x080400 ≤ off then decide ((off % 0x400) / 0x40 < v.aess)
     else true)
  else if b = 0x2 then
    (if 0x020400 ≤ off ∧ off < 0x020A00 then Fc.present v ((off - 0x020400) / 8)
     else if 0x021000 ≤ off then Fc.present v ((off - 0x021000) / 32)
     else true)
  else if b = 0x1 then
    (if 0x010100 ≤ off ∧ off < 0x010500 then Clk.crossingPresent v ((off - 0x010100) / 8) else true)
  else if b = 0xB then
    (if 0x0B0060 ≤ off ∧ off < 0x0B00A4 then
       (let t := (off - 0x0B0060) / 4
        if t ≤ 7 then decide (t < v.hays) else if t ≤ 13 then decide (t - 8 < v.barns) else true)
     else if 0x0B0010 ≤ off ∧ off < 0x0B0050 then
       (let m := (off - 0x0B0010) / 4
        if m ≤ 5 then decide (m < v.barns) else if m = 10 then decide (0 < v.snsIn) else if m = 11 then v.tether else true)
     else true)
  else if b = 0xC then
    (if 0x0C0400 ≤ off ∧ off < 0x0C0580 then decide ((off - 0x0C0400) / 8 < v.stalls)
     else if 0x0C4000 ≤ off ∧ off < 0x0C7000 then decide ((off - 0x0C4000) / 0x100 < v.stalls)
     else true)
  else true

end Sys2Proof
end

