-- ==== Sys2Proof/Machine/Ops.lean ====
section
/-! DEFINITION. The named operations over registers: reading and writing a word, a field, a counter, a bit of a vector;
draws from the free values; sending something outside. Every meaning reads and writes registers through these. -/

namespace Sys2Proof

/-- The value of field `f` in a word. -/
def Fld.of (f : Fld) (w : Word) : Nat := w.toNat / 2 ^ f.lo % 2 ^ f.wid

/-- The word with field `f` replaced by `v` (modulo the field's width). -/
def Fld.ins (f : Fld) (w : Word) (v : Nat) : Word :=
  BitVec.ofNat 32 (w.toNat - f.of w * 2 ^ f.lo + v % 2 ^ f.wid * 2 ^ f.lo)

/-- The largest value of field `f`. -/
def Fld.max (f : Fld) : Nat := 2 ^ f.wid - 1

end Sys2Proof

namespace Sys2Proof.Machine

/-- The stored (live) word of the register at window offset `off`. -/
def State.reg (s : State) (off : Nat) : Word := Sparse.get s.regs off (Reg.reset off)

/-- `s` with the live word of the register at `off` replaced. -/
def State.setReg (s : State) (off : Nat) (w : Word) : State :=
  { s with regs := Sparse.put s.regs off (Reg.reset off) w }

/-- The shadow word of the register at `off` (R248). -/
def State.shReg (s : State) (off : Nat) : Word := Sparse.get s.shadow off (Reg.reset off)

/-- `s` with the shadow word of the register at `off` replaced. -/
def State.setShReg (s : State) (off : Nat) (w : Word) : State :=
  { s with shadow := Sparse.put s.shadow off (Reg.reset off) w }

/-- `s` with the shadow words of `b`. -/
def State.withShadow (s b : State) : State := { s with shadow := b.shadow }

/-- The live value of field `f`. -/
def State.fld (s : State) (f : Fld) : Nat := f.of (s.reg f.off)

/-- Whether the one-bit field `f` reads 1. -/
def State.flag (s : State) (f : Fld) : Bool := s.fld f == 1

/-- `s` with field `f` set to `v`. -/
def State.setFld (s : State) (f : Fld) (v : Nat) : State := s.setReg f.off (f.ins (s.reg f.off) v)

/-- `s` with the one-bit field `f` set to `b`. -/
def State.setFlag (s : State) (f : Fld) (b : Bool) : State := s.setFld f (if b then 1 else 0)

/-- `s` with `n` added to the counter field `f`, which saturates at all ones (R17). -/
def State.addCnt (s : State) (f : Fld) (n : Nat) : State := s.setFld f (min (s.fld f + n) f.max)

/-- `s` with one added to the saturating counter field `f` (R17). -/
def State.incCnt (s : State) (f : Fld) : State := s.addCnt f 1

/-- `s` with one added to the field `f`, whose Meaning column says that it wraps. -/
def State.incWrap (s : State) (f : Fld) : State := s.setFld f (s.fld f + 1)

/-- Bit `n` of the vector of 32-bit words that starts at `base`. -/
def State.vecBit (s : State) (base n : Nat) : Bool := (s.reg (base + 4 * (n / 32))).toNat.testBit (n % 32)

/-- `s` with bit `n` of the vector of words at `base` set to `b`. -/
def State.setVecBit (s : State) (base n : Nat) (b : Bool) : State :=
  s.setFlag ⟨base + 4 * (n / 32), n % 32, 1⟩ b

/-- The 64-bit register whose low word lies at `off` (R13). -/
def State.reg64 (s : State) (off : Nat) : Nat := (s.reg off).toNat + 2 ^ 32 * (s.reg (off + 4)).toNat

/-- `s` with the 64-bit register at `off` set to `v` mod 2^64. -/
def State.setReg64 (s : State) (off v : Nat) : State :=
  (s.setReg off (BitVec.ofNat 32 v)).setReg (off + 4) (BitVec.ofNat 32 (v / 2 ^ 32))

/-- `s` after it has sent `e` outside. -/
def State.send (s : State) (e : Emit) : State := { s with out := s.out ++ [e] }

/-- `s` after a draw from the free values; the draw's number is `s.free`. -/
def State.drew (s : State) : State := { s with free := s.free + 1 }

/-- The value that the next free draw of a number gives. -/
def State.freeNat (s : State) : Nat := Config.freeNat s.free

/-- The value that the next free draw of a bit gives. -/
def State.freeBit (s : State) : Bool := Config.freeBit s.free

/-- The value that the next free draw of a word gives. -/
def State.freeWord (s : State) : Word := Config.freeWord s.free

/-- Applying `f` for each number of a list, in order. -/
def State.each {α : Type} (s : State) (l : List α) (f : State → α → State) : State := l.foldl f s

/-- `s`, or `f s` when `b` holds. -/
def State.when (s : State) (b : Bool) (f : State → State) : State := if b then f s else s

/-- CLK_STATUS.PLL_STATE (Table 02-1). -/
def Pll.state (s : State) : Nat := s.fld Reg.CLK_STATUS_PLL_STATE

/-- The root PLL is LOCKED, in HOLDOVER or in REGAIN, so that the root-derived domains run; in OFF and ACQUIRE their clocks are stopped and
the blocks in them are held in reset (R41). -/
def Pll.running (s : State) : Bool := decide (2 ≤ Pll.state s)

/-- The clock of a detector has been declared lost and not present again (R70). -/
def Clk.isLost (s : State) (d : Nat) : Bool := (Sparse.get s.clk.det d {}).lost

/-- Requests and completions cross between the endpoint and the device: PERST_N is high, the endpoint is not in D3hot (R319), and its
clock PCIE_REFCLK has not been lost, which stops HST (R70, Table 02-10). -/
def State.canSend (s : State) : Bool := !s.host.perst && !s.host.d3hot && !Clk.isLost s 2

/-- An access of the host to a BAR is served (R319): requests cross, and the blocks that hold the registers and memories run (R41). -/
def State.served (s : State) : Bool := s.canSend && Pll.running s

/-- What an access of the host does: `f` where it is served, nothing where it is not. -/
def State.bar (s : State) (f : State → State) : State := s.when s.served f

/-- What the device offers to the host (R63): it goes out, or is discarded and counted while the far side of crossing 2 is in reset. -/
def State.hostOut (s : State) (e : Emit) : State :=
  if s.canSend then s.send e
  else if 0 < Sparse.get s.clk.odd 2 0 then s.incCnt (Reg.CLK_XDISC_DISCARD 2) else s

/-- The frame number k of the most recent boundary (TOP_FRAME_NO, R26). -/
def State.frameNo (s : State) : Nat := s.reg64 0x000028

/-- Boundaries are being struck (TOP_FRAME_CFG.RUN). -/
def State.running (s : State) : Bool := s.flag Reg.TOP_FRAME_CFG_RUN

/-- Samples per frame N of the live bale (TOP_FRAME_CFG.NLOG). -/
def State.frameN (s : State) : Nat := 2 ^ s.fld Reg.TOP_FRAME_CFG_NLOG

/-- Sample rate of the live bale in Hz from the code FS (Table 01-2); 0 when no bale is live. -/
def Frame.rateOf (code : Nat) : Nat :=
  match code with
  | 1 => 48000
  | 2 => 96000
  | 3 => 192000
  | _ => 0

/-- Sample rate of the live bale in Hz. -/
def State.rate (s : State) : Nat := Frame.rateOf (s.fld Reg.TOP_FRAME_CFG_FS)

/-- The formats of Table 01-1 (R22). -/
def Frame.legal (fsCode nlog : Nat) : Bool :=
  match fsCode with
  | 1 => decide (nlog ≤ 4)
  | 2 => decide (nlog ≤ 4)
  | 3 => decide (1 ≤ nlog ∧ nlog ≤ 4)
  | _ => false

/-- ENG cycles per frame: 1,228,800,000 · N / fs (R23, Table 01-1). -/
def Frame.engCycles (fsCode nlog : Nat) : Nat := 1228800000 * 2 ^ nlog / Frame.rateOf fsCode

/-- The ENG cycles C of the live frame format. -/
def State.frameC (s : State) : Nat := Frame.engCycles (s.fld Reg.TOP_FRAME_CFG_FS) (s.fld Reg.TOP_FRAME_CFG_NLOG)

/-- The ENG cycle at which the compute window opens (R28, R174). -/
def State.windowOpen (s : State) : Nat := if s.flag Reg.TOP_FRAME_CFG_LATE_WIN then 4301 else 1844

/-- Twin role codes of Table 17-1 as TWN_ST.ROLE shows them. -/
def State.role (s : State) : Nat := s.fld Reg.TWN_ST_ROLE

/-- The fall-back matrix is in service. -/
def Mtx.fallback (s : State) : Bool := s.flag Reg.MTX_STAT_IN_SERVICE

/-- The masters hold their new requests: a fault has stopped the fast matrix, and the reissue is not complete (R237, R238). -/
def Mtx.stopped (s : State) : Bool := s.mtx.replay || (s.fc.pulses.contains 50 && !Mtx.fallback s)

/-- The matrix address lies in a local memory or a shadow program bank of barn `b` (Table 07-2). -/
def Mtx.ofBarn (b a : Nat) : Bool :=
  (decide (0xA000000 ≤ a) && decide (a < 0xAC00000) && (a - 0xA000000) / 0x200000 == b) ||
    (decide (0xB000000 ≤ a) && decide (a < 0xB300000) && (a - 0xB000000) / 0x80000 == b)

/-- A matrix or bus-summer access addressed to the stalls of barn `b`, or one of theirs that has yet to come back, is pending (R50). -/
def Mtx.waitsFor (s : State) (b : Nat) : Bool :=
  (s.mtx.queue.any fun q => Mtx.ofBarn b (q.req.cells.headD (0, 0)).1) ||
    (s.mtx.unanswered.any fun q => Mtx.ofBarn b (q.req.cells.headD (0, 0)).1) ||
    (List.range 8).any fun j =>
      let x := Sparse.get s.stalls (8 * b + j) {}
      !x.loads.isEmpty || !x.stores.isEmpty

end Sys2Proof.Machine
end

