-- ==== Sys2Proof/Machine/Evu.lean ====
section
/-! DEFINITION. The event unit: a source fires, a vector becomes pending, a message is requested, sent, held or left in
the pending bit array (spec 10_host_commands.md: R341, R342, Tables 10-21 to 10-25). -/

namespace Sys2Proof.Machine

/-- The numbers of the bits set in word `w` of a vector. -/
def Evu.bitsOf (w : Nat) (x : Nat) : List Nat :=
  if x = 0 then [] else ((List.range 32).filter fun j => x.testBit j).map fun j => 32 * w + j

/-- The sources with RAW = 1 and EN = 1. -/
def Evu.active (s : State) : List Nat :=
  (List.range 8).flatMap fun w =>
    Evu.bitsOf w ((s.reg (0x030000 + 4 * w)) &&& (s.reg (0x030020 + 4 * w))).toNat

/-- Every vector that is pending under R342, as a mask. -/
def Evu.pendMask (s : State) : Nat :=
  (Evu.active s).foldl (fun acc e => acc ||| 2 ^ s.fld (Reg.EVU_MAP_VECTOR e)) 0

/-- The event unit's record of vector `v`. -/
def Evu.vec (s : State) (v : Nat) : EvuVec := Sparse.get s.evu.vec v {}

/-- `s` with the record of vector `v` replaced. -/
def Evu.setVec (s : State) (v : Nat) (x : EvuVec) : State :=
  { s with evu := { s.evu with vec := Sparse.put s.evu.vec v {} x } }

/-- `s` with bit `v` of the MSI-X pending bit array set or cleared. -/
def Evu.setPba (s : State) (v : Nat) (b : Bool) : State :=
  { s with evu := { s.evu with pba := if b then s.evu.pba ||| 2 ^ v else s.evu.pba - (s.evu.pba &&& 2 ^ v) } }

/-- A message of vector `v` may not be sent now: the vector or the function is masked (R342), or the endpoint is held by PERST_N or is in
D3hot (R319). -/
def Evu.shut (s : State) (v : Nat) : Bool := s.evu.funcMask || s.evu.mask.testBit v || s.host.perst || s.host.d3hot

/-- Sending the message of vector `v`, or setting its pending bit while it may not be sent (R342). -/
def Evu.sendReq (s : State) (v : Nat) : State :=
  if Evu.shut s v then Evu.setPba s v true
  else
    let s1 := Evu.setPba (s.hostOut (.msix v)) v false
    let s2 := s1.incCnt (Reg.EVU_HOLD_SENT v)
    Evu.setVec s2 v { hold := decide (s2.fld (Reg.EVU_HOLD_HOLD v) ≠ 0), wait := false }

/-- A request for vector `v`: sent at once, or kept until the hold interval ends (R342). While MSI-X is disabled nothing
is sent and no pending bit is set. -/
def Evu.request (s : State) (v : Nat) : State :=
  if !s.evu.enable then s
  else if (Evu.vec s v).hold then Evu.setVec s v { Evu.vec s v with wait := true }
  else Evu.sendReq s v

/-- Re-evaluating every vector after RAW, EN or MAP changed: EVU_PENDING takes its new value, and each vector that became
pending requests a message; with `again` every vector left pending does (the second case of R342). -/
def Evu.eval (s : State) (again : Bool) : State :=
  let old := (s.reg 0x030580).toNat
  let new := Evu.pendMask s
  let s1 := s.setReg 0x030580 (BitVec.ofNat 32 new)
  s1.each (Evu.bitsOf 0 (if again then new else new - (new &&& old))) Evu.request

/-- A source fires (R341): its RAW bit is set; a source of an absent unit never fires, and the event unit is held in reset while the
root-derived clocks are stopped (R41). -/
def State.fire (s : State) (e : Nat) : State :=
  if Pll.running s && Evu.present s.variant e && !s.vecBit 0x030000 e then Evu.eval (s.setVecBit 0x030000 e true) false else s

/-- Setting a one-bit field, firing `e` on the change from 0 to 1. -/
def State.setFire (s : State) (f : Fld) (e : Nat) : State :=
  if s.flag f then s else (s.setFlag f true).fire e

end Sys2Proof.Machine
end

