-- ==== Sys2Proof/Machine/Tether.lean ====
section
/-! DEFINITION. Sending over the tether (spec 17_twin_tether.md: R500 to R504): block counts, priorities, the holding space,
acknowledgement and resending. -/

namespace Sys2Proof.Machine

/-- The tether link is UP. -/
def Tth.up (s : State) : Bool := s.fld Reg.TWN_ST_LINK == 2

/-- Payload bytes of a message (Table 17-6). -/
def Tth.len (n : Nat) : TthBody → Nat
  | .hello _ => 96
  | .input used l => if used then 4 * l.length else 6144 * n
  | .mirror bs _ _ _ => bs.length
  | .digest _ => 16
  | .cmd _ _ d => 64 + 4 * d.length
  | .cmdAck _ _ _ => 4
  | .take _ _ => 4
  | .role _ _ => 4
  | .drvRec _ => 4096
  | .refresh u r => 4096 * u.length + 68 * r.length
  | .sync _ (.leaves l) => 34 * l.length
  | .sync _ (.pages l) => 4100 * l.length
  | .sync _ (.gateA _) => 16 * 3072
  | .sync _ (.outlet _) => 32 * 1536
  | .bale _ bs => bs.length
  | .rcd _ _ _ _ => 80
  | .nop => 0

/-- Blocks of a message: 2,048 payload bytes each, at least one (R500). -/
def Tth.blocks (n : Nat) (b : TthBody) : Nat := max 1 ((Tth.len n b + 2047) / 2048)

/-- The priority class of a message (R504). -/
def Tth.prio : TthBody → Nat
  | .input _ _ => 1
  | .mirror _ _ _ _ => 3
  | .sync _ _ => 4
  | .bale _ _ => 5
  | .refresh _ _ => 6
  | _ => 2

/-- Blocks in the holding space (R502). -/
def Tth.heldBlocks (s : State) : Nat := (s.twn.held.map fun h => h.n).sum

/-- A message leaves: it takes its SEQ numbers and is held until the peer has acknowledged it. -/
def Tth.emit (s : State) (frame : Nat) (b : TthBody) : State :=
  let n := Tth.blocks s.frameN b
  { s.send (.tether frame b) with twn := { s.twn with
      txSeq := (s.twn.txSeq + n) % 2 ^ 32
      held := s.twn.held ++ [{ seq := s.twn.txSeq, n := n, resent := [], frame := frame, body := b }] } }

/-- Sending a message: nothing leaves while the link is DOWN; a message of priority 3–6 waits while the holding space is full. -/
def Tth.send (s : State) (frame : Nat) (b : TthBody) : State :=
  if s.fld Reg.TWN_ST_LINK = 0 then s
  else if 3 ≤ Tth.prio b ∧ 64 ≤ Tth.heldBlocks s then { s with twn := { s.twn with wait := s.twn.wait ++ [(frame, b)] } }
  else Tth.emit s frame b

/-- The waiting messages leave while the holding space has room, by priority (R502, R504). -/
def Tth.flush (s : State) : State :=
  let w := [3, 4, 5, 6].flatMap fun p => s.twn.wait.filter fun m => Tth.prio m.2 == p
  w.foldl (fun t m => Tth.send t m.1 m.2) { s with twn := { s.twn with wait := [] } }

/-- `a` is at or before `b` in the sequence modulo 2^32. -/
def Tth.before (a b : Nat) : Bool := decide ((b + 2 ^ 32 - a) % 2 ^ 32 < 2 ^ 31)

/-- The peer has received every block below `ack` (R502). -/
def Tth.acked (s : State) (ack : Nat) : State :=
  Tth.flush { s with twn := { s.twn with held := s.twn.held.filter fun h => !Tth.before ((h.seq + h.n) % 2 ^ 32) ack } }

/-- The peer asks for block `q` again: it is resent once (R502). -/
def Tth.naked (s : State) (q : Nat) : State :=
  match s.twn.held.find? fun h => Tth.before h.seq q && !Tth.before ((h.seq + h.n) % 2 ^ 32) q with
  | some h =>
    if h.resent.contains q then s
    else
      let s1 := (s.send (.tether h.frame h.body)).incCnt Reg.TWN_CNT0_RESENT
      { s1 with twn := { s1.twn with held := s1.twn.held.map fun x =>
          if x.seq = h.seq then { x with resent := q :: x.resent } else x } }
  | none => s

end Sys2Proof.Machine
end

