-- ==== Sys2Proof/Machine/Cmd.lean ====
section
/-! DEFINITION. The command processor's ends (spec 10_host_commands.md: R321 to R328, R332 to R338): tickets, queues, completion
records, the log, the ring, adjustments. -/

namespace Sys2Proof.Machine

/-- SAVE_WARN is raised (R541). -/
def State.saveWarned (s : State) : Bool := s.flag Reg.PWR_STAT_SAVE_WARN

/-- An adjustment of a value (R336): `src` 0 for a REGWIN write at `where_`, 1 for a command with ticket `where_`. -/
def Cmd.adjust (s : State) (src where_ : Nat) : State :=
  ((s.incCnt Reg.CMD_ADJUSTED_COUNT_COUNT).setFld Reg.CMD_ADJ_LAST_SRC src).setFld Reg.CMD_ADJ_LAST_WHERE where_

/-- `n` adjustments of one command. -/
def Cmd.adjusts (s : State) (n ticket : Nat) : State := s.each (List.range n) fun t _ => Cmd.adjust t 1 ticket

/-- CMD_OUTSTANDING.COUNT follows the outstanding tickets (R324). -/
def Cmd.show (s : State) : State := s.setFld Reg.CMD_OUTSTANDING_COUNT s.cmd.openT.length

/-- Bytes written into the tack room (R543) in whole SEC-DED words, which take fresh check bits (R579, R581). -/
def Saddle.put (s : State) (off : Nat) (bs : List Byte) : State :=
  { s with mem := { s.mem with
      bytes := bs.zipIdx.foldl (fun m p => Sparse.put m (0x9000000 + off + p.2) 0 p.1) s.mem.bytes
      err := s.mem.err.filter fun p => !(decide (0x9000000 + off ≤ p.1) && decide (p.1 + 8 ≤ 0x9000000 + off + bs.length)) } }

/-- The four bytes of a word, least significant first. -/
def Cmd.wordBytes (w : Word) : List Byte := (List.range 4).map fun i => BitVec.ofNat 8 (w.toNat / 2 ^ (8 * i))

/-- The word at index `i` of a descriptor. -/
def Desc.word (d : Desc) (i : Nat) : Word := d.words.getD i 0

/-- `n` bytes at offset `off` of a descriptor, as a number. -/
def Desc.field (d : Desc) (off n : Nat) : Nat :=
  let all := d.words.foldr (fun w a => w.toNat + 2 ^ 32 * a) 0
  all / 2 ^ (8 * off) % 2 ^ (8 * n)

/-- OPCODE, TAG and the FLAGS bits of a descriptor (Table 10-5). -/
def Desc.op (d : Desc) : Nat := d.field 0 1
def Desc.flag (d : Desc) (i : Nat) : Bool := (d.field 1 1).testBit i
def Desc.isLocal (d : Desc) : Bool := d.flag 0

/-- The opcode enters the long queue (Table 10-6). -/
def Cmd.isLong (op : Nat) : Bool := [0x01, 0x02, 0x03, 0x04, 0x21, 0x40, 0x41].contains op

/-- The opcode is mirrored (Table 10-6). -/
def Cmd.mirrored (op : Nat) : Bool := [0x01, 0x02, 0x03, 0x04, 0x10, 0x11].contains op

/-- The ring's size in entries. -/
def Cmd.ringSize (s : State) : Nat := 2 ^ s.fld Reg.CMD_RING_CTL_LOG2SZ

/-- The ring is full (R334). -/
def Cmd.ringFull (s : State) : Bool :=
  (s.fld Reg.CMD_RING_TAIL_TAIL + 1) % Cmd.ringSize s == s.fld Reg.CMD_RING_HEAD_HEAD % Cmd.ringSize s

/-- RING_FULL follows the ring; E001 fires on the change to full. -/
def Cmd.showFull (s : State) : State :=
  let full := s.flag Reg.CMD_RING_CTL_EN && Cmd.ringFull s
  if full then s.setFire Reg.CMD_STAT_RING_FULL 1 else s.setFlag Reg.CMD_STAT_RING_FULL false

/-- A ticket is outstanding no longer (R324). -/
def Cmd.closeTicket (s : State) (t : Nat) : State :=
  Cmd.show { s with cmd := { s.cmd with openT := s.cmd.openT.filter fun x => x.1 ≠ t } }

/-- The record of a ticket in CMD_LOG. -/
def Cmd.logRecord (s : State) (t : Nat) : List Word :=
  (List.range 8).map fun i => s.reg (0x048000 + 32 * (t % 1024) + 4 * i)

/-- One record is copied to the ring (R334): words 1–7, then word 0 with the phase; TAIL advances; E000 fires. -/
def Cmd.copyOne (s : State) (t : Nat) : State :=
  let tail := s.fld Reg.CMD_RING_TAIL_TAIL
  let phase := s.fld Reg.CMD_RING_TAIL_PHASE
  let at_ := s.reg64 0x040058 + 32 * tail
  let r := Cmd.logRecord s t
  let w0 : Word := BitVec.ofNat 32 ((r.getD 0 0).toNat % 2 ^ 31 + phase * 2 ^ 31)
  let next := (tail + 1) % Cmd.ringSize s
  let s1 := (s.hostOut (.hostWrite (at_ + 4) (r.drop 1))).hostOut (.hostWrite at_ [w0])
  let s2 := (s1.setFld Reg.CMD_RING_TAIL_TAIL next).setFld Reg.CMD_RING_TAIL_PHASE (if next = 0 then 1 - phase else phase)
  (Cmd.closeTicket s2 t).fire 0

/-- Records of the ring queue are copied while the ring is enabled, not full, and the endpoint is not in D3hot. -/
def Cmd.copyRing : Nat → State → State
  | 0, s => s
  | n + 1, s =>
    match s.cmd.ringQ with
    | [] => s
    | t :: ts =>
      if s.flag Reg.CMD_RING_CTL_EN && !Cmd.ringFull s && !s.host.d3hot then
        Cmd.copyRing n (Cmd.copyOne { s with cmd := { s.cmd with ringQ := ts } } t)
      else s

/-- The ring queue is served: RING_FULL first follows what freed the ring, so that filling it again is a change to full (E001). -/
def Cmd.serveRing (s : State) : State := Cmd.showFull (Cmd.copyRing s.cmd.ringQ.length (Cmd.showFull s))

/-- A completion record is written to CMD_LOG and its mirror (R333, R543), and placed in the ring queue where R324 says so. -/
def Cmd.writeRecord (s : State) (t : Nat) (ws : List Word) (ring : Bool) : State :=
  let s1 := s.each ws.zipIdx fun u p => u.setReg (0x048000 + 32 * (t % 1024) + 4 * p.2) p.1
  let s2 := Saddle.put s1 (0x10000 + 32 * (t % 1024)) (ws.flatMap Cmd.wordBytes)
  if ring then Cmd.serveRing { s2 with cmd := { s2.cmd with ringQ := s2.cmd.ringQ ++ [t] } } else Cmd.closeTicket s2 t

/-- The eight words of a completion record (Table 10-8); `peer` is PEER_STATUS and PEER_REASON. -/
def Cmd.words (ticket op : Nat) (tag : Word) (adj : Bool) (status reason : Nat) (res : List Nat) (peer : Nat × Nat) : List Word :=
  let b (n : Nat) : Word := BitVec.ofNat 32 n
  [b (2 ^ 31 + (if adj then 2 ^ 24 else 0) + status * 2 ^ 16 + ticket), tag, b (reason * 256 + op),
   b (res.getD 0 0), b (res.getD 1 0), b (res.getD 2 0), b (res.getD 3 0), b (peer.2 * 256 + peer.1)]

/-- `s` without the running command of `r`. -/
def Cmd.dropRun (s : State) (r : Run) : State :=
  { s with cmd := { s.cmd with run := s.cmd.run.filter fun x => !(x.d.ticket == r.d.ticket && x.d.peer == r.d.peer) } }

/-- The completion of a command (R332, R333): a mirrored command answers with CMDACK, the commit of a resync's preparation (ticket
65,536, R518) with nothing; after SAVE_WARN none is posted (R541). -/
def Cmd.post (s : State) (r : Run) (status reason : Nat) (res : List Nat) : State :=
  let s0 := Cmd.dropRun s r
  if s.saveWarned then s0
  else if r.d.peer then (if r.d.ticket < 65536 then Tth.send s0 s.frameNo (.cmdAck r.d.ticket status reason) else s0)
  else Cmd.writeRecord s0 r.d.ticket
    (Cmd.words r.d.ticket r.d.op (r.d.word 1) (decide (0 < r.adj)) status reason res (r.answer.getD (0xFF, 0)))
    (s.flag Reg.CMD_RING_CTL_EN)

/-- `s` with the running command `r` recorded (replacing the entry of its ticket, or appended). -/
def Cmd.keepRun (s : State) (r : Run) : State :=
  let same (x : Run) : Bool := x.d.ticket == r.d.ticket && x.d.peer == r.d.peer
  { s with cmd := { s.cmd with
      run := if s.cmd.run.any same then s.cmd.run.map fun x => if same x then r else x else s.cmd.run ++ [r] } }

/-- A command is done on this device: it completes, or waits for the answer of the standby (R326, R507). -/
def Cmd.finish (s : State) (r : Run) (status reason : Nat) (res : List Nat) : State :=
  if r.sent && r.answer.isNone && Tth.up s then Cmd.keepRun s { r with wait := .ack status reason res }
  else Cmd.post s r status reason res

/-- The commands that wait for an answer complete without one, because the link has left UP. -/
def Cmd.releaseAcks (s : State) : State :=
  let off (d : Desc) : Desc := { d with sent := false }
  let s0 : State := { s with
    cmd := { s.cmd with short := s.cmd.short.map off, long := s.cmd.long.map off }
    twn := { s.twn with answers := [] } }
  s0.each s0.cmd.run fun t r => match r.wait with
    | .ack st re res => Cmd.post t r st re res
    | _ => if r.sent && r.answer.isNone then Cmd.keepRun t { r with sent := false } else t

/-- A started command holds its queue until it completes; PARAM_COMMIT and SWAP_BALE release theirs at the start (R325). -/
def Run.holds (r : Run) : Bool :=
  match r.wait with
  | .commit _ _ => false
  | .swap _ _ => false
  | _ => !(r.d.op == 0x04 || r.d.op == 0x11)

/-- The descriptor that starts next in a queue, where the queue is free and commands may start (R325, R541). -/
def Cmd.head (s : State) (long : Bool) : Option Desc :=
  if s.saveWarned || (s.cmd.run.any fun r => r.holds && r.long == long) then none
  else (if long then s.cmd.long else s.cmd.short).head?

/-- `s` with the head of a queue taken off. -/
def Cmd.pop (s : State) (long : Bool) : State :=
  if long then { s with cmd := { s.cmd with long := s.cmd.long.drop 1 } }
  else { s with cmd := { s.cmd with short := s.cmd.short.drop 1 } }

/-- The device mirrors commands: role ACTIVE with a peer in step (R326). -/
def Cmd.mirrors (s : State) (d : Desc) : Bool :=
  s.role == 1 && Cmd.mirrored d.op && !d.isLocal && !d.peer && Tth.up s && s.fld Reg.TWN_ST_PEER_ROLE != 3

/-- The standby's answer to a command that it finished first. -/
def Cmd.answered (s : State) (d : Desc) : Option (Nat × Nat) :=
  if d.sent then (s.twn.answers.find? fun a => a.1 = d.ticket).map fun a => a.2 else none

/-- The result words of a LOAD_BALE, VERIFY_BALE or ARM_BALE: the STATE of its slot (Table 10-11); none of another command. -/
def Cmd.slotWords (s : State) (d : Desc) : List Nat :=
  if 1 ≤ d.op ∧ d.op ≤ 3 then [s.fld (Reg.TOP_BALE_SLOT_STATE (min (d.field 8 1) 1))] else []

/-- A command of opcode `op` starts at the head of its queue (COMMAND_START): the roles of R326 and R327, then `body`. -/
def Cmd.start (s : State) (op : Nat) (body : State → Run → State) : State :=
  let long := Cmd.isLong op
  match Cmd.head s long with
  | none => s
  | some d =>
    if d.op ≠ op then s
    else
      let s1 := Cmd.pop s long
      let r : Run := { d := d, long := long, adj := 0, wait := .ack 0 0 [], answer := Cmd.answered s d }
      if Cmd.mirrored op && !d.isLocal && !d.peer && (s.role == 2 || s.role == 4) then Cmd.post s1 r 3 0x83 (Cmd.slotWords s d)
      else body s1 { r with sent := d.sent }

/-- A numeric operand clamped to its range; the second component counts the adjustment (R335). -/
def Cmd.clamp (v lo hi : Nat) : Nat × Nat := (max lo (min v hi), if v < lo ∨ hi < v then 1 else 0)

/-- Adjustments of operands counted (R335, R336). -/
def Cmd.noteAdj (s : State) (r : Run) (n : Nat) : State × Run := (Cmd.adjusts s n r.d.ticket, { r with adj := r.adj + n })

/-- CMD_SUBMIT word write (R321): the word is staged. -/
def Cmd.stage (s : State) (i : Nat) (w : Word) : State :=
  { s with cmd := { s.cmd with stage := Sparse.put s.cmd.stage i 0 w } }

/-- A submission (R322 to R325). -/
def Cmd.submit (s : State) : State :=
  let ws := (List.range 16).map fun i => Sparse.get s.cmd.stage i 0
  let s1 := { s with cmd := { s.cmd with stage := [] } }
  let full := decide (1024 ≤ s.cmd.openT.length)
  let ready := s.flag Reg.CMD_STAT_CPX_READY
  let show_ (t : State) (a f n : Bool) : State :=
    ((t.setFlag Reg.CMD_TICKET_ACCEPTED a).setFlag Reg.CMD_TICKET_FULL f).setFlag Reg.CMD_TICKET_NOTREADY n
  if full || !ready then
    let s2 := show_ s1 false full (!ready)
    if full then (s2.incCnt Reg.CMD_STAT_REFUSED).fire 2 else s2
  else
    let t := s.fld Reg.CMD_OUTSTANDING_NEXT
    let d0 : Desc := { ticket := t, words := ws }
    -- R507: the active sends an accepted mirrored command at acceptance
    let d : Desc := { d0 with sent := Cmd.mirrors s d0 && !(d0.op == 0x10 && !d0.flag 2) }
    let s2 := (show_ s1 true false false).setFld Reg.CMD_TICKET_TICKET t
    let s3 := s2.setFld Reg.CMD_OUTSTANDING_NEXT (t + 1)
    let c := s3.cmd
    let q : CmdState := if Cmd.isLong d.op then { c with long := c.long ++ [d] } else { c with short := c.short ++ [d] }
    let s4 := Cmd.show { s3 with cmd := { q with openT := q.openT ++ [(t, d.op, d.word 1)] } }
    let s5 := { s4 with pwr := { s4.pwr with persist := { s4.pwr.persist with next := (t + 1) % 65536 } } }
    if d.sent then Tth.send s5 s5.frameNo (.cmd t ws []) else s5

/-- The command processor stops what it executes and what waits (R337, first list): an ARM_BALE in progress stops, a swap that
waits and is not taken is cancelled, a handover whose drop has not happened (cause 1 of Table 17-3) and a TWIN_RESYNC stop. What was taken
at a bus close stays taken. -/
def Cmd.halt (s : State) : State :=
  { s with
    cmd := { s.cmd with short := [], long := [], run := [] }
    bale := { s.bale with arming := none, mark := s.bale.taken }
    twn := { s.twn with
      drop := if s.twn.drop = some 1 then none else s.twn.drop
      resync := match s.twn.resync with
        | some x => if x.cmd then none else some x
        | none => none } }

/-- Every outstanding ticket completes with ABORTED_RESET (R337), in ticket order, into the ring queue; a record that still waited there
(R324) is written anew. -/
def Cmd.abortAll (s : State) : State :=
  let gone := s.cmd.openT
  let s1 := ({ s with cmd := { s.cmd with ringQ := [] } } : State).each gone fun t x =>
    Cmd.writeRecord t x.1 (Cmd.words x.1 x.2.1 x.2.2 false 5 0 [] (0xFF, 0)) true
  if gone.isEmpty then s1 else s1.setFire Reg.CMD_STAT_RESTORED 3

end Sys2Proof.Machine
end

