-- ==== Sys2Proof/Machine/Sha.lean ====
section
/-! DEFINITION. The functions the bale checks and the digest name (spec 09_bales_digest.md): SHA-256 (FIPS 180-4), CRC-32C, and
the verification of an ECDSA P-256 signature (FIPS 186-4). A hash is held as the number its bytes spell, most significant first. -/

namespace Sys2Proof.Machine

/-- The SHA-256 round constants. -/
def Sha.k : List Word :=
  [0x428a2f98, 0x71374491, 0xb5c0fbcf, 0xe9b5dba5, 0x3956c25b, 0x59f111f1, 0x923f82a4, 0xab1c5ed5] ++
  [0xd807aa98, 0x12835b01, 0x243185be, 0x550c7dc3, 0x72be5d74, 0x80deb1fe, 0x9bdc06a7, 0xc19bf174] ++
  [0xe49b69c1, 0xefbe4786, 0x0fc19dc6, 0x240ca1cc, 0x2de92c6f, 0x4a7484aa, 0x5cb0a9dc, 0x76f988da] ++
  [0x983e5152, 0xa831c66d, 0xb00327c8, 0xbf597fc7, 0xc6e00bf3, 0xd5a79147, 0x06ca6351, 0x14292967] ++
  [0x27b70a85, 0x2e1b2138, 0x4d2c6dfc, 0x53380d13, 0x650a7354, 0x766a0abb, 0x81c2c92e, 0x92722c85] ++
  [0xa2bfe8a1, 0xa81a664b, 0xc24b8b70, 0xc76c51a3, 0xd192e819, 0xd6990624, 0xf40e3585, 0x106aa070] ++
  [0x19a4c116, 0x1e376c08, 0x2748774c, 0x34b0bcb5, 0x391c0cb3, 0x4ed8aa4a, 0x5b9cca4f, 0x682e6ff3] ++
  [0x748f82ee, 0x78a5636f, 0x84c87814, 0x8cc70208, 0x90befffa, 0xa4506ceb, 0xbef9a3f7, 0xc67178f2]

/-- The SHA-256 initial hash value. -/
def Sha.init : List Word :=
  [0x6a09e667, 0xbb67ae85, 0x3c6ef372, 0xa54ff53a, 0x510e527f, 0x9b05688c, 0x1f83d9ab, 0x5be0cd19]

/-- The padded message as blocks of bytes: 0x80, zeros, and the bit length as 64 bits. -/
def Sha.pad (m : List Byte) : List Byte :=
  m ++ [0x80] ++ List.replicate ((119 - m.length % 64) % 64) 0 ++
    ((List.range 8).map fun i => BitVec.ofNat 8 (8 * m.length / 2 ^ (8 * (7 - i))))

/-- The number that bytes spell, most significant first. -/
def Sha.nat (m : List Byte) : Nat := m.foldl (fun a b => 256 * a + b.toNat) 0

/-- The first `n` groups of `w` bytes of a byte string. -/
def Sha.groups (w : Nat) : Nat → List Byte → List (List Byte)
  | 0, _ => []
  | n + 1, m => m.take w :: Sha.groups w n (m.drop w)

/-- Extending the message schedule, held newest first, by `n` words. -/
def Sha.extend : Nat → List Word → List Word
  | 0, w => w
  | n + 1, w =>
    let a := w.getD 14 0
    let b := w.getD 1 0
    let s0 := a.rotateRight 7 ^^^ a.rotateRight 18 ^^^ a >>> 3
    let s1 := b.rotateRight 17 ^^^ b.rotateRight 19 ^^^ b >>> 10
    Sha.extend n ((w.getD 15 0 + s0 + w.getD 6 0 + s1) :: w)

/-- One round on the eight working variables. -/
def Sha.round (v : List Word) (kw : Word × Word) : List Word :=
  let x (i : Nat) := v.getD i 0
  let s1 := (x 4).rotateRight 6 ^^^ (x 4).rotateRight 11 ^^^ (x 4).rotateRight 25
  let ch := (x 4 &&& x 5) ^^^ (~~~(x 4) &&& x 6)
  let t1 := x 7 + s1 + ch + kw.1 + kw.2
  let s0 := (x 0).rotateRight 2 ^^^ (x 0).rotateRight 13 ^^^ (x 0).rotateRight 22
  let mj := (x 0 &&& x 1) ^^^ (x 0 &&& x 2) ^^^ (x 1 &&& x 2)
  [t1 + (s0 + mj), x 0, x 1, x 2, x 3 + t1, x 4, x 5, x 6]

/-- The compression of one block of 64 bytes. -/
def Sha.compress (h : List Word) (blk : List Byte) : List Word :=
  let w16 := (Sha.groups 4 16 blk).map fun g => (BitVec.ofNat 32 (Sha.nat g) : Word)
  let w := (Sha.extend 48 w16.reverse).reverse
  List.zipWith (· + ·) h ((Sha.k.zip w).foldl Sha.round h)

/-- SHA-256 of a byte string, as a number. -/
def Sha.hash (m : List Byte) : Nat :=
  let p := Sha.pad m
  ((Sha.groups 64 (p.length / 64) p).foldl Sha.compress Sha.init).foldl (fun a w => 2 ^ 32 * a + w.toNat) 0

/-- The 32 bytes of a hash in SHA-256 output order. -/
def Sha.bytes (h : Nat) : List Byte := (List.range 32).map fun i => BitVec.ofNat 8 (h / 2 ^ (8 * (31 - i)))

/-- One bit step of the reflected CRC-32C. -/
def Crc.bit (c : Nat) : Nat := if c % 2 = 1 then (c / 2) ^^^ 0x82F63B78 else c / 2

/-- One byte step of CRC-32C. -/
def Crc.step (c : Nat) (b : Byte) : Nat := (List.range 8).foldl (fun x _ => Crc.bit x) (c ^^^ b.toNat)

/-- CRC-32C of a byte string. -/
def Crc.crc32c (m : List Byte) : Nat := m.foldl Crc.step 0xFFFFFFFF ^^^ 0xFFFFFFFF

/-- The field prime of P-256. -/
def P256.p : Nat := 0xffffffff00000001000000000000000000000000ffffffffffffffffffffffff
/-- The order of the base point of P-256. -/
def P256.n : Nat := 0xffffffff00000000ffffffffffffffffbce6faada7179e84f3b9cac2fc632551
/-- The coefficient b of P-256. -/
def P256.b : Nat := 0x5ac635d8aa3a93e7b3ebbd55769886bc651d06b0cc53b0f63bce3c3e27d2604b
/-- The base point of P-256. -/
def P256.g : Nat × Nat :=
  (0x6b17d1f2e12c4247f8bce6e563a440f277037d812deb33a0f4a13945d898c296,
   0x4fe342e2fe1a7f9b8ee7eb4a7c0f9e162bce33576b315ececbb6406837bf51f5)

/-- x to the power e modulo m, by the low `k` bits of e. -/
def P256.pow (m : Nat) : Nat → Nat → Nat → Nat
  | 0, _, _ => 1
  | k + 1, x, e => (if e % 2 = 1 then x else 1) * P256.pow m k (x * x % m) (e / 2) % m

/-- The inverse of x modulo a prime m below 2^256. -/
def P256.inv (m x : Nat) : Nat := P256.pow m 256 (x % m) (m - 2)

/-- The sum of two points of the curve; none is the point at infinity. -/
def P256.add : Option (Nat × Nat) → Option (Nat × Nat) → Option (Nat × Nat)
  | none, b => b
  | a, none => a
  | some (x1, y1), some (x2, y2) =>
    if x1 = x2 ∧ (y1 + y2) % P256.p = 0 then none
    else
      let l :=
        if x1 = x2 then (3 * x1 * x1 + (P256.p - 3)) * P256.inv P256.p (2 * y1) % P256.p
        else (y2 + P256.p - y1) * P256.inv P256.p (x2 + P256.p - x1) % P256.p
      let x := (l * l + 2 * P256.p - x1 - x2) % P256.p
      some (x, (l * (x1 + P256.p - x) + P256.p - y1) % P256.p)

/-- `e` times a point, by the low `k` bits of `e`. -/
def P256.mul : Nat → Nat → Option (Nat × Nat) → Option (Nat × Nat)
  | 0, _, _ => none
  | k + 1, e, q => P256.add (if e % 2 = 1 then q else none) (P256.mul k (e / 2) (P256.add q q))

/-- The point lies on the curve. -/
def P256.onCurve (x y : Nat) : Bool :=
  decide (x < P256.p) && decide (y < P256.p) &&
    (y * y % P256.p == (x * x * x + (P256.p - 3) * x + P256.b) % P256.p)

/-- ECDSA verification: public key (qx, qy), signature (r, s), hash `h` of the message. -/
def P256.verify (qx qy r s h : Nat) : Bool :=
  P256.onCurve qx qy && decide (1 ≤ r) && decide (r < P256.n) && decide (1 ≤ s) && decide (s < P256.n) &&
    (let w := P256.inv P256.n s
     match P256.add (P256.mul 256 (h * w % P256.n) (some P256.g)) (P256.mul 256 (r * w % P256.n) (some (qx, qy))) with
     | some (x, _) => x % P256.n == r
     | none => false)

end Sys2Proof.Machine
end

