-- ==== Sys2Proof/Machine/Dir.lean ====
section
/-! DEFINITION. The tack room's directory and the slot states (spec 09_bales_digest.md: R284 to R287, R583). -/

namespace Sys2Proof.Machine

/-- `n` bytes of the tack room at offset `off` as a read returns them (R581). -/
def Tack.bytes (s : State) (off n : Nat) : List Byte :=
  (List.range n).map fun i =>
    let a := 0x9000000 + off + i
    if Sparse.get s.mem.err (a - a % 8) 0 == 2 then 0 else Sparse.get s.mem.bytes a 0

/-- Slot state code (Table 09-2). -/
def Bale.st (s : State) (i : Nat) : Nat := s.fld (Reg.TOP_BALE_SLOT_STATE i)

/-- The LIVE slot, where a bale is live. -/
def Bale.live (s : State) : Option Nat :=
  if s.flag Reg.TOP_BALE_LIVE_VALID then some (s.fld Reg.TOP_BALE_LIVE_SLOT) else none

/-- A directory copy (0 or 1) as its bytes. -/
def Dir.copy (s : State) (c : Nat) : List Byte := Tack.bytes s (0x040000 + 0x800 * c) 0x800

/-- The copy is valid (R583). -/
def Dir.valid (bs : List Byte) : Bool :=
  bs.take 6 == [0x54, 0x44, 0x49, 0x52, 0x01, 0x00] && Arith.ofBytes (bs.drop 0x7FC) == Crc.crc32c (bs.take 0x7FC)

/-- The SEQ of a copy; 0 where it is not valid. -/
def Dir.seq (bs : List Byte) : Nat := if Dir.valid bs then Arith.ofBytes ((bs.drop 8).take 8) else 0

/-- The slot that the directory names LIVE: that of a waiting or taken swap, else the LIVE one (R298). -/
def Dir.named (s : State) : Option Nat :=
  match s.bale.mark with
  | some i => some i
  | none => (List.range 2).find? fun i => Bale.st s i = 5

/-- The bytes of a directory copy with sequence `seq` (Table 09-22): the slot states at the instant of the write, and the slot named. -/
def Dir.image (s : State) (seq : Nat) : List Byte :=
  let b (n v : Nat) : List Byte := Arith.bytes n v
  let ident : List Byte := match Dir.named s with
    | some i => b 8 (s.reg64 (0x000308 + 0x10 * i)) ++ b 4 (s.reg (0x000304 + 0x10 * i)).toNat ++
        Sha.bytes (Sparse.get s.bale.roots i 0)
    | none => List.replicate 44 0
  let body := [0x54, 0x44, 0x49, 0x52, 0x01, 0x00, 0, 0] ++ b 8 seq ++ b 1 (Bale.st s 0) ++ b 1 (Bale.st s 1) ++
    b 1 ((Dir.named s).getD 0xFF) ++ [0] ++ ident ++ List.replicate 1980 0
  body ++ b 4 (Crc.crc32c body)

/-- An update writes the copy that is not valid, or else the one with the lower SEQ (R583). -/
def Dir.update (s : State) : State :=
  let v0 := Dir.valid (Dir.copy s 0)
  let v1 := Dir.valid (Dir.copy s 1)
  let q0 := Dir.seq (Dir.copy s 0)
  let q1 := Dir.seq (Dir.copy s 1)
  let c := if !v0 then 0 else if !v1 then 1 else if q1 < q0 then 1 else 0
  Saddle.put s (0x040000 + 0x800 * c) (Dir.image s ((if c = 0 then q1 else q0) + 1))

/-- A slot changes state (R286): the identity reads 0 while EMPTY or OPEN; E055 fires; the directory is written. -/
def Bale.setState (s : State) (i st : Nat) : State :=
  if Bale.st s i = st then s
  else
    let s1 := s.setFld (Reg.TOP_BALE_SLOT_STATE i) st
    let s2 :=
      if st ≤ 1 then
        (((((s1.setReg (0x000304 + 0x10 * i) 0).setReg64 (0x000308 + 0x10 * i) 0).setFld (Reg.TOP_BALE_SLOT_NLOG i) 0).setFld
          (Reg.TOP_BALE_SLOT_FS i) 0).setFlag (Reg.TOP_BALE_SLOT_SIGNED i) false).setFld (Reg.TOP_BALE_SLOT_KEYIDX i) 0
      else s1
    Dir.update (s2.fire 55)

/-- A waiting or taken swap is named by the directory, or no longer (R298). -/
def Bale.setMark (s : State) (m : Option Nat) : State :=
  if s.bale.mark = m then s else Dir.update { s with bale := { s.bale with mark := m } }

/-- The state of slot `i` by the directory copy `bs` after a reset (R287): the slot that it names is LIVE, and no other; OPEN becomes EMPTY,
ARMED VERIFIED. -/
def Dir.code (bs : List Byte) (i : Nat) : Nat :=
  if bs.isEmpty then 0
  else if (bs.getD 0x12 0).toNat = i then 5
  else match (bs.getD (0x10 + i) 0).toNat with
    | 1 => 0
    | 4 => 3
    | n => min n 3

/-- The slot states after a reset or a loss of power, read from the directory (R287, R315, R583). -/
def Dir.restore (s : State) : State :=
  let v0 := Dir.valid (Dir.copy s 0)
  let v1 := Dir.valid (Dir.copy s 1)
  let bs : List Byte :=
    if v0 && (!v1 || decide (Dir.seq (Dir.copy s 1) ≤ Dir.seq (Dir.copy s 0))) then Dir.copy s 0
    else if v1 then Dir.copy s 1 else []
  let t := (s.setFld (Reg.TOP_BALE_SLOT_STATE 0) (Dir.code bs 0)).setFld (Reg.TOP_BALE_SLOT_STATE 1) (Dir.code bs 1)
  t.setFld Reg.TOP_BALE_LIVE_SLOT (if Dir.code bs 1 = 5 then 1 else 0)

end Sys2Proof.Machine
end

