-- ==== Sys2Proof/Machine/Reset.lean ====
section
/-! DEFINITION. What a reset does to each block (spec 18_power_reset_boot.md: R530, R531, Table 18-3; 02_clocks_crossings.md: R61
to R66; 17_twin_tether.md: R494, R503, R520), what a change of the forced pin groups does, and the drop of ownership. What follows
the release of a reset stands in Restart.lean. -/

namespace Sys2Proof.Machine

/-- A word with the bits of `mask` taken from `v`. -/
def Reg.blend (old v : Word) (mask : Nat) : Word :=
  let m := BitVec.ofNat 32 mask
  (old &&& ~~~m) ||| (v &&& m)

/-- The bits of the word at `off` that are configuration: RW and SH fields (R530). -/
def Reg.config (off : Nat) : Nat := match Reg.rowAt off with
  | some r => r.rw ||| r.rws ||| r.sh
  | none => 0

/-- The bits of the word at `off` of effect class F, which no reset of a block changes (R20). -/
def Reg.frameBits (off : Nat) : Nat := match Reg.rowAt off with
  | some r => r.sh
  | none => 0

/-- The registers from `lo` up to `hi` take their reset values but for the bits that `keep` gives. -/
def State.resetRegs (s : State) (lo hi : Nat) (keep : Nat → Nat) : State :=
  { s with regs := s.regs.filterMap fun p =>
      if p.1 < lo ∨ hi ≤ p.1 then some p
      else
        let w := Reg.blend (Reg.reset p.1) p.2 (keep p.1)
        if w = Reg.reset p.1 then none else some (p.1, w) }

/-- Fires a list of events, in order. -/
def State.fires (s : State) (es : List Nat) : State := s.each es State.fire

/-- Crossing `n` discards `k` items and counts them (R63); an absent crossing counts nothing. -/
def Clk.discard (s : State) (n k : Nat) : State :=
  if Clk.crossingPresent s.variant n && Pll.running s then s.addCnt (Reg.CLK_XDISC_DISCARD n) k else s

/-- The far side of crossing `n` enters a reset (`held`) or leaves one (R61 to R64): PEER_IN_RESET follows. While the root-derived clocks are
stopped both sides are in reset, and nothing is seen (R41, R66). -/
def Clk.hold (s : State) (n : Nat) (held : Bool) : State :=
  if !Pll.running s then s
  else
    let c := Sparse.get s.clk.odd n 0
    let c1 := if held then c + 1 else c - 1
    let s1 : State := { s with clk := { s.clk with odd := Sparse.put s.clk.odd n 0 c1 } }
    if Clk.crossingPresent s.variant n then s1.setFlag (Reg.CLK_XFLAG_PEER_IN_RESET n) (decide (0 < c1)) else s1

/-- The far side of crossing `n` is in reset, gated or stopped, so that what is offered to it is discarded (R60, R63). -/
def Clk.held (s : State) (n : Nat) : Bool := decide (0 < Sparse.get s.clk.odd n 0)

/-- The crossings whose items no command tells one by one: the host crossings when their clock stops, the lanes, the ports and the sense
groups. -/
def Clk.untold (n : Nat) : Bool := decide (1 ≤ n ∧ n ≤ 82) || decide (88 ≤ n ∧ n ≤ 95)

/-- What crossing `n` has in flight is discarded (R63): the pulses of crossings 84 and 86, and at a FIFO a FREE number of unread entries
within its depth. -/
def Clk.drop (s : State) (n : Nat) : State :=
  if n = 84 then
    Clk.discard { s with clk := { s.clk with x84 := {} } } 84 (s.clk.x84.wait.length + if s.clk.x84.busy.isSome then 1 else 0)
  else if n = 86 then Clk.discard { s with clk := { s.clk with x86 := [] } } 86 s.clk.x86.length
  else if Clk.untold n then Clk.discard s.drew n (s.freeNat % (Clk.depth n + 1))
  else s

/-- The far side of crossing `n` enters a reset, a gate closes or its clock stops: what is in flight is discarded (R60, R63). -/
def Clk.shut (s : State) (n : Nat) : State := Clk.hold (if Clk.held s n then s else Clk.drop s n) n true

/-- The far side of crossing `n` runs again (R64); how many items were offered meanwhile at a crossing of `Clk.untold` is FREE, and they have
been discarded and counted (R63). -/
def Clk.reopen (s : State) (n : Nat) : State :=
  let t := Clk.hold s n false
  if Clk.untold n && Clk.held s n && !Clk.held t n then Clk.discard t.drew n t.freeNat else t

/-- A FIFO whose writer cannot wait is full and loses an item, or a fifth pulse is lost (R54, R58): OVERRUN of crossing `n`, and its event
(R74). A crossing whose writer waits loses nothing. -/
def Clk.overrun (s : State) (n : Nat) : State := if Clk.loses n then s.setFire (Reg.CLK_XFLAG_OVERRUN n) 8 else s

/-- The crossings that a reset of a target holds on its side (Table 02-8). -/
def ResetTarget.crossings : ResetTarget → List Nat
  | .switch => (List.range 8).map (3 + ·)
  | .port p => [3 + p, 7 + p]
  | .sapAes => (List.range 40).map (27 + ·) ++ (List.range 8).map (88 + ·)
  | .sap => (List.range 32).map (27 + ·)
  | .aes => (List.range 8).map (59 + ·) ++ (List.range 8).map (88 + ·)
  | .sfb => (List.range 16).map (67 + ·)
  | .twin => (List.range 16).map (11 + ·)
  | .evu => [84]
  | .cpx => [86]
  | _ => []

/-- The registers of stall `i` at a reset of the stall (R104): the live bank and the ping-pong strides change only at a swap; a
WARM_N keeps RW fields (R530). -/
def Stl.resetRegs (s : State) (i : Nat) (warm : Bool) : State :=
  s.resetRegs (0x100000 + 0x4000 * i) (0x104000 + 0x4000 * i) fun o =>
    if 0x134 ≤ o % 0x4000 ∧ o % 0x4000 ≤ 0x13C then 2 ^ 32 - 1
    else if o % 0x4000 = 0x130 then 1
    else if warm then Reg.config o else 0

/-- Stall `i` stops (Table 18-3): inside the compute window a stall with code that has reached neither WAITF nor a stopping
exception has overrun the frame. Program banks and memories are kept. -/
def Stl.reset (warm : Bool) (s : State) (i : Nat) : State :=
  let x := Sparse.get s.stalls i {}
  let st : StallStatus :=
    if s.phase = .c ∧ x.code = true ∧ x.status ≠ .waitf ∧ x.status ≠ .exception then .overrun
    else match x.status with
      | .running => .idle
      | .atSync => .idle
      | o => o
  let y : Stall := { code := x.code, prog := x.prog, progErr := x.progErr, status := st }
  Stl.resetRegs { s with stalls := Sparse.put s.stalls i {} y } i warm

/-- A barn and its stalls. -/
def Barn.reset (s : State) (b : Nat) (warm : Bool) : State :=
  s.each ((List.range 8).map (8 * b + ·)) (Stl.reset warm)

/-- Port `p` of the switch: its queues empty, its link retrains. -/
def Nsw.portReset (s : State) (p : Nat) : State :=
  let link := s.flag (Reg.NSW_PORT_LINK p)
  let path := if p % 2 = 0 then Reg.NSW_RED_PATH_A (p / 2) else Reg.NSW_RED_PATH_B (p / 2)
  let had := s.flag path
  let s1 := (({ s with nsw := { s.nsw with ports := Sparse.erase s.nsw.ports p } } : State).resetRegs
    (0x060010 + 8 * p) (0x060018 + 8 * p) Reg.config).resetRegs (0x065000 + 0x20 * p) (0x065020 + 0x20 * p) Reg.config
  (s1.setFlag path false).fires ((if link then [80 + p] else []) ++ if had then [84 + p / 2] else [])

/-- The bits of a switch register that its reset keeps: configuration, and NSW_RXBUF.CLASH, which only a write of STRM_EN clears (R362). -/
def Nsw.kept (off : Nat) : Nat := Reg.config off ||| if off = 0x060040 then 2 ^ 31 else 0

/-- The network switch: queues, tables and buffers empty, links retrain. -/
def Nsw.reset (s : State) : State :=
  let s1 := s.each (List.range s.variant.ports) Nsw.portReset
  ({ s1 with nsw := { annSeq := s1.nsw.annSeq } } : State).resetRegs 0x060000 0x070000 Nsw.kept

/-- The marks of the port buffer of the ports from `lo` up to `hi` are cleared, with the ports' own records. -/
def Port.clear (s : State) (lo hi : Nat) : State :=
  let out_ (k : Nat) := decide (k < lo) || decide (hi ≤ k)
  { s with sap := { s.sap with
      ports := s.sap.ports.filter fun p => out_ p.1
      marks := s.sap.marks.filter fun p => out_ (p.1 / 1024)
      supplied := s.sap.supplied.filter fun p => out_ (p.1 / 32) } }

/-- The SAP block stops; its ports restart as configured (E096 + p with CLK_OK, R403), and a CLASH stands (R411). -/
def Sap.reset (s : State) : State :=
  let lost := (List.range s.variant.saps).filter fun p => !s.flag (Reg.SAP_ST_CLK_OK p)
  ((Port.clear s 0 16).resetRegs 0x070000 0x080000 fun o =>
    Reg.config o ||| if o = Reg.SAP_PBUF_CLASH.off then 2 ^ 31 else 0).fires (lost.map (96 + ·))

/-- The AES block stops; its ports restart as configured. -/
def Aes.reset (s : State) : State :=
  let locked := (List.range s.variant.aess).filter fun n => s.fld (Reg.AES_ST_LOCK n) ≠ 0
  let s1 := Port.clear s 16 32
  (({ s1 with sap := { s1.sap with aes := [] } } : State).resetRegs 0x080000 0x090000 Reg.config).fires
    (locked.map (112 + ·))

/-- The bank runs (R432). -/
def Sfb.runs (s : State) : Bool := s.flag Reg.SFB_ST_RUN

/-- The device drives SNS_CLK_O (R417). -/
def Sfb.showDriving (s : State) : State :=
  let m := s.fld Reg.SFB_CTL_MODCLK
  s.setFlag Reg.SFB_ST_DRIVING (Sfb.runs s && (m == 0 || (decide (2 ≤ m) && s.flag Reg.TWN_ST_OWN)))

/-- The sense filter bank stops; its clock detector is not part of it, and a CLASH stands (R425). -/
def Sfb.reset (s : State) : State :=
  let t := (({ s with sfb := {} } : State).resetRegs 0x090000 0x0A0000 Reg.config).setFlag Reg.SFB_ST_CLK_OK (s.flag Reg.SFB_ST_CLK_OK)
  t.setFlag Reg.SFB_SBUF_CLASH (s.flag Reg.SFB_SBUF_CLASH)

/-- STATE of drive channel `n` takes `st`; DRV_LATCHED and DRV_ST.PLAYING follow (Table 15-2). -/
def Drv.enter (s : State) (n st : Nat) : State :=
  let s1 := (s.setFld (Reg.DRV_CHST_STATE n) st).setVecBit 0x0A3000 n (decide (st = 5))
  s1.setFld Reg.DRV_ST_PLAYING
    ((List.range s.variant.drvCh).filter fun c => s1.fld (Reg.DRV_CHST_STATE c) = 2).length

/-- The drive stage: channels OFF, pins low, histories and latches cleared (R448, R458); a SAFE force keeps its channels in SAFE,
and after SAVE_WARN the stage stays stopped (R549). -/
def Drv.reset (s : State) (warm : Bool) : State :=
  let warned := s.saveWarned
  let s1 := ({ s with drv := { save := if warned then s.drv.save else none, dead := warned } } : State).resetRegs 0x0A0000 0x0B0000
    (if warm then Reg.config else Reg.frameBits)
  let s2 := s1.setFlag Reg.DRV_ST_SAVE (warned && s.drv.save.isSome)
  if (s.fld Reg.FC_STAT_SAFE).testBit 0 then s2.each (List.range s.variant.drvCh) fun t n => Drv.enter t n 6 else s2

/-- The peer pair reads 10: the peer asserts. -/
def Twn.peerOwns (s : State) : Bool := s.flag Reg.TWN_ST_PEER_P && !s.flag Reg.TWN_ST_PEER_N

/-- The peer pair reads 01: the peer deasserts. -/
def Twn.peerFree (s : State) : Bool := !s.flag Reg.TWN_ST_PEER_P && s.flag Reg.TWN_ST_PEER_N

/-- MOD runs, in whose cycles the qualification counts (R493). -/
def Twn.clocked (s : State) : Bool := Pll.running s && s.flag Reg.CLK_GATE_MOD_EN

/-- MOD has started or stopped, or the pins are first seen: the qualification counts from zero (R493). -/
def Twn.qualify (s : State) : State :=
  { s with twn := { s.twn with qual := if Twn.clocked s && Twn.peerFree s then some s.tkp.node else none } }

/-- Eligibility for ownership (R492). -/
def Twn.elig (s : State) : Bool :=
  s.variant.tether && s.flag Reg.TWN_CTL_OWN_EN && s.running && s.flag Reg.DRV_ST_RUN &&
  !(s.fld Reg.FC_STAT_SAFE).testBit 2 && !s.saveWarned &&
  (decide (s.role ≤ 3) || (s.flag Reg.TWN_CTL_SUSPECT_TAKE && !s.flag Reg.TWN_ST_HB_OK && !Tth.up s))

/-- The owner deasserts with a cause of Table 17-3. Its own qualification starts again, by the long rule until the peer has been
seen to assert (R493). -/
def Twn.dropNow (s : State) (code : Nat) : State :=
  if !s.flag Reg.TWN_ST_OWN then s
  else
    let s1 := ((((s.setFlag Reg.TWN_ST_OWN false).setFld Reg.TWN_TAKE_DROP code).fire 65).send (.own false))
    Sfb.showDriving { s1 with twn := { s1.twn with
      drop := none, lastDrop := code, blind := !Twn.peerOwns s
      qual := if Twn.peerFree s then some s.tkp.node else none } }

/-- A cause for which the owner drops ownership (Table 17-3): at its next carrier boundary, or at once where the drive stage has
stopped. The first cause stands. -/
def Twn.request (s : State) (code : Nat) : State :=
  if !s.flag Reg.TWN_ST_OWN then s
  else if s.flag Reg.DRV_ST_RUN then { s with twn := { s.twn with drop := some (s.twn.drop.getD code) } }
  else Twn.dropNow s (s.twn.drop.getD code)

/-- A carrier boundary at instant `at_` (root cycles): a drop that waits happens (R494). -/
def Twn.carrier (s : State) (at_ : Nat) : State :=
  match s.twn.drop with
  | none => s
  | some c =>
    let t := Twn.dropNow s c
    { t with twn := { t.twn with qual := t.twn.qual.map fun _ => at_ } }

/-- The tether leaves TRAIN or UP (R503): E066, DOWNS, DOWN blocks unless the transmitters are in electrical idle (EN = 0, or WARM_N, Table
18-13); both directions start afresh, and no command waits for the standby any more. -/
def Tth.down (s : State) : State :=
  let l := s.fld Reg.TWN_ST_LINK
  if l = 0 then s
  else
    let s1 := (s.setFld Reg.TWN_ST_LINK 0).fire 66
    let s2 := if l = 2 then s1.incCnt Reg.TWN_CNT1_DOWNS else s1
    let s3 := if s.flag Reg.TWN_CTL_EN && !s.pwr.warm then s2.send .tetherDown else s2
    Cmd.releaseAcks { s3 with twn := { s3.twn with
      txSeq := 0, rxNext := 0, held := [], wait := [], rxCount := 0, crcRun := 0, naks := [], helloIn := false, helloSeq := none } }

/-- The twin unit (Table 18-3, R520): SOLO, ownership dropped at once, link DOWN, every field but the RW fields of TWN_CTL and
TWN_CFG reset; SENIOR and the peer's pins are what they are. -/
def Twn.reset (s : State) : State :=
  if !s.variant.tether then s
  else
    let role := s.role
    let hb := s.flag Reg.TWN_ST_HB_OK
    let s1 := Tth.down (Twn.dropNow s 7)
    let pins : Nat := 0x00604000
    let s2 := s1.resetRegs 0x0D0000 0x0E0000 fun o => if o = 0x0D0008 then pins else Reg.config o
    let s3 : State := { s2 with twn := { hbo := s2.twn.hbo, qual := s2.twn.qual, blind := s2.twn.blind } }
    (s3.setFlag Reg.TOP_RCD_FLAGS_PEER_MATCH false).fires ((if role = 0 then [] else [64]) ++ if hb then [68] else [])

/-- The event unit (Table 18-3): pending requests are cleared, then recomputed from EVU_RAW and EVU_EN. -/
def Evu.reset (s : State) : State :=
  Evu.eval (({ Clk.drop s 84 with evu := { s.evu with vec := [], pba := 0 } } : State).setReg 0x030580 0) false

/-- The command processor stops (R337); the directory no longer names the slot of a swap that was cancelled. -/
def Cmd.reset (s : State) : State :=
  let t := ((Cmd.halt s).setFlag Reg.CMD_STAT_CPX_READY false).setFlag Reg.GRAPH_COMMIT_PENDING false
  if t.bale.mark = s.bale.mark then t else Dir.update t

/-- The digest unit: the tree is computed anew, STALE until published, the generation unchanged. -/
def Rcd.reset (s : State) : State :=
  { s.setFlag Reg.TOP_RCD_FLAGS_STALE true with rcd := { s.rcd with leaves := [], built := false } }

/-- The signal graph: its effects follow from the next boundary (Table 18-3). -/
def Graph.reset (s : State) : State := { s with graph := { s.graph with rst := true } }

/-- Node time is about to become `node` without having run there: the instants kept on it move along, down to 0 at least (DESIGN CHOICE, log
67). -/
def State.shifted (s : State) (node : Nat) : State :=
  let at_ (t : Nat) : Nat := ((t : Int) + node - s.tkp.node).toNat
  { s with
    drv := { s.drv with chans := s.drv.chans.foldl (fun m p =>
      Sparse.put m p.1 {} { p.2 with trips := p.2.trips.map at_, hold := at_ p.2.hold }) [] }
    twn := { s.twn with qual := s.twn.qual.map at_, lastAuto := s.twn.lastAuto.map at_ } }

/-- The timekeeper (Table 12-1, R393): INIT, RUN = 0, for which an owner drops ownership (Table 17-3), its registers reset, or but for the
RW ones kept by WARM_N (R530); node time restarts at 0, steering is 0, and the value saved over a loss of power counts no more (R380). -/
def Tkp.reset (s : State) (warm : Bool) : State :=
  let ev := (if s.flag Reg.TOP_FRAME_CFG_RUN then [77] else []) ++ if s.fld Reg.TKP_STAT_STATE = 0 then [] else [72]
  let s1 : State := { (s.shifted 0).setReg 0x010008 0 with tkp := {}, phase := .none }
  let s2 := ((s1.resetRegs 0x050000 0x060000 fun o => if warm then Reg.config o else 0).setFlag Reg.TOP_FRAME_CFG_RUN false).fires ev
  if s.flag Reg.TOP_FRAME_CFG_RUN then Twn.request s2 5 else s2

/-- The reset of one target takes hold (R531); the crossings to it see its epoch odd (R63). -/
def State.enterReset (s : State) (t : ResetTarget) : State :=
  let s1 := match t with
    | .barn b => Barn.reset s b false
    | .fastMatrix => s
    | .switch => Nsw.reset s
    | .port p => Nsw.portReset s p
    | .sapAes => Aes.reset (Sap.reset s)
    | .sap => Sap.reset s
    | .aes => Aes.reset s
    | .sfb => if 0 < s.variant.snsIn then Sfb.reset s else s
    | .twin => Twn.reset s
    | .graph => Graph.reset s
    | .evu => Evu.reset s
    | .cpx => Cmd.reset s
    | .digest => Rcd.reset s
    | .groom => s
  s1.each (ResetTarget.crossings t) Clk.shut

/-- The reset of the target of a RESET reaction (R471, R531). -/
def State.blockReset (s : State) (t : ResetTarget) : State := s.enterReset t

/-- A unit fault of frame `f` is reported to the twin unit (R480). -/
def Twn.unitFault (s : State) (f : Nat) : State :=
  if s.variant.tether then { s with twn := { s.twn with faults := (f :: s.twn.faults).eraseDups.take 16 } } else s

/-- The blocks learn that the forced pin groups changed from `old` to FC_STAT.SAFE (R451, R468, R479): forced drive channels
enter SAFE, released ones OFF, while a LATCHED one stays so (R448); transmit ports released start from MUTED; a force on group OWN
drops ownership (Table 17-3). -/
def State.safeChanged (s : State) (old : Nat) : State :=
  let new := s.fld Reg.FC_STAT_SAFE
  let chans (p : Nat → Bool) := (List.range s.variant.drvCh).filter fun n => p (s.fld (Reg.DRV_CHST_STATE n))
  let s1 :=
    if new.testBit 0 ∧ !old.testBit 0 then s.each (chans (· != 5)) fun t n => Drv.enter t n 6
    else if old.testBit 0 ∧ !new.testBit 0 then s.each (chans (· == 6)) fun t n => Drv.enter t n 0
    else s
  let s2 := if old.testBit 1 ∧ !new.testBit 1 then
      (s1.each ((List.range s.variant.saps).filter fun p => s.flag (Reg.SAP_CFG_EN p) && s.flag (Reg.SAP_CFG_DIR p)) fun t p =>
        t.setFld (Reg.SAP_ST_STATE p) 1).each ((List.range s.variant.aess).filter fun n => s.flag (Reg.AES_CFG_TX_EN n)) fun t n =>
        t.setFld (Reg.AES_ST_TXSTATE n) 1
    else s1
  if new.testBit 2 ∧ !old.testBit 2 then Twn.dropNow s2 4 else s2

end Sys2Proof.Machine
end

