-- ==== Sys2Proof/Machine/Fc.lean ====
section
/-! DEFINITION. The fault collector (spec 16_fault_collector.md): a source leaves good, is recorded, reacts, is masked, is
released; the asynchronous latches; the event crossing 84. -/

namespace Sys2Proof.Machine

/-- The state of fault source `n`. -/
def State.fcSrc (s : State) (n : Nat) : FcSource := Sparse.get s.fc.src n {}

/-- `s` with the state of fault source `n` replaced. -/
def State.setFcSrc (s : State) (n : Nat) (x : FcSource) : State :=
  { s with fc := { s.fc with src := Sparse.put s.fc.src n {} x } }

/-- The class in force of source `n` (R464). -/
def Fc.cls (s : State) (n : Nat) : Nat := s.fld (Reg.FC_SRC_CLASS n)

/-- AON is lost: the clocked logic of the collector holds its state (R71, R481). -/
def Fc.aonLost (s : State) : Bool := Clk.isLost s 4

/-- Source `n` is masked by an open consequence window (R472); a SAFE source never is. -/
def Fc.masked (s : State) (n : Nat) : Bool :=
  decide (Fc.cls s n ≠ Fc.safe) && s.fc.windows.any fun w => w.mask.testBit n

/-- The reaction of a source is in force and is one that is held: MUTE or SAFE, in FAULT or HELD (Tables 16-1, 16-4). -/
def FcSource.holds (x : FcSource) : Bool := (x.st == .fault || x.st == .held) && decide (Fc.mute ≤ x.cls)

/-- The MUTE level (R469): some source of class MUTE holds its reaction. -/
def Fc.muteLevel (s : State) : Bool := s.fc.src.any fun p => p.2.holds && p.2.cls == Fc.mute

/-- The pin groups forced by the latches that are set (R466). -/
def Fc.forced (s : State) : Nat := s.fc.src.foldl (fun a p => if p.2.latch then a ||| p.2.groups else a) 0

/-- FC_LIVE is all zeros. -/
def Fc.allGood (s : State) : Bool := (List.range 6).all fun w => s.fld (Reg.FC_LIVE_LIVE w) == 0

/-- FC_LIVE and FC_HELD of source `n`, and FC_STAT, follow the collector's state; the blocks learn of a changed force. -/
def Fc.show (s : State) (n : Nat) : State :=
  let x := s.fcSrc n
  let old := s.fld Reg.FC_STAT_SAFE
  let s1 := s.setVecBit 0x020060 n x.holds
  let s2 := s1.setFlag Reg.FC_STAT_MUTE (Fc.muteLevel s1)
  let s3 := s2.setFld Reg.FC_STAT_SAFE (Fc.forced s2)
  if s3.fld Reg.FC_STAT_SAFE = old then s3 else s3.safeChanged old

/-- Delivering the pulses of crossing 84 whose launch falls at or before AON cycle `a` (R53, R54): the handshake of this
pairing takes exactly 2 AON cycles. -/
def Fc.advance (a : Nat) : Nat → State → State
  | 0, s => s
  | k + 1, s =>
    match s.clk.x84.busy, s.clk.x84.wait with
    | some b, p :: ps =>
      if b ≤ a then
        Fc.advance a k
          (({ s with clk := { s.clk with x84 := { wait := ps, busy := some (b + 2) } } } : State).each p State.fire)
      else s
    | some b, [] => if b ≤ a then { s with clk := { s.clk with x84 := {} } } else s
    | none, _ => s

/-- Delivering every pulse that crossing 84 still holds; at most 3 wait, so the crossing is idle within 8 AON cycles. -/
def Fc.drain (s : State) : State :=
  s.clk.x84.wait.foldl (fun t p => t.each p State.fire) ({ s with clk := { s.clk with x84 := {} } } : State)

/-- The events of one AON edge enter crossing 84 (R486). With a stamp the crossing's pending limit applies (R54);
without one the crossing is taken as idle. While the event unit is in reset the pulse is discarded and counted (R63); while the
root-derived clocks are stopped CLK_XDISC is in reset too (R41). -/
def Fc.launch (s : State) (aon : Option Nat) (evs : List Nat) : State :=
  if !Pll.running s then s
  else if Clk.held s 84 then (if evs.isEmpty then s else Clk.discard s 84 1)
  else match aon with
  | none => (Fc.drain s).each evs State.fire
  | some a =>
    let s := Fc.advance a 5 s
    if evs.isEmpty then s
    else match s.clk.x84.busy with
      | none => ({ s with clk := { s.clk with x84 := { wait := [], busy := some (a + 2) } } } : State).each evs State.fire
      | some b =>
        if s.clk.x84.wait.length < 3 then
          { s with clk := { s.clk with x84 := { wait := s.clk.x84.wait ++ [evs], busy := some b } } }
        else Clk.overrun s 84

/-- A configuration register of the collector has changed (R56, R57). The changes cross as one word; eight attempts in a row disagree only
where each of at least eight changes falls between two edges of AON, and whether the changes so far came so fast is FREE (log 68). -/
def Fc.configured (s : State) : State :=
  let s1 : State := { s with clk := { s.clk with cfg := min 8 (s.clk.cfg + 1) } }
  if s1.clk.cfg < 8 ∨ Fc.aonLost s then s1
  else
    let s2 := s1.drew.setFlag (Reg.CLK_XFLAG_STALE_NOW 85) s1.freeBit
    if s1.freeBit then s2.setFire (Reg.CLK_XFLAG_STALE 85) 8 else s2

/-- A source that leaves good on an AON edge, with its syndrome (R462, R481): the RAIL code, ASYNC, CLEARED, RESUMED. -/
structure FcLeave where
  src     : Nat
  rail    : Nat := 0
  async   : Bool := false
  cleared : Bool := false
  resumed : Bool := false
  deriving DecidableEq, Repr

/-- The event of a class (R476). -/
def Fc.classEvent (c : Nat) : Nat := if c = Fc.safe then 18 else if c = Fc.mute then 19 else if c = Fc.reset then 20 else 21

/-- The source that takes the record among those that leave good on one edge: the strongest class in force, then the
lowest number (R475). -/
def Fc.strongest (s : State) : List FcLeave → Option FcLeave
  | [] => none
  | l :: ls =>
    match Fc.strongest s ls with
    | none => some l
    | some m =>
      if Fc.cls s l.src > Fc.cls s m.src ∨ (Fc.cls s l.src = Fc.cls s m.src ∧ l.src ≤ m.src) then some l else some m

/-- Writing the first-fault record (R474). -/
def Fc.record (s : State) (l : FcLeave) (frame : Nat) : State :=
  (((((((((s.setFlag Reg.FC_FIRST_VALID true).setFld Reg.FC_FIRST_CLASS (Fc.cls s l.src)).setFlag Reg.FC_FIRST_RESUMED
    l.resumed).setFlag Reg.FC_FIRST_CLEARED l.cleared).setFlag Reg.FC_FIRST_ASYNC l.async).setFld Reg.FC_FIRST_RAIL
    l.rail).setFld Reg.FC_FIRST_SRC l.src).setFld Reg.FC_FIRST_TS_TS (s.fld Reg.FC_AON_NOW_NOW)).setFld
    Reg.FC_FIRST_FRAME_FRAME frame)

/-- The mask FC_CQ[n] as one number. -/
def Fc.cqMask (s : State) (n : Nat) : Nat :=
  (List.range 6).foldl (fun a w => a + 2 ^ (32 * w) * (s.reg (0x021000 + 32 * n + 4 * w)).toNat) 0

/-- A masked source leaves good (R472): its FC_SHADOW bit and the count. A HELD source keeps its reaction. -/
def Fc.maskedHit (s : State) (l : FcLeave) : State :=
  let x := s.fcSrc l.src
  let s1 := s.setFcSrc l.src { x with st := if x.st = .held then .held else .shadow }
  (s1.setVecBit 0x020080 l.src true).incCnt Reg.FC_SHADOW_COUNT_COUNT

/-- The RESET reaction of source `n` (R471, R472): the reset pulse on its target, and the consequence window. The fast
matrix is reset by its own step FAST_MATRIX_RESET. -/
def Fc.resetReaction (s : State) (n : Nat) : State :=
  match Fc.target n with
  | none => s
  | some t =>
    let s1 : State := { s with fc := { s.fc with pulses := s.fc.pulses ++ [n],
                                                 windows := s.fc.windows ++ [{ src := n, mask := Fc.cqMask s n }] } }
    let s2 := s1.setFld Reg.FC_STAT_WINDOWS s1.fc.windows.length
    if t = .fastMatrix then s2 else s2.blockReset t

/-- An unmasked source leaves good (R476, R480): pending bit, count, reaction, unit fault. A SAFE source whose latch is not
set has it set by the clocked path (R466). -/
def Fc.leaves (s : State) (frame : Nat) (l : FcLeave) : State :=
  let n := l.src
  let c := Fc.cls s n
  let x := s.fcSrc n
  let grp := if c = Fc.safe ∧ x.latch = false then s.fld (Reg.FC_SRC_GROUPS n) else x.groups
  let s1 := s.setFcSrc n { x with st := .fault, cls := c, latch := x.latch || decide (c = Fc.safe), groups := grp }
  let s2 := (s1.setVecBit 0x020020 n true).incCnt (Reg.FC_SRC_COUNT n)
  let s3 := Fc.show s2 n
  let s4 := if c = Fc.reset then Fc.resetReaction s3 n else s3
  s4.when (Fc.unitFault n) fun t => Twn.unitFault t frame

/-- The sources of `ls` leave good on one AON edge. `frame` is the boundary number of R474. -/
def Fc.leaveAll (s : State) (aon : Option Nat) (frame : Nat) (ls : List FcLeave) : State :=
  let hid := ls.filter fun l => Fc.masked s l.src
  let open_ := ls.filter fun l => !Fc.masked s l.src
  let shadowNew := hid.any fun l => !s.vecBit 0x020080 l.src
  let s1 := s.each hid Fc.maskedHit
  let had := s1.flag Reg.FC_FIRST_VALID
  let hadOvf := s1.flag Reg.FC_FIRST_OVF
  let s2 := if had then s1 else match Fc.strongest s1 open_ with
    | none => s1
    | some l => Fc.record s1 l frame
  let s3 := s2.when ((had && !open_.isEmpty) || decide (1 < open_.length)) fun t => t.setFlag Reg.FC_FIRST_OVF true
  let clsEv := open_.map fun l => Fc.classEvent (Fc.cls s l.src)
  let s4 := s3.each open_ fun t l => Fc.leaves t frame l
  let evs := (if !had && s4.flag Reg.FC_FIRST_VALID then [16] else []) ++
    (if !hadOvf && s4.flag Reg.FC_FIRST_OVF then [17] else []) ++ clsEv.eraseDups ++ (if shadowNew then [23] else [])
  Fc.launch s4 aon evs

/-- A source's FC_LIVE bit follows its pair, and its state follows FC_LIVE (Table 16-5). -/
def Fc.settle (s : State) (n : Nat) : State :=
  let x := s.fcSrc n
  let s1 := s.setVecBit 0x020040 n (decide (x.pair ≠ 1))
  if x.pair = 1 then
    let st := match x.st with
      | .fault => if Fc.mute ≤ x.cls then SrcState.held else .idle
      | .shadow => .idle
      | o => o
    Fc.show (s1.setFcSrc n { x with st := st }) n
  else Fc.show s1 n

/-- Settling the sources `ns`; E022 when FC_LIVE becomes all zeros (R463). -/
def Fc.settleAll (s : State) (aon : Option Nat) (ns : List Nat) : State :=
  let was := Fc.allGood s
  let s1 := s.each ns Fc.settle
  if !was && Fc.allGood s1 then Fc.launch s1 aon [22] else s1

/-- A departure of `ps` picoseconds sets a SAFE source's latch: at least 1.0 ns always, at least 0.5 ns FREE (R466). -/
def Fc.latchSets (s : State) (c : FcChange) : Bool :=
  decide (Fc.cls s c.src = Fc.safe) && decide (c.pair ≠ 1) &&
    (match c.ps with
     | none => true
     | some d => decide (1000 ≤ d) || (decide (500 ≤ d) && s.freeBit))

/-- The clocked path sees a departure: one that stays, or one that lasts at least 4 AON cycles (R461); a shorter one it may
see or not (FREE), and only where it reads 10. -/
def Fc.sampled (s : State) (c : FcChange) : Bool :=
  decide (c.pair = 2) &&
    (match c.ps with
     | none => true
     | some d => decide (127600 ≤ d) || (decide (500 ≤ d) && s.drew.freeBit))

/-- One pair change arrives: the pair and the latch, at once and with no clock. Answers the source as leaving good where
the clocked path will see it (R462, R466). -/
def Fc.arrive (s : State) (c : FcChange) : State × List FcLeave :=
  if !Fc.present s.variant c.src then (s, [])
  else
    let x := s.fcSrc c.src
    let set := Fc.latchSets s c && !x.latch
    let seen := Fc.sampled s c
    let pair := if c.ps = none then c.pair % 4 else x.pair
    let x1 := { x with pair := pair, latch := x.latch || set,
                       groups := if set then s.fld (Reg.FC_SRC_GROUPS c.src) else x.groups }
    let was10 := x.pair = 2 && c.pair = 2
    let s1 := Fc.show ((if c.ps = none then s else s.drew.drew).setFcSrc c.src x1) c.src
    if (x.st = .idle || x.st = .held) && ((seen && !was10) || set) then
      (s1, [{ src := c.src, async := x1.latch, cleared := decide (pair = 1) }])
    else (s1, [])

/-- Several pair changes arrive before one AON edge. -/
def Fc.arriveAll (s : State) (cs : List FcChange) : State × List FcLeave :=
  cs.foldl (fun p c => let q := Fc.arrive p.1 c; (q.1, p.2 ++ q.2)) (s, [])

/-- Pair changes and the AON edge that samples them; pulses of crossing 84 that have been delivered by then come first. While AON is lost only
the pairs and latches act (R481). -/
def Fc.edge (s : State) (aon : Option Nat) (frame : Nat) (cs : List FcChange) : State :=
  let p := Fc.arriveAll (match aon with
    | some a => Fc.advance a 5 s
    | none => s) cs
  if Fc.aonLost s then p.1
  else
    let ns := (cs.map fun c => c.src).filter fun n => Fc.present s.variant n
    Fc.settleAll (Fc.leaveAll p.1 aon frame p.2) aon ns

/-- The boundary number that a record carries (R474): the most recent boundary, or the one before it while its strobe has
not reached AON. -/
def Fc.frameOf (s : State) (strobe : Bool) : Nat := if strobe then s.frameNo else s.frameNo - 1

/-- A block pulses the pair of its kind-E source `n` (R461): 10 for 4 to 5 AON cycles, then good again. An occurrence while
the pair is away from good merges. -/
def State.faultEvent (s : State) (n : Nat) : State :=
  if (s.fcSrc n).pair ≠ 1 then s
  else Fc.edge (Fc.edge s none s.frameNo [⟨n, 2, none⟩]) none s.frameNo [⟨n, 1, none⟩]

/-- A block drives the pair of its kind-L source `n` to fault (`b`) or good (R461). -/
def State.faultLevel (s : State) (n : Nat) (b : Bool) : State :=
  let v := if b then 2 else 1
  if (s.fcSrc n).pair = v then s else Fc.edge s none s.frameNo [⟨n, v, none⟩]

/-- FC_RELEASE acts (R478): SCOPE 0 names every source, SCOPE 1 the source alone. Answers the state and the numbers of
sources released and of those named but live. -/
def Fc.release (s : State) (scope src : Nat) : State × Nat × Nat :=
  let named := (List.range 192).filter fun n => (scope = 0 || n = src) && Fc.present s.variant n
  let holding := named.filter fun n => let x := s.fcSrc n; s.vecBit 0x020020 n || x.holds || x.latch
  let go := holding.filter fun n => let x := s.fcSrc n; x.pair = 1 && (x.st = .idle || x.st = .held)
  let live := holding.filter fun n => s.vecBit 0x020040 n
  let s1 := s.each go fun t n =>
    let t1 := (t.setVecBit 0x020020 n false).setFcSrc n { t.fcSrc n with st := .idle, latch := false, groups := 0, cls := 0 }
    Fc.show (if t1.flag Reg.FC_FIRST_VALID && t1.fld Reg.FC_FIRST_SRC = n then
      (t1.setFlag Reg.FC_FIRST_VALID false).setFlag Reg.FC_FIRST_OVF false else t1) n
  (s1, go.length, live.length)

/-- FAULT_PAIR_CHANGE (R459): pairs change and the AON edge `aon` samples them; `strobe` tells whether the strobe of the
most recent boundary has reached AON (R474). -/
def execFaultPairChange (aon : Nat) (strobe : Bool) (changes : List FcChange) (s : State) :
    Host.Outcome State Fault Refusal :=
  let s1 := if Fc.aonLost s then s else s.setFld Reg.FC_AON_NOW_NOW aon
  .next (Fc.edge s1 (some aon) (Fc.frameOf s strobe) changes)

/-- RAIL_DISAGREE (R462): the pair of source `n` has read 00 or 11 on 3 consecutive AON edges. -/
def execRailDisagree (aon : Nat) (strobe : Bool) (n : Nat) (s : State) : Host.Outcome State Fault Refusal :=
  let x := s.fcSrc n
  if !Fc.present s.variant n || Fc.aonLost s || !(x.pair = 0 || x.pair = 3) || !(x.st = .idle || x.st = .held) then .next s
  else .next (Fc.leaveAll (s.setFld Reg.FC_AON_NOW_NOW aon) (some aon) (Fc.frameOf s strobe)
    [{ src := n, rail := if x.pair = 0 then 1 else 2, async := x.latch }])

/-- The windows without the oldest one of source `n`. -/
def Fc.dropWindow (n : Nat) : List FcWindow → List FcWindow
  | [] => []
  | w :: ws => if w.src = n then ws else w :: Fc.dropWindow n ws

/-- CONSEQUENCE_WINDOW_CLOSE (R473): the oldest window of source `n` closes; every source it masked that no other window
masks and whose FC_LIVE bit is 1 leaves good unmasked. While AON is lost no window's time passes (R71). -/
def execConsequenceWindowClose (aon : Nat) (strobe : Bool) (n : Nat) (s : State) : Host.Outcome State Fault Refusal :=
  match (if Fc.aonLost s then none else s.fc.windows.find? fun w => w.src = n) with
  | none => .next s
  | some w =>
    let s1 : State := { s with fc := { s.fc with windows := Fc.dropWindow n s.fc.windows } }
    let s2 := (s1.setFld Reg.FC_STAT_WINDOWS s1.fc.windows.length).setFld Reg.FC_AON_NOW_NOW aon
    let ms := (List.range 192).filter fun m =>
      w.mask.testBit m && !Fc.masked s2 m && s2.vecBit 0x020040 m && (s2.fcSrc m).st != .fault && (s2.fcSrc m).st != .idle
    let code (m : Nat) : Nat := match (s2.fcSrc m).pair with
      | 0 => 1
      | 3 => 2
      | _ => 0
    .next (Fc.leaveAll s2 (some aon) (Fc.frameOf s strobe)
      (ms.map fun m => { src := m, rail := code m, async := (s2.fcSrc m).latch }))

/-- MUTE_AUTO_RELEASE (R470): the hold-off of source `n` is complete. Only the held reaction is cleared. While AON is lost no hold-off
runs (R71). -/
def execMuteAutoRelease (n : Nat) (s : State) : Host.Outcome State Fault Refusal :=
  let x := s.fcSrc n
  if !Fc.aonLost s && x.st = .held && x.cls = Fc.mute && s.flag (Reg.FC_SRC_AUTO n) && x.pair = 1 then
    .next (Fc.show (s.setFcSrc n { x with st := .idle, cls := 0 }) n)
  else .next s

/-- What AON finds on its return (R481): the sources whose latch is set or whose pair differs from good leave good. -/
def Fc.resume (s : State) (aon : Nat) (strobe : Bool) : State :=
  let s0 := s.setFld Reg.FC_AON_NOW_NOW aon
  let ns := (List.range 192).filter fun n => Fc.present s.variant n
  let ls := ns.filter fun n => let x := s0.fcSrc n; (x.latch || decide (x.pair ≠ 1)) && (x.st = .idle || x.st = .held)
  let s2 := Fc.leaveAll s0 (some aon) (Fc.frameOf s strobe) (ls.map fun n =>
    let x := s0.fcSrc n
    { src := n, rail := if x.pair = 0 then 1 else if x.pair = 3 then 2 else 0, async := x.latch,
      cleared := decide (x.pair = 1), resumed := true })
  Fc.settleAll s2 (some aon) ns

end Sys2Proof.Machine
end

