-- ==== Sys2Proof/Machine/Operands.lean ====
section
/-! DEFINITION. The register files of a stall and the operand forms of Ibcor (spec 04_ibcor_encoding.md): predicates,
operand b, shapes, and address generation in every AMODE. -/

namespace Sys2Proof.Machine

/-- G register `n`. -/
def RegFile.gR (r : RegFile) (n : Nat) : Word := Sparse.get r.g n 0
/-- K register `n`; K0 reads all ones (R78). -/
def RegFile.kR (r : RegFile) (n : Nat) : Word := if n = 0 then BitVec.allOnes 32 else Sparse.get r.k n 0
/-- Element `i` of V register `n` (R76). -/
def RegFile.vR (r : RegFile) (n i : Nat) : Word := Sparse.get r.v (32 * n + i) 0
/-- Element `i` of accumulator `n`. -/
def RegFile.xR (r : RegFile) (n i : Nat) : Acc := Sparse.get r.x (32 * n + i) {}
/-- P register `n`. -/
def RegFile.pR (r : RegFile) (n : Nat) : Word := Sparse.get r.p n 0
/-- B register `n`. -/
def RegFile.bR (r : RegFile) (n : Nat) : Word := Sparse.get r.b n 0
/-- L register `n`. -/
def RegFile.lR (r : RegFile) (n : Nat) : Word := Sparse.get r.l n 0
/-- M register `n`. -/
def RegFile.mR (r : RegFile) (n : Nat) : Word := Sparse.get r.m n 0

/-- Writing G register `n`. -/
def RegFile.gW (r : RegFile) (n : Nat) (w : Word) : RegFile := { r with g := Sparse.put r.g n 0 w }
/-- Writing K register `n`; a write to K0 is discarded (R78). -/
def RegFile.kW (r : RegFile) (n : Nat) (w : Word) : RegFile := if n = 0 then r else { r with k := Sparse.put r.k n 0 w }
/-- Writing element `i` of V register `n`. -/
def RegFile.vW (r : RegFile) (n i : Nat) (w : Word) : RegFile := { r with v := Sparse.put r.v (32 * n + i) 0 w }
/-- Writing element `i` of accumulator `n`. -/
def RegFile.xW (r : RegFile) (n i : Nat) (x : Acc) : RegFile := { r with x := Sparse.put r.x (32 * n + i) {} x }
/-- Writing P register `n`. -/
def RegFile.pW (r : RegFile) (n : Nat) (w : Word) : RegFile := { r with p := Sparse.put r.p n 0 w }
/-- Writing B register `n`. -/
def RegFile.bW (r : RegFile) (n : Nat) (w : Word) : RegFile := { r with b := Sparse.put r.b n 0 w }
/-- Writing L register `n`. -/
def RegFile.lW (r : RegFile) (n : Nat) (w : Word) : RegFile := { r with l := Sparse.put r.l n 0 w }
/-- Writing M register `n`. -/
def RegFile.mW (r : RegFile) (n : Nat) (w : Word) : RegFile := { r with m := Sparse.put r.m n 0 w }

/-- Whether K register `n` enables element `i` (R77). -/
def RegFile.enabled (r : RegFile) (n i : Nat) : Bool := (r.kR n).toNat.testBit i

/-- The bundle predicate (R108). -/
def RegFile.predicate (r : RegFile) (pk : Nat) (pneg : Bool) : Bool := decide (r.kR pk ≠ 0) ^^ pneg

/-- The register that AREG names in format CA or LI (Tables 04-3, 04-4). -/
def RegFile.aR (r : RegFile) (a : Nat) : Word :=
  match a / 8 with
  | 0 => r.pR (a % 8)
  | 1 => r.bR (a % 8)
  | 2 => r.lR (a % 8)
  | 3 => r.mR (a % 8)
  | 4 => r.kR (a % 8)
  | _ => 0

/-- Writing the register that AREG names. -/
def RegFile.aW (r : RegFile) (a : Nat) (w : Word) : RegFile :=
  match a / 8 with
  | 0 => r.pW (a % 8) w
  | 1 => r.bW (a % 8) w
  | 2 => r.lW (a % 8) w
  | 3 => r.mW (a % 8) w
  | 4 => r.kW (a % 8) w
  | _ => r

/-- Operand b of a real multiply for element `i` (R117, Table 04-9). -/
def RegFile.bElem (r : RegFile) (vb : Nat) (b : BSel) (i : Nat) : Word :=
  match b with
  | .elemw => r.vR vb i
  | .laneb be => r.vR vb (4 * (i / 4) + be)
  | .glob bl be => r.vR vb (4 * bl + be)

/-- The pair b of VCMAC for lane `l` on half `h` (R117, Table 04-9). -/
def RegFile.bPair (r : RegFile) (vb : Nat) (b : BSel) (l h : Nat) : Int × Int :=
  let at_ (l h : Nat) := ((r.vR vb (4 * l + 2 * h)).toInt, (r.vR vb (4 * l + 2 * h + 1)).toInt)
  match b with
  | .elemw => at_ l h
  | .laneb be => at_ l (be % 2)
  | .glob bl be => at_ bl (be % 2)

/-- The reduction circ of R122. -/
def Addr.circ (a : Int) (b l : Nat) : Nat := if l = 0 then (a.emod (2 ^ 32)).toNat else b + ((a - b).emod l).toNat

/-- The carry chain of R124 from bit `j - 1` down to bit `z` of offset `o`. -/
def Addr.brevCarry (z o : Nat) : Nat → Nat
  | 0 => o
  | j + 1 => if j < z then o else if o.testBit j then Addr.brevCarry z (o - 2 ^ j) j else o + 2 ^ j

/-- The position of the lowest set bit of `x`, searched over `n` bits; `n` when none is set. -/
def Addr.lowBit (x : Nat) : Nat → Nat
  | 0 => 0
  | n + 1 => if x % 2 = 1 then 0 else Addr.lowBit (x / 2) n + 1

/-- The bit-reversed step brev of R124; `mv` is the modifier as an unsigned word. -/
def Addr.brev (q mv b l : Nat) : Nat :=
  if l = 0 then (q + mv) % 2 ^ 32
  else
    let w := Nat.log2 l
    let o := ((q : Int) - b).emod (2 ^ w) |>.toNat
    if mv = 0 then b + o else b + Addr.brevCarry (Addr.lowBit mv 32) o w

end Sys2Proof.Machine

namespace Sys2Proof

open Machine

/-- Memory elements of a shape (Table 04-7). -/
def Shape.count : Shape → Nat
  | .cont => 32 | .lane8 _ => 8 | .quad => 4 | .splat => 1

/-- The vector elements that receive memory element `j` (Table 04-7). -/
def Shape.elems (sh : Shape) (j : Nat) : List Nat :=
  match sh with
  | .cont => [j]
  | .lane8 e => [4 * j + e]
  | .quad => (List.range 8).map fun l => 4 * l + j
  | .splat => List.range 32

/-- Bytes per element (Table 04-6). -/
def LaOp.size (o : LaOp) : Nat := if o.p24 then 3 else 4

/-- The element addresses and the new pointer of an LA access with `cnt` elements (R121), from the registers `r`, the
parity `fp` of the frame and the stride `str` of the space. -/
def LaOp.access (o : LaOp) (r : RegFile) (cnt fp str : Nat) : List Nat × Word :=
  let b := (r.bR o.pn).toNat
  let l := (r.lR o.pn).toNat
  let p := (r.pR o.pn).toNat
  let m := r.mR o.mn
  let es := o.size
  let q : Nat := if o.amode = .prem then Addr.circ (p + m.toInt) b l else p
  let off : Nat := match o.amode with
    | .ppcur => fp * str
    | .ppprev => (1 - fp) * str
    | _ => 0
  let addr (j : Nat) : Nat :=
    (if o.amode = .brev then (q + j * es) % 2 ^ 32 else Addr.circ ((q : Int) + j * es) b l) + off
  let np : Nat := match o.amode with
    | .plain => p
    | .postm => Addr.circ (q + m.toInt) b l
    | .ppcur => Addr.circ (q + m.toInt) b l
    | .ppprev => Addr.circ (q + m.toInt) b l
    | .prem => q
    | .posts => Addr.circ (q + cnt * es : Nat) b l
    | .brev => Addr.brev q m.toNat b l
  ((List.range cnt).map addr, BitVec.ofNat 32 np)

end Sys2Proof
end

