-- ==== Sys2Proof/Machine/Mem.lean ====
section
/-! DEFINITION. The memories (spec 06_schedule_memory.md; 09_bales_digest.md R581): the MEMWIN space byte by byte, SEC-DED
words and their errors, mirrored regions, and bytes that several stalls store in one frame. -/

namespace Sys2Proof.Machine

/-- MEMWIN offset of the local memory of stall `i`. -/
def Mem.localBase (i : Nat) : Nat := 0xA000000 + 0x40000 * i
/-- MEMWIN offset of barn store `b`. -/
def Mem.barnBase (b : Nat) : Nat := 0x8000000 + 0x200000 * b
/-- MEMWIN offset of the tack room. -/
def Mem.tackBase : Nat := 0x9000000

/-- The address lies in the tack room window. -/
def Mem.inTack (a : Nat) : Bool := decide (0x9000000 ≤ a) && decide (a < 0xA000000)

/-- Bytes per SEC-DED word: 4 in a local memory (R185), 8 elsewhere (R188, R191, R581). -/
def Mem.wordSize (a : Nat) : Nat := if 0xA000000 ≤ a then 4 else 8

/-- First byte of the SEC-DED word that holds address `a`. -/
def Mem.wordOf (a : Nat) : Nat := a - a % Mem.wordSize a

/-- The distinct SEC-DED words of a list of addresses. -/
def Mem.wordsOf (as : List Nat) : List Nat := (as.map Mem.wordOf).eraseDups

/-- The byte at MEMWIN address `a`; one that nothing has written reads 0 (DESIGN CHOICE, log 3). -/
def State.byte (s : State) (a : Nat) : Byte := Sparse.get s.mem.bytes a 0

/-- `s` with the byte at MEMWIN address `a` replaced. -/
def State.setByte (s : State) (a : Nat) (b : Byte) : State :=
  { s with mem := { s.mem with bytes := Sparse.put s.mem.bytes a 0 b } }

/-- The `n` bytes from address `a`. -/
def State.bytesAt (s : State) (a n : Nat) : List Byte := (List.range n).map fun i => s.byte (a + i)

/-- `s` with the bytes `bs` written from address `a`, with no effect on check bits. -/
def State.setBytes (s : State) (a : Nat) (bs : List Byte) : State :=
  s.each (bs.zipIdx) fun t p => t.setByte (a + p.2) p.1

/-- The error mark of the word at `w`: 0 none, 1 correctable, 2 uncorrectable. -/
def Mem.err (s : State) (w : Nat) : Nat := Sparse.get s.mem.err w 0

/-- `s` with the error mark of the word at `w` replaced. -/
def Mem.setErr (s : State) (w m : Nat) : State := { s with mem := { s.mem with err := Sparse.put s.mem.err w 0 m } }

/-- The memory exists on this variant (R7). -/
def Mem.present (v : Variant) (a : Nat) : Bool :=
  if a < 0x8000000 then decide (a < v.hayMib * 0x100000)
  else if a < 0x9000000 then decide ((a - 0x8000000) / 0x200000 < v.barns)
  else if a < 0xA000000 then decide (a - 0x9000000 < 0x800000)
  else decide ((a - 0xA000000) / 0x40000 < v.stalls)

/-- The memory fault source of an address (Table 16-7). -/
def Mem.faultSource (a : Nat) : Nat :=
  if a < 0x8000000 then 42 + a / 0x1000000
  else if a < 0x9000000 then 36 + (a - 0x8000000) / 0x200000
  else if a < 0xA000000 then 62
  else 30 + (a - 0xA000000) / 0x200000

/-- A read or merge met the uncorrectable word `w` (R198, R581); `src` is TOP_MEM_UE_LOC.SRC. -/
def Mem.ue (s : State) (src w : Nat) : State :=
  (if Mem.inTack w then
    if s.flag Reg.TOP_TACK_STAT_UE then s.setFlag Reg.TOP_TACK_STAT_UE_OVF true
    else (s.setFlag Reg.TOP_TACK_STAT_UE true).setFld Reg.TOP_TACK_UE_LOC_ADDR (w - Mem.tackBase)
  else
    if s.flag Reg.TOP_MEM_STAT_UE then s.setFlag Reg.TOP_MEM_STAT_UE_OVF true
    else ((s.setFire Reg.TOP_MEM_STAT_UE 50).setFld Reg.TOP_MEM_UE_LOC_SRC src).setFld Reg.TOP_MEM_UE_LOC_ADDR w).faultEvent
    (Mem.faultSource w)

/-- A corrected single-bit error is counted (R197, R581). -/
def Mem.ce (s : State) (w : Nat) : State :=
  s.incCnt (if Mem.inTack w then Reg.TOP_TACK_STAT_CE else Reg.TOP_MEM_STAT_CE)

/-- A read meets the word `w`. -/
def Mem.meet (src : Nat) (s : State) (w : Nat) : State :=
  match Mem.err s w with
  | 0 => s
  | 1 => Mem.ce s w
  | _ => Mem.ue s src w

/-- A read of the bytes at the addresses `as`: each word is met once. -/
def Mem.readNote (s : State) (src : Nat) (as : List Nat) : State := s.each (Mem.wordsOf as) (Mem.meet src)

/-- Some byte of the element lies in an uncorrectable word, so the element reads zero (R198). -/
def Mem.bad (s : State) (a n : Nat) : Bool := (Mem.wordsOf ((List.range n).map (a + ·))).any fun w => Mem.err s w == 2

/-- What a read of the `n` bytes from `a` as one element returns. -/
def Mem.elem (s : State) (a n : Nat) : Nat := if Mem.bad s a n then 0 else Arith.ofBytes (s.bytesAt a n)

/-- Every byte of the word at `w` is among the addresses `as`. -/
def Mem.whole (as : List Nat) (w : Nat) : Bool := (List.range (Mem.wordSize w)).all fun i => as.contains (w + i)

/-- Writing the check bits of the word `w` in a write to the addresses `as` (R579). -/
def Mem.merge (src : Nat) (as : List Nat) (s : State) (w : Nat) : State :=
  if Mem.whole as w then Mem.setErr s w 0
  else match Mem.err s w with
    | 0 => s
    | 1 => Mem.setErr (Mem.ce s w) w 0
    | _ => Mem.ue s src w

/-- A write that is not a stall's has reached the bytes at `as`: what stalls stored there in this frame has been written before. -/
def Mem.forget (s : State) (as : List Nat) : State :=
  { s with mem := { s.mem with
      shared := s.mem.shared.filter fun x => !as.any fun a => decide (x.addr ≤ a) && decide (a < x.addr + x.bytes.length) } }

/-- One write of a bank: the cells in order, with the check bits of every word touched (R579). -/
def Mem.write (s : State) (src : Nat) (cells : List (Nat × Byte)) : State :=
  if cells.isEmpty then s
  else
    let as := cells.map fun c => c.1
    (s.each (Mem.wordsOf as) (Mem.merge src as)).each cells (fun t c => t.setByte c.1 c.2) |> fun t => Mem.forget t as

/-- The byte at `a` as a read returns it: zero in an uncorrectable word (R198, R581). -/
def Mem.clean (s : State) (a : Nat) : Byte := if Mem.err s (Mem.wordOf a) == 2 then 0 else s.byte a

/-- A read of the `n` bytes from `a` meets each word of them that has an error. -/
def Mem.noteRange (s : State) (src a n : Nat) : State :=
  s.each (s.mem.err.filter fun p => decide (a < p.1 + Mem.wordSize p.1) && decide (p.1 < a + n)) fun t p => Mem.meet src t p.1

/-- A read of the `n` bytes from `a`, with what it meets (R197, R198, R581). -/
def Mem.take (s : State) (src a n : Nat) : State × List Byte := (Mem.noteRange s src a n, (List.range n).map fun j => Mem.clean s (a + j))

/-- Both copies of the directory are read (R581, R583). -/
def Dir.noteRead (s : State) : State := Mem.noteRange s 2 0x9040000 0x1000

/-- The words that the `n` bytes from `a` touch. -/
def Mem.span (a n : Nat) : List Nat :=
  let z := Mem.wordSize a
  if n = 0 then [] else (List.range ((a + n - 1) / z + 1 - a / z)).map fun i => z * (a / z + i)

/-- A write of the bytes `bs` from `a` on (R579): a word written whole takes fresh check bits, another is merged. -/
def Mem.put (s : State) (src a : Nat) (bs : List Byte) : State :=
  let z := Mem.wordSize a
  let s1 := s.each (Mem.span a bs.length) fun t w =>
    if a ≤ w ∧ w + z ≤ a + bs.length then Mem.setErr t w 0 else Mem.merge src [] t w
  let s2 := s1.setBytes a bs
  { s2 with mem := { s2.mem with
      shared := s2.mem.shared.filter fun x => !(decide (x.addr < a + bs.length) && decide (a < x.addr + x.bytes.length)) } }

/-- The ping-pong stride of the space of a mirrored region (R125, R127). -/
def MirrorRegion.stride (s : State) (r : MirrorRegion) : Nat :=
  match r.space with
  | 0 => s.fld (Reg.STL_PP_LOC_STRIDE r.unit)
  | 1 => s.fld (Reg.STL_PP_BST_STRIDE (8 * r.unit))
  | _ => s.fld (Reg.STL_PP_HAY_STRIDE 0)

/-- MEMWIN address of the first byte of the region's space. -/
def MirrorRegion.origin (r : MirrorRegion) : Nat :=
  match r.space with
  | 0 => Mem.localBase r.unit
  | 1 => Mem.barnBase r.unit
  | _ => 0

/-- MEMWIN address of the first byte of the frame-k copy for parity `fp` (R212). -/
def MirrorRegion.copyBase (s : State) (r : MirrorRegion) (fp : Nat) : Nat :=
  r.origin + r.base + (if r.pp then fp * r.stride s else 0)

/-- The MEMWIN address lies in the region; a ping-pong region covers two copies (R210). -/
def MirrorRegion.covers (s : State) (r : MirrorRegion) (a : Nat) : Bool :=
  let at_ (b : Nat) := decide (b ≤ a) && decide (a < b + r.len)
  at_ (r.origin + r.base) || (r.pp && at_ (r.origin + r.base + r.stride s))

/-- The address lies in a mirrored region of the live bale. -/
def Mem.mirrored (s : State) (a : Nat) : Bool := s.mem.regions.any fun r => r.covers s a

/-- The store covers the byte at `a`. -/
def SharedStore.covers (x : SharedStore) (a : Nat) : Bool := decide (x.addr ≤ a) && decide (a < x.addr + x.bytes.length)

/-- The store covers some of the `n` bytes from `a`. -/
def SharedStore.meets (x : SharedStore) (a n : Nat) : Bool := decide (x.addr < a + n) && decide (a < x.addr + x.bytes.length)

/-- The store is ordered before an access of stall `i` that has issued `rel` SYNC bundles and before which `after` shared stores had been
issued: an earlier one of the stall itself (R128), or one that SYNC orders (R151, R152, R190). -/
def SharedStore.ordered (x : SharedStore) (i rel after : Nat) : Bool :=
  if x.stall = i then decide (x.num < after) else x.stall / 8 == i / 8 && decide (x.stamp < rel)

/-- The store may be seen by the access or not: it is another stall's and nothing orders it (R190, R195). -/
def SharedStore.loose (x : SharedStore) (i rel after : Nat) : Bool := x.stall != i && !x.ordered i rel after

/-- The stores of the frame that meet the `n` bytes from `a`. -/
def Mem.met (s : State) (a n : Nat) : List SharedStore := s.mem.shared.filter fun x => x.meets a n

/-- The bytes `bs` from `a` after the store. -/
def SharedStore.over_ (x : SharedStore) (a : Nat) (bs : List Byte) : List Byte :=
  bs.zipIdx.map fun p => if x.covers (a + p.2) then x.bytes.getD (a + p.2 - x.addr) p.1 else p.1

/-- The `n` bytes from `a` without the stores of this frame. -/
def Mem.base (s : State) (a n : Nat) : List Byte :=
  (List.range n).map fun j => if s.mem.shared.any fun x => x.covers (a + j) then Sparse.get s.mem.before (a + j) 0 else s.byte (a + j)

/-- The `n` bytes from `a` as a load sees them (R128, R152, R190, R194, R195): every store that is ordered before it, and of the loose ones
those whose bit of `seen` is set. -/
def Mem.view (s : State) (i rel after seen a n : Nat) : List Byte :=
  (Mem.met s a n).zipIdx.foldl (fun bs p =>
    if p.1.ordered i rel after || (p.1.loose i rel after && seen.testBit p.2) then p.1.over_ a bs else bs) (Mem.base s a n)

/-- A loose store of this frame meets the element. -/
def Mem.contested (s : State) (i rel after a n : Nat) : Bool := (Mem.met s a n).any fun x => x.loose i rel after

/-- The bytes of a shared element as a load sees them: which loose stores it sees is FREE for each element (R190, R195). -/
def Mem.sharedBytes (s : State) (i rel after a n : Nat) : State × List Byte :=
  if Mem.contested s i rel after a n then (s.drew, Mem.view s i rel after s.freeNat a n) else (s, Mem.view s i rel after 0 a n)

/-- The new store among those of the frame: last, or, where it loses to the loose ones that it meets, just after the last one that is
ordered before it. -/
def Mem.place (x : SharedStore) (lose : Bool) (l : List SharedStore) : List SharedStore :=
  if !lose then l ++ [x]
  else
    let k := (l.zipIdx.filter fun p => p.1.meets x.addr x.bytes.length && p.1.ordered x.stall x.rel x.num).foldl (fun a p => max a (p.2 + 1)) 0
    l.take k ++ x :: l.drop k

/-- Stall `i` stores the element `bs` at `a` of a shared space: where loose stores of this frame meet it, which of them remains is FREE
(R190, R195). -/
def Mem.storeShared (s : State) (i stamp rel a : Nat) (bs : List Byte) : State :=
  let n := bs.length
  let fight := Mem.contested s i rel s.mem.issued a n
  let x : SharedStore := { stall := i, stamp := stamp, rel := rel, num := s.mem.issued, addr := a, bytes := bs }
  let before := (List.range n).foldl (fun m j =>
    if s.mem.shared.any fun y => y.covers (a + j) then m else Sparse.put m (a + j) 0 (s.byte (a + j))) s.mem.before
  let t : State := { if fight then s.drew else s with mem := { s.mem with
    shared := Mem.place x (fight && s.freeBit) s.mem.shared, before := before, issued := s.mem.issued + 1 } }
  t.setBytes a ((Mem.met t a n).foldl (fun b y => y.over_ a b) (Mem.base t a n))

end Sys2Proof.Machine
end

