-- ==== Sys2Proof/Machine/Bale.lean ====
section
/-! DEFINITION. The bale format (spec 09_bales_digest.md: R288 to R292, R584, Tables 09-4 to 09-6), read from the bytes of a
slot, and what its sections say. -/

namespace Sys2Proof.Machine

/-- MEMWIN address of bale slot `i` (Table 09-1). -/
def Bale.base (i : Nat) : Nat := 0x9180000 + 0x340000 * i

/-- The byte at offset `o` of the image in slot `i`; an uncorrectable word reads zero (R581). -/
def Bale.rd (s : State) (i o : Nat) : Nat :=
  let a := Bale.base i + o
  if Mem.err s (Mem.wordOf a) = 2 then 0 else (s.byte a).toNat

/-- Every word with an error in the first `len` bytes of the image is met by a read. -/
def Bale.noteRead (s : State) (i len : Nat) : State :=
  s.each (s.mem.err.filter fun p => decide (Bale.base i ≤ p.1) && decide (p.1 < Bale.base i + len)) fun t p => Mem.meet 2 t p.1

/-- The `n` bytes at `o`. -/
def Bale.bytes (r : Nat → Nat) (o n : Nat) : List Byte := (List.range n).map fun i => BitVec.ofNat 8 (r (o + i))

/-- The little-endian integer of `n` bytes at `o`. -/
def Bale.u (r : Nat → Nat) (o n : Nat) : Nat := (List.range n).foldr (fun i a => r (o + i) + 256 * a) 0

/-- The `n` bytes at `o` are zero. -/
def Bale.zero (r : Nat → Nat) (o n : Nat) : Bool := (List.range n).all fun i => r (o + i) == 0

/-- LEN, NSEC, FS, NLOG and BALE_ID of the header (Table 09-4). -/
def Bale.len (r : Nat → Nat) : Nat := Bale.u r 8 4
def Bale.nsec (r : Nat → Nat) : Nat := Bale.u r 6 2
def Bale.fs (r : Nat → Nat) : Nat := r 0x0D
def Bale.nlog (r : Nat → Nat) : Nat := r 0x0E
def Bale.id (r : Nat → Nat) : Nat := Bale.u r 0x18 8

/-- The directory entries as TYPE, VER, OFF, SLEN, CRC (R289). -/
def Bale.entries (r : Nat → Nat) : List (Nat × Nat × Nat × Nat × Nat) :=
  (List.range (min 12 (Bale.nsec r))).map fun k =>
    let o := 0x40 + 16 * k
    (Bale.u r o 2, Bale.u r (o + 2) 2, Bale.u r (o + 4) 4, Bale.u r (o + 8) 4, Bale.u r (o + 12) 4)

/-- The section of a TYPE: offset and length. -/
def Bale.sect (r : Nat → Nat) (ty : Nat) : Option (Nat × Nat) :=
  (Bale.entries r).findSome? fun e => if e.1 = ty then some (e.2.2.1, e.2.2.2.1) else none

/-- A section of the image is present. -/
def Bale.has (r : Nat → Nat) (ty : Nat) : Bool := (Bale.sect r ty).isSome

/-- Each number is below the next. -/
def Bale.rising : List Nat → Bool
  | a :: b :: l => decide (a < b) && Bale.rising (b :: l)
  | _ => true

/-- Each section ends at or before the next begins. -/
def Bale.apart : List (Nat × Nat) → Bool
  | a :: b :: l => decide (a.1 + a.2 ≤ b.1) && Bale.apart (b :: l)
  | _ => true

/-- The directory check (R289, R584): NSEC, reserved bytes, entries, required sections. -/
def Bale.dirOk (r : Nat → Nat) : Bool :=
  let n := Bale.nsec r
  let es := Bale.entries r
  decide (2 ≤ n) && decide (n ≤ 12) && Bale.zero r 0x0F 1 && Bale.zero r 0x24 28 &&
  Bale.zero r (0x40 + 16 * n) (16 * (12 - n)) &&
  (es.all fun e => decide (1 ≤ e.1) && decide (e.1 ≤ 11) && e.2.1 == 1 && e.2.2.1 % 16 == 0 && decide (0x100 ≤ e.2.2.1) &&
    decide (e.2.2.1 + e.2.2.2.1 + 144 ≤ Bale.len r)) &&
  Enc.distinct (es.map fun e => e.1) && Bale.rising (es.map fun e => e.2.2.1) &&
  Bale.apart (es.map fun e => (e.2.2.1, e.2.2.2.1)) &&
  Bale.has r 1 && Bale.has r 2 && Bale.has r 8

/-- The CRC of every section (R289). -/
def Bale.crcOk (r : Nat → Nat) : Bool :=
  (Bale.entries r).all fun e => Crc.crc32c (Bale.bytes r e.2.2.1 e.2.2.2.1) == e.2.2.2.2

/-- The checks of LOAD_BALE (R293): the first failing reason of Table 09-7, 0x01 to 0x04; 0 where none fails. -/
def Bale.loadCheck (r : Nat → Nat) : Nat :=
  if !(Bale.u r 0 4 == 0x454C4142 && Bale.u r 4 2 == 1) then 0x01
  else if !(Bale.len r % 16 == 0 && decide (0x190 ≤ Bale.len r) && decide (Bale.len r ≤ 0x340000)) then 0x02
  else if !Bale.dirOk r then 0x03
  else if !Bale.crcOk r then 0x04
  else 0

/-- The signature block's validity (R291) over the `len` bytes of an image. -/
def Bale.signed (s : State) (r : Nat → Nat) (len : Nat) : Bool :=
  let o := len - 144
  let key := r o
  let q := Bale.bytes r (o + 16) 64
  let n (i : Nat) := Sha.nat (Bale.bytes r (o + i) 32)
  decide (key < 4) && (s.fld Reg.TOP_SEC_KEYS).testBit key && !(s.fld Reg.TOP_SEC_REVOKED).testBit key &&
    Sha.hash q == s.pwr.keys.getD key 0 && P256.verify (n 16) (n 48) (n 80) (n 112) (Sha.hash (Bale.bytes r 0 o))

/-- A stretch of memory that a bale names: space (0 local memory, 1 barn store, 2 hayloft), unit, base, length; for an INIT
record also where its bytes lie, for a mirrored region its ping-pong flag in `at_`. -/
structure BaleRec where
  space : Nat
  unit  : Nat
  base  : Nat
  len   : Nat
  at_   : Nat := 0
  deriving DecidableEq, Repr

/-- SPACE and UNIT name a memory that some variant has (Table 09-6). -/
def BaleRec.unitOk (x : BaleRec) : Bool :=
  match x.space with
  | 0 => decide (x.unit < 48)
  | 1 => decide (x.unit < 6)
  | 2 => x.unit == 0
  | _ => false

/-- The unit is absent in the variant. -/
def BaleRec.absent (v : Variant) (x : BaleRec) : Bool :=
  match x.space with
  | 0 => decide (v.stalls ≤ x.unit) && decide (x.unit < 48)
  | 1 => decide (v.barns ≤ x.unit) && decide (x.unit < 6)
  | _ => false

/-- Size of a space in bytes. -/
def Bale.spaceSize (v : Variant) (sp : Nat) : Nat :=
  match sp with
  | 0 => 0x40000
  | 1 => 0x200000
  | _ => v.hayMib * 0x100000

/-- MEMWIN address of byte `a` of a space. -/
def Bale.addr (sp unit a : Nat) : Nat :=
  match sp with
  | 0 => Mem.localBase unit + a
  | 1 => Mem.barnBase unit + a
  | _ => a

/-- Two stretches share a byte. -/
def BaleRec.meets (x y : BaleRec) : Bool :=
  x.space == y.space && x.unit == y.unit && decide (0 < x.len) && decide (0 < y.len) &&
    decide (x.base < y.base + y.len) && decide (y.base < x.base + x.len)

/-- No two of the stretches share a byte. -/
def Bale.disjoint : List BaleRec → Bool
  | [] => true
  | x :: l => !(l.any x.meets) && Bale.disjoint l

/-- No stretch of one list shares a byte with one of the other. -/
def Bale.clear (a b : List BaleRec) : Bool := a.all fun x => !(b.any x.meets)

/-- The byte lies in one of the stretches. -/
def Bale.inside (use : List BaleRec) (sp unit a : Nat) : Bool :=
  use.any fun u => u.space == sp && u.unit == unit && decide (u.base ≤ a) && decide (a < u.base + u.len)

/-- Every byte from `a` to `e` lies in one of the stretches; `n` bounds the steps. -/
def Bale.coverFrom (use : List BaleRec) (sp unit e : Nat) : Nat → Nat → Bool
  | 0, a => decide (e ≤ a)
  | n + 1, a =>
    if e ≤ a then true
    else match use.find? fun u => u.space == sp && u.unit == unit && decide (u.base ≤ a) && decide (a < u.base + u.len) with
      | some u => Bale.coverFrom use sp unit e n (u.base + u.len)
      | none => false

/-- The stretch lies inside the others (FOOTPRINT). -/
def Bale.covered (use : List BaleRec) (x : BaleRec) : Bool :=
  Bale.coverFrom use x.space x.unit (x.base + x.len) (use.length + 1) x.base

/-- TIMETABLE (Table 09-6): CUT, BUSIMG, strides, SPAN and CUTSPAN. -/
def Bale.tt (r : Nat → Nat) (o : Nat) : Nat := match Bale.sect r 1 with
  | some x => Bale.u r (x.1 + o) 4
  | none => 0
def Bale.busEn (r : Nat → Nat) : Bool := (Bale.tt r 4).testBit 31
def Bale.busBase (r : Nat → Nat) : Nat := Bale.tt r 4 % 2 ^ 21

/-- CODE: IOFF and NB of stall `i`. -/
def Bale.ioff (r : Nat → Nat) (i : Nat) : Nat := match Bale.sect r 2 with
  | some x => Bale.u r (x.1 + 8 * i) 4
  | none => 0
def Bale.nb (r : Nat → Nat) (i : Nat) : Nat := match Bale.sect r 2 with
  | some x => Bale.u r (x.1 + 8 * i + 4) 2
  | none => 0

/-- The bundles of the stall image of stall `i`. -/
def Bale.image (r : Nat → Nat) (i : Nat) : List Nat := match Bale.sect r 2 with
  | some x => (List.range (Bale.nb r i)).map fun b => Bale.u r (x.1 + Bale.ioff r i + 16 * b) 16
  | none => []

/-- SLOTS: the two words of GRAPH_SIO of stall `i`, and INIMG_BASE. -/
def Bale.sio (r : Nat → Nat) (i w : Nat) : Nat := match Bale.sect r 3 with
  | some x => Bale.u r (x.1 + 8 + 8 * i + 4 * w) 4
  | none => 0
def Bale.inimg (r : Nat → Nat) : Nat := match Bale.sect r 3 with
  | some x => Bale.u r x.1 4
  | none => 0

/-- Records of a COUNT section: `n` of `w` bytes each from offset 16. -/
def Bale.counted (r : Nat → Nat) (ty w cap : Nat) : List Nat := match Bale.sect r ty with
  | some x => (List.range (min cap (Bale.u r x.1 4))).map fun k => x.1 + 16 + w * k
  | none => []

/-- MIRROR records (`at_` holds FLAGS). -/
def Bale.mirror (r : Nat → Nat) : List BaleRec :=
  (Bale.counted r 4 16 32).map fun o => ⟨r o, r (o + 1), Bale.u r (o + 4) 4, Bale.u r (o + 8) 4, r (o + 2)⟩

/-- USE records. -/
def Bale.use (r : Nat → Nat) : List BaleRec :=
  (Bale.counted r 8 16 128).map fun o => ⟨r o, r (o + 1), Bale.u r (o + 4) 4, Bale.u r (o + 8) 4, 0⟩

/-- The strides of a space in the bale (R127). -/
def Bale.stride (r : Nat → Nat) (sp : Nat) : Nat := Bale.tt r (8 + 4 * sp)

/-- A mirrored region's copies as stretches (R210). -/
def Bale.copies (r : Nat → Nat) (m : BaleRec) : List BaleRec :=
  { m with at_ := 0 } :: (if m.at_ % 2 = 1 then [{ m with base := m.base + Bale.stride r m.space, at_ := 0 }] else [])

/-- Walking records of a section whose length depends on them: `size` gives a record's bytes at its offset, none where it is
cut short or breaks the layout. Answers the offsets, and whether the walk ended exactly at the end. -/
def Bale.walk (size : Nat → Nat → Option Nat) (e : Nat) : Nat → Nat → List Nat × Bool
  | 0, o => ([], o == e)
  | n + 1, o =>
    if o = e then ([], true)
    else match size o e with
      | some w => let x := Bale.walk size e n (o + w); (o :: x.1, x.2)
      | none => ([], false)

/-- PARAM records (Table 09-6). -/
def Bale.paramSize (r : Nat → Nat) (o e : Nat) : Option Nat :=
  if e < o + 16 then none
  else
    let w := if r (o + 2) % 2 = 1 then 16 else 16 + 4096
    if e < o + w then none else some w
def Bale.params (r : Nat → Nat) : List Nat × Bool := match Bale.sect r 5 with
  | some x => Bale.walk (Bale.paramSize r) (x.1 + x.2) 97 x.1
  | none => ([], true)

/-- The PARAM record of a page: its KEEP flag and the offset of its image. -/
def Bale.param (r : Nat → Nat) (p : Nat) : Option (Bool × Nat) :=
  (Bale.params r).1.findSome? fun o => if Bale.u r o 2 = p then some (r (o + 2) % 2 == 1, o + 16) else none

/-- SPAGES records. -/
def Bale.spageSize (r : Nat → Nat) (o e : Nat) : Option Nat :=
  if e < o + 16 then none
  else
    let w := if r (o + 1) % 2 = 1 then 16 else 16 + 4096
    if e < o + w then none else some w
def Bale.spages (r : Nat → Nat) : List Nat × Bool := match Bale.sect r 6 with
  | some x => Bale.walk (Bale.spageSize r) (x.1 + x.2) 129 x.1
  | none => ([], true)

/-- Page number, KEEP, PID and image offset of a SPAGES record. -/
def Bale.spage (r : Nat → Nat) (o : Nat) : Nat × Bool × Nat × Nat :=
  (64 * r o + r (o + 2), r (o + 1) % 2 == 1, Bale.u r (o + 4) 2, o + 16)

/-- The stall parameter pages that the bale declares. -/
def Bale.pageList (r : Nat → Nat) : List Nat := (Bale.spages r).1.map fun o => (Bale.spage r o).1

/-- INIT records. -/
def Bale.initSize (r : Nat → Nat) (o e : Nat) : Option Nat :=
  if e < o + 16 then none
  else
    let w := 16 + (Bale.u r (o + 8) 4 + 15) / 16 * 16
    if e < o + w then none else some w
def Bale.inits (r : Nat → Nat) : List Nat × Bool := match Bale.sect r 9 with
  | some x => Bale.walk (Bale.initSize r) (x.1 + x.2) (x.2 / 16 + 1) x.1
  | none => ([], true)
def Bale.initRec (r : Nat → Nat) (o : Nat) : BaleRec := ⟨r o, r (o + 1), Bale.u r (o + 4) 4, Bale.u r (o + 8) 4, o + 16⟩

/-- OUTLINE: LBASE and DLEN of channel `c`. -/
def Bale.lbase (r : Nat → Nat) (c : Nat) : Nat := match Bale.sect r 7 with
  | some x => Bale.u r (x.1 + 8 * c) 4
  | none => 0
def Bale.dlen (r : Nat → Nat) (c : Nat) : Nat := match Bale.sect r 7 with
  | some x => Bale.u r (x.1 + 8 * c + 4) 4
  | none => 0

/-- The delay line of channel `c` as a stretch of the hayloft. -/
def Bale.line (r : Nat → Nat) (c : Nat) : BaleRec :=
  ⟨2, 0, Bale.lbase r c % 2 ^ 27, Bale.dlen r c * (if (Bale.lbase r c).testBit 31 then 4 else 3), 0⟩

/-- The delay lines with samples. -/
def Bale.lines (r : Nat → Nat) : List BaleRec :=
  if Bale.has r 7 then (((List.range 1536).filter fun c => 0 < Bale.dlen r c).map fun c => Bale.line r c) else []

/-- The slot areas of the bale. -/
def Bale.areas (r : Nat → Nat) : List BaleRec :=
  (List.range 48).flatMap fun i =>
    (List.range 2).flatMap fun w =>
      if Bale.sio r i w / 2 ^ 24 % 128 = 0 then []
      else [⟨0, i, Bale.sio r i w % 2 ^ 18, 256 * 2 ^ Bale.nlog r, 0⟩]

/-- The own and forward image (R246); a bale without SLOTS places none. -/
def Bale.images (r : Nat → Nat) : List BaleRec :=
  if Bale.has r 3 then [⟨2, 0, Bale.inimg r, 12288 * 2 ^ Bale.nlog r, 0⟩] else []

/-- The bus image in every barn store that holds a stall with code (R208). -/
def Bale.busImages (r : Nat → Nat) : List BaleRec :=
  if Bale.busEn r then
    ((List.range 6).filter fun b => (List.range 8).any fun i => 0 < Bale.nb r (8 * b + i)).map fun b =>
      ⟨1, b, Bale.busBase r, 1024 * 2 ^ Bale.nlog r, 0⟩
  else []

/-- The stall parameter pages as stretches. -/
def Bale.pageRecs (r : Nat → Nat) : List BaleRec :=
  (Bale.pageList r).map fun q => ⟨0, q / 64, 4096 * (q % 64), 4096, 0⟩

/-- The mirrored regions' copies. -/
def Bale.mirrorRecs (r : Nat → Nat) : List BaleRec := (Bale.mirror r).flatMap (Bale.copies r)

end Sys2Proof.Machine
end

