-- ==== Sys2Proof/Machine/Flags.lean ====
section
/-! DEFINITION. What the operations of a stall record beside their results (spec 03_stall_datapath.md, 04_ibcor_encoding.md,
06_schedule_memory.md): the flags of STL_ARITH, residue mismatches, stopping exceptions, address faults, state-cut
breaches; and the issue and completion of a bundle. -/

namespace Sys2Proof.Machine

/-- Stall `i`. -/
def State.stall (s : State) (i : Nat) : Stall := Sparse.get s.stalls i {}

/-- `s` with stall `i` replaced. -/
def State.setStall (s : State) (i : Nat) (x : Stall) : State := { s with stalls := Sparse.put s.stalls i {} x }

/-- `s` with the registers of stall `i` changed by `f`. -/
def State.onRf (s : State) (i : Nat) (f : RegFile → RegFile) : State :=
  let x := s.stall i
  s.setStall i { x with rf := f x.rf }

/-- The registers as the operations of the bundle in issue read them (R109). -/
def State.src (s : State) (i : Nat) : RegFile := ((s.stall i).snap).getD (s.stall i).rf

/-- The physical program bank that stall `i` fetches from (R141). -/
def Stl.bank (s : State) (i : Nat) : Nat := s.fld (Reg.STL_PMEM_LIVE_BANK i)

/-- The parity fp of the frame being computed (R126). -/
def State.parity (s : State) : Nat := s.frameNo % 2

/-- RDX of stall `i` saturated (R92). -/
def Stl.xsat (s : State) (i : Nat) : State :=
  let t := s.setFlag (Reg.STL_ARITH_XSAT i) true
  t.setStall i { t.stall i with frXsat := true }

/-- An accumulator element of stall `i` set LOST (R92); the barn's arithmetic event on the change of XLOST (R105). -/
def Stl.xlost (s : State) (i : Nat) : State :=
  let t := s.setFire (Reg.STL_ARITH_XLOST i) (32 + i / 8)
  t.setStall i { t.stall i with frXlost := true }

/-- VADD, VSUB, VABS or VSHL of stall `i` saturated (R93, R94). -/
def Stl.vsat (s : State) (i : Nat) : State :=
  let t := s.setFlag (Reg.STL_ARITH_VSAT i) true
  t.setStall i { t.stall i with frVsat := true }

/-- The frame is counted in STL_ARITH_CNT of stall `i` at bus close (Table 03-9). -/
def Stl.countFrame (s : State) (i : Nat) : State :=
  let s1 := s.when (s.stall i).frXsat fun t => t.incCnt (Reg.STL_ARITH_CNT_XSAT_FRAMES i)
  let s2 := s1.when (s.stall i).frXlost fun t => t.incCnt (Reg.STL_ARITH_CNT_XLOST_FRAMES i)
  s2.when (s.stall i).frVsat fun t => t.incCnt (Reg.STL_ARITH_CNT_VSAT_FRAMES i)

/-- A residue checker of an operation: unit 0 a multiplier, 1 an accumulate adder; its lane; its multiplier or element; and whether it
mismatches, with its reference inverted by an injection or not (R97, R98, R102). -/
structure Checker where
  unit     : Nat
  lane     : Nat
  elem     : Nat
  mismatch : Bool → Bool

/-- The order in which mismatches of one cycle are taken (R101): lane, then multiplier or element, then unit. -/
def Checker.key (c : Checker) : Nat := 8 * c.lane + 2 * c.elem + c.unit

/-- The syndrome takes a mismatch of stall `i` (R101). -/
def Stl.syndrome (i xreg : Nat) (s1 : State) (c : Checker) : State :=
  let unit := c.unit
  let lane := c.lane
  let elem := c.elem
    if s1.flag (Reg.STL_RESIDUE_VALID i) then
      (s1.setFlag (Reg.STL_RESIDUE_OVF i) true).incCnt (Reg.STL_RESIDUE_COUNT i)
    else
      (((((((s1.setFlag (Reg.STL_RESIDUE_VALID i) true).setFld (Reg.STL_RESIDUE_UNIT i) unit).setFld
        (Reg.STL_RESIDUE_XREG i) xreg).setFld (Reg.STL_RESIDUE_LANE i) lane).setFld (Reg.STL_RESIDUE_ELEM i) elem).setFld
        (Reg.STL_RESIDUE_LOC_FRAME i) s1.frameNo).setFld (Reg.STL_RESIDUE_LOC_BANK i) (Stl.bank s1 i)).setFld
        (Reg.STL_RESIDUE_LOC_ADDR i) (s1.stall i).pc

/-- Checkers of stall `i` mismatched in one cycle (R100, R101). -/
def Stl.residue (s : State) (i xreg : Nat) (ms : List Checker) : State :=
  if ms.isEmpty then s
  else
    ((s.setFire (Reg.STL_ARITH_RESIDUE i) (32 + i / 8)).each (ms.mergeSort fun a b => decide (a.key ≤ b.key)) (Stl.syndrome i xreg)).faultEvent
      (i / 8)

/-- The checkers of an operation of stall `i` compare (R97, R98, R100). An armed injection is used by the first operation that uses the
selected checker (R102). -/
def Stl.check (s : State) (i xreg : Nat) (cs : List Checker) : State :=
  let u := s.fld (Reg.STL_RESIDUE_CTL_UNITSEL i)
  let l := s.fld (Reg.STL_RESIDUE_CTL_LANE i)
  let e := s.fld (Reg.STL_RESIDUE_CTL_ELEM i)
  let hit (c : Checker) : Bool := s.flag (Reg.STL_RESIDUE_CTL_ARMED i) && c.unit == u && c.lane == l && c.elem == e
  let t := if cs.any hit then s.setFlag (Reg.STL_RESIDUE_CTL_ARMED i) false else s
  Stl.residue t i xreg (cs.filter fun c => c.mismatch (hit c))

/-- STL_SPAN.LAST takes `v`, and STL_SPAN_MAX follows (Tables 06-6, 06-7). -/
def Stl.span (s : State) (i v : Nat) : State :=
  let t := s.setFld (Reg.STL_SPAN_LAST i) v
  t.setFld (Reg.STL_SPAN_MAX_MAX i) (max (t.fld (Reg.STL_SPAN_MAX_MAX i)) (t.fld (Reg.STL_SPAN_LAST i)))

/-- The program-exception fault pair and event of the barn (R147). -/
def Stl.excReport (s : State) (i : Nat) : State := (s.fire (38 + i / 8)).faultEvent (6 + i / 8)

/-- A stopping exception of stall `i` at ENG cycle `cyc` (R145, R146): the bundle issues no slot, and the stall stops for
the frame. -/
def Stl.except (s : State) (i cyc cause : Nat) : State :=
  let s0 := s.setStall i { s.stall i with status := .exception, snap := none, ctl := none, cyc := cyc }
  let s1 := Stl.span s0 i (cyc - s.windowOpen)
  if s1.flag (Reg.STL_EXC_VALID i) then (s1.setFlag (Reg.STL_EXC_OVF i) true).incCnt (Reg.STL_EXC_COUNT i)
  else
    Stl.excReport (((((s1.setFlag (Reg.STL_EXC_VALID i) true).setFld (Reg.STL_EXC_CAUSE i) cause).setFld
      (Reg.STL_EXC_LOC_FRAME i) s.frameNo).setFld (Reg.STL_EXC_LOC_BANK i) (Stl.bank s i)).setFld
      (Reg.STL_EXC_LOC_ADDR i) (min (s.stall i).pc 0xFFF)) i

/-- An address fault of stall `i` (R120, R146): the first since STL_EXC.ADDR was cleared is recorded. STL_ADDR_EA has 32 bits; of an element
address of 2^32 or more, of which the spec says nothing, it takes the low ones (DESIGN CHOICE, log 56). -/
def Stl.addrFault (s : State) (i space : Nat) (slot1 : Bool) (ea : Nat) : State :=
  if s.flag (Reg.STL_EXC_ADDR i) then s
  else
    Stl.excReport ((((((s.setFlag (Reg.STL_EXC_ADDR i) true).setFld (Reg.STL_ADDR_LOC_FRAME i) s.frameNo).setFld
      (Reg.STL_ADDR_LOC_SPACE i) space).setFlag (Reg.STL_ADDR_LOC_SLOT i) slot1).setFld (Reg.STL_ADDR_LOC_BANK i)
      (Stl.bank s i)).setFld (Reg.STL_ADDR_LOC_ADDR i) (s.stall i).pc |>.setFld (Reg.STL_ADDR_EA_EA i) ea) i

/-- A state-cut breach by stall `i` (R213). BREACH_FRAMES counts the frame once. -/
def Stl.breach (s : State) (i : Nat) : State :=
  let s1 := (s.setFire (Reg.STL_SCHED_CUT_BREACH i) 56).when (!s.mem.breach) fun t =>
    t.incCnt Reg.TOP_MIRROR_STAT_BREACH_FRAMES
  ({ s1 with mem := { s1.mem with breach := true, unclean := true } } : State).faultEvent (18 + i / 8)

/-- A store of stall `i` issued at cycle `cyc` to the addresses `as` is a breach (R213). -/
def Stl.breaches (s : State) (cyc : Nat) (as : List Nat) : Bool :=
  (s.role == 0 || s.role == 1) && decide (s.fld Reg.TOP_SCHED_CUT ≤ cyc) && as.any (Mem.mirrored s)

/-- Stall `i` may issue: it is present and issuing, and its next bundle address lies in the bank. -/
def Stl.canIssue (s : State) (i : Nat) : Bool :=
  decide (i < s.variant.stalls) && (s.stall i).status == .running && decide ((s.stall i).pc < 4096)

/-- The fetch of a bundle by its first operation (R143): a corrected error is counted, an uncorrectable one raises
PMEM_UNCORR; else the bundle's operands are the registers as they stand (R109). -/
def Stl.fetch (c : OpCtx) (s : State) : State :=
  let x := s.stall c.stall
  if x.snap.isSome then s
  else
    let m := Sparse.get x.progErr (4096 * Stl.bank s c.stall + x.pc) 0
    if m = 2 then Stl.except s c.stall c.cyc 2
    else
      let s1 := if m = 1 then s.incCnt (Reg.STL_PMEM_CORR c.stall) else s
      s1.setStall c.stall { x with snap := some x.rf, cyc := c.cyc }

/-- The loop entries left after a taken branch to `t` at return depth `d` (R137), from the innermost outwards up to the first that stays;
an entry outside that one which does not contain `t`, possible only where loops overlap without nesting, stays too (DESIGN CHOICE, log 57). -/
def Stl.popLoops (t d : Nat) : List LoopEntry → List LoopEntry
  | [] => []
  | e :: es => if e.depth = d ∧ ¬ (e.start ≤ t ∧ t ≤ e.last) then Stl.popLoops t d es else e :: es

/-- The test of R136 after the bundle at `a` completes at return depth `d`: the loop stack and the next address. -/
def Stl.loopEnd (a d : Nat) : List LoopEntry → List LoopEntry × Nat
  | [] => ([], a + 1)
  | e :: es =>
    if e.last = a ∧ e.depth = d then
      if 1 < e.count then ({ e with count := e.count - 1 } :: es, e.start) else Stl.loopEnd a d es
    else (e :: es, a + 1)

/-- The stall after its bundle has completed: the control slot's effect, or the loop test (R132 to R137, R150). -/
def Stall.advance (x : Stall) : Stall :=
  let y := { x with snap := none, ctl := none }
  match x.ctl with
  | some (.branch t) => { y with pc := t, loops := Stl.popLoops t x.rstack.length x.loops }
  | some (.call t) => { y with pc := t, rstack := (x.pc + 1) :: x.rstack }
  | some .ret => { y with pc := x.rstack.headD 0, rstack := x.rstack.tail }
  | some (.loopPush e n) =>
    { y with pc := x.pc + 1, loops := { start := x.pc + 1, last := e, count := n, depth := x.rstack.length } :: x.loops }
  | some (.loopSkip e) => { y with pc := e + 1 }
  | some .waitf => { y with pc := x.pc + 1, status := .waitf }
  | none => { y with pc := (Stl.loopEnd x.pc x.rstack.length x.loops).2, loops := (Stl.loopEnd x.pc x.rstack.length x.loops).1 }

/-- The bundle in issue on stall `i` completes; a WAITF sets STL_SPAN. -/
def Stl.complete (s : State) (i : Nat) : State :=
  let x := s.stall i
  let s1 := s.setStall i x.advance
  if x.ctl = some .waitf then Stl.span s1 i (x.cyc - s.windowOpen) else s1

/-- A load of stall `i` into one of the V registers `vs` is in flight, so that a slot that reads or writes one of them waits (R139, R140). -/
def Stl.awaits (s : State) (i : Nat) (vs : List Nat) : Bool := (s.stall i).loads.any fun r => vs.contains r.dest

/-- An operation of a bundle: fetch, the bundle predicate for control and load/store slots (R108), the operation's own
effect, and the bundle's completion at its last operation. An operation for a stall that is not issuing has no effect, nor has one that the
scoreboard still holds (`held`, R139): it comes again once it issues. -/
def Stl.op (c : OpCtx) (governed held : Bool) (body : State → State) (s : State) : State :=
  if !Stl.canIssue s c.stall || held then s
  else
    let s1 := Stl.fetch c s
    if (s1.stall c.stall).status != .running then s1
    else
      let s2 := if governed && !(s1.src c.stall).predicate c.pk c.pneg then s1 else body s1
      if (s2.stall c.stall).status != .running then s2
      else if c.last then Stl.complete s2 c.stall else s2

end Sys2Proof.Machine
end

