-- ==== Sys2Proof/Machine/BaleCheck.lean ====
section
/-! DEFINITION. The checks of VERIFY_BALE and ARM_BALE (spec 09_bales_digest.md: R292, R294 to R297, R584, Table 09-7; 06_schedule_memory.md:
R175, R208, R210, R211; 08_signal_graph.md: R246, R256, R267, R268, R276), the arming writes, and the commands LOAD_BALE,
VERIFY_BALE and ARM_BALE. -/

namespace Sys2Proof.Machine

/-- The bits of the register word at `off` that are F fields. -/
def Page.mask (off : Nat) : Nat := match Reg.rowAt off with
  | some x => x.sh
  | none => 0

/-- The register words of REGWIN page `p` that hold F fields. -/
def Page.words (p : Nat) : List Nat :=
  ((List.range 1024).map fun i => 4096 * p + 4 * i).filter fun o => Page.mask o ≠ 0

/-- The page holds an F field; of a present unit. -/
def Page.hasF (p : Nat) : Bool := !(Page.words p).isEmpty
def Page.present (v : Variant) (p : Nat) : Bool := (Page.words p).any (Reg.present v)

/-- SLEN of a section equals `n`, where the section is present. -/
def Bale.slen (r : Nat → Nat) (ty n : Nat) : Bool := match Bale.sect r ty with
  | some x => x.2 == n
  | none => true

/-- A COUNT section's layout: COUNT from `lo` to `hi`, reserved bytes up to 16 from `z`, SLEN. -/
def Bale.countOk (r : Nat → Nat) (ty w lo hi z : Nat) : Bool := match Bale.sect r ty with
  | some x => let c := Bale.u r (if ty = 10 then x.1 + 8 else x.1) 4
    decide (16 ≤ x.2) && decide (lo ≤ c) && decide (c ≤ hi) && Bale.zero r (x.1 + z) (16 - z) && x.2 == 16 + w * c
  | none => true

/-- MIGRATE records by their offsets: COUNT lies at offset 8. -/
def Bale.migs (r : Nat → Nat) : List Nat := match Bale.sect r 10 with
  | some x => (List.range (min 64 (Bale.u r (x.1 + 8) 4))).map fun k => x.1 + 16 + 24 * k
  | none => []

/-- Source and destination of a MIGRATE record as stretches, with their PP flags. -/
def Bale.migRec (r : Nat → Nat) (o : Nat) : BaleRec × BaleRec :=
  (⟨r o, r (o + 1), Bale.u r (o + 4) 4, Bale.u r (o + 12) 4, r (o + 3) % 2⟩,
   ⟨r o, r (o + 2), Bale.u r (o + 8) 4, Bale.u r (o + 12) 4, r (o + 3) / 2 % 2⟩)

/-- UNITS (0x07): the REQ counts are present, and no section gives anything to an absent unit. -/
def Bale.unitsOk (v : Variant) (r : Nat → Nat) : Bool :=
  let have_ := [v.stalls, v.barns, v.hayMib, v.drvCh, v.snsIn, v.ports, v.saps, v.aess]
  ((List.range 8).all fun i => decide (r (0x10 + i) ≤ have_.getD i 0)) &&
  ((List.range 48).all fun i => decide (i < v.stalls) ||
    (Bale.nb r i == 0 && Bale.sio r i 0 == 0 && Bale.sio r i 1 == 0 && Bale.tt r (32 + 8 * i) == 0 && Bale.tt r (36 + 8 * i) == 0)) &&
  ((Bale.mirror r ++ Bale.use r ++ ((Bale.inits r).1.map (Bale.initRec r)) ++
      ((Bale.migs r).flatMap fun o => [(Bale.migRec r o).1, (Bale.migRec r o).2])).all fun x => !x.absent v) &&
  ((Bale.pageList r).all fun q => decide (q / 64 < v.stalls) || decide (48 ≤ q / 64)) &&
  ((Bale.params r).1.all fun o =>
    let p := Bale.u r o 2
    !Page.hasF p || (Page.present v p &&
      (r (o + 2) % 2 == 1 || (Page.words p).all fun w => Reg.present v w || Bale.u r (o + 16 + w % 4096) 4 == 0)))

/-- ENCODING (0x09): CODE's layout, and every bundle by R110 and R118. -/
def Bale.codeOk (r : Nat → Nat) : Bool := match Bale.sect r 2 with
  | none => false
  | some x =>
    decide (384 ≤ x.2) &&
    ((List.range 48).all fun i =>
      Bale.ioff r i % 16 == 0 && decide (Bale.nb r i ≤ 4096) && Bale.zero r (x.1 + 8 * i + 6) 2 &&
      (Bale.nb r i == 0 || (decide (384 ≤ Bale.ioff r i) && decide (Bale.ioff r i + 16 * Bale.nb r i ≤ x.2)))) &&
    x.2 == (List.range 48).foldl (fun m i => if Bale.nb r i = 0 then m else max m (Bale.ioff r i + 16 * Bale.nb r i)) 384 &&
    ((List.range 48).all fun i => (Bale.image r i).all Enc.bundleOk)

/-- TIMETABLE (0x0B). -/
def Bale.timetableOk (r : Nat → Nat) : Bool :=
  let c := Frame.engCycles (Bale.fs r) (Bale.nlog r)
  let z := c - 2458
  let cut := Bale.tt r 0
  Bale.slen r 1 416 && (match Bale.sect r 1 with | some x => Bale.zero r (x.1 + 20) 12 | none => false) &&
  decide (cut ≤ 65 * c / 100) && decide (4301 ≤ cut) &&
  ((List.range 48).all fun i =>
    let span := Bale.tt r (32 + 8 * i)
    let cs := Bale.tt r (36 + 8 * i)
    decide (span + 4301 ≤ z) && decide (4301 + cs ≤ cut) && (decide (0 < Bale.nb r i) || (span == 0 && cs == 0))) &&
  Bale.tt r 4 / 2 ^ 21 % 2 ^ 10 == 0 && Bale.busBase r % 64 == 0 &&
  (!Bale.busEn r || decide (Bale.busBase r + 1024 * 2 ^ Bale.nlog r ≤ 0x200000))

/-- The mirrored budget of the bale's frame duration (R211). -/
def Bale.budget (r : Nat → Nat) : Nat := 262144 * Frame.engCycles (Bale.fs r) (Bale.nlog r) / 51200

/-- MIRROR (0x0C). -/
def Bale.mirrorOk (v : Variant) (r : Nat → Nat) : Bool :=
  let ms := Bale.mirrorRecs r
  Bale.countOk r 4 16 0 32 4 &&
  ((Bale.counted r 4 16 32).all fun o => Bale.zero r (o + 3) 1 && Bale.zero r (o + 12) 4 && decide (r (o + 2) ≤ 1)) &&
  ((Bale.mirror r).all BaleRec.unitOk) &&
  (ms.all fun m => decide (m.base < Bale.spaceSize v m.space) && decide (m.base + m.len ≤ Bale.spaceSize v m.space)) &&
  ((List.range (Bale.mirror r).length).all fun i =>
    let l := (Bale.mirror r).map (Bale.copies r)
    Bale.clear (l.getD i []) ((l.drop (i + 1)).flatten)) &&
  Bale.clear ms (Bale.busImages r) && decide (((Bale.mirror r).map fun m => m.len).sum ≤ Bale.budget r)

/-- SLOTS (0x0D). -/
def Bale.slotsOk (v : Variant) (r : Nat → Nat) : Bool :=
  let n := 2 ^ Bale.nlog r
  let cnt (i w : Nat) := Bale.sio r i w / 2 ^ 24 % 128
  Bale.slen r 3 392 && (match Bale.sect r 3 with | some x => Bale.zero r (x.1 + 4) 4 | none => true) &&
  ((List.range 48).all fun i => (List.range 2).all fun w =>
    let x := Bale.sio r i w
    decide (cnt i w ≤ 64) && !x.testBit 31 && x / 2 ^ 18 % 64 == 0 && x % 256 == 0) &&
  ((Bale.areas r).all fun a => decide (a.base + a.len ≤ 0x40000)) &&
  Bale.disjoint (Bale.areas r) && Bale.clear (Bale.areas r) (Bale.mirrorRecs r) && Bale.clear (Bale.areas r) (Bale.pageRecs r) &&
  ((List.range 6).all fun b => (List.range 2).all fun w =>
    decide (((List.range 8).map fun i => cnt (8 * b + i) w * n).sum ≤ 4096)) &&
  Bale.inimg r % 64 == 0 && ((Bale.images r).all fun x => decide (x.base + x.len ≤ Bale.spaceSize v 2))

/-- PAGES (0x0E). -/
def Bale.pagesOk (r : Nat → Nat) : Bool :=
  let ps := (Bale.params r).1
  let ss := (Bale.spages r).1
  (Bale.params r).2 && decide (ps.length ≤ 96) && Bale.rising (ps.map fun o => Bale.u r o 2) &&
  (ps.all fun o =>
    let p := Bale.u r o 2
    decide (p ≤ 255) && decide (r (o + 2) ≤ 1) && Bale.zero r (o + 3) 13 && Page.hasF p &&
    (r (o + 2) % 2 == 1 || (List.range 1024).all fun i =>
      let w := Bale.u r (o + 16 + 4 * i) 4
      w &&& Page.mask (4096 * p + 4 * i) == w)) &&
  (Bale.spages r).2 && decide (ss.length ≤ 128) && Enc.distinct (ss.map fun o => (Bale.spage r o).2.2.1) &&
  (ss.all fun o => decide (r o < 48) && decide (r (o + 1) ≤ 1) && decide (r (o + 2) < 64) && Bale.zero r (o + 3) 1 &&
    Bale.zero r (o + 6) 10) &&
  Bale.disjoint (Bale.pageRecs r) && Bale.clear (Bale.pageRecs r) (Bale.mirrorRecs r)

/-- LINES (0x0F). -/
def Bale.linesOk (v : Variant) (r : Nat → Nat) : Bool :=
  Bale.slen r 7 12288 &&
  ((List.range 1536).all fun c => Bale.lbase r c / 2 ^ 27 % 16 == 0 && decide (Bale.dlen r c < 2 ^ 20)) &&
  ((Bale.lines r).all fun x => decide (x.base + x.len ≤ Bale.spaceSize v 2)) &&
  Bale.disjoint (Bale.lines r) && Bale.clear (Bale.lines r) (Bale.images r ++ Bale.mirrorRecs r)

/-- FOOTPRINT (0x10). -/
def Bale.footprintOk (v : Variant) (r : Nat → Nat) : Bool :=
  let is := (Bale.inits r).1.map (Bale.initRec r)
  Bale.countOk r 8 16 1 128 4 &&
  ((Bale.counted r 8 16 128).all fun o => Bale.zero r (o + 2) 2 && Bale.zero r (o + 12) 4) &&
  ((Bale.use r).all fun x => x.unitOk && !x.absent v && decide (x.base + x.len ≤ Bale.spaceSize v x.space)) &&
  (Bale.inits r).2 &&
  ((Bale.inits r).1.all fun o => Bale.zero r (o + 2) 2 && Bale.zero r (o + 12) 4 &&
    (let n := Bale.u r (o + 8) 4; Bale.zero r (o + 16 + n) ((n + 15) / 16 * 16 - n))) &&
  (is.all BaleRec.unitOk) &&
  ((Bale.areas r ++ Bale.images r ++ Bale.mirrorRecs r ++ Bale.busImages r ++ Bale.pageRecs r ++ Bale.lines r ++ is).all
    (Bale.covered (Bale.use r)))

/-- MIGRATE (0x11). -/
def Bale.migrateOk (r : Nat → Nat) : Bool :=
  Bale.countOk r 10 24 0 64 12 &&
  ((Bale.migs r).all fun o => decide (r (o + 3) ≤ 3) && Bale.zero r (o + 16) 8 && (Bale.migRec r o).1.unitOk &&
    (Bale.migRec r o).2.unitOk) &&
  decide (((Bale.migs r).map fun o => (Bale.migRec r o).1.len).sum ≤ Bale.budget r)

/-- VERIFY_BALE's checks (R294, Table 09-7): the first failing reason from 0x01 to 0x11; 0 where none fails. -/
def Bale.verifyCheck (s : State) (r : Nat → Nat) : Nat :=
  let v := s.variant
  let len := Bale.len r
  if Bale.loadCheck r ≠ 0 then Bale.loadCheck r
  else if !Bale.zero r (len - 143) 15 || (s.flag Reg.TOP_SEC_ENFORCE && !Bale.signed s r len) then 0x05
  else if r 0x0C ≠ v.cap / 2 ^ 56 % 16 then 0x06
  else if !Bale.unitsOk v r then 0x07
  else if !Frame.legal (Bale.fs r) (Bale.nlog r) then 0x08
  else if !Bale.codeOk r then 0x09
  else if !((List.range 48).all fun i => Enc.loopsOk (Bale.image r i)) then 0x0A
  else if !Bale.timetableOk r then 0x0B
  else if !Bale.mirrorOk v r then 0x0C
  else if !Bale.slotsOk v r then 0x0D
  else if !Bale.pagesOk r then 0x0E
  else if !Bale.linesOk v r then 0x0F
  else if !Bale.footprintOk v r then 0x10
  else if !Bale.migrateOk r then 0x11
  else 0

/-- The status of a failing reason (Table 09-7). -/
def Bale.status (reason : Nat) : Nat := if reason = 0 then 0 else if reason = 0x05 then 4 else if reason = 0x07 then 1 else 3

/-- A leaf's value (R306). -/
def Rcd.leaf (i : Nat) (content : List Byte) : Nat :=
  Sha.hash ([0x00, BitVec.ofNat 8 i, BitVec.ofNat 8 (i / 256)] ++ content)

/-- A node's value from its children (R307). -/
def Rcd.node (h a b : Nat) : Nat :=
  if a = 0 ∧ b = 0 then 0 else Sha.hash ([0x01, BitVec.ofNat 8 h] ++ Sha.bytes a ++ Sha.bytes b)

/-- The nodes of level `h` from those of the level below, both by rising index, Z left out. -/
def Rcd.up (h : Nat) : Sparse Nat → Sparse Nat
  | [] => []
  | [(i, a)] => [(i / 2, if i % 2 = 0 then Rcd.node h a 0 else Rcd.node h 0 a)]
  | (i, a) :: (j, b) :: m =>
    if i / 2 = j / 2 then (i / 2, Rcd.node h a b) :: Rcd.up h m
    else (i / 2, if i % 2 = 0 then Rcd.node h a 0 else Rcd.node h 0 a) :: Rcd.up h ((j, b) :: m)

/-- The nodes of level `h` of the tree over `leaves`. -/
def Rcd.level (leaves : Sparse Nat) : Nat → Sparse Nat
  | 0 => leaves
  | h + 1 => Rcd.up (h + 1) (Rcd.level leaves h)

/-- The bale leaves of an image (R305). -/
def Rcd.baleLeaves (r : Nat → Nat) : Sparse Nat :=
  (List.range ((Bale.len r + 4095) / 4096)).map fun i =>
    (i, Rcd.leaf i ((List.range 4096).map fun j =>
      if 4096 * i + j < Bale.len r then BitVec.ofNat 8 (r (4096 * i + j)) else 0))

/-- The bale root: node (10, 0) (R307). -/
def Rcd.baleRoot (r : Nat → Nat) : Nat := Sparse.get (Rcd.level (Rcd.baleLeaves r) 10) 0 0

/-- The operand SLOT, clamped (R335). -/
def Cmd.slot (s : State) (r : Run) : State × Run × Nat :=
  let c := Cmd.clamp (r.d.field 8 1) 0 1
  let x := Cmd.noteAdj s r c.2
  (x.1, x.2, c.1)

/-- A bale command ends: a failing reason is recorded in the slot; RES0 gives its state (Table 10-11). -/
def Bale.finish (s : State) (r : Run) (slot reason : Nat) : State :=
  let s1 := if reason = 0 then s else s.setFld (Reg.TOP_BALE_SLOT_REASON slot) reason
  Cmd.finish s1 r (Bale.status reason) reason [Bale.st s1 slot]

/-- The identity of a loaded bale shows in the slot's registers. -/
def Bale.show (s : State) (slot : Nat) (r : Nat → Nat) : State :=
  (((s.setReg (0x000304 + 0x10 * slot) (BitVec.ofNat 32 (Bale.len r))).setReg64 (0x000308 + 0x10 * slot) (Bale.id r)).setFld
    (Reg.TOP_BALE_SLOT_NLOG slot) (Bale.nlog r)).setFld (Reg.TOP_BALE_SLOT_FS slot) (Bale.fs r)

/-- LOAD_BALE (R293, R303). A mirrored one uses up the image that has come for it. -/
def Bale.load (s : State) (run : Run) : State :=
  let x := Cmd.slot s run
  let i := x.2.2
  let took := run.d.peer && !run.d.flag 1
  let t : State := if took then { x.1 with twn := { x.1.twn with images := x.1.twn.images.filter fun j => j ≠ i } } else x.1
  let st := Bale.st t i
  let rd := Bale.rd t i
  if run.d.flag 1 then
    if st = 4 ∨ st = 5 then Bale.finish t x.2.1 i 0x12
    else Bale.finish (Bale.setState t i 0) x.2.1 i 0
  else
    let t1 := if run.sent then Tth.send t t.frameNo (.bale i (Bale.bytes rd 0 (min (Bale.len rd) 0x340000))) else t
    if st ≠ 1 then Bale.finish t1 x.2.1 i 0x12
    else
      let t2 := Bale.noteRead t1 i (min (Bale.len rd) 0x340000)
      let why := Bale.loadCheck rd
      if why ≠ 0 then Bale.finish t2 x.2.1 i why
      else Bale.finish (Bale.setState (Bale.show t2 i rd) i 2) x.2.1 i 0

/-- A mirrored LOAD_BALE waits until the image has come over the tether (R303), unless it erases. -/
def Bale.mayLoad (s : State) : Bool := match Cmd.head s true with
  | some d => !d.peer || d.flag 1 || s.twn.images.contains (min 1 (d.field 8 1))
  | none => true

/-- LOAD_BALE (R293). -/
def execLoadBale (s : State) : Host.Outcome State Fault Refusal := .next (if Bale.mayLoad s then Cmd.start s 0x01 Bale.load else s)

/-- SIGNED and KEYIDX show the result of the signature check (R292). -/
def Bale.showSigned (s : State) (i : Nat) (rd : Nat → Nat) : State :=
  let sg := Bale.signed s rd (Bale.len rd)
  (s.setFlag (Reg.TOP_BALE_SLOT_SIGNED i) sg).setFld (Reg.TOP_BALE_SLOT_KEYIDX i) (if sg then rd (Bale.len rd - 144) else 0)

/-- The verification reached the signature check (Table 09-7): it passed every check before it. -/
def Bale.judged (why : Nat) : Bool := why == 0 || decide (5 ≤ why)

/-- A passing image's root is stored, and SIGNED and KEYIDX show the signature (R292, R295). -/
def Bale.verified (s : State) (i : Nat) (rd : Nat → Nat) : State :=
  let s1 := Bale.showSigned s i rd
  { s1 with bale := { s1.bale with roots := Sparse.put s1.bale.roots i 0 (Rcd.baleRoot rd) } }

/-- VERIFY_BALE (R294, R295). -/
def Bale.verify (s : State) (run : Run) : State :=
  let x := Cmd.slot s run
  let t := x.1
  let i := x.2.2
  let rd := Bale.rd t i
  if Bale.st t i ≠ 2 then Bale.finish t x.2.1 i 0x12
  else
    let t1 := Bale.noteRead t i (Bale.len rd)
    let why := Bale.verifyCheck t1 rd
    if why ≠ 0 then Bale.finish (t1.when (Bale.judged why) fun u => Bale.showSigned u i rd) x.2.1 i why
    else Bale.finish (Bale.setState (Bale.verified t1 i rd) i 3) x.2.1 i 0

/-- VERIFY_BALE (R294). -/
def execVerifyBale (s : State) : Host.Outcome State Fault Refusal := .next (Cmd.start s 0x02 Bale.verify)

/-- A delay line is exempt: the live bale's line of that channel has the same LBASE and DLEN (R296). -/
def Bale.exempt (r l : Nat → Nat) (c : Nat) : Bool :=
  Bale.has l 7 && Bale.lbase r c == Bale.lbase l c && Bale.dlen r c == Bale.dlen l c

/-- The delay lines of the new bale that are not exempt. -/
def Bale.freshLines (r : Nat → Nat) (l : Option (Nat → Nat)) : List BaleRec :=
  if Bale.has r 7 then
    (((List.range 1536).filter fun c => 0 < Bale.dlen r c && !(match l with | some x => Bale.exempt r x c | none => false)).map
      fun c => Bale.line r c)
  else []

/-- The checks of R296 against the live bale `l`, in the order of its list. -/
def Bale.armCheck (r l : Nat → Nat) : Nat :=
  let use := Bale.use l
  let live := (Bale.spages l).1.map (Bale.spage l)
  if !Bale.clear ((Bale.inits r).1.map (Bale.initRec r)) use || !Bale.clear (Bale.freshLines r (some l)) use then 0x13
  else if !((Bale.spages r).1.all fun o =>
      let p := Bale.spage r o
      Bale.clear [⟨0, p.1 / 64, 4096 * (p.1 % 64), 4096, 0⟩] use ||
        (p.2.1 && live.any fun q => q.1 == p.1 && q.2.2.1 == p.2.2.1)) then 0x13
  else if Bale.has r 10 && (match Bale.sect r 10 with | some x => Bale.u r x.1 8 | none => 0) != Bale.id l then 0x14
  else if Bale.has r 10 && Bale.fs r != Bale.fs l then 0x16
  else if !((Bale.params r).1.all fun o => r (o + 2) % 2 == 0 || (Bale.param l (Bale.u r o 2)).isSome) then 0x13
  else 0

/-- The reader of the live bale's image. -/
def Bale.liveRd (s : State) : Option (Nat → Nat) := (Bale.live s).map fun i => Bale.rd s i

/-- A waiting SWAP_BALE of slot `j`, or one taken with no bale live, ends SUPERSEDED (R253, R297, R298). -/
def Bale.supersede (s : State) (j : Nat) : State :=
  let s1 := s.each s.cmd.run fun t r => match r.wait with
    | .swap slot _ => if slot = j then Cmd.finish t r 2 0 [] else t
    | _ => t
  let s2 := { s1 with bale := { s1.bale with taken := if s1.bale.taken = some j then none else s1.bale.taken, boot := false } }
  if s2.bale.mark = some j then Bale.setMark s2 none else s2

/-- Before the first arming write the other ARMED slot returns to VERIFIED (R297); a swap that a bus close has taken stays. -/
def Bale.demote (s : State) (j : Nat) : State :=
  if s.bale.taken = some j ∧ (Bale.live s).isSome then s
  else if Bale.st s j = 4 ∨ s.bale.taken = some j then Bale.setState (Bale.supersede s j) j 3
  else s

/-- ARM_BALE (R296, R297): the checks, then the arming writes begin. -/
def Bale.arm (s : State) (run : Run) : State :=
  let x := Cmd.slot s run
  let t := x.1
  let i := x.2.2
  let why :=
    if Bale.st t i ≠ 3 then 0x12
    else match Bale.liveRd t with
      | some l => Bale.armCheck (Bale.rd t i) l
      | none => 0
  if why ≠ 0 then Bale.finish t x.2.1 i why
  else
    let t1 := Bale.demote (Bale.noteRead t i (Bale.len (Bale.rd t i))) (1 - i)
    Cmd.keepRun { t1 with bale := { t1.bale with arming := some i } } { x.2.1 with wait := .arming }

/-- ARM_BALE (R297). -/
def execArmBale (s : State) : Host.Outcome State Fault Refusal := .next (Cmd.start s 0x03 Bale.arm)

/-- Space, unit and offset of a MEMWIN address (the tack room aside). -/
def Bale.locate (a : Nat) : Nat × Nat × Nat :=
  if a < 0x8000000 then (2, 0, a)
  else if a < 0x9000000 then (1, (a - 0x8000000) / 0x200000, (a - 0x8000000) % 0x200000)
  else (0, (a - 0xA000000) / 0x40000, (a - 0xA000000) % 0x40000)

/-- Zero is written to every byte whose address satisfies `p` (outside the tack room). -/
def Mem.zeroWhere (s : State) (p : Nat → Bool) : State :=
  let q (a : Nat) : Bool := !Mem.inTack a && p a
  let s1 := s.each s.mem.err fun t e =>
    let bs := (List.range (Mem.wordSize e.1)).map (e.1 + ·)
    if bs.all q then Mem.setErr t e.1 0
    else if bs.any q then Mem.merge 2 (bs.filter q) t e.1 else t
  { s1 with mem := { s1.mem with bytes := s1.mem.bytes.filter fun c => !q c.1 } }

/-- A stall image is written to a program bank; the rest of the bank is zero bundles (R142). -/
def Stl.writeBank (s : State) (i bank : Nat) (img : List Nat) : State :=
  let x := s.stall i
  let other (p : Nat) : Bool := p / 4096 != bank
  let prog := img.zipIdx.foldl (fun m b => Sparse.put m (4096 * bank + b.2) 0 (BitVec.ofNat 128 b.1))
    (x.prog.filter fun e => other e.1)
  s.setStall i { x with prog := prog, progErr := x.progErr.filter fun e => other e.1 }

/-- The arming writes (R297) of the image `r`; `l` is the live bale's image. -/
def Bale.armWrites (s : State) (r : Nat → Nat) (l : Option (Nat → Nat)) : State :=
  let liveUse := match l with | some x => Bale.use x | none => []
  let use := Bale.use r
  let s1 := s.each (List.range s.variant.stalls) fun t i => Stl.writeBank t i (1 - Stl.bank t i) (Bale.image r i)
  let s2 := Mem.zeroWhere s1 fun a =>
    let x := Bale.locate a
    Bale.inside use x.1 x.2.1 x.2.2 && !Bale.inside liveUse x.1 x.2.1 x.2.2
  let s3 := s2.each (Bale.inits r).1 fun t o =>
    let x := Bale.initRec r o
    Mem.write t 2 ((Bale.bytes r x.at_ x.len).zipIdx.map fun b => (Bale.addr x.space x.unit (x.base + b.2), b.1))
  let s4 := s3.each ((Bale.spages r).1.map (Bale.spage r)) fun t p =>
    if p.2.1 then t
    else Mem.write t 2 ((Bale.bytes r p.2.2.2 4096).zipIdx.map fun b => (Bale.addr 0 (p.1 / 64) (4096 * (p.1 % 64) + b.2), b.1))
  let fresh := Bale.freshLines r l
  Mem.zeroWhere s4 fun a => let x := Bale.locate a; x.1 == 2 && Bale.inside fresh 2 0 x.2.2

end Sys2Proof.Machine
end

