-- ==== Sys2Proof/Machine/Mtx.lean ====
section
/-! DEFINITION. The bus matrix's service and switching, its checks and error record (spec 07_bus_matrix.md: R235 to R242),
and the scrub of the groom (06_schedule_memory.md: R199 to R201). -/

namespace Sys2Proof.Machine

/-- A switch puts the fall-back (`fb`) or the fast matrix in service; every change of IN_SERVICE raises E052. -/
def Mtx.switchTo (s : State) (fb fault : Bool) : State :=
  if Mtx.fallback s = fb then s
  else (((s.setFlag Reg.MTX_STAT_IN_SERVICE fb).setFlag Reg.MTX_STAT_LAST_CAUSE fault).incCnt Reg.MTX_STAT_SWITCHES).fire 52

/-- A planned switch becomes pending (R240). -/
def Mtx.plan (s : State) (fb : Bool) : State :=
  { s.setFlag Reg.MTX_STAT_PENDING true with mtx := { s.mtx with req := some fb, reqLate := s.phase == .d } }

/-- No planned switch is pending any more. -/
def Mtx.unplan (s : State) : State :=
  { s.setFlag Reg.MTX_STAT_PENDING false with mtx := { s.mtx with req := none, reqLate := false } }

/-- A check of the matrix in service fails (R236): F050 for the fast matrix, F051 for the fall-back one. -/
def Mtx.checkFail (s : State) : State := s.faultEvent (if Mtx.fallback s then 51 else 50)

/-- REQ_FB (R240, R241). -/
def Bar.reqFb (s : State) : State :=
  if Mtx.fallback s then s else Mtx.plan s true

/-- REQ_FB (R240, R241), where the access is served (R41, R319). -/
def execReqFb (s : State) : Host.Outcome State Fault Refusal :=
  .next (s.bar Bar.reqFb)

/-- REQ_FAST (R240, R241): with REQ_FB written 1 in the same write only REQ_FB acts; refused unless FAST_STATE is READY. -/
def Bar.reqFast (withFb : Bool) (s : State) : State :=
  if withFb then s
    else if s.fld Reg.MTX_STAT_FAST_STATE ≠ 0 then s.setFlag Reg.MTX_STAT_REFUSED true
    else if Mtx.fallback s then Mtx.plan s false else s

/-- REQ_FAST (R240, R241), where the access is served (R41, R319). -/
def execReqFast (withFb : Bool) (s : State) : Host.Outcome State Fault Refusal :=
  .next (s.bar (Bar.reqFast withFb))

/-- RETEST (R242). -/
def Bar.retest (s : State) : State :=
  if Mtx.fallback s && decide (s.fld Reg.MTX_STAT_FAST_STATE ≤ 1) then s.setFld Reg.MTX_STAT_FAST_STATE 2 else s

/-- RETEST (R242), where the access is served (R41, R319). -/
def execRetest (s : State) : Host.Outcome State Fault Refusal :=
  .next (s.bar Bar.retest)

/-- PATTERN_TEST_DONE (R242, Table 07-7). -/
def execPatternTestDone (pass : Bool) (s : State) : Host.Outcome State Fault Refusal :=
  .next (if s.fld Reg.MTX_STAT_FAST_STATE = 2 then s.setFld Reg.MTX_STAT_FAST_STATE (if pass then 0 else 1) else s)

/-- MATRIX_TIMEOUT (R236): a transaction of the matrix in service is unanswered 2,048 FAB cycles after its grant. -/
def execMatrixTimeout (s : State) : Host.Outcome State Fault Refusal := .next (Mtx.checkFail s)

/-- The watchdog source of a master (Table 16-7); a master without one has none. -/
def Mtx.watchdog (m : Nat) : Option Nat :=
  match m with
  | 6 => some 52
  | 7 => some 52
  | 9 => some 53
  | 10 => some 54
  | 11 => some 55
  | 15 => some 56
  | _ => none

/-- MASTER_WATCHDOG (R484). -/
def execMasterWatchdog (master : Nat) (s : State) : Host.Outcome State Fault Refusal :=
  .next (match Mtx.watchdog master with
    | some n => s.faultEvent n
    | none => s)

/-- MTX_ERR_CLEAR (R235): clears VALID, OVF and COUNT. -/
def Bar.mtxErrClear (s : State) : State :=
  ((s.setFlag Reg.MTX_ERR_VALID false).setFlag Reg.MTX_ERR_OVF false).setFld Reg.MTX_ERR_COUNT 0

/-- MTX_ERR_CLEAR (R235), where the access is served (R41, R319). -/
def execMtxErrClear (s : State) : Host.Outcome State Fault Refusal :=
  .next (s.bar Bar.mtxErrClear)

/-- A physical upset of memory: the word that holds the address has a correctable or an uncorrectable error. -/
def Mem.upset (s : State) (u : Nat × Bool) : State :=
  Mem.setErr s (Mem.wordOf u.1) (if u.2 || Mem.err s (Mem.wordOf u.1) ≠ 0 then 2 else 1)

/-- The last row or bundle of a scrub pass counts the pass (TOP_GROOM.PASS wraps). -/
def Groom.pass (s : State) (last : Bool) : State := s.when last fun t => t.incWrap Reg.TOP_GROOM_PASS

/-- SCRUB_ROW (R200): the row of 64 bytes at `row`; errors named in `upsets` have struck before. Corrected words are counted
and, where no word of the row is uncorrectable, written back clean. -/
def execScrubRow (row : Nat) (upsets : List (Nat × Bool)) (last : Bool) (s : State) : Host.Outcome State Fault Refusal :=
  let s0 := s.each upsets Mem.upset
  let base := row / 64 * 64
  if !Mem.present s.variant base || Mem.inTack base then .next (Groom.pass s0 last)
  else
    let ws := Mem.wordsOf ((List.range 64).map (base + ·))
    let one := ws.filter fun w => Mem.err s0 w == 1
    let two := ws.filter fun w => Mem.err s0 w == 2
    let s1 := s0.each one Mem.ce
    let s2 := if two.isEmpty then s1.each one fun t w => Mem.setErr t w 0 else s1
    .next (Groom.pass (s2.each two fun t w => Mem.ue t 1 w) last)

/-- SCRUB_BUNDLE (R201): the scrub of a bundle of a program bank, which `upset` 1 or 2, a correctable or an uncorrectable error, has struck
before. While the stall issues bundles, and in the shadow bank while a bale is being armed, the scrub does not reach it, and what has struck
it stays. -/
def execScrubBundle (stall bank addr upset : Nat) (last : Bool) (s : State) : Host.Outcome State Fault Refusal :=
  let x := s.stall stall
  let key := 4096 * bank + addr
  let x0 := if upset = 0 then x else { x with progErr := Sparse.put x.progErr key 0 (max upset (Sparse.get x.progErr key 0)) }
  let s0 := s.setStall stall x0
  if s.variant.stalls ≤ stall then .next (Groom.pass s last)
  else if x.status == .running || x.status == .atSync || (bank != Stl.bank s stall && s.bale.arming.isSome) then .next s0
  else match Sparse.get x0.progErr key 0 with
    | 0 => .next (Groom.pass s0 last)
    | 1 =>
      .next (Groom.pass ((s0.setStall stall { x0 with progErr := Sparse.put x0.progErr key 0 0 }).incCnt
        Reg.TOP_GROOM_PM_CE) last)
    | _ => .next (Groom.pass (s0.faultEvent (24 + stall / 8)) last)

end Sys2Proof.Machine
end

