-- ==== Sys2Proof/Machine/Fade.lean ====
section
/-! DEFINITION. Fade weights and the mix of R258 (spec 08_signal_graph.md). -/

namespace Sys2Proof.Machine

/-- round(2^23 · (1 − cos(π · j / 256)) / 2) for j = 0–128: the raised-cosine law's first half (R258). -/
def Fade.cosTable : List Int :=
  [0, 316, 1263, 2842, 5052, 7893, 11365, 15466, 20197, 25556, 31543, 38157] ++
  [45397, 53262, 61750, 70861, 80592, 90944, 101913, 113498, 125698, 138511, 151934, 165966] ++
  [180605, 195849, 211694, 228139, 245182, 262819, 281049, 299867, 319272, 339261, 359830, 380977] ++
  [402698, 424990, 447850, 471274, 495258, 519800, 544895, 570539, 596729, 623462, 650731, 678535] ++
  [706868, 735726, 765105, 795000, 825407, 856322, 887739, 919655, 952063, 984960, 1018340, 1052198] ++
  [1086530, 1121329, 1156592, 1192311, 1228483, 1265102, 1302161, 1339657, 1377582, 1415931, 1454699, 1493879] ++
  [1533466, 1573453, 1613836, 1654607, 1695760, 1737290, 1779189, 1821453, 1864074, 1907045, 1950361, 1994015] ++
  [2038001, 2082311, 2126939, 2171879, 2217123, 2262665, 2308497, 2354614, 2401008, 2447672, 2494599, 2541782] ++
  [2589213, 2636887, 2684795, 2732930, 2781286, 2829854, 2878627, 2927599, 2976762, 3026108, 3075630, 3125320] ++
  [3175171, 3225176, 3275327, 3325616, 3376036, 3426579, 3477238, 3528005, 3578872, 3629832, 3680876, 3731999] ++
  [3783190, 3834444, 3885752, 3937106, 3988499, 4039923, 4091371, 4142833, 4194304]

/-- The raised-cosine weight at j / 256 of the fade; the law is symmetric about its middle. -/
def Fade.cos (j : Nat) : Int :=
  if j ≤ 128 then Fade.cosTable.getD j 0 else 2 ^ 23 - Fade.cosTable.getD (256 - j) 0

/-- W(m), the weight of the new value at sample m of a fade of length `len` (R258). -/
def Fade.weight (cosine : Bool) (len m : Nat) : Int :=
  if cosine then Fade.cos ((m + 1) * (256 / len)) else ((m + 1) * (2 ^ 23 / len) : Nat)

/-- mix(a, b, W) of R258. -/
def Fade.mix (a b w : Int) : Int := Arith.sat 32 (Arith.conv (a * (2 ^ 23 - w) + b * w) 23)

/-- L by FADE code (R257). -/
def Fade.len (code : Nat) : Nat :=
  match code with
  | 0 => 0
  | 1 => 16
  | 2 => 64
  | _ => 256

/-- The value supplied in a state of Table 11-3 at fade index `m`, for a channel with held value `h` and sample `x`. -/
def Rx.value (st m : Nat) (h x : Int) : Int :=
  match st with
  | 2 => Fade.mix 0 x (Fade.weight false 16 m)
  | 3 => x
  | 4 => Fade.mix h 0 (Fade.weight false 16 m)
  | _ => 0

/-- The state after a sample was supplied in it (Table 11-3). -/
def Rx.next (x : RxSt) : RxSt :=
  if x.st = 2 ∨ x.st = 4 then
    if x.m < 15 then { x with m := x.m + 1 } else { x with st := if x.st = 2 then 3 else 1, m := 0 }
  else x

/-- The state in which sample `j` is supplied (Table 11-3): `here` says it is present, `whole` that the frame is complete. -/
def Rx.enter (x : RxSt) (j : Nat) (here whole : Bool) : RxSt :=
  if x.st = 1 ∧ j = 0 ∧ whole then { x with st := 2, m := 0 }
  else if (x.st = 2 ∨ x.st = 3) ∧ !here then { x with st := 4, m := 0, h := x.last }
  else x

/-- Sample `j` with the channels' values `xs` (R365): the state after it and the values supplied. -/
def Rx.sample (x : RxSt) (j : Nat) (here whole : Bool) (xs : List Int) : RxSt × List Int :=
  let y := Rx.enter x j here whole
  let out := xs.zipIdx.map fun v => Rx.value y.st y.m (y.h.getD v.2 0) v.1
  (Rx.next { y with last := out }, out)

/-- A frame of samples in order: the state after it, the rows supplied, the entries to FADE_OUT, and whether some sample was
supplied in FADE_OUT or MUTED (R365, R366). `rows` gives each sample's presence and values. -/
def Rx.frame (x : RxSt) (rows : List (Bool × List Int)) : RxSt × List (List Int) × Nat × Bool :=
  let whole := rows.all fun r => r.1
  rows.zipIdx.foldl (fun (acc : RxSt × List (List Int) × Nat × Bool) r =>
    let y := Rx.enter acc.1 r.2 r.1.1 whole
    let e := Rx.sample acc.1 r.2 r.1.1 whole r.1.2
    (e.1, acc.2.1 ++ [e.2], acc.2.2.1 + (if y.st = 4 ∧ acc.1.st ≠ 4 then 1 else 0),
      acc.2.2.2 || y.st == 4 || y.st == 1)) (x, [], 0, false)

end Sys2Proof.Machine
end

