-- ==== Sys2Proof/Machine/Tkp.lean ====
section
/-! DEFINITION. The timekeeper (spec 12_timekeeper.md): node time, the states, the steering and its clamps, the two domain
slots with their PTP exchanges, the selection, the transmit timestamp queue. Node time is held in root cycles
(1,000 / 2,457.6 ns each, R373) from the PTP epoch. -/

namespace Sys2Proof.Machine

/-- Node time in whole nanoseconds for a count of root cycles (R373, R388). -/
def Tkp.nsOf (root : Nat) : Nat := root * 625 / 1536

/-- The root edge nearest to a time in nanoseconds (R374, R376). -/
def Tkp.rootOf (ns : Int) : Nat := ((ns * 1536 + 312).fdiv 625).toNat

/-- Timekeeper state codes of Table 12-1. -/
def State.tkpState (s : State) : Nat := s.fld Reg.TKP_STAT_STATE

/-- The timekeeper marks time: TRACK, COAST or FREE (R377). -/
def Tkp.marking (s : State) : Bool := decide (2 ≤ s.tkpState)

/-- The record of slot `d`. -/
def Tkp.slot (s : State) (d : Nat) : TkpSlot := if d = 0 then s.tkp.slot0 else s.tkp.slot1

/-- `s` with the record of slot `d` replaced. -/
def Tkp.setSlot (s : State) (d : Nat) (x : TkpSlot) : State :=
  { s with tkp := if d = 0 then { s.tkp with slot0 := x } else { s.tkp with slot1 := x } }

/-- A new state of Table 12-1; each change fires E072. -/
def Tkp.enter (s : State) (st : Nat) : State :=
  if s.tkpState = st then s else (s.setFld Reg.TKP_STAT_STATE st).fire 72

/-- A new state of slot `d`; each change fires E073 (R384). -/
def Tkp.enterDom (s : State) (d st : Nat) : State :=
  if s.fld (Reg.TKP_DOM_DSTATE d) = st then s else (s.setFld (Reg.TKP_DOM_DSTATE d) st).fire 73

/-- SEL_LIVE takes `d`; each change fires E073 (R385). -/
def Tkp.select (s : State) (d : Nat) : State :=
  if s.fld Reg.TKP_STAT_SEL_LIVE = d then s else (s.setFld Reg.TKP_STAT_SEL_LIVE d).fire 73

/-- The visible counters follow node time (R388). -/
def Tkp.showTime (s : State) : State :=
  (s.setFld Reg.TKP_NS_TSC (Tkp.nsOf s.tkp.node)).setFld Reg.TKP_WRAP_HI_HI (Tkp.nsOf s.tkp.node / 2 ^ 32)

/-- Node time advances to `root`, where that lies ahead; E076 fires when TSC wraps on the way (R388). -/
def Tkp.advance (s : State) (root : Nat) : State :=
  if root ≤ s.tkp.node then s
  else
    let wraps := decide (Tkp.nsOf s.tkp.node / 2 ^ 32 < Tkp.nsOf root / 2 ^ 32)
    let s1 := Tkp.showTime { s with tkp := { s.tkp with node := root } }
    s1.when wraps fun t => t.fire 76

/-- The signed value of a 32-bit register field. -/
def State.sfld (s : State) (f : Fld) : Int := (BitVec.ofNat 32 (s.fld f)).toInt

/-- Steering in the units of CLK_STEER, clamped to ±250 ppm (R40, R380). -/
def Tkp.steer (s : State) (v : Int) : State :=
  s.setReg 0x010008 (BitVec.ofInt 32 (max (-274877907) (min 274877907 v)))

/-- The domain rate of slot `d` lies within ±200 ppm (R381). -/
def Tkp.rateOk (s : State) (d : Nat) : Bool := decide ((s.sfld (Reg.TKP_DOM_RATE d)).natAbs ≤ 219902325)

/-- Slot `d` is VALID. -/
def Tkp.valid (s : State) (d : Nat) : Bool := s.fld (Reg.TKP_DOM_DSTATE d) == 3

/-- Slot `d` is VALID with |OFFSET| at most SEAM_US (R385). -/
def Tkp.seam (s : State) (d : Nat) : Bool :=
  Tkp.valid s d && decide ((s.sfld (Reg.TKP_DOM_OFFSET d)).natAbs ≤ 1000 * s.fld Reg.TKP_CFG_SEAM_US)

/-- RUN takes `b`; each change fires E077 (R379); an owner drops ownership when RUN becomes 0 (Table 17-3). -/
def Tkp.setRun (s : State) (b : Bool) : State :=
  if s.flag Reg.TOP_FRAME_CFG_RUN = b then s
  else
    let t := (s.setFlag Reg.TOP_FRAME_CFG_RUN b).fire 77
    if b then t else Twn.request t 5

/-- OFF_FAR: TRACK with |OFFSET| of the selected slot above 1 ms (R381). -/
def Tkp.offFar (s : State) : State :=
  s.setFlag Reg.TKP_STAT_OFF_FAR
    (s.tkpState == 2 && decide (1000000 < (s.sfld (Reg.TKP_DOM_OFFSET (s.fld Reg.TKP_STAT_SEL_LIVE))).natAbs))

/-- Saturation to a signed 32-bit register. -/
def Tkp.sat32 (v : Int) : Word := BitVec.ofInt 32 (max (-2147483648) (min 2147483647 v))

/-- The estimates and stamps of slot `d` after node time has moved by `by_` ns: OFFSET is domain time minus node time. -/
def Tkp.moved (by_ : Int) (s : State) (d : Nat) : State :=
  let x := Tkp.slot s d
  let at_ (t : Nat) : Nat := ((t : Int) + by_).toNat
  let y := { x with
    samples := x.samples.map fun o => o - by_
    last := x.last.map fun l => (l.1, at_ l.2)
    pending := x.pending.map fun p => { p with t2 := at_ p.t2 }
    req := x.req.map fun r => { r with t3 := r.t3.map at_, resp := r.resp.map fun p => (p.1, at_ p.2) } }
  let t := Tkp.setSlot s d y
  match y.samples with
  | [] => t
  | o :: _ => t.setFld (Reg.TKP_DOM_OFFSET d) (Tkp.sat32 o).toNat

/-- The step (R376): node time moves to the selected domain's time on the root grid, however far it lies, EPOCH advances, and TRACK
begins with the domain's RATE; wraps that the step skips fire nothing. The first boundary falls 1.0 ms later or more (R378). -/
def Tkp.step (s : State) : State :=
  let d := s.fld Reg.TKP_STAT_SEL_LIVE
  let was := Tkp.nsOf s.tkp.node
  let node := Tkp.rootOf ((was : Int) + (Tkp.slot s d).samples.headD 0)
  let s1 := Tkp.showTime { s.shifted node with tkp := { s.tkp with node := node, notBefore := node + 2457600 } }
  let s2 := [0, 1].foldl (Tkp.moved ((Tkp.nsOf node : Int) - was)) s1
  let s3 := (s2.setFlag Reg.TKP_STAT_STEPPED true).incWrap Reg.TKP_STAT_EPOCH
  Tkp.enter (Tkp.steer s3 (s.sfld (Reg.TKP_DOM_RATE d))) 2

/-- Entry to WAIT: frames stop, STEPPED, SLEWING and OFF_FAR clear, steering takes the saved value (R376, R379 to R381). -/
def Tkp.enterWait (s : State) : State :=
  let s1 := Tkp.setRun { s with tkp := { s.tkp with restep := false } } false
  let s2 := ((s1.setFlag Reg.TKP_STAT_STEPPED false).setFlag Reg.TKP_STAT_SLEWING false).setFlag Reg.TKP_STAT_OFF_FAR false
  Tkp.enter (Tkp.steer s2 s.tkp.savedSteer.toInt) 1

/-- The automatic change of selection (R385). -/
def Tkp.autoSelect (s : State) : State :=
  let live := s.fld Reg.TKP_STAT_SEL_LIVE
  let sel := s.fld Reg.TKP_CTL_SEL
  if !s.flag Reg.TKP_CTL_AUTO then s
  else if live ≠ sel ∧ Tkp.seam s sel then Tkp.select s sel
  else if !Tkp.valid s live && Tkp.seam s (1 - live) then Tkp.select s (1 - live)
  else s

/-- The transition of Table 12-2 that the slots' states call for. -/
def Tkp.follow (s : State) : State :=
  let v := Tkp.valid s (s.fld Reg.TKP_STAT_SEL_LIVE)
  match s.tkpState with
  | 1 => if v then Tkp.step s else s
  | 2 => if v then s else Tkp.enter (s.setFlag Reg.TKP_STAT_SLEWING false) 3
  | 3 => if v then Tkp.enter s 2 else s
  | 4 => if v then (if s.flag Reg.TKP_CFG_JOIN then Tkp.enter s 2 else Tkp.enterWait s) else s
  | _ => s

/-- A RESTEP takes effect (R379): WAIT, and from there the step where the selected slot is VALID (Table 12-2). -/
def Tkp.restepped (s : State) : State := Tkp.offFar (Tkp.follow (Tkp.enterWait s))

/-- A boundary or an idle mark falls at node time `root` (R377): TKP_BND takes its TSC. -/
def Tkp.marked (s : State) (root : Nat) : State :=
  let t := Tkp.advance s root
  t.setFld Reg.TKP_BND_TSC (t.fld Reg.TKP_NS_TSC)

/-- Selection and state after a slot or the selection changed; FREE with JOIN = 0 passes through WAIT to the step. -/
def Tkp.eval (leftValid : Bool) (s : State) : State :=
  let s1 := if leftValid || s.fld Reg.TKP_STAT_SEL_LIVE ≠ s.fld Reg.TKP_CTL_SEL then Tkp.autoSelect s else s
  Tkp.offFar (Tkp.follow (Tkp.follow s1))

/-- Slot `d` takes state `st` of Table 12-4 and its exchange starts afresh; selection and state follow. -/
def Tkp.dom (s : State) (d st : Nat) : State :=
  let left := Tkp.valid s d && st ≠ 3
  let x := Tkp.slot s d
  let x1 := match st with
    | 0 => { x with masters := [], chosen := none, pending := none, last := none, samples := [], req := none }
    | 1 => { x with masters := [], chosen := none, pending := none, last := none, samples := [], req := none }
    | 2 => { x with pending := none, last := none, samples := [] }
    | _ => x
  Tkp.eval left (Tkp.enterDom (Tkp.setSlot s d x1) d st)

/-- TKP_DOM[d].EN was written (R384): EN = 0 takes any state to OFF, EN = 1 takes OFF to LISTEN. -/
def Tkp.enWritten (s : State) (d : Nat) : State :=
  if s.flag (Reg.TKP_DOM_EN d) then (if s.fld (Reg.TKP_DOM_DSTATE d) = 0 then Tkp.dom s d 1 else s)
  else if s.fld (Reg.TKP_DOM_DSTATE d) = 0 then s else Tkp.dom s d 0

/-- PROFILE 0 and 1 run over UDP/IPv4, the others over IEEE 802.3 (Table 12-12). -/
def Tkp.via (s : State) (d : Nat) : PtpVia := if s.fld (Reg.TKP_DOM_PROFILE d) < 2 then .udp4 else .ethernet

/-- The slots that take a message (R382, R383): those that follow its domain on its port over its transport; a port that is disabled or
without link receives nothing (R371), and PTP version 2 alone is supported (Table 12-3). -/
def Tkp.slotsFor (s : State) (p : PtpIn) : List Nat :=
  if s.variant.ports ≤ p.port ∨ p.version ≠ 2 ∨ !s.flag (Reg.NSW_PORT_EN p.port) ∨ !s.flag (Reg.NSW_PORT_LINK p.port) then []
  else (List.range 2).filter fun d =>
    s.flag (Reg.TKP_DOM_EN d) && s.fld (Reg.TKP_DOM_PORT d) == p.port && s.fld (Reg.TKP_DOM_DNUM d) == p.dom && Tkp.via s d == p.via

/-- The slot measures the delay peer to peer (PROFILE 1, 3, and 4 and above, Table 12-12). -/
def Tkp.p2p (s : State) (d : Nat) : Bool :=
  let p := s.fld (Reg.TKP_DOM_PROFILE d)
  p == 1 || decide (3 ≤ p)

/-- A lies before B in the lexicographic order of data sets. -/
def Tkp.better : List Nat → List Nat → Bool
  | [], _ => false
  | _ :: _, [] => false
  | a :: as, b :: bs => decide (a < b) || (a == b && Tkp.better as bs)

/-- The best of the qualified foreign masters (R382, R384). -/
def Tkp.best : List ForeignMaster → Option ForeignMaster
  | [] => none
  | m :: ms =>
    match Tkp.best ms with
    | none => if m.prev.isSome then some m else none
    | some b => if m.prev.isSome && !Tkp.better b.dataset m.dataset then some m else some b

/-- The identity and distance of the chosen master show in the slot's registers. -/
def Tkp.showMaster (s : State) (d : Nat) (m : ForeignMaster) : State :=
  ((s.setFld (Reg.TKP_DOM_GM_LO d) (m.gm % 2 ^ 32)).setFld (Reg.TKP_DOM_GM_HI d) (m.gm / 2 ^ 32)).setFld
    (Reg.TKP_DOM_STEPS_RM d) m.steps

/-- The interval of a logarithmic message interval, in ns. -/
def Tkp.interval (log : Int) : Nat := if 0 ≤ log then 1000000000 * 2 ^ log.toNat else 1000000000 / 2 ^ (-log).toNat

/-- PTP_ANNOUNCE at slot `d` (R384): two Announce messages within four announce intervals qualify a master. -/
def Tkp.announce (at_ : Nat) (m : ForeignMaster) (log : Int) (s : State) (d : Nat) : State :=
  let x := Tkp.slot s d
  let now := Tkp.nsOf at_
  let prev := (x.masters.find? fun o => o.source = m.source).bind fun o =>
    if now - o.last ≤ 4 * Tkp.interval log then some o.last else none
  let ms := { m with last := now, prev := prev } :: x.masters.filter fun o => o.source ≠ m.source
  let s1 := Tkp.setSlot s d { x with masters := ms }
  match Tkp.best ms with
  | none => s1
  | some b =>
    let gmOld := s.fld (Reg.TKP_DOM_GM_LO d) + 2 ^ 32 * s.fld (Reg.TKP_DOM_GM_HI d)
    let s2 := Tkp.showMaster (Tkp.setSlot s1 d { Tkp.slot s1 d with chosen := some b.source }) d b
    match s.fld (Reg.TKP_DOM_DSTATE d) with
    | 1 => Tkp.dom s2 d 2
    | 0 => s1
    | _ => if x.chosen.isSome ∧ gmOld ≠ b.gm % 2 ^ 64 then Tkp.dom s2 d 2 else s2

/-- PTP_ANNOUNCE (R384). -/
def execPtpAnnounce (p : PtpIn) (m : ForeignMaster) (log : Int) (s : State) : Host.Outcome State Fault Refusal :=
  let s0 := Tkp.advance s p.at_
  .next (s0.each (Tkp.slotsFor s0 p) (Tkp.announce p.at_ m log))

/-- The servo's update in TRACK (R380): the selected domain's RATE plus a correction towards OFFSET 0 that is clamped to SLEW
ppm. The correction's magnitude is FREE: the spec states no gains. -/
def Tkp.servo (s : State) (d : Nat) : State :=
  if s.tkpState ≠ 2 ∨ s.fld Reg.TKP_STAT_SEL_LIVE ≠ d then s
  else
    let off := s.sfld (Reg.TKP_DOM_OFFSET d)
    let want : Int := if off = 0 then 0 else if off < 0 then -(s.freeNat : Int) else s.freeNat
    let lim : Int := (s.fld Reg.TKP_CFG_SLEW * 2 ^ 40 + 500000) / 1000000
    let c := max (-lim) (min lim want)
    Tkp.offFar ((Tkp.steer s.drew (s.sfld (Reg.TKP_DOM_RATE d) + c)).setFlag Reg.TKP_STAT_SLEWING (decide (c ≠ want)))

/-- The list's numbers lie within `w` of each other. -/
def Tkp.within (w : Nat) : List Int → Bool
  | [] => true
  | x :: xs => xs.all (fun y => decide ((x - y).natAbs ≤ w)) && Tkp.within w xs

/-- A Sync timestamp of slot `d` is complete: origin time with correction `t1`, receive stamp `t2` (R380, R384). OFFSET is
domain time minus node time; the RATE estimate is FREE: the spec states no estimator. -/
def Tkp.sample (s : State) (d : Nat) (t1 : Int) (t2 : Nat) : State :=
  let x := Tkp.slot s d
  let off := t1 + x.asym + s.fld (Reg.TKP_DOM_MPD d) - t2
  let s1 := s.setFld (Reg.TKP_DOM_OFFSET d) (Tkp.sat32 off).toNat
  let s2 := (s1.setFld (Reg.TKP_DOM_RATE d) s1.freeWord.toNat).drew
  let samples := (off :: x.samples).take 8
  let s3 := Tkp.setSlot s2 d { x with pending := none, last := some (t1, t2), samples := samples }
  match s3.fld (Reg.TKP_DOM_DSTATE d) with
  | 2 => if samples.length = 8 ∧ Tkp.within 1000 samples ∧ Tkp.rateOk s3 d then Tkp.dom s3 d 3 else s3
  | 3 => if Tkp.rateOk s3 d then Tkp.servo (Tkp.eval false s3) d else Tkp.dom s3 d 1
  | _ => s3

/-- Slot `d` takes messages of source `src`: it has chosen that master (R384). -/
def Tkp.accepts (s : State) (d src : Nat) : Bool :=
  (Tkp.slot s d).chosen == some src && decide (2 ≤ s.fld (Reg.TKP_DOM_DSTATE d))

/-- PTP_SYNC at slot `d` (R382): a one-step Sync completes at once, a two-step one waits for its Follow_Up; a Sync interval
outside 2^−7 to 2^1 s leaves the slot in LISTEN. -/
def Tkp.sync (t2 seq src : Nat) (log : Int) (origin : Option Int) (corr : Int) (s : State) (d : Nat) : State :=
  if !Tkp.accepts s d src then s
  else if log < -7 ∨ 1 < log then Tkp.dom s d 1
  else
    let s1 := s.incCnt (Reg.TKP_DOM_SYNC_CNT d)
    match origin with
    | some t1 => Tkp.sample s1 d (t1 + corr) t2
    | none => Tkp.setSlot s1 d { Tkp.slot s1 d with pending := some { seq := seq, t2 := t2, corr := corr } }

/-- PTP_SYNC (R382): stamped on receipt and taken by its slot. -/
def execPtpSync (p : PtpIn) (src seq : Nat) (log : Int) (origin : Option Int) (corr : Int) (s : State) :
    Host.Outcome State Fault Refusal :=
  let s0 := Tkp.advance s p.at_
  .next (s0.each (Tkp.slotsFor s0 p) (Tkp.sync (Tkp.nsOf p.at_) seq src log origin corr))

/-- PTP_FOLLOW_UP at slot `d` (R380): completes the Sync of the same sequence number. -/
def Tkp.followUp (seq src : Nat) (origin corr : Int) (s : State) (d : Nat) : State :=
  match (Tkp.slot s d).pending with
  | some p => if Tkp.accepts s d src ∧ p.seq = seq then Tkp.sample s d (origin + corr + p.corr) p.t2 else s
  | none => s

/-- PTP_FOLLOW_UP (R380). -/
def execPtpFollowUp (p : PtpIn) (src seq : Nat) (origin corr : Int) (s : State) : Host.Outcome State Fault Refusal :=
  let s0 := Tkp.advance s p.at_
  .next (s0.each (Tkp.slotsFor s0 p) (Tkp.followUp seq src origin corr))

/-- The mean path delay of slot `d` takes a measured value, a negative one as 0, and the request is answered; the delayAsymmetry of the port
enters the path delay with it (R387, Table 12-17). -/
def Tkp.setMpd (s : State) (d : Nat) (v : Int) : State :=
  let asym : Int := (BitVec.ofNat 16 (s.fld (Reg.TKP_ASYM_ASYM (s.fld (Reg.TKP_DOM_PORT d))))).toInt
  (Tkp.setSlot s d { Tkp.slot s d with req := none, asym := asym }).setFld (Reg.TKP_DOM_MPD d) (min v.toNat (2 ^ 32 - 1))

/-- PTP_DELAY_RESP at slot `d` (R382): the mean of the two directions, with the last completed Sync. -/
def Tkp.delayResp (seq src : Nat) (t4 corr : Int) (s : State) (d : Nat) : State :=
  let x := Tkp.slot s d
  match x.req, x.req.bind (fun r => r.t3), x.last with
  | some r, some t3, some (t1, t2) =>
    if Tkp.accepts s d src ∧ r.seq = seq ∧ !Tkp.p2p s d then Tkp.setMpd s d (((t2 - t1) + (t4 - corr - t3)).fdiv 2) else s
  | _, _, _ => s

/-- PTP_DELAY_RESP (R382). -/
def execPtpDelayResp (p : PtpIn) (src seq : Nat) (t4 corr : Int) (s : State) : Host.Outcome State Fault Refusal :=
  let s0 := Tkp.advance s p.at_
  .next (s0.each (Tkp.slotsFor s0 p) (Tkp.delayResp seq src t4 corr))

/-- LEVEL follows the queue. -/
def Tkp.setTsq (s : State) (q : List (Word × Word)) : State :=
  ({ s with tkp := { s.tkp with tsq := q } } : State).setFld Reg.TKP_TSQ_STAT_LEVEL q.length

/-- A sent PTP event message places its entry in the transmit timestamp queue, or is dropped and counted (R390). -/
def Tkp.stampSent (s : State) (seq msgType port slot : Nat) : State :=
  let id := seq % 65536 * 65536 + msgType * 4096 + port * 1024 + slot * 512 + s.fld Reg.TKP_STAT_EPOCH * 128 + 1
  let e : Word × Word := (BitVec.ofNat 32 (Tkp.nsOf s.tkp.node), BitVec.ofNat 32 id)
  if 64 ≤ s.tkp.tsq.length then (s.incCnt Reg.TKP_TSQ_STAT_LOST).setFire Reg.TKP_TSQ_STAT_OVF 75
  else
    let s1 := Tkp.setTsq s (s.tkp.tsq ++ [e])
    if s.tkp.tsq.isEmpty then s1.fire 74 else s1

/-- PTP_PDELAY_RESP at slot `d` (R382): of a two-step responder the peer's receive stamp `t2` is kept with the receive stamp of the answer;
a one-step one gives its turnaround in the correction, and the measurement is complete. -/
def Tkp.pdelayResp (t4 seq : Nat) (t2 : Option Int) (corr : Int) (s : State) (d : Nat) : State :=
  let x := Tkp.slot s d
  match x.req, x.req.bind (fun r => r.t3) with
  | some r, some t3 =>
    if !Tkp.p2p s d || r.seq != seq then s
    else match t2 with
      | some t => Tkp.setSlot s d { x with req := some { r with resp := some (t - corr, t4) } }
      | none => Tkp.setMpd s d (((t4 : Int) - t3 - corr).fdiv 2)
  | _, _ => s

/-- PTP_PDELAY_RESP (R382). -/
def execPtpPdelayResp (p : PtpIn) (seq : Nat) (t2 : Option Int) (corr : Int) (s : State) : Host.Outcome State Fault Refusal :=
  let s0 := Tkp.advance s p.at_
  .next (s0.each (Tkp.slotsFor s0 p) (Tkp.pdelayResp (Tkp.nsOf p.at_) seq t2 corr))

/-- PTP_PDELAY_RESP_FOLLOW_UP at slot `d` (R382): completes the measurement. -/
def Tkp.pdelayFollow (seq : Nat) (t3 corr : Int) (s : State) (d : Nat) : State :=
  match (Tkp.slot s d).req with
  | some r => match r.t3, r.resp with
    | some t1, some (t2, t4) =>
      if Tkp.p2p s d ∧ r.seq = seq then Tkp.setMpd s d ((((t4 : Int) - t1) - (t3 + corr - t2)).fdiv 2) else s
    | _, _ => s
  | none => s

/-- PTP_PDELAY_RESP_FOLLOW_UP (R382). -/
def execPtpPdelayRespFollowUp (p : PtpIn) (seq : Nat) (t3 corr : Int) (s : State) : Host.Outcome State Fault Refusal :=
  let s0 := Tkp.advance s p.at_
  .next (s0.each (Tkp.slotsFor s0 p) (Tkp.pdelayFollow seq t3 corr))

/-- DOMAIN_LOSS (R384): a VALID slot leaves for LISTEN. -/
def execDomainLoss (slot : Nat) (s : State) : Host.Outcome State Fault Refusal :=
  .next (if decide (slot < 2) && Tkp.valid s slot then Tkp.dom s slot 1 else s)

/-- FREE_TIMEOUT (R375, R376): WAIT has lasted FREE_S seconds without a VALID selected domain. -/
def execFreeTimeout (s : State) : Host.Outcome State Fault Refusal :=
  .next (if s.tkpState = 1 ∧ s.fld Reg.TKP_CFG_FREE_S ≠ 0 ∧ !Tkp.valid s (s.fld Reg.TKP_STAT_SEL_LIVE) then
      let s1 : State := { s with tkp := { s.tkp with notBefore := s.tkp.node + 2457600 } }
      Tkp.enter ((s1.setFlag Reg.TKP_STAT_STEPPED true).incWrap Reg.TKP_STAT_EPOCH) 4
    else s)

/-- TSC_WRAP (R388): node time advances to the instant at which TSC passes from 0xFFFFFFFF to 0. -/
def execTscWrap (s : State) : Host.Outcome State Fault Refusal :=
  .next (Tkp.advance s ((2 ^ 32 * (Tkp.nsOf s.tkp.node / 2 ^ 32 + 1) * 1536 + 624) / 625))

/-- RESTEP (R379): takes effect at the next boundary or idle mark; ignored in INIT and WAIT. -/
def Bar.restep (s : State) : State :=
  if Tkp.marking s then { s with tkp := { s.tkp with restep := true } } else s

/-- RESTEP (R379), where the access is served (R41, R319). -/
def execRestep (s : State) : Host.Outcome State Fault Refusal :=
  .next (s.bar Bar.restep)

/-- SNAP (R389) at node time `at_`. -/
def Bar.snap (at_ : Nat) (s : State) : State :=
  let t := Tkp.advance s at_
  let n := if t.running then t.frameNo else t.tkp.mark
  ((((t.setFld Reg.TKP_SNAP_TSC (t.fld Reg.TKP_NS_TSC)).setFld Reg.TKP_SNAP_HI (t.fld Reg.TKP_WRAP_HI_HI)).setFld
    Reg.TKP_SNAP_EPOCH (t.fld Reg.TKP_STAT_EPOCH)).setFld Reg.TKP_SNAP_FRAME n).setFld Reg.TKP_SNAP_FHI_FRAME_HI (n / 2 ^ 32)

/-- SNAP (R389), where the access is served (R41, R319). -/
def execSnap (at_ : Nat) (s : State) : Host.Outcome State Fault Refusal := .next (s.bar (Bar.snap at_))

/-- SEL_WRITE (R385, R386): SEL_LIVE moves to SEL at once, but not in INIT. -/
def Bar.selWrite (sel : Nat) (s : State) : State :=
  let s1 := s.setFld Reg.TKP_CTL_SEL sel
  if s.tkpState = 0 then s1 else Tkp.eval false (Tkp.select s1 (sel % 2))

/-- SEL_WRITE (R385), where the access is served (R41, R319). -/
def execSelWrite (sel : Nat) (s : State) : Host.Outcome State Fault Refusal := .next (s.bar (Bar.selWrite sel))

/-- A read of TKP_TSQ_TS (R390): removes the oldest entry and latches its identifier; an empty queue gives 0 and VALID = 0. -/
def Tkp.popTsq (s : State) : State × Word :=
  match s.tkp.tsq with
  | [] => (s.setReg 0x050074 0, 0)
  | e :: q => ((Tkp.setTsq s q).setReg 0x050074 e.2, e.1)

/-- TKP_TSQ_TS_READ (R390). -/
def Bar.tkpTsqTsRead (s : State) : State :=
  let p := Tkp.popTsq s
  p.1.send (.readData 0x10050070 p.2)

/-- TKP_TSQ_TS_READ (R390), where the access is served (R41, R319). -/
def execTkpTsqTsRead (s : State) : Host.Outcome State Fault Refusal :=
  .next (s.bar Bar.tkpTsqTsRead)

end Sys2Proof.Machine
end

