-- ==== Sys2Proof/Machine/Egress.lean ====
section
/-! DEFINITION. The egress side of the network switch (spec 11_network_switch.md: R345 to R353; 12_timekeeper.md: R383, R387, R390): admission
of frames to queues and cells, transmission and the stamps of PTP messages, redundant pairs, headers, links and paths. -/

namespace Sys2Proof.Machine

/-- The record of external port `p`. -/
def Nsw.port (s : State) (p : Nat) : EgPort := Sparse.get s.nsw.ports p {}

/-- `s` with the record of external port `p` replaced. -/
def Nsw.setPort (s : State) (p : Nat) (x : EgPort) : State :=
  { s with nsw := { s.nsw with ports := Sparse.put s.nsw.ports p {} x } }

/-- A counter field of the switch counts; E089 fires when it reaches its all-ones value (R372). -/
def Nsw.count (s : State) (f : Fld) : State :=
  let t := s.incCnt f
  t.when (s.fld f ≠ f.max && t.fld f == f.max) fun u => u.fire 89

/-- Redundancy mode of pair `q`: 0 none, 1 PRP, 2 HSR (R349). -/
def Nsw.mode (s : State) (q : Nat) : Nat := s.fld (Reg.NSW_RED_MODE q)

/-- The source MAC address of the device (NSW_SRC.MAC). -/
def Nsw.mac (s : State) : Nat := s.fld Reg.NSW_SRC_MAC_LO + 2 ^ 32 * s.fld Reg.NSW_SRC_MAC_HI

/-- Port `p` is enabled and has link: it transmits and receives (R345, R371). -/
def Nsw.live (s : State) (p : Nat) : Bool :=
  decide (p < s.variant.ports) && s.flag (Reg.NSW_PORT_EN p) && s.flag (Reg.NSW_PORT_LINK p)

/-- The MAC address of an IPv4 group: 01-00-5E and its low 23 bits. -/
def Nsw.groupMac (g : Nat) : Nat := 0x01005E000000 + g % 2 ^ 23

/-- The headers of a frame from the command processor port (R353): the identity and the VLAN setting of NSW_SRC. -/
def Nsw.cpHead (s : State) (dmac : Nat) (ip : Option IpHead) : EgHead :=
  { smac := Nsw.mac s, dmac := dmac
    tag := if s.flag Reg.NSW_SRC_TAGGED then some (s.fld Reg.NSW_SRC_PCP, s.fld Reg.NSW_SRC_VID) else none
    ip := ip }

/-- The IPv4 header of a frame from the command processor port (R353): source IPV4 and time-to-live TTL. -/
def Nsw.cpIp (s : State) (dst : Nat) (ports : Option (Nat × Nat)) : IpHead :=
  { src := s.fld Reg.NSW_SRC_IPV4, dst := dst, ttl := s.fld Reg.NSW_SRC_TTL, dscp := 0, ports := ports, sum := none }

/-- Bytes of a frame from the command processor port, with its VLAN tag, at least 64. -/
def Nsw.cpLen (s : State) (len : Nat) : Nat := max 64 (len + if s.flag Reg.NSW_SRC_TAGGED then 4 else 0)

/-- The headers of a PTP message of slot `d` (R383): over UDP the group and ports of IEEE 1588-2019 Annex C, over IEEE 802.3 the group
address of Annex E, the peer delay messages to their own groups. PRESUMED: log 64. -/
def Tkp.head (s : State) (d typ : Nat) : EgHead :=
  let peer := typ = 2 ∨ typ = 3 ∨ typ = 10
  let group := if peer then 0xE000006B else 0xE0000181
  let port := if typ ≤ 3 then 319 else 320
  match Tkp.via s d with
  | .ethernet => Nsw.cpHead s (if peer then 0x0180C200000E else 0x011B19000000) none
  | _ => Nsw.cpHead s (Nsw.groupMac group) (some (Nsw.cpIp s group (some (port, port))))

/-- Bytes of a PTP message of slot `d`: a body of 44 bytes, or 54 for the peer delay messages (PRESUMED: log 64). -/
def Tkp.len (s : State) (d typ : Nat) : Nat :=
  Nsw.cpLen s ((if typ = 1 then 44 else 54) + 18 + if Tkp.via s d = .udp4 then 28 else 0)

/-- Cells of queue 7's and of any other queue's reserve (R348). -/
def Egress.reserve (q : Nat) : Nat := if q = 7 then 640 else 32

/-- Every frame that holds cells at port `p`. -/
def Egress.held (s : State) (p : Nat) : List EgFrame := (Nsw.port s p).now.toList ++ (Nsw.port s p).queued

/-- Free cells of queue `q`'s reserve at port `p`. -/
def Egress.freeOwn (s : State) (p q : Nat) : Nat :=
  Egress.reserve q - (((Egress.held s p).filter fun f => f.queue = q).map fun f => f.own).sum

/-- Free cells of the shared pool of 160 at port `p`. -/
def Egress.freePool (s : State) (p : Nat) : Nat := 160 - ((Egress.held s p).map fun f => f.pool).sum

/-- The frame that an idle transmitter sends next: the oldest of the highest queue that holds one (R347). -/
def Egress.next (l : List EgFrame) : Option (EgFrame × List EgFrame) :=
  match (List.range 8).reverse.findSome? fun q => l.find? fun f => f.queue = q with
  | none => none
  | some f => some (f, l.erase f)

/-- The redundancy sequence number of the next frame of pair `q`, where the pair is redundant. -/
def Egress.red (s : State) (q : Nat) : Option Nat :=
  if Nsw.mode s q = 0 then none else some (Sparse.get s.nsw.pairSeq q 0)

/-- The sequence numbers of the redundant pairs among `ports` advance, modulo 65,536 (R349). -/
def Egress.advance (s : State) (ports : List Nat) : State :=
  s.each ((ports.map fun p => p / 2).eraseDups) fun t q =>
    if Nsw.mode t q = 0 then t
    else { t with nsw := { t.nsw with pairSeq := Sparse.put t.nsw.pairSeq q 0 ((Sparse.get t.nsw.pairSeq q 0 + 1) % 65536) } }

/-- Admission of a frame of `len` bytes to queue `q` of port `p` (R347, R348), where a redundancy trailer or tag adds 6 bytes: false when the
queue is full for it, which counts in TX_DROP. -/
def Egress.enqueue (s : State) (p q len : Nat) (red : Option Nat) (head : Option EgHead) (body : EgBody) : State × Bool :=
  let need := (len + (if red.isSome then 6 else 0) + 63) / 64
  let own := min need (Egress.freeOwn s p q)
  if need - own ≤ Egress.freePool s p then
    let x := Nsw.port s p
    let f : EgFrame := { queue := q, own := own, pool := need - own, red := red, head := head, body := body }
    (Nsw.setPort s p { x with queued := x.queued ++ [f] }, true)
  else (Nsw.count s (Reg.NSW_PCNT_TX_DROP p), false)

/-- A frame on port `p` begins to leave: a PTP event message (types 0 to 3) takes its stamp (R387, R390), which its slot's request has then;
a Pdelay_Resp is followed by the Pdelay_Resp_Follow_Up that carries it (R382), in queue NSW_SRC.PCP (R347). -/
def Egress.started (s : State) (p : Nat) (body : EgBody) : State :=
  match body with
  | .ptp slot typ seq dom _ =>
    if 3 < typ then s
    else
      let now := Tkp.nsOf s.tkp.node
      let s1 := Tkp.stampSent s seq typ p slot
      if typ = 3 then
        (Egress.enqueue (Egress.advance s1 [p]) p (s.fld Reg.NSW_SRC_PCP) (Tkp.len s slot 10) (Egress.red s1 (p / 2))
          (some (Tkp.head s slot 10)) (.ptp slot 10 seq dom (some now))).1
      else match (Tkp.slot s1 slot).req with
        | some r => if r.seq = seq then Tkp.setSlot s1 slot { Tkp.slot s1 slot with req := some { r with t3 := some now } } else s1
        | none => s1
  | _ => s

/-- An idle transmitter of an enabled port with LINK = 1 begins the next frame. -/
def Egress.kick (s : State) (p : Nat) : State :=
  let x := Nsw.port s p
  if x.now.isSome || !Nsw.live s p then s
  else match Egress.next x.queued with
    | none => s
    | some (f, rest) => Egress.started (Nsw.setPort s p { x with now := some f, queued := rest }) p f.body

/-- A frame is admitted, and an idle transmitter begins. -/
def Egress.accept (s : State) (p q len : Nat) (red : Option Nat) (head : Option EgHead) (body : EgBody) : State × Bool :=
  let a := Egress.enqueue s p q len red head body
  (if a.2 then Egress.kick a.1 p else a.1, a.2)

/-- A frame forwarded around a ring keeps its headers and its tag (R347, R350). -/
def Egress.admitRing (s : State) (p q : Nat) (f : NetFrame) : State × Bool :=
  let seq := f.red.map fun x => x.1
  Egress.accept s p q (f.len - if seq.isSome then 6 else 0) seq none (.hsr f)

/-- The ports of mask `mask` that exist, with both members of a redundant pair where either is selected (R349, R370). -/
def Egress.ports (s : State) (mask : Nat) : List Nat :=
  (List.range s.variant.ports).filter fun p =>
    mask.testBit p || (Nsw.mode s (p / 2) ≠ 0 && (mask.testBit (p / 2 * 2) || mask.testBit (p / 2 * 2 + 1)))

/-- A frame the device originates leaves on `ports`, with one sequence number on both ports of a redundant pair; answers how many ports
refused it. -/
def Egress.sendOn (s : State) (ports : List Nat) (q len : Nat) (head : EgHead) (body : EgBody) : State × Nat :=
  ports.foldl (fun (acc : State × Nat) p =>
    let a := Egress.accept acc.1 p q len (Egress.red s (p / 2)) (some head) body
    (a.1, acc.2 + if a.2 then 0 else 1)) (Egress.advance s ports, 0)

/-- A frame the device originates leaves on the ports of `mask`. -/
def Egress.send (s : State) (mask q len : Nat) (head : EgHead) (body : EgBody) : State × Nat :=
  Egress.sendOn s (Egress.ports s mask) q len head body

/-- A frame from the command processor port: queue NSW_SRC.PCP (R347), with the identity and VLAN setting of NSW_SRC (R353). -/
def Egress.sendCp (s : State) (mask len dmac : Nat) (ip : Option IpHead) (body : EgBody) : State :=
  (Egress.send s mask (s.fld Reg.NSW_SRC_PCP) (Nsw.cpLen s len) (Nsw.cpHead s dmac ip) body).1

/-- A PTP message leaves on the port of its slot only (R383): an event message in queue 7, another in queue NSW_SRC.PCP (R347). -/
def Egress.sendPtp (s : State) (d typ seq dom : Nat) (time : Option Nat) : State :=
  (Egress.sendOn s [s.fld (Reg.TKP_DOM_PORT d)] (if typ ≤ 3 then 7 else s.fld Reg.NSW_SRC_PCP) (Tkp.len s d typ) (Tkp.head s d typ)
    (.ptp d typ seq dom time)).1

/-- PATH_A or PATH_B takes the value of R352; each change fires E084 or E085. -/
def Nsw.path (s : State) (p : Nat) : State :=
  let q := p / 2
  let f := if p % 2 = 0 then Reg.NSW_RED_PATH_A q else Reg.NSW_RED_PATH_B q
  let b := s.flag (Reg.NSW_PORT_LINK p) && (Nsw.port s p).seen && Nsw.mode s q ≠ 0
  if s.flag f = b then s else (s.setFlag f b).fire (84 + q)

/-- LINK takes the value of R345; each change fires E080 + p. -/
def Nsw.link (s : State) (p : Nat) : State :=
  let x := Nsw.port s p
  let up := s.flag (Reg.NSW_PORT_EN p) && x.block && (!s.flag (Reg.NSW_PORT_FEC p) || x.fec) &&
    !s.flag (Reg.NSW_PORT_LOC_FAULT p) && !s.flag (Reg.NSW_PORT_REM_FAULT p)
  let s1 := s.setFlag (Reg.NSW_PORT_FEC_LOCK p) (x.fec && s.flag (Reg.NSW_PORT_FEC p))
  if s1.flag (Reg.NSW_PORT_LINK p) = up then s1
  else Egress.kick (Nsw.path ((s1.setFlag (Reg.NSW_PORT_LINK p) up).fire (80 + p)) p) p

/-- The switch or its port `p` is held in reset (R371). -/
def Nsw.inReset (s : State) (p : Nat) : Bool := s.pwr.por || s.pwr.porst || s.pwr.warm || Clk.held s (3 + p)

/-- LINK_CHANGE (R345); a port that is absent or held in reset, with its switch or alone, sees nothing (R371). -/
def execLinkChange (port : Nat) (block fec loc rem : Bool) (s : State) : Host.Outcome State Fault Refusal :=
  if s.variant.ports ≤ port ∨ Nsw.inReset s port then .next s
  else
    let s1 := Nsw.setPort s port { Nsw.port s port with block := block, fec := fec }
    .next (Nsw.link ((s1.setFlag (Reg.NSW_PORT_LOC_FAULT port) loc).setFlag (Reg.NSW_PORT_REM_FAULT port) rem) port)

/-- PATH_TIMEOUT (R352): no valid trailer or tag on the port for 2 × SUP_S seconds. -/
def execPathTimeout (port : Nat) (s : State) : Host.Outcome State Fault Refusal :=
  if s.variant.ports ≤ port then .next s
  else .next (Nsw.path (Nsw.setPort s port { Nsw.port s port with seen := false }) port)

/-- EGRESS_FRAME_SENT (R348) at node time `at_`: the frame in transmission has left, its cells return, and the next one begins (R347). The
transmitter of a disabled port is idle (R345): the frame stays until it can leave (log 63). -/
def execEgressFrameSent (at_ port : Nat) (s : State) : Host.Outcome State Fault Refusal :=
  if s.variant.ports ≤ port ∨ !s.flag (Reg.NSW_PORT_EN port) then .next s
  else match (Nsw.port s port).now with
    | none => .next s
    | some f =>
      let s0 := Tkp.advance s at_
      let s1 := Nsw.setPort s0 port { Nsw.port s0 port with now := none }
      let s2 := Nsw.count (s1.send (.frame port f.red f.head f.body)) (Reg.NSW_PCNT_TX_FRAMES port)
      .next (Egress.kick s2 port)

/-- SUPERVISION_FRAME_SEND (R352): a frame of minimum length on both ports of a redundant pair, to the group address of IEC 62439-3
(PRESUMED: log 64). -/
def execSupervisionFrameSend (pair : Nat) (s : State) : Host.Outcome State Fault Refusal :=
  if s.variant.ports ≤ 2 * pair ∨ Nsw.mode s pair = 0 then .next s
  else .next (Egress.sendCp s (3 * 4 ^ pair) 64 0x01154E000100 none .supervision)

/-- DUPLICATE_ENTRY_EXPIRY (R351). -/
def execDuplicateEntryExpiry (pair src seq : Nat) (s : State) : Host.Outcome State Fault Refusal :=
  if s.nsw.dup.contains (pair, src, seq) then
    let s1 := { s with nsw := { s.nsw with dup := s.nsw.dup.erase (pair, src, seq) } }
    .next (s1.setFld (Reg.NSW_RED_NODES pair) ((s1.nsw.dup.filter fun e => e.1 = pair).length))
  else .next s

/-- PTP_DELAY_REQ_SEND (R382, R383): the slot sends a Delay_Req (messageType 1) once it has chosen a master, or a Pdelay_Req
(messageType 2) in a peer-to-peer profile. -/
def execPtpDelayReqSend (at_ slot : Nat) (s : State) : Host.Outcome State Fault Refusal :=
  let s0 := Tkp.advance s at_
  let x := Tkp.slot s0 slot
  let p2p := Tkp.p2p s0 slot
  if decide (2 ≤ slot) || !s0.flag (Reg.TKP_DOM_EN slot) || !Nsw.live s0 (s0.fld (Reg.TKP_DOM_PORT slot)) ||
      (!p2p && decide (s0.fld (Reg.TKP_DOM_DSTATE slot) < 2)) then .next s0
  else
    let s1 := Tkp.setSlot s0 slot { x with req := some { seq := x.nextSeq }, nextSeq := (x.nextSeq + 1) % 65536 }
    .next (Egress.sendPtp s1 slot (if p2p then 2 else 1) x.nextSeq (s0.fld (Reg.TKP_DOM_DNUM slot)) none)

/-- PTP_PDELAY_REQ at slot `d` (R382): a peer-to-peer slot answers with Pdelay_Resp (3), which carries the receive stamp `t2`; its
Pdelay_Resp_Follow_Up (10) comes when it has begun to leave. -/
def Tkp.pdelayReq (t2 seq dom : Nat) (s : State) (d : Nat) : State :=
  if !Tkp.p2p s d then s else Egress.sendPtp s d 3 seq dom (some t2)

/-- PTP_PDELAY_REQ (R382): the receive stamp is that of the message, `reply` the node time at which the answer is queued. -/
def execPtpPdelayReq (p : PtpIn) (reply seq : Nat) (s : State) : Host.Outcome State Fault Refusal :=
  let s0 := Tkp.advance (Tkp.advance s p.at_) reply
  .next (s0.each (Tkp.slotsFor s0 p) (Tkp.pdelayReq (Tkp.nsOf p.at_) seq p.dom))

end Sys2Proof.Machine
end

