-- ==== Sys2Proof/Machine/Nsw.lean ====
section
/-! DEFINITION. The network switch and the audio streams (spec 11_network_switch.md): forwarding and redundancy, receive
matching and placement, receive stream states, transmit packets. Instants are node time in root cycles. -/

namespace Sys2Proof.Machine

/-- The instant of media-clock count `c`, in root cycles (R25); 0 while no bale is live. -/
def Frame.instant (s : State) (c : Nat) : Nat := if s.rate = 0 then 0 else c * (2457600000 / s.rate)

/-- Boundary k in root cycles. -/
def Frame.boundary (s : State) (k : Nat) : Nat := Frame.instant s (k * s.frameN)

/-- Channels served in each direction (R357). -/
def Nsw.served (s : State) : Nat := if s.fld Reg.TOP_FRAME_CFG_FS = 3 then 512 else 1024

/-- Bytes per sample of a FMT code (Table 11-2). -/
def Nsw.bytes (fmt : Nat) : Nat := min 5 fmt % 3 + 2

/-- The number of channels of a stream from its fields NCH and FIRST (R356). -/
def Nsw.nch (n first : Nat) : Nat := min (max n 1) (min 64 (1024 - first))

/-- Receive stream `i` is enabled. -/
def Nsw.siOn (s : State) (i : Nat) : Bool := s.flag (Reg.NSW_SI_EN i)

/-- The FMT code of receive stream `i` is an AAF format. -/
def Nsw.siAaf (s : State) (i : Nat) : Bool := decide (3 ≤ s.fld (Reg.NSW_SI_FMT i))

/-- Channels of receive stream `i`. -/
def Nsw.siN (s : State) (i : Nat) : Nat := Nsw.nch (s.fld (Reg.NSW_SI_NCH i)) (s.fld (Reg.NSW_SI_FIRST i))

/-- The enabled receive stream of lowest index that covers receive channel `r` (R356). -/
def Nsw.owner (s : State) (r : Nat) : Option Nat :=
  (List.range 128).find? fun i =>
    Nsw.siOn s i && decide (s.fld (Reg.NSW_SI_FIRST i) ≤ r) && decide (r < s.fld (Reg.NSW_SI_FIRST i) + Nsw.siN s i)

/-- The channels of stream `i`, as offsets from FIRST, that the stream supplies. -/
def Nsw.own (s : State) (i : Nat) : List Nat :=
  (List.range (Nsw.siN s i)).filter fun n => Nsw.owner s (s.fld (Reg.NSW_SI_FIRST i) + n) == some i

/-- A stream of 192 kHz reaches past the served channels (R357). -/
def Nsw.beyond (s : State) (n first : Nat) : Bool := decide (Nsw.served s < first + n)

/-- The packet matches receive stream `i` (R353, R359). `tag` is the VID of its tag. -/
def Nsw.isMatch (s : State) (p : AudioPkt) (tag : Option Nat) (i : Nat) : Bool :=
  let vid := s.fld (Reg.NSW_SI_VID i)
  let vlan := if s.flag (Reg.NSW_SI_TAGGED i) then tag == some vid else (tag.getD 0 == 0)
  Nsw.siOn s i && p.ok && vlan && p.aaf == Nsw.siAaf s i &&
  if p.aaf then p.dst == s.fld (Reg.NSW_SI_ADDR0 i) + 2 ^ 32 * s.fld (Reg.NSW_SI_ADDR1 i)
  else
    p.dst == s.fld (Reg.NSW_SI_ADDR0 i) && p.port == s.fld (Reg.NSW_SI_UDP_PORT i) && p.version == 2 &&
    p.pt == s.fld (Reg.NSW_SI_PT i) && (s.fld (Reg.NSW_SI_SRC_IP i) == 0 || s.fld (Reg.NSW_SI_SRC_IP i) == p.src) &&
    (s.fld Reg.NSW_SRC_IPV4 ≠ 0 || p.dst / 2 ^ 28 == 14)

/-- The receive stream that takes the packet: the lowest index that matches (R359). -/
def Nsw.findStream (s : State) (p : AudioPkt) (tag : Option Nat) : Option Nat :=
  (List.range 128).find? (Nsw.isMatch s p tag)

/-- What the redundancy check of a frame found: whether the frame goes on, and whether no copy of it came before. -/
structure RedCheck where
  state : State
  goes  : Bool
  first : Bool

/-- The redundancy trailer or tag of a frame against the duplicate table (R349 to R351). PTP messages are exempt from the discard (R383). -/
def Nsw.redCheck (s : State) (port : Nat) (f : NetFrame) : RedCheck :=
  let q := port / 2
  match f.red with
  | none => ⟨s, true, true⟩
  | some (seq, lanB) =>
    let s1 := Nsw.path (Nsw.setPort s port { Nsw.port s port with seen := true }) port
    let s2 := s1.when (Nsw.mode s q == 1 && lanB != (port % 2 == 1)) fun t =>
      Nsw.count t (Reg.NSW_PCNT_RED_WRONG_LAN (2 * q))
    if s2.nsw.dup.contains (q, f.src, seq) then
      (if f.body = .ptp then ⟨s2, true, false⟩ else ⟨Nsw.count s2 (Reg.NSW_PCNT_RED_DUP (2 * q)), false, false⟩)
    else if 512 ≤ s2.fld (Reg.NSW_RED_NODES q) then ⟨Nsw.count s2 (Reg.NSW_PCNT_RED_OVF (2 * q)), true, true⟩
    else
      let s3 := { s2 with nsw := { s2.nsw with dup := s2.nsw.dup ++ [(q, f.src, seq)] } }
      ⟨s3.setFld (Reg.NSW_RED_NODES q) (s3.fld (Reg.NSW_RED_NODES q) + 1), true, true⟩

/-- The frame goes around the ring (R350), unless a copy of it has. -/
def Nsw.ringForward (s : State) (port : Nat) (f : NetFrame) : Bool :=
  Nsw.mode s (port / 2) == 2 && f.src != Nsw.mac s && f.dst != Nsw.mac s

/-- The engine port or the command processor port takes the frame (R346). -/
def Nsw.deliver (s : State) (at_ : Nat) (f : NetFrame) : Option State :=
  let tag := if f.tags = 1 then some f.vid else none
  match f.body with
  | .audio p =>
    if (Nsw.findStream s p tag).isSome then some { s with nsw := { s.nsw with engine := s.nsw.engine ++ [(p, tag, at_)] } } else none
  | .ptp => some s
  | .igmp => some s
  | .supervision => some s
  | .arp t => if s.fld Reg.NSW_SRC_IPV4 ≠ 0 ∧ t = s.fld Reg.NSW_SRC_IPV4 then some s else none
  | .other => none

/-- NETWORK_FRAME_RECEIVED (R346): filter, duplicate check, forward around a ring, deliver to the engine port or the command
processor port, or drop. What the command processor port receives acts by the row of its own kind. -/
def Nsw.receive (s : State) (port at_ : Nat) (f : NetFrame) : State :=
  let mode := Nsw.mode s (port / 2)
  if !f.fcsOk || decide ((if mode = 0 then 1522 else 1528) < f.len) then Nsw.count s (Reg.NSW_PCNT_RX_ERR port)
  else
    let s1 := Nsw.count s (Reg.NSW_PCNT_RX_FRAMES port)
    if 1 < f.tags then Nsw.count s1 (Reg.NSW_PCNT_RX_FILT port)
    else
      let r := if mode = 0 then (⟨s1, true, true⟩ : RedCheck) else Nsw.redCheck s1 port f
      if !r.goes then r.state
      else
        let fwd := Nsw.ringForward r.state port f && r.first
        let q := if f.tags = 1 then f.pcp else s.fld (Reg.NSW_PORT_DEF_PCP port)
        let other := port / 2 * 2 + (1 - port % 2)
        let s2 := r.state.when fwd fun t => (Egress.admitRing t other q f).1
        match Nsw.deliver s2 at_ f with
        | some t => t
        | none => s2.when (!fwd) fun t => Nsw.count t (Reg.NSW_PCNT_RX_FILT port)

/-- The frame arrives whole through crossing 3 + port, or damaged where the crossing was full and `lost` a word of it (R58). -/
def Nsw.crossing (s : State) (port : Nat) (lost : Bool) (f : NetFrame) : State × NetFrame :=
  if lost then (Clk.overrun s (3 + port), { f with fcsOk := false }) else (s, f)

/-- NETWORK_FRAME_RECEIVED (R346); a port that is absent, disabled or without link ignores it (R371). -/
def execNetworkFrameReceived (port at_ : Nat) (lost : Bool) (f : NetFrame) (s : State) : Host.Outcome State Fault Refusal :=
  if !Nsw.live s port then .next s
  else
    let x := Nsw.crossing s port lost f
    .next (Nsw.receive x.1 port at_ x.2)

/-- The P24 value of a big-endian payload word (Table 11-2). -/
def Nsw.sample (fmt : Nat) (bs : List Byte) : Int :=
  let n := bs.length
  let v : Nat := bs.foldl (fun acc b => 256 * acc + b.toNat) 0
  let x : Int := if 2 * v < 256 ^ n then v else (v : Int) - 256 ^ n
  match min 5 fmt % 3 with
  | 0 => x * 256
  | 1 => x
  | _ => Arith.sat 24 (Arith.conv x 8)

/-- D, the positions of the receive buffer (R361). -/
def Nsw.depth (s : State) : Nat := 2 ^ (6 + min 4 (s.fld Reg.NSW_RXBUF_DLOG))

/-- MEMWIN address of placement count `c` of receive channel `r` (R361). -/
def Nsw.place (s : State) (c r : Nat) : Nat :=
  s.fld Reg.NSW_RXBUF_BASE * 0x40000 + 4 * (1024 * (c % Nsw.depth s) + r)

/-- Key of a written mark. -/
def Nsw.markKey (s : State) (c r : Nat) : Nat := 1024 * (c % Nsw.depth s) + r

/-- Ps of group `g`, in samples (R363). -/
def Nsw.ps (s : State) (g : Nat) : Nat := (s.fld (Reg.NSW_GROUP_PRES_US g) * s.rate + 999999) / 1000000

/-- The number congruent to `x` mod 2^32 that lies nearest `ref`, the lower on a tie. -/
def Nsw.nearest (x : Nat) (ref : Int) : Int :=
  let d := ((x : Int) - ref) % 2 ^ 32
  if d < 2 ^ 31 then ref + d else ref + d - 2 ^ 32

/-- The placement count of the packet's first sample (R363), received at instant `l`. -/
def Nsw.firstCount (s : State) (i : Nat) (p : AudioPkt) (l : Nat) : Int :=
  let g := s.fld (Reg.NSW_SI_GROUP i)
  if p.aaf then
    let t := Nsw.nearest p.stamp (l * 625 / 1536 : Nat) + 1000 * s.fld (Reg.NSW_GROUP_PRES_US g)
    Int.neg ((Int.neg (t * s.rate)).fdiv 1000000000)
  else
    let now : Int := (l * s.rate / 2457600000 : Nat)
    Nsw.nearest ((p.stamp + 2 ^ 32 - s.fld (Reg.NSW_SI_ADDR1 i)) % 2 ^ 32) now + Nsw.ps s g

/-- The packet is malformed for stream `i` (R360). -/
def Nsw.malformed (s : State) (i : Nat) (p : AudioPkt) : Bool :=
  p.payload.length % (Nsw.siN s i * Nsw.bytes (s.fld (Reg.NSW_SI_FMT i))) ≠ 0 ||
  (p.aaf && (p.format ≠ min 5 (s.fld (Reg.NSW_SI_FMT i)) || p.nsr ≠ s.rate || p.channels ≠ Nsw.siN s i || !p.tv))

/-- A sample of count `c` that arrived at `l` is late: its capture window closes less than 0.5 µs after `l` (R364). -/
def Nsw.isLate (s : State) (c : Int) (l : Nat) : Bool :=
  decide (c < 0) ||
  decide (10 * ((Frame.boundary s (c.toNat / s.frameN + 1) : Int) - 6144 - l) < 12288)

/-- A sample of count `c` that arrived at `l` is early (R364). -/
def Nsw.isEarly (s : State) (c : Int) (l : Nat) : Bool :=
  let open_ := (l + 6144) / (Frame.boundary s 1)
  decide ((s.frameN * open_ + Nsw.depth s - s.frameN : Int) ≤ c)

/-- Record of receive stream `i`. -/
def Nsw.rec (s : State) (i : Nat) : SiRec := Sparse.get s.nsw.si i {}

/-- `s` with the record of receive stream `i` replaced. -/
def Nsw.setRec (s : State) (i : Nat) (x : SiRec) : State :=
  { s with nsw := { s.nsw with si := Sparse.put s.nsw.si i {} x } }

/-- Sample `n` of the payload is written to its position for every channel the stream supplies, and marked (R364). -/
def Nsw.writeSample (s : State) (i : Nat) (p : AudioPkt) (c : Nat) (n : Nat) : State :=
  let fmt := s.fld (Reg.NSW_SI_FMT i)
  let nb := Nsw.bytes fmt
  s.each ((Nsw.own s i).filter fun ch => s.fld (Reg.NSW_SI_FIRST i) + ch < Nsw.served s) fun t ch =>
    let r := s.fld (Reg.NSW_SI_FIRST i) + ch
    let v := Nsw.sample fmt ((p.payload.drop ((n * Nsw.siN s i + ch) * nb)).take nb)
    let bytes := (Arith.bytes 4 (Arith.word v).toNat).zipIdx.map fun b => (Nsw.place s c r + b.2, b.1)
    let t1 := Mem.write t 2 bytes
    { t1 with nsw := { t1.nsw with marks := Sparse.put t1.nsw.marks (Nsw.markKey s c r) 0 1 } }

/-- Samples are placed: the engine runs, streams are enabled, no CLASH, a bale is live (R362, R371). -/
def Nsw.placing (s : State) : Bool :=
  s.running && s.flag Reg.NSW_CTL_STRM_EN && !s.flag Reg.NSW_RXBUF_CLASH && s.rate ≠ 0

/-- An accepted packet of stream `i`: late and early samples are discarded and counted once each, the others written (R364). -/
def Nsw.placePacket (s : State) (i : Nat) (p : AudioPkt) (l : Nat) : State :=
  let c0 := Nsw.firstCount s i p l
  let ns := List.range (p.payload.length / (Nsw.siN s i * Nsw.bytes (s.fld (Reg.NSW_SI_FMT i))))
  let late (n : Nat) := Nsw.isLate s (c0 + n) l
  let early (n : Nat) := Nsw.isEarly s (c0 + n) l
  let s1 := s.each ns fun t n => if late n || early n then t else Nsw.writeSample t i p (c0 + n).toNat n
  let s2 := s1.when (ns.any late) fun t =>
    (Nsw.count t (Reg.NSW_SI_STAT_LATE_PKT i)).when (t.fld (Reg.NSW_SI_STAT_LATE_PKT i) == 0) fun u => u.fire 87
  s2.when (ns.any fun n => !late n && early n) fun t => Nsw.count t (Reg.NSW_SI_STAT_EARLY_PKT i)

/-- STREAM_PACKET_RECEIVED (R359 to R364): the oldest packet at the engine port. -/
def execStreamPacketReceived (s : State) : Host.Outcome State Fault Refusal :=
  match s.nsw.engine with
  | [] => .next s
  | (p, tag, l) :: rest =>
    let s0 := { s with nsw := { s.nsw with engine := rest } }
    match Nsw.findStream s0 p tag with
    | none => .next s0
    | some i =>
      if Nsw.malformed s0 i p then .next (Nsw.count s0 (Reg.NSW_SI_STAT_BAD_PKT i))
      else
        let s1 := Nsw.count s0 (Reg.NSW_SI_STAT_RX_PKT i)
        let gap := match (Nsw.rec s1 i).seq with
          | none => false
          | some q => (q + 1) % (if p.aaf then 256 else 65536) != p.seq
        let s2 := s1.when gap fun t => Nsw.count t (Reg.NSW_SI_STAT_SEQ_GAP i)
        let s3 := Nsw.setRec s2 i { Nsw.rec s2 i with seq := some p.seq }
        .next (if Nsw.placing s3 then Nsw.placePacket s3 i p l else s3)

/-- NSW_GROUP_STAT takes its value (R367); each change of a bit fires E088. SILENT needs an enabled stream. -/
def Nsw.groups (s : State) : State :=
  let inGroup (g : Nat) := (List.range 128).filter fun i => Nsw.siOn s i && s.fld (Reg.NSW_SI_GROUP i) == g
  let st (i : Nat) := s.fld (Reg.NSW_SI_STAT_STATE i)
  let deg := (List.range 16).foldl (fun a g => if (inGroup g).any (fun i => st i == 1 || st i == 4) then a + 2 ^ g else a) 0
  let sil := (List.range 16).foldl (fun a g =>
    if inGroup g ≠ [] ∧ (inGroup g).all (fun i => st i == 0 || st i == 1 || st i == 5) then a + 2 ^ g else a) 0
  if s.fld Reg.NSW_GROUP_STAT_DEGRADED = deg ∧ s.fld Reg.NSW_GROUP_STAT_SILENT = sil then s
  else ((s.setFld Reg.NSW_GROUP_STAT_DEGRADED deg).setFld Reg.NSW_GROUP_STAT_SILENT sil).fire 88

/-- Stream `i` enters FADE_OUT from the values last supplied (R365, R366). -/
def Nsw.enterFadeOut (s : State) (i : Nat) : State :=
  let x := Nsw.rec s i
  let s1 := Nsw.setRec s i { x with m := 0, h := x.last }
  (Nsw.count (s1.setFld (Reg.NSW_SI_STAT_STATE i) 4) (Reg.NSW_SI_STAT_UNDERRUN i)).fire 86

/-- The stream's value of receive channel `r` at count `c`, as the intake pass reads it from the receive buffer. -/
def Nsw.readSample (s : State) (c r : Nat) : Int := Arith.int (BitVec.ofNat 32 (Mem.elem s (Nsw.place s c r) 4))

/-- The values of the channels `own`, in their order. -/
def Nsw.pick (m : Sparse Int) (own : List Nat) : List Int := own.map fun n => Sparse.get m n 0

/-- The values `l` of the channels `own`, by channel. -/
def Nsw.keyed (own : List Nat) (l : List Int) : Sparse Int :=
  own.zipIdx.foldl (fun m n => Sparse.put m n.1 0 (l.getD n.2 0)) []

/-- The state of receive stream `i` as Table 11-3 has it, over its channels `own`: h is kept per channel (R365). -/
def Nsw.rx (s : State) (i : Nat) (own : List Nat) : RxSt :=
  let x := Nsw.rec s i
  { st := s.fld (Reg.NSW_SI_STAT_STATE i), m := x.m, h := Nsw.pick x.h own, last := Nsw.pick x.last own }

/-- `s` with the state of receive stream `i` replaced. -/
def Nsw.setRx (s : State) (i : Nat) (own : List Nat) (x : RxSt) : State :=
  (Nsw.setRec s i { Nsw.rec s i with m := x.m, h := Nsw.keyed own x.h, last := Nsw.keyed own x.last }).setFld
    (Reg.NSW_SI_STAT_STATE i) x.st

/-- The intake pass of frame `k` over stream `i` (R364, R365). -/
def Nsw.streamPass (k : Nat) (s : State) (i : Nat) : State :=
  let first := s.fld (Reg.NSW_SI_FIRST i)
  let own := Nsw.own s i
  let cnt (j : Nat) := k * s.frameN + j
  let here (j : Nat) := !s.flag Reg.NSW_RXBUF_CLASH &&
    own.all fun n => Sparse.get s.nsw.marks (Nsw.markKey s (cnt j) (first + n)) 0 == 1
  let rows := (List.range s.frameN).map fun j => (here j, own.map fun n => Nsw.readSample s (cnt j) (first + n))
  let r := Rx.frame (Nsw.rx s i own) rows
  let s0 := s.each ((List.range s.frameN).filter here) fun u j => u.each own fun v n => Mem.noteRange v 2 (Nsw.place s (cnt j) (first + n)) 4
  let t := (Nsw.setRx s0 i own r.1).each (List.range r.2.2.1) fun u _ =>
    (Nsw.count u (Reg.NSW_SI_STAT_UNDERRUN i)).fire 86
  own.zipIdx.foldl (fun u n =>
    { u with nsw := { u.nsw with
        supplied := Sparse.put u.nsw.supplied (first + n.1) [] (r.2.1.map fun row => row.getD n.2 0)
        late := if r.2.2.2 then u.nsw.late ++ [first + n.1] else u.nsw.late } }) t

/-- The intake pass of frame `k` over every enabled receive stream; the marks of the frame's positions are then cleared
(R364). A receive channel that no enabled stream covers supplies zero (R356). -/
def Nsw.intake (s : State) (k : Nat) : State :=
  let s0 := { s with nsw := { s.nsw with supplied := [], late := [] } }
  let s1 := s0.each ((List.range 128).filter (Nsw.siOn s)) (Nsw.streamPass k)
  let gone (c : Nat) := (List.range s.frameN).any fun j => (k * s.frameN + j) % Nsw.depth s == c
  let marks := s1.nsw.marks.filter fun e => !gone (e.1 / 1024)
  Nsw.groups { s1 with nsw := { s1.nsw with marks := marks } }

/-- The words 1 to 7 of NSW_SO[i]. -/
def Nsw.soWords (s : State) (i : Nat) : List Word := (List.range 7).map fun w => s.reg (0x062004 + 0x20 * i + 4 * w)

/-- SPP of transmit stream `i`, clamped so that the payload fits 1,440 bytes (R369). -/
def Nsw.spp (s : State) (i nch : Nat) : Nat :=
  max 1 (min (s.fld (Reg.NSW_SO_SPP i)) (1440 / (nch * Nsw.bytes (s.fld (Reg.NSW_SO_FMT i)))))

/-- Transmit stream `i` is held (R357, R369). -/
def Nsw.soHeld (s : State) (i : Nat) : Bool :=
  Nsw.beyond s (Nsw.nch (s.fld (Reg.NSW_SO_NCH i)) (s.fld (Reg.NSW_SO_FIRST i))) (s.fld (Reg.NSW_SO_FIRST i)) ||
  (decide (s.fld (Reg.NSW_SO_FMT i) < 3) && s.fld Reg.NSW_SRC_IPV4 == 0)

/-- The state code of transmit stream `i` (Table 11-17). -/
def Nsw.soState (s : State) (i : Nat) : Nat :=
  if !s.flag (Reg.NSW_SO_EN i) then 0 else if Nsw.soHeld s i then 5 else if 1 < s.role then 1 else 2

/-- Sample `x`, number `j` of the frame, under the MUTE level (R469, R470): ramped to zero over N samples while the level is
asserted, faded in over 16 after it. -/
def Nsw.txMuted (s : State) (j : Nat) (x : Int) : Int :=
  if s.flag Reg.FC_STAT_MUTE then
    let m := s.nsw.mute + j
    if m < s.frameN then Fade.mix x 0 (Fade.weight false s.frameN m) else 0
  else if s.nsw.mute = 0 then x
  else if s.nsw.fade + j < 16 then Fade.mix 0 x (Fade.weight false 16 (s.nsw.fade + j)) else x

/-- The MUTE level's ramps after a frame. -/
def Nsw.txMuteNext (s : State) : State :=
  let n := s.nsw
  if s.flag Reg.FC_STAT_MUTE then { s with nsw := { n with mute := min 16 (n.mute + s.frameN), fade := 0 } }
  else if n.mute = 0 then s
  else if n.fade + s.frameN < 16 then { s with nsw := { n with fade := n.fade + s.frameN } }
  else { s with nsw := { n with mute := 0, fade := 0 } }

/-- The value of transmit channel `n` at sample `j` of the data frame that plays out: `outlet oc j` is the outlet store (R356,
Table 11-15). -/
def Nsw.txValue (s : State) (outlet : Nat → Nat → Int) (n j : Nat) : Int :=
  let oc := s.fld (Reg.NSW_TXMAP_OC n)
  Nsw.txMuted s j (if oc = 0x7FF then 0 else outlet (min oc 0x5FF) j)

/-- The packet lacks samples. -/
def TxPkt.short (p : TxPkt) : Bool := decide (p.rows.length < p.spp)

/-- The next sample of transmit stream `i` at count `c`, sample `j` of its frame: a packet that begins here is made with the
fields live now (R368, R369), and every packet of the stream in the making takes the sample's values. -/
def Nsw.txSample (outlet : Nat → Nat → Int) (i c j : Nat) (s : State) : State :=
  let first := s.fld (Reg.NSW_SO_FIRST i)
  let nch := Nsw.nch (s.fld (Reg.NSW_SO_NCH i)) first
  let spp := Nsw.spp s i nch
  let new : List TxPkt :=
    if c % spp = 0 ∧ s.fld (Reg.NSW_SO_STAT_STATE i) = 2 then
      [{ stream := i, count := c, fmt := min 5 (s.fld (Reg.NSW_SO_FMT i)), spp := spp, nch := nch, first := first
         ports := s.fld (Reg.NSW_SO_PORTS i), words := Nsw.soWords s i, rows := [] }]
    else []
  let grow (p : TxPkt) : TxPkt :=
    if p.stream = i ∧ p.short ∧ p.count + p.rows.length = c then
      { p with rows := p.rows ++ [(List.range p.nch).map fun n => Nsw.txValue s outlet (p.first + n) j] }
    else p
  { s with nsw := { s.nsw with tx := (s.nsw.tx ++ new).map grow } }

/-- Boundary `k`: the transmit streams take their states, and the samples that play out in the frame go into packets. -/
def Nsw.txBoundary (s : State) (k : Nat) (outlet : Nat → Nat → Int) : State :=
  let s1 := s.each (List.range 128) fun t i => t.setFld (Reg.NSW_SO_STAT_STATE i) (Nsw.soState t i)
  let live (i : Nat) := s1.fld (Reg.NSW_SO_STAT_STATE i) == 2 || s1.nsw.tx.any fun p => p.stream == i
  Nsw.txMuteNext (s1.each ((List.range 128).filter live) fun t i =>
    t.each (List.range s.frameN) fun u j => Nsw.txSample outlet i (k * s.frameN + j) j u)

/-- Payload bytes of one sample, big-endian (Table 11-2). -/
def Nsw.wireSample (fmt : Nat) (x : Int) : List Byte :=
  let v := match fmt % 3 with
    | 0 => Arith.sat 16 (Arith.conv x 8)
    | 1 => x
    | _ => x * 256
  (Arith.bytes (Nsw.bytes fmt) (v % 2 ^ 32).toNat).reverse

/-- Sequence number of a transmit packet (R368): floor(c / SPP) mod 65,536 of RTP, mod 256 of AAF. -/
def TxPkt.seq (p : TxPkt) : Nat := p.count / p.spp % (if 3 ≤ p.fmt then 256 else 65536)

/-- Word `n` of NSW_SO as the packet's first frame had it. -/
def TxPkt.word (p : TxPkt) (n : Nat) : Nat := (p.words.getD (n - 1) 0).toNat

/-- The headers of a transmit packet (R353, R368): the VLAN setting of its stream; an AES67 packet goes to its group with UDP_PORT as both
ports, DSCP 34, the TTL of NSW_SRC and a UDP checksum of 0. -/
def TxPkt.head (s : State) (p : TxPkt) : EgHead :=
  let tag := if p.word 1 / 4096 % 2 = 1 then some (p.word 1 / 8192 % 8, p.word 1 % 4096) else none
  if 3 ≤ p.fmt then { smac := Nsw.mac s, dmac := p.word 6 + 2 ^ 32 * (p.word 7 % 65536), tag := tag, ip := none }
  else
    let port := p.word 1 / 65536
    { smac := Nsw.mac s, dmac := Nsw.groupMac (p.word 2), tag := tag
      ip := some { src := s.fld Reg.NSW_SRC_IPV4, dst := p.word 2, ttl := s.fld Reg.NSW_SRC_TTL, dscp := 34
                   ports := some (port, port), sum := some 0 } }

/-- The contents of a complete transmit packet (R368), and its length to the FCS. -/
def TxPkt.frame (s : State) (p : TxPkt) : EgBody × Nat :=
  let payload := p.rows.flatMap fun r => r.flatMap (Nsw.wireSample p.fmt)
  let tag := if p.word 1 / 4096 % 2 = 1 then 4 else 0
  let ns := (Frame.instant s p.count * 625 + 3500 * 1536) / 1536 + 1000 * (p.word 4 / 65536)
  if 3 ≤ p.fmt then
    (.aaf p.stream (p.word 2 + 2 ^ 32 * p.word 3) p.seq (ns % 2 ^ 32) true p.fmt s.rate p.nch payload, max 64 (42 + tag + payload.length))
  else
    (.rtp p.stream false (p.word 4 % 128) p.seq ((p.count + p.word 3) % 2 ^ 32) (p.word 5) payload, max 64 (58 + tag + payload.length))

/-- A complete packet enters queue 7 of its ports (R370). Nothing is sent while RUN = 0 or STRM_EN = 0 (R371). -/
def Nsw.launch (s : State) (p : TxPkt) : State :=
  let s1 := { s with nsw := { s.nsw with tx := s.nsw.tx.erase p } }
  if !s.running || !s.flag Reg.NSW_CTL_STRM_EN then s1
  else
    let f := TxPkt.frame s p
    let r := Egress.send s1 p.ports 7 f.2 (TxPkt.head s p) f.1
    let s2 := (Nsw.count r.1 (Reg.NSW_SO_STAT_TX_PKT p.stream)).setFld (Reg.NSW_SO_STAT_SEQ p.stream) p.seq
    s2.each (List.range r.2) fun t _ => Nsw.count t (Reg.NSW_SO_STAT_QDROP p.stream)

/-- Packet `a` is launched no later than packet `b` (R370): by the count of its last sample, then in ascending stream index. -/
def TxPkt.before (a b : TxPkt) : Bool :=
  decide (a.count + a.spp < b.count + b.spp) || (a.count + a.spp == b.count + b.spp && decide (a.stream ≤ b.stream))

/-- A packet takes its place in the order of launch. -/
def TxPkt.insert (p : TxPkt) : List TxPkt → List TxPkt
  | [] => [p]
  | q :: l => if TxPkt.before q p then q :: TxPkt.insert p l else p :: q :: l

/-- STREAM_PACKET_LAUNCH (R370): the oldest complete packet of the stream enters queue 7 of its ports, after every complete packet whose
launch comes before it. -/
def execStreamPacketLaunch (stream : Nat) (s : State) : Host.Outcome State Fault Refusal :=
  match s.nsw.tx.find? fun p => p.stream = stream ∧ !p.short with
  | none => .next s
  | some p =>
    .next (s.each ((s.nsw.tx.filter fun q => !q.short && TxPkt.before q p).foldl (fun l q => TxPkt.insert q l) []) Nsw.launch)

/-- The groups of the enabled AES67 receive streams (R354). -/
def Nsw.groupsJoined (s : State) : List Nat :=
  (((List.range 128).filter fun i => Nsw.siOn s i && !Nsw.siAaf s i).map fun i => s.fld (Reg.NSW_SI_ADDR0 i)).filter
    (fun g => g / 2 ^ 28 = 14) |>.eraseDups

/-- An IGMPv3 report of group `g` leaves on the ports of `mask` (R354), to the group of RFC 3376 (PRESUMED: log 64). -/
def Nsw.report (mask : Nat) (s : State) (g : Nat) : State :=
  Egress.sendCp s mask 64 (Nsw.groupMac 0xE0000016) (some (Nsw.cpIp s 0xE0000016 none)) (.igmpReport g)

/-- IGMP_QUERY (R354): answered on its port for the groups asked for. -/
def execIgmpQuery (port : Nat) (group : Option Nat) (s : State) : Host.Outcome State Fault Refusal :=
  if !Nsw.live s port ∨ s.fld Reg.NSW_SRC_IPV4 = 0 then .next s
  else .next (s.each ((Nsw.groupsJoined s).filter fun g => group.getD g = g) (Nsw.report (2 ^ port)))

/-- ARP_REQUEST (R354). -/
def execArpRequest (port target sender : Nat) (s : State) : Host.Outcome State Fault Refusal :=
  if !Nsw.live s port ∨ s.fld Reg.NSW_SRC_IPV4 = 0 ∨ target ≠ s.fld Reg.NSW_SRC_IPV4 then .next s
  else .next (Egress.sendCp s (2 ^ port) 64 sender none (.arpReply sender))

/-- Stream `i` enters MUTED, or HELD where R357 holds it. -/
def Nsw.mute (s : State) (i : Nat) : State :=
  let held := Nsw.beyond s (Nsw.siN s i) (s.fld (Reg.NSW_SI_FIRST i))
  (Nsw.setRec s i { Nsw.rec s i with m := 0, h := [], last := [] }).setFld (Reg.NSW_SI_STAT_STATE i) (if held then 5 else 1)

/-- The fields of NSW_SI[i] whose change clears marks (R364). -/
def Nsw.siKey (s : State) (i : Nat) : List Nat :=
  let w0 := (s.reg (0x061000 + 0x20 * i)).toNat
  w0 % 2 ^ 31 :: (List.range 4).map fun w => (s.reg (0x061004 + 0x20 * i + 4 * w)).toNat

/-- The written marks of the channels of stream `i` are cleared at all D positions (R364). -/
def Nsw.clearMarks (s : State) (i : Nat) : State :=
  let first := s.fld (Reg.NSW_SI_FIRST i)
  let mine (e : Nat × Nat) := decide (first ≤ e.1 % 1024) && decide (e.1 % 1024 < first + Nsw.siN s i)
  { s with nsw := { s.nsw with marks := s.nsw.marks.filter fun e => !mine e } }

/-- Receive stream `i` at a boundary whose commit or swap changed the registers from those of `old` (R364, R365, R367): a change of its own
fields clears its marks and mutes it, R357 holds it, a new PRES_US of its group fades it out. -/
def Nsw.siCommit (old : State) (s : State) (i : Nat) : State :=
  if !Nsw.siOn s i then
    if s.fld (Reg.NSW_SI_STAT_STATE i) = 0 then s else (Nsw.setRec s i {}).setFld (Reg.NSW_SI_STAT_STATE i) 0
  else
    let key := Nsw.siKey old i != Nsw.siKey s i
    if !Nsw.siOn old i || key then
      let s1 := Nsw.mute (s.when key fun t => Nsw.clearMarks t i) i
      if !Nsw.siOn old i && !Nsw.siAaf s i && s.fld Reg.NSW_SRC_IPV4 ≠ 0 && s.fld (Reg.NSW_SI_ADDR0 i) / 2 ^ 28 == 14 then
        Nsw.report (s.fld Reg.NSW_SRC_ANN_PORTS) s1 (s.fld (Reg.NSW_SI_ADDR0 i))
      else s1
    else if Nsw.beyond s (Nsw.siN s i) (s.fld (Reg.NSW_SI_FIRST i)) then
      (if s.fld (Reg.NSW_SI_STAT_STATE i) = 5 then s else Nsw.mute s i)
    else if s.fld (Reg.NSW_SI_STAT_STATE i) = 5 then Nsw.mute s i
    else
      let g := s.fld (Reg.NSW_SI_GROUP i)
      if old.fld (Reg.NSW_GROUP_PRES_US g) ≠ s.fld (Reg.NSW_GROUP_PRES_US g) then Nsw.enterFadeOut s i else s

/-- The receive streams at a boundary at which parameters changed. -/
def Nsw.commit (old s : State) : State := Nsw.groups (s.each (List.range 128) (Nsw.siCommit old))

/-- STRM_EN returned to 1: every enabled receive stream enters MUTED (R371). -/
def Nsw.restart (s : State) : State := Nsw.groups (s.each ((List.range 128).filter (Nsw.siOn s)) Nsw.mute)

end Sys2Proof.Machine
end

