-- ==== Sys2Proof/Machine/RegAdj.lean ====
section
/-! DEFINITION. Adjustment of written values and the shadow bank (spec 08_signal_graph.md: R247 to R249; 10_host_commands.md: R335, R336; the
Meaning columns of the field tables), and which S fields are stopped (R19). -/

namespace Sys2Proof.Machine

/-- A word being written, the number of adjustments made to it so far, and the bits that the write reaches. -/
structure Adj where
  w    : Word
  n    : Nat
  mask : Nat
  deriving DecidableEq, Repr

/-- The field takes `v`; another value than the one written counts as an adjustment. A field that the write does not reach stays as it is
(R19). -/
def Adj.put (f : Fld) (v : Nat) (a : Adj) : Adj :=
  if f.of a.1 = v ∨ a.mask / 2 ^ f.lo % 2 ^ f.wid = 0 then a else { a with w := f.ins a.1 v, n := a.2 + 1 }

/-- The field is clamped to `lo` … `hi`. -/
def Adj.clamp (f : Fld) (lo hi : Nat) (a : Adj) : Adj := Adj.put f (max lo (min (f.of a.1) hi)) a

/-- An outlet or intake channel code: 0x600–0x6FF act as 0x5FF and 0x700–0x7FE as 0x7FF. -/
def Adj.chan (f : Fld) (a : Adj) : Adj :=
  let v := f.of a.1
  Adj.put f (if v < 0x600 then v else if v < 0x700 then 0x5FF else 0x7FF) a

/-- A Gate B source code (Table 08-8): the nearest legal one, the lower of two equally near. -/
def Adj.gateB (f : Fld) (a : Adj) : Adj :=
  let v := f.of a.1
  Adj.put f (if v < 0xC00 then v else if v ≤ 0xDFF then 0xBFF else if v < 0x1000 then 0x1000 else if v < 0x1100 then v
    else if v ≤ 0x187F then 0x10FF else 0x1FFF) a

/-- The largest INDEX of an intake source KIND (Table 08-3). -/
def Adj.indexMax (kind : Nat) : Nat :=
  match kind with
  | 0 => 0
  | 1 => 1023
  | 2 => 511
  | 3 => 15
  | _ => 127

/-- NCH of a stream (R356). -/
def Adj.nch (n first : Fld) (a : Adj) : Adj := Adj.put n (Nsw.nch (n.of a.1) (first.of a.1)) a

/-- A comparator word (Table 14-9). -/
def Adj.cmp (a : Adj) : Adj :=
  let th := Reg.SFB_CH_TH 0
  let a1 := Adj.clamp th 0 512 (Adj.clamp (Reg.SFB_CH_MODE 0) 0 2 a)
  let a2 := Adj.clamp (Reg.SFB_CH_HYST 0) 0 (th.of a1.1) a1
  Adj.clamp (Reg.SFB_CH_K 0) 0 ((Reg.SFB_CH_M 0).of a2.1) a2

/-- Adjustment of the words of the graph block (Tables 08-5 to 08-9). -/
def Adj.graph (s : State) (off : Nat) (a : Adj) : Adj :=
  if 0x0C1000 ≤ off ∧ off < 0x0C4000 then
    (if off % 8 = 4 then
      (let a1 := Adj.clamp (Reg.GRAPH_IN_KIND 0) 0 4 a
       Adj.clamp (Reg.GRAPH_IN_INDEX 0) 0 (Adj.indexMax ((Reg.GRAPH_IN_KIND 0).of a1.1)) a1)
     else a)
  else if 0x0C4000 ≤ off ∧ off < 0x0C7000 then Adj.chan (Reg.GRAPH_GA_SRC 0) a
  else if 0x0C8000 ≤ off ∧ off < 0x0CE000 then
    (match off % 16 with
     | 0 => Adj.gateB (Reg.GRAPH_OUT_SRC 0) a
     | 4 => Adj.clamp (Reg.GRAPH_OUT_DELAY 0) 0 (s.fld (Reg.GRAPH_OUT_DLEN ((off - 0x0C8000) / 16)) - 1) a
     | 8 => Adj.clamp (Reg.GRAPH_OUT_TH 0) 0 600 (Adj.clamp (Reg.GRAPH_OUT_LAW 0) 0 2 a)
     | _ => a)
  else a

/-- The first and last IPv4 multicast address. -/
def Adj.mcastLo : Nat := 0xE0000000
def Adj.mcastHi : Nat := 0xEFFFFFFF

/-- Adjustment of the words of the network switch block (Tables 11-8 to 11-14, R356, R369). -/
def Adj.nsw (s : State) (off : Nat) (a : Adj) : Adj :=
  if 0x060030 ≤ off ∧ off < 0x060040 then
    (if off % 8 = 0 then Adj.clamp (Reg.NSW_RED_SUP_S 0) 1 60 (Adj.clamp (Reg.NSW_RED_MODE 0) 0 2 a) else a)
  else if off = 0x060040 then Adj.clamp Reg.NSW_RXBUF_DLOG 0 4 a
  else if 0x060080 ≤ off ∧ off < 0x0600C0 then Adj.clamp (Reg.NSW_GROUP_PRES_US 0) 0 2000 a
  else if 0x061000 ≤ off ∧ off < 0x062000 then
    (match off % 32 with
     | 0 => Adj.nch (Reg.NSW_SI_NCH 0) (Reg.NSW_SI_FIRST 0) (Adj.clamp (Reg.NSW_SI_FMT 0) 0 5 a)
     | 20 => Adj.clamp (Reg.NSW_SI_PT 0) 96 127 a
     | _ => a)
  else if 0x062000 ≤ off ∧ off < 0x063000 then
    (match off % 32 with
     | 0 =>
       let a1 := Adj.nch (Reg.NSW_SO_NCH 0) (Reg.NSW_SO_FIRST 0) (Adj.clamp (Reg.NSW_SO_FMT 0) 0 5 a)
       let per := (Reg.NSW_SO_NCH 0).of a1.1 * Nsw.bytes ((Reg.NSW_SO_FMT 0).of a1.1)
       Adj.clamp (Reg.NSW_SO_SPP 0) 1 (max 1 (min 48 (1440 / per))) a1
     | 8 => if (Reg.NSW_SO_FMT 0).of (s.shReg (off - 8)) < 3 then Adj.clamp ⟨0, 0, 32⟩ Adj.mcastLo Adj.mcastHi a else a
     | 16 => Adj.clamp (Reg.NSW_SO_PT 0) 96 127 (Adj.clamp (Reg.NSW_SO_MTT_US 0) 0 2000 a)
     | _ => a)
  else if 0x063000 ≤ off ∧ off < 0x064000 then Adj.chan (Reg.NSW_TXMAP_OC 0) a
  else a

/-- SAP_CFG (Table 13-7, R398): the enumerations first, then the limits of master mode. -/
def Adj.sapCfg (s : State) (a : Adj) : Adj :=
  let fmt := Reg.SAP_CFG_FMT 0
  let sw := Reg.SAP_CFG_SW 0
  let slots := Reg.SAP_CFG_SLOTS 0
  let wl := Reg.SAP_CFG_WL 0
  let mclk := Reg.SAP_CFG_MCLK 0
  let a1 := Adj.clamp mclk 0 2 (Adj.clamp wl 0 2 (Adj.clamp sw 0 2 (Adj.clamp slots 0 4 (Adj.clamp fmt 0 2 a))))
  let master := (Reg.SAP_CFG_SLAVE 0).of a1.1 = 0
  let a2 := if master ∧ sw.of a1.1 = 1 then Adj.put sw 2 a1 else a1
  let bits (c : Nat) : Nat := if c = 0 then 16 else if c = 1 then 24 else 32
  let limit := if master then 24576000 else 25000000
  let fits (c : Nat) : Bool := s.rate == 0 || decide (s.rate * 2 ^ (c + 1) * bits (sw.of a2.1) ≤ limit)
  let want := slots.of a2.1
  let best := ((List.range (want + 1)).reverse.find? fits).getD 0
  let a3 := if fmt.of a2.1 = 2 then Adj.put slots best a2 else a2
  let a4 := if sw.of a3.1 < wl.of a3.1 then Adj.put wl (sw.of a3.1) a3 else a3
  if mclk.of a4.1 = 2 ∧ 49152000 < 512 * s.rate then Adj.put mclk 1 a4 else a4

/-- The fields of FC_SRC word 0 (R464, Table 16-13): CLASS, HOLD, and GROUPS, in which the bits of MINGRP stay set. -/
def Adj.fcSrc (n : Nat) (a : Adj) : Adj :=
  let c := Reg.FC_SRC_CLASS 0
  let m := Fc.minClass n
  let v := if c.of a.1 < m then m else if c.of a.1 = Fc.reset ∧ (Fc.target n).isNone then Fc.mute else c.of a.1
  let a1 := Adj.clamp (Reg.FC_SRC_HOLD 0) 1 255 (Adj.put c v a)
  { a1 with w := (Reg.FC_SRC_GROUPS 0).ins a1.1 ((Reg.FC_SRC_GROUPS 0).of a1.1 ||| Fc.minGroups n) }

/-- The adjusted form of a word to be written at `off`, of which the write reaches the bits of `mask`, with the number of adjustments. -/
def Reg.adjust (s : State) (off : Nat) (w : Word) (mask : Nat) : Adj :=
  let a : Adj := ⟨w, 0, mask⟩
  match off / 0x10000 with
  | 0x0 => if off = 0x00046C then Adj.clamp ⟨0, 0, 32⟩ Adj.mcastLo Adj.mcastHi a else a
  | 0x2 => if 0x020400 ≤ off ∧ off < 0x020A00 ∧ off % 8 = 0 then Adj.fcSrc ((off - 0x020400) / 8) a else a
  | 0x4 => if off = 0x040054 then Adj.clamp Reg.CMD_RING_CTL_LOG2SZ 6 12 a else a
  | 0x5 =>
    if off = 0x050004 then
      Adj.clamp Reg.TKP_CFG_SLEW 1 50 (Adj.clamp Reg.TKP_CFG_SEAM_US 1 255 (Adj.clamp Reg.TKP_CFG_BW 0 3 a))
    else if off = 0x050010 ∨ off = 0x050030 then Adj.clamp (Reg.TKP_DOM_LOSS 0) 2 15 (Adj.clamp (Reg.TKP_DOM_PROFILE 0) 0 4 a)
    else a
  | 0x6 => Adj.nsw s off a
  | 0x7 => if off < 0x070200 then (if off % 32 = 0 then Adj.sapCfg s a else a)
    else if 0x071000 ≤ off then Adj.chan (Reg.SAP_TXMAP_OC 0) a else a
  | 0x8 => if off < 0x080100 ∧ off % 32 = 4 then Adj.chan (Reg.AES_TXMAP_OCB 0) (Adj.chan (Reg.AES_TXMAP_OCA 0) a) else a
  | 0x9 =>
    if off = 0x090000 then Adj.clamp Reg.SFB_CTL_MODCLK 0 2 a
    else if 0x091000 ≤ off ∧ off < 0x092000 then
      (match off % 16 with
       | 0 => Adj.clamp (Reg.SFB_CH_SRC 0) 0 (s.variant.snsIn - 1) a
       | 12 => Adj.clamp (Reg.SFB_CH_TRIP_DRV 0) 0 (s.variant.drvCh - 1) a
       | _ => Adj.cmp a)
    else a
  | 0xA =>
    if 0x0A1000 ≤ off ∧ off < 0x0A2000 then
      (match off % 16 with
       | 0 => Adj.chan (Reg.DRV_CH_OC 0) (Adj.clamp (Reg.DRV_CH_CMR 0) 0 5 a)
       | 4 => Adj.clamp (Reg.DRV_CH_SLOSS 0) 0 2 a
       | 8 => Adj.clamp (Reg.DRV_CH_RNOM 0) 1 0x7FFFFF (Adj.clamp (Reg.DRV_CH_RAILCH 0) 0 (s.variant.snsIn - 1) a)
       | _ => Adj.clamp (Reg.DRV_CH_HOLDOFF 0) 10 65535 (Adj.clamp (Reg.DRV_CH_LATCH_N 0) 1 15 (Adj.clamp (Reg.DRV_CH_LATCH_S 0) 1 255 a)))
    else a
  | 0xB => if off = 0x0B0050 then Adj.clamp Reg.MTX_AGE_LIMIT 64 4096 a else a
  | 0xC => Adj.graph s off a
  | 0xD =>
    if off = 0x0D0004 then
      Adj.clamp Reg.TWN_CFG_JWAIT 1 255 (Adj.clamp Reg.TWN_CFG_HBLOSS 2 255 (Adj.clamp Reg.TWN_CFG_RESYNC 1 255 a))
    else a
  | 0xE => if off = 0x0E0008 then Adj.clamp Reg.PWR_CFG_TWARN 85 110 a else a
  | _ => a

/-- The mask of the F fields of the word at `off` of a present unit. -/
def Reg.shMask (s : State) (off : Nat) : Nat :=
  match Reg.rowAt off with
  | some r => if Reg.present s.variant off then r.sh else 0
  | none => 0

/-- A write that reaches the shadow bank (R247 to R249): the F fields of the word take the value written, adjusted; the second
component counts the adjustments. -/
def Reg.shadowWrite (s : State) (off : Nat) (v : Word) : State × Nat :=
  let m := Reg.shMask s off
  if m = 0 then (s, 0)
  else
    let a := Reg.adjust s off (Reg.blend (s.shReg off) v m) m
    let s1 := s.setShReg off a.1
    ({ s1 with cmd := { s1.cmd with
        writes := if s1.cmd.writes.contains off then s1.cmd.writes else s1.cmd.writes ++ [off] } }, a.2)

/-- The owning block of the S fields of the word at `off` is stopped (R19). -/
def Reg.stopped (s : State) (off : Nat) : Bool :=
  match off / 0x10000 with
  | 0x4 => !s.flag Reg.CMD_RING_CTL_EN
  | 0x5 => !s.flag (Reg.TKP_DOM_EN ((off - 0x050010) / 32))
  | 0x6 =>
    if off < 0x060030 then !s.flag (Reg.NSW_PORT_EN ((off - 0x060010) / 8))
    else if off < 0x060040 then
      (let q := (off - 0x060030) / 8; !s.flag (Reg.NSW_PORT_EN (2 * q)) && !s.flag (Reg.NSW_PORT_EN (2 * q + 1)))
    else !s.flag Reg.NSW_CTL_STRM_EN
  | 0x7 =>
    if off < 0x070200 then !s.flag (Reg.SAP_CFG_EN ((off - 0x070000) / 32))
    else ((List.range 16).all fun p => !s.flag (Reg.SAP_CFG_EN p)) &&
      (List.range 8).all fun n => !s.flag (Reg.AES_CFG_RX_EN n) && !s.flag (Reg.AES_CFG_TX_EN n)
  | 0x8 => let n := (off - 0x080000) / 32; !s.flag (Reg.AES_CFG_RX_EN n) && !s.flag (Reg.AES_CFG_TX_EN n)
  | 0x9 => !s.flag Reg.SFB_ST_RUN
  | 0xA => !s.flag Reg.DRV_ST_RUN
  | _ => true

/-- The bits of the word at `off` that a write sets at once. -/
def Reg.liveMask (s : State) (off : Nat) (r : RegRow) : Nat :=
  if off = 0x010004 then
    r.rw + (if 0 < s.variant.snsIn && !s.flag Reg.SFB_ST_RUN then 2 else 0) +
      (if 0 < s.variant.drvCh && !s.flag Reg.DRV_ST_RUN then 1 else 0)
  else if 0x0B0010 ≤ off ∧ off < 0x0B0050 then (if (s.reg off).toNat.testBit 4 then 0 else r.rw)
  else r.rw ||| (if Reg.stopped s off then r.rws else 0)

/-- The bits that a present source or unit leaves writable in a vector of sources (R341, Table 16-15). -/
def Reg.presentBits (s : State) (off : Nat) : Nat :=
  if 0x030000 ≤ off ∧ off < 0x030040 then
    ((List.range 32).filter fun j => Evu.present s.variant (32 * (off / 4 % 8) + j)).foldl (fun a j => a + 2 ^ j) 0
  else if 0x021000 ≤ off ∧ off < 0x023000 then
    ((List.range 32).filter fun j => Fc.present s.variant (32 * (off % 32 / 4) + j)).foldl (fun a j => a + 2 ^ j) 0
  else 2 ^ 32 - 1

/-- A REGWIN write to fields without behaviour of their own (R15, R19, R317): RW bits are set, S bits while their block is
stopped, W1C bits cleared, F fields written to the shadow; adjustments are counted by R336. -/
def Reg.plainWrite (s : State) (off : Nat) (v : Word) : State :=
  match Reg.rowAt off with
  | none => s
  | some r =>
    if !Reg.present s.variant off then s
    else
      let old := s.reg off
      let mask := Reg.liveMask s off r &&& Reg.presentBits s off
      let cleared := old &&& ~~~(v &&& BitVec.ofNat 32 r.w1c)
      let a : Adj := if mask = 0 then ⟨cleared, 0, 0⟩ else Reg.adjust s off (Reg.blend cleared v mask) mask
      let s1 := s.setReg off a.1
      let x := Reg.shadowWrite s1 off v
      x.1.each (List.range (a.2 + x.2)) fun t _ => Cmd.adjust t 0 off

/-- A stall's work for the frame is over: it waits at WAITF, or has met a stopping exception (R131, R145); a stall without code has none. -/
def Stall.rests (x : Stall) : Bool := !x.code || x.status == .waitf || x.status == .exception

/-- Barn `b` is idle-gated (R49, R50): idle gating is enabled, the frame strobe's restart and the compute window's opening are past, every
stall of the barn rests, and no matrix or bus-summer access to its stalls is pending. -/
def Clk.idle (s : State) (b : Nat) : Bool :=
  s.flag Reg.CLK_GATE_ENG_IDLE && (s.phase == .c || s.phase == .d) &&
  ((List.range 8).all fun i => (Sparse.get s.stalls (8 * b + i) {}).rests) && !Mtx.waitsFor s b

/-- CLK_STATUS as it reads (Table 02-11): without the barns that idle gating has stopped, and without ENG where no barn runs. -/
def Clk.status (s : State) : Word :=
  let run := ((List.range 6).filter fun b => (s.fld Reg.CLK_STATUS_BARN_RUN).testBit b && !Clk.idle s b).foldl (fun a b => a + 2 ^ b) 0
  let w := Reg.CLK_STATUS_BARN_RUN.ins (s.reg 0x010000) run
  if run = 0 then Fld.ins ⟨0, 8, 1⟩ w 0 else w

/-- A REGWIN word as a read finds it (R6, R14, Table 00-6): TOP_CAP_UNITS by the variant; the shadow of F fields while GRAPH_VIEW.SHADOW is
set; TWN_ST.ELIG by R492; DRV_ST.OWN as the twin unit has it, and DRV_ST.MUTE_FC as the collector
has it (R452); CLK_STATUS without the barns that idle gating has stopped; STALE_NOW of
crossing 85 as FREE while it may still be set (log 68); WO bits, absent units and the bits of absent sources (R485) read 0. -/
def Reg.peek (s : State) (off : Nat) : Word :=
  match Reg.rowAt off with
  | none => 0
  | some r =>
    if !Reg.present s.variant off then 0
    else if off = 0x000010 ∨ off = 0x000014 then BitVec.ofNat 32 (s.variant.cap / 2 ^ (8 * (off - 0x000010)))
    else
      let v := if off = 0x0D0008 then Reg.TWN_ST_ELIG.ins (s.reg off) (if Twn.elig s then 1 else 0)
        else if off = 0x0A0004 then
          Reg.DRV_ST_MUTE_FC.ins (Reg.DRV_ST_OWN.ins (s.reg off) (s.fld Reg.TWN_ST_OWN)) (s.fld Reg.FC_STAT_MUTE)
        else if off = 0x010000 then Clk.status s
        else if off = 0x0103A8 ∧ Config.staleNow s.out.length = false then (Reg.CLK_XFLAG_STALE_NOW 85).ins (s.reg off) 0
        else s.reg off
      let w := if s.flag Reg.GRAPH_VIEW_SHADOW then Reg.blend v (s.shReg off) r.sh else v
      w &&& ~~~(BitVec.ofNat 32 r.wo) &&& BitVec.ofNat 32 (Reg.presentBits s off)

end Sys2Proof.Machine
end

