-- ==== Sys2Proof/Machine/Page.lean ====
section
/-! DEFINITION. Parameter pages: their live, shadow and boot values, the values a swap gives them, and the parameter save area (spec
09_bales_digest.md: R300, R306; 18_power_reset_boot.md: R537 to R540). A page is numbered p for the register page at 4,096 p, and
256 + q for stall parameter page q. -/

namespace Sys2Proof.Machine

/-- The register pages that hold an F field of a present unit. -/
def Page.registers (v : Variant) : List Nat := (List.range 256).filter (Page.present v)

/-- The F words of a page of present units, with their masks. -/
def Page.fwords (v : Variant) (p : Nat) : List (Nat × Nat) :=
  ((Page.words p).filter (Reg.present v)).map fun o => (o, Page.mask o)

/-- The bytes of a register page whose words are given by `w`: every bit that is not an F field is zero (R306). -/
def Page.content (v : Variant) (p : Nat) (w : Nat → Word) : List Byte :=
  (List.range 1024).flatMap fun i =>
    let o := 4096 * p + 4 * i
    let m := if Reg.present v o then Page.mask o else 0
    Cmd.wordBytes (w o &&& BitVec.ofNat 32 m)

/-- The bytes of a stall parameter page in a map keyed by 4,096 · page + offset. -/
def Page.stall (m : Sparse Byte) (q : Nat) : List Byte := (List.range 4096).map fun i => Sparse.get m (4096 * q + i) 0

/-- The live and the shadow bytes of a page. -/
def Page.live (s : State) (n : Nat) : List Byte :=
  if n < 256 then Page.content s.variant n s.reg else Page.stall s.bale.pageLive (n - 256)
def Page.shadow (s : State) (n : Nat) : List Byte :=
  if n < 256 then Page.content s.variant n s.shReg else Page.stall s.bale.pageShad (n - 256)

/-- The pages that the digest and the save area cover. -/
def Page.all (s : State) : List Nat := Page.registers s.variant ++ s.bale.pages.map (256 + ·)

/-- The DLEN of every outlet channel as a bale gives it, placed in the GRAPH_OUT words. -/
def Swap.dlens (s : State) (r : Nat → Nat) : State :=
  s.each (List.range 1536) fun t c => t.setFld (Reg.GRAPH_OUT_DLEN c) (Bale.dlen r c)

/-- The value of an F word as a bale gives it, before adjustment (R300): the page image, the live value where the page has KEEP
and `keep`, and the reset value otherwise. -/
def Swap.raw (s : State) (r : Nat → Nat) (keep : Bool) (o : Nat) : Word :=
  match Bale.param r (o / 4096) with
  | some (false, at_) => BitVec.ofNat 32 (Bale.u r (at_ + o % 4096) 4)
  | some (true, _) => if keep then s.reg o else Reg.reset o
  | none => Reg.reset o

/-- The F words of register page `p` after adjustment (R249, R300), written into the shadow of `t`, whose DLEN are the new ones. -/
def Swap.page (s : State) (r : Nat → Nat) (keep : Bool) (t : State) (p : Nat) : State :=
  t.each (Page.fwords s.variant p) fun u o =>
    u.setShReg o.1 (Reg.adjust u o.1 (Reg.blend (Reg.reset o.1) (Swap.raw s r keep o.1) o.2) o.2).1

/-- The bytes that a bale alone gives a page at boot (R538). -/
def Page.boot (s : State) (r : Nat → Nat) (n : Nat) : List Byte :=
  if n < 256 then
    let t := Swap.page s r false (if 0xC8 ≤ n ∧ n ≤ 0xCD then Swap.dlens s r else s) n
    Page.content s.variant n t.shReg
  else
    match (Bale.spages r).1.find? fun o => (Bale.spage r o).1 = n - 256 with
    | some o => if (Bale.spage r o).2.1 then List.replicate 4096 0 else Bale.bytes r (Bale.spage r o).2.2.2 4096
    | none => List.replicate 4096 0

/-- The bytes of a page in a snapshot that a bus close took, or its live bytes. -/
def Page.taken (s : State) (x : Option Snapshot) (n : Nat) : List Byte :=
  match x with
  | none => Page.live s n
  | some c =>
    if n < 256 then Page.content s.variant n fun o => Sparse.get c.regs o (s.reg o)
    else match c.pages.find? fun p => p.1 = n - 256 with
      | some p => p.2
      | none => Page.live s n

/-- The save area holds the value `v` of page `n` under the bale root `root`: as its boot value, in the index, or staged. -/
def Save.holds (s : State) (root : Nat) (boot : List Byte) (n : Nat) (v : List Byte) (staged : Bool) : Bool :=
  v == boot || s.pwr.area.any fun x => x.page == n && x.root == root && x.bytes == v && (staged || !x.staged)

/-- The root of the live bale (0 where none is live). -/
def Save.root (s : State) : Nat := match Bale.live s with
  | some i => Sparse.get s.bale.roots i 0
  | none => 0

/-- The pages of the backlog with the snapshot `x` added (R538); none while no bale is live. -/
def Save.backlog (s : State) (x : Option Snapshot) (staged : Bool) : List Nat :=
  match Bale.liveRd s with
  | none => []
  | some r => (Page.all s).filter fun n => !Save.holds s (Save.root s) (Page.boot s r n) n (Page.taken s x n) staged

/-- PWR_TACK follows the backlog and the staged pages. -/
def Save.show (s : State) : State :=
  let b := (Save.backlog s s.cmd.taken true).length
  (s.setFld Reg.PWR_TACK_BACKLOG (min b 15)).setFld Reg.PWR_TACK_STAGED (s.pwr.area.filter fun x => x.staged).length

/-- A SAVE_TACK that runs completes once the index holds every live page (R540). -/
def Save.settle (s : State) : State :=
  match s.cmd.run.find? fun (r : Run) => match r.wait with | .save _ _ => true | _ => false with
  | none => s
  | some r =>
    if (Save.backlog s s.cmd.taken false).isEmpty then
      Cmd.finish s r 0 0 [match r.wait with | .save _ n => n | _ => 0]
    else s

/-- SAVE_TACK (R540). -/
def Save.start (s : State) (r : Run) : State :=
  Save.settle (Cmd.keepRun s { r with wait := .save (Save.backlog s s.cmd.taken false) 0 })

/-- SAVE_TACK (R540): completes once the backlog is zero and every live page is held in the index. -/
def execSaveTack (s : State) : Host.Outcome State Fault Refusal := .next (Cmd.start s 0x21 Save.start)

/-- The records whose staged value is the live one are named by the index (R537); a page has one index record. Records of a
bale that is no longer live are discarded (R539). -/
def Save.index (s : State) : State :=
  let root := Save.root s
  let now (x : SaveRec) : Bool := x.staged && x.root == root && x.bytes == Page.live s x.page
  let hit := s.pwr.area.filter now
  let mine (x : SaveRec) : Bool :=
    x.root == root || (x.staged && s.bale.mark.any fun i => x.root == Sparse.get s.bale.roots i 0)
  let kept := s.pwr.area.filter fun x =>
    mine x && !now x && !(!x.staged && hit.any fun y => y.page == x.page)
  { s with pwr := { s.pwr with area := kept ++ hit.map fun x => { x with staged := false } } }

/-- A record is written into a free slot of the save area, in place of an older staged one of the page and root (R537). -/
def Save.write (s : State) (n root : Nat) (v : List Byte) : State :=
  let rest := s.pwr.area.filter fun x => !(x.page == n && x.root == root && x.staged)
  if 311 ≤ rest.length then s
  else
    let s1 : State := { s with pwr := { s.pwr with area := rest ++ [{ page := n, root := root, bytes := v, staged := true }] } }
    let more (r : Run) : Run := match r.wait with
      | .save ps b => { r with wait := .save ps (b + 4096) }
      | _ => r
    { s1 with cmd := { s1.cmd with run := s1.cmd.run.map more } }

/-- The value that page `n` takes at the swap to the bale of slot `i` (R300). -/
def Swap.value (s : State) (i n : Nat) : List Byte :=
  let r := Bale.rd s i
  if n < 256 then
    let t := Swap.page s r true (if 0xC8 ≤ n ∧ n ≤ 0xCD then Swap.dlens s r else s) n
    Page.content s.variant n t.shReg
  else
    match (Bale.spages r).1.find? fun o => (Bale.spage r o).1 = n - 256 with
    | some o =>
      if (Bale.spage r o).2.1 then
        (if s.bale.pages.contains (n - 256) then Page.live s n else List.replicate 4096 0)
      else Bale.bytes r (Bale.spage r o).2.2.2 4096
    | none => List.replicate 4096 0

/-- The pages that a swap to slot `i` leaves unheld (R538). -/
def Swap.backlog (s : State) (i : Nat) : List Nat :=
  let r := Bale.rd s i
  (Page.registers s.variant ++ (Bale.pageList r).map (256 + ·)).filter fun n =>
    !Save.holds s (Sparse.get s.bale.roots i 0) (Page.boot s r n) n (Swap.value s i n) true

/-- PAGE_STAGE (R537, R538): the writer writes the shadow value of page `page` into the save area, where the saved value differs,
or, with `swap`, the value the page takes at the waiting swap. After SAVE_WARN the writer writes the save image instead. -/
def execPageStage (page : Nat) (swap : Bool) (s : State) : Host.Outcome State Fault Refusal :=
  .next (match Bale.liveRd s with
    | none => s
    | some r =>
      if s.saveWarned then s
      else if swap then
        (match s.bale.mark with
         | none => s
         | some i =>
           if (Swap.backlog s i).contains page then
             Save.settle (Save.show (Save.write s page (Sparse.get s.bale.roots i 0) (Swap.value s i page)))
           else s)
      else if !(Page.all s).contains page then s
      else
        let v := Page.shadow s page
        if Save.holds s (Save.root s) (Page.boot s r page) page v true then s
        else Save.settle (Save.show (Save.index (Save.write s page (Save.root s) v))))

end Sys2Proof.Machine
end

