-- ==== Sys2Proof/Machine/Param.lean ====
section
/-! DEFINITION. Commands of the short queue, submission, and the completion ring's host side (spec 10_host_commands.md: R321 to R335;
08_signal_graph.md: R250, R253; 09_bales_digest.md: R298; 16_fault_collector.md: R478). -/

namespace Sys2Proof.Machine

/-- CMD_SUBMIT (R321, R322): the words `ws` are written up to and including the last word, which submits. -/
def Bar.cmdSubmit (ws : List Word) (s : State) : State :=
  Cmd.submit (s.each ws.zipIdx fun t p => Cmd.stage t (16 - ws.length + p.2) p.1)

/-- CMD_SUBMIT (R321, R322), where the access is served (R41, R319). -/
def execCmdSubmit (ws : List Word) (s : State) : Host.Outcome State Fault Refusal :=
  .next (s.bar (Bar.cmdSubmit ws))

/-- SPACE, PAGE, OFFSET, COUNT and ADDR of a parameter transfer after clamping (R335), and the adjustments made. -/
structure ParamOps where
  space : Nat
  page  : Nat
  off   : Nat
  count : Nat
  addr  : Nat
  adj   : Nat

/-- The operands of PARAM_WRITE and PARAM_READ; `inline_`: at most 8 words and no ADDR. -/
def Param.operands (d : Desc) (inline_ : Bool) : ParamOps :=
  let space := Cmd.clamp (d.field 8 1) 0 1
  let page := Cmd.clamp (d.field 10 2) 0 (if space.1 = 0 then 255 else 3071)
  let off := Cmd.clamp (d.field 12 2 / 4 * 4) 0 4092
  let count := Cmd.clamp (d.field 14 2) 1 (min (if inline_ then 8 else 1024) ((4096 - off.1) / 4))
  let raw := d.field 16 8
  let bad := !inline_ && raw % 4 != 0
  { space := space.1, page := page.1, off := off.1, count := count.1, addr := raw / 4 * 4,
    adj := space.2 + page.2 + off.2 + count.2 + (if bad then 1 else 0) }

/-- A word of the transfer lies in the region of an absent instance (R6, R8). -/
def Param.absent (s : State) (o : ParamOps) : Bool :=
  (List.range o.count).any fun i =>
    let off := 4096 * o.page + o.off + 4 * i
    (Reg.rowAt off).isSome && !Reg.present s.variant off

/-- The status and reason of the checks on SPACE and PAGE (R329), and of the instances named (R8); none where they pass. -/
def Param.check (s : State) (o : ParamOps) : Option (Nat × Nat) :=
  if o.space = 0 then
    (if !Page.hasF o.page then some (3, 0x81)
     else if !Page.present s.variant o.page || Param.absent s o then some (1, 0) else none)
  else if s.variant.stalls ≤ o.page / 64 then some (1, 0)
  else if !s.bale.pages.contains o.page then some (3, 0x81)
  else none

/-- The words land in the shadow (R248, R329); answers how many fields were adjusted. -/
def Param.place (s : State) (o : ParamOps) (ws : List Word) : State × Nat :=
  if o.space = 0 then
    ws.zipIdx.foldl (fun (a : State × Nat) w =>
      let x := Reg.shadowWrite a.1 (4096 * o.page + o.off + 4 * w.2) w.1
      (x.1, a.2 + x.2)) (s, 0)
  else
    let bs := (ws.flatMap Cmd.wordBytes).zipIdx
    ({ s with
        bale := { s.bale with pageShad := bs.foldl (fun m b => Sparse.put m (4096 * o.page + o.off + b.2) 0 b.1) s.bale.pageShad }
        cmd := { s.cmd with
          writes := if s.cmd.writes.contains (2 ^ 24 + o.page) then s.cmd.writes else s.cmd.writes ++ [2 ^ 24 + o.page] } }, 0)

/-- A PARAM_WRITE whose words are at hand writes them and completes. -/
def Param.land (s : State) (r : Run) (o : ParamOps) (ws : List Word) : State :=
  let x := Param.place s o ((ws ++ List.replicate o.count 0).take o.count)
  let y := Cmd.noteAdj x.1 r x.2
  Cmd.finish y.1 y.2 0 0 [o.count, x.2]

/-- PARAM_WRITE (R329): inline words and those that came with a mirrored command are at hand; others are read from the host. -/
def Param.write (s : State) (run : Run) : State :=
  let inl := run.d.flag 2
  let o := Param.operands run.d inl
  let x := Cmd.noteAdj s run o.adj
  let t := x.1
  let r := x.2
  match Param.check t o with
  | some w => Cmd.finish t r w.1 w.2 []
  | none =>
    if inl then Param.land t r o ((List.range 8).map fun i => r.d.word (6 + i))
    else if r.d.peer then Param.land t r o r.d.data
    else
      let u := t.hostOut (.hostRead o.addr (4 * o.count))
      if !t.canSend then Cmd.finish u r 3 0x84 [] else Cmd.keepRun u { r with wait := .hostRead }

/-- PARAM_WRITE (R329). -/
def execParamWrite (s : State) : Host.Outcome State Fault Refusal := .next (Cmd.start s 0x10 Param.write)

/-- The PARAM_WRITE that waits for the host. -/
def Param.waiting (s : State) : Option Run := s.cmd.run.find? fun (r : Run) => r.wait == .hostRead

/-- A host read that fails or is cancelled ends its command with reason DMA (R335). -/
def Param.cancel (s : State) : State :=
  match Param.waiting s with
  | some r => Cmd.finish s r 3 0x84 []
  | none => s

/-- HOST_MEMORY_ACCESS_ANSWER (R329, R334, R335). -/
def execHostMemoryAccessAnswer (a : HostAnswer) (s : State) : Host.Outcome State Fault Refusal :=
  .next (match a with
    | .ringError => Cmd.showFull ((s.setFlag Reg.CMD_RING_CTL_EN false).setFire Reg.CMD_STAT_RING_ERR 4)
    | .error => Param.cancel s
    | .data ws =>
      match Param.waiting s with
      | none => s
      | some r =>
        let o := Param.operands r.d false
        let sent := Cmd.mirrors s r.d
        let s1 := if sent then Tth.send s s.frameNo (.cmd r.d.ticket r.d.words ((ws ++ List.replicate o.count 0).take o.count)) else s
        Param.land s1 { r with sent := sent } o ws)

/-- The words of a page in the live or the shadow view (R330). -/
def Param.words (s : State) (o : ParamOps) (shadow : Bool) : List Word :=
  let n := if o.space = 0 then o.page else 256 + o.page
  let bs := if shadow then Page.shadow s n else Page.live s n
  (List.range o.count).map fun i => BitVec.ofNat 32 (Arith.ofBytes ((bs.drop (o.off + 4 * i)).take 4))

/-- PARAM_READ (R330): `ok`: the host answers its writes without an error (R335). -/
def Param.read (ok : Bool) (s : State) (run : Run) : State :=
  let o := Param.operands run.d false
  let x := Cmd.noteAdj s run o.adj
  let t := x.1
  let sh := run.d.flag 4
  match Param.check t o with
  | some w => Cmd.finish t x.2 w.1 w.2 []
  | none =>
    let u := t.hostOut (.hostWrite o.addr (Param.words t o sh))
    if !ok || !t.canSend then Cmd.finish u x.2 3 0x84 []
    else Cmd.finish u x.2 0 0
      (if sh then [0, 0] else [t.frameNo % 2 ^ 32, t.frameNo / 2 ^ 32])

/-- PARAM_READ (R330). -/
def execParamRead (ok : Bool) (s : State) : Host.Outcome State Fault Refusal := .next (Cmd.start s 0x12 (Param.read ok))

/-- PARAM_COMMIT (R250, R582): the command waits with the shadow writes accepted since the PARAM_COMMIT before it. -/
def Commit.start (s : State) (run : Run) : State :=
  let s1 := Cmd.keepRun s { run with wait := .commit none s.cmd.writes }
  { s1 with cmd := { s1.cmd with writes := [] } }.setFlag Reg.GRAPH_COMMIT_PENDING true

/-- PARAM_COMMIT (R250). -/
def execParamCommit (s : State) : Host.Outcome State Fault Refusal := .next (Cmd.start s 0x11 Commit.start)

/-- SWAP_BALE (R253, R298, R304): the slot is ARMED, and on a twin the peer has an ARMED slot of the same root (`peerOk`). The
directory names the slot LIVE; with no bale live the swap is taken at once. -/
def Swap.start (peerOk : Bool) (s : State) (run : Run) : State :=
  let x := Cmd.slot s run
  let t := x.1
  let i := x.2.2
  if Bale.st t i ≠ 4 then Cmd.finish t x.2.1 3 0x12 []
  else if run.sent && !peerOk then Cmd.finish t x.2.1 3 0x15 []
  else
    let t1 := Bale.setMark (Cmd.keepRun t { x.2.1 with wait := .swap i none }) (some i)
    if (Bale.live t1).isNone then { t1 with bale := { t1.bale with taken := some i, boot := false } } else t1

/-- SWAP_BALE (R298). -/
def execSwapBale (peerOk : Bool) (s : State) : Host.Outcome State Fault Refusal := .next (Cmd.start s 0x04 (Swap.start peerOk))

/-- KIND, FIRST, COUNT and ADDR of METER_SNAPSHOT after clamping (R335), and the adjustments made. -/
def Meter.operands (d : Desc) : (Nat × Nat × Nat × Nat) × Nat :=
  let kind := Cmd.clamp (d.field 8 1) 0 2
  let n := if kind.1 = 2 then 256 else 1536
  let first := Cmd.clamp (d.field 10 2) 0 (n - 1)
  let count := Cmd.clamp (d.field 12 2) 1 (n - first.1)
  let raw := d.field 16 8
  ((kind.1, first.1, count.1, raw / 16 * 16), kind.2 + first.2 + count.2 + (if raw % 16 = 0 then 0 else 1))

/-- METER_SNAPSHOT takes its records, which belong to the frame of boundary `k` (R331). -/
def Meter.take (ok : Bool) (k : Nat) (s : State) (r : Run) : State :=
  let o := (Meter.operands r.d).1
  let base := if o.1 = 0 then 0x200000 else if o.1 = 1 then 0x206000 else 0x20C000
  let ws := (List.range (4 * o.2.2.1)).map fun i => s.reg (base + 16 * o.2.1 + 4 * i)
  let u := s.hostOut (.hostWrite o.2.2.2 ws)
  if !ok || !s.canSend then Cmd.finish u r 3 0x84 [] else Cmd.finish u r 0 0 [k % 2 ^ 32, k / 2 ^ 32]

/-- METER_SNAPSHOT (R331): at once while no boundary is struck, else at the next boundary. -/
def Meter.start (ok : Bool) (s : State) (run : Run) : State :=
  let x := Cmd.noteAdj s run (Meter.operands run.d).2
  if x.1.running then Cmd.keepRun x.1 { x.2 with wait := .boundary ok } else Meter.take ok x.1.frameNo x.1 x.2

/-- METER_SNAPSHOT (R331): `ok`: the host answers its writes without an error (R335). -/
def execMeterSnapshot (ok : Bool) (s : State) : Host.Outcome State Fault Refusal := .next (Cmd.start s 0x22 (Meter.start ok))

/-- A release acts on an AON edge (R478): RES0 counts the sources released, RES1 those named but live. -/
def Fc.releaseActs (s : State) (r : Run) (scope src : Nat) : State :=
  let y := Fc.release s scope src
  Cmd.finish y.1 r 0 0 [y.2.1, y.2.2]

/-- FC_RELEASE (R478): the release crosses to AON by crossing 86. While AON is lost its handshake does not complete (R53): the release and
up to three more wait there, and one beyond them is lost and sets OVERRUN (R54). -/
def Fc.releaseCmd (s : State) (run : Run) : State :=
  let scope := Cmd.clamp (run.d.field 8 1) 0 1
  let src := Cmd.clamp (run.d.field 10 2) 0 191
  let x := Cmd.noteAdj s run (scope.2 + src.2)
  if scope.1 = 1 && Fc.assigned src.1 && !Fc.present s.variant src.1 then Cmd.finish x.1 x.2 1 0 []
  else if !Fc.aonLost x.1 then Fc.releaseActs x.1 x.2 scope.1 src.1
  else
    let t := Cmd.keepRun x.1 { x.2 with wait := .release }
    if Clk.depth 86 < t.clk.x86.length then Clk.overrun t 86
    else { t with clk := { t.clk with x86 := t.clk.x86 ++ [(scope.1, src.1)] } }

/-- The releases that crossing 86 holds act one after another, oldest first, as AON runs again (R53, R54). -/
def Fc.releaseWaiting (s : State) : State :=
  ({ s with clk := { s.clk with x86 := [] } } : State).each s.clk.x86 fun t p =>
    match t.cmd.run.find? fun (r : Run) => r.wait == .release with
    | some r => Fc.releaseActs t r p.1 p.2
    | none => (Fc.release t p.1 p.2).1

/-- FC_RELEASE (R478). -/
def execFcRelease (s : State) : Host.Outcome State Fault Refusal := .next (Cmd.start s 0x30 Fc.releaseCmd)

/-- The opcodes that Table 10-6 assigns. -/
def Cmd.known (op : Nat) : Bool :=
  [0x01, 0x02, 0x03, 0x04, 0x10, 0x11, 0x12, 0x20, 0x21, 0x22, 0x30, 0x40, 0x41].contains op

/-- UNDEFINED_OPCODE (R328): the descriptor at the head of the short queue completes REJECTED_FORMAT with reason OPCODE. -/
def execUndefinedOpcode (s : State) : Host.Outcome State Fault Refusal :=
  .next (match Cmd.head s false with
    | none => s
    | some d =>
      if Cmd.known d.op then s
      else Cmd.post (Cmd.pop s false) { d := d, long := false, adj := 0, wait := .ack 0 0 [] } 3 0x80 [])

/-- CMD_RING_HEAD_WRITE (R334): HEAD is reduced modulo the ring size, and waiting records are copied. -/
def Cmd.headWrite (s : State) (v : Nat) : State := Cmd.serveRing (s.setFld Reg.CMD_RING_HEAD_HEAD (v % Cmd.ringSize s))

/-- CMD_RING_HEAD_WRITE (R334). -/
def execCmdRingHeadWrite (v : Nat) (s : State) : Host.Outcome State Fault Refusal := .next (s.bar fun t => Cmd.headWrite t v)

/-- A write of 1 to CMD_RING_CTL.EN (R334): TAIL, HEAD and the phase restart, and the ring queue is copied. -/
def Cmd.ringEnable (s : State) : State :=
  Cmd.serveRing ((((s.setFlag Reg.CMD_RING_CTL_EN true).setFld Reg.CMD_RING_TAIL_TAIL 0).setFld Reg.CMD_RING_HEAD_HEAD 0).setFld
    Reg.CMD_RING_TAIL_PHASE 1)

/-- RING_ENABLE (R334). -/
def execRingEnable (s : State) : Host.Outcome State Fault Refusal := .next (s.bar Cmd.ringEnable)

/-- The effects that PERST_N, a Function Level Reset, a link down and a clear of Bus Master Enable share (R319). -/
def Cmd.linkLost (s : State) : State := Param.cancel (Cmd.showFull (s.setFlag Reg.CMD_RING_CTL_EN false))

/-- The MSI-X capability and table as a reset of the function leaves them: disabled, every vector masked, nothing pending. -/
def Evu.linkReset (s : State) : State :=
  { s with evu := { s.evu with enable := false, funcMask := false, mask := 0xFFFFFFFF, pba := 0 } }

/-- PERST_N (R319, Table 02-6): `low`: the pin is asserted; `reqs` requests and `comps` completions and writes are then in flight at
crossings 1 and 2. -/
def execPerstN (low : Bool) (reqs comps : Nat) (s : State) : Host.Outcome State Fault Refusal :=
  .next (if low = s.host.perst then s
    else
      let s1 : State := { s with host := { s.host with perst := low, d3hot := false } }
      let s2 := if low then Clk.discard (Clk.discard s1 1 reqs) 2 comps else s1
      let s3 := Clk.hold (Clk.hold s2 1 low) 2 low
      if low then Evu.linkReset (Cmd.linkLost s3) else s3)

/-- FUNCTION_LEVEL_RESET (R319): `comps` completions are in flight at crossing 2. -/
def execFunctionLevelReset (comps : Nat) (s : State) : Host.Outcome State Fault Refusal :=
  .next (Evu.linkReset (Cmd.linkLost (Clk.discard { s with host := { s.host with d3hot := false } } 2 comps)))

/-- LINK_DOWN (R319): `comps` completions are in flight at crossing 2. -/
def execLinkDown (comps : Nat) (s : State) : Host.Outcome State Fault Refusal :=
  .next (Evu.linkReset (Cmd.linkLost (Clk.discard { s with host := { s.host with d3hot := false } } 2 comps)))

/-- BUS_MASTER_ENABLE_CLEAR (R319): `comps` completions are in flight at crossing 2. -/
def execBusMasterEnableClear (comps : Nat) (s : State) : Host.Outcome State Fault Refusal :=
  .next (Cmd.linkLost (Clk.discard s 2 comps))

/-- The pending bits of vectors that may be sent are served: a message where the vector is still pending (R342). -/
def Evu.servePba (s : State) (vs : List Nat) : State :=
  s.each vs fun t v =>
    if !t.evu.pba.testBit v then t
    else if (t.reg 0x030580).toNat.testBit v then Evu.request t v else Evu.setPba t v false

/-- MSIX_ENABLE (R342): MSI-X Enable, the function mask and the vector masks take the values given. -/
def execMsixEnable (enable funcMask : Bool) (mask : Nat) (s : State) : Host.Outcome State Fault Refusal :=
  let newly := enable && (!s.evu.enable || (s.evu.funcMask && !funcMask))
  let open_ := (List.range 32).filter fun v => s.evu.mask.testBit v && !mask.testBit v
  let s1 : State := { s with evu := { s.evu with enable := enable, funcMask := funcMask, mask := mask } }
  .next (if newly then
      let s2 := s1.each ((List.range 32).filter fun v => !(s1.reg 0x030580).toNat.testBit v) fun t v => Evu.setPba t v false
      s2.each (Evu.bitsOf 0 (s1.reg 0x030580).toNat) Evu.request
    else if enable && !funcMask then Evu.servePba s1 open_
    else s1)

/-- EVU_HOLD_EXPIRY (R342): the hold interval of vector `v` ends; a waiting request is sent if the vector is still pending. -/
def execEvuHoldExpiry (v : Nat) (s : State) : Host.Outcome State Fault Refusal :=
  let x := Evu.vec s v
  let s1 := Evu.setVec s v {}
  .next (if x.wait && s1.evu.enable && (s1.reg 0x030580).toNat.testBit v then Evu.sendReq s1 v else s1)

/-- D3HOT_TRANSITION (R319): the endpoint enters or leaves D3hot; on leaving, messages and ring copies that waited are sent. -/
def execD3hotTransition (enter : Bool) (s : State) : Host.Outcome State Fault Refusal :=
  let s1 : State := { s with host := { s.host with d3hot := enter } }
  .next (if enter then s1 else Cmd.serveRing (Evu.servePba s1 (List.range 32)))

end Sys2Proof.Machine
end

