-- ==== Sys2Proof/Machine/Role.lean ====
section
/-! DEFINITION. Twin roles (spec 17_twin_tether.md: R488 to R493, R497, R503): when a role change takes effect, what follows from it, the
fault levels of the twin unit, the tether's way down and up again. -/

namespace Sys2Proof.Machine

/-- The first boundary after the latest one that falls at or after instant `root`. -/
def Frame.after (s : State) (root : Nat) : Nat :=
  let p := Frame.boundary s 1
  if p = 0 then s.frameNo + 1 else max (s.frameNo + 1) ((root + p - 1) / p)

/-- The hash that eight register words at `off` hold. -/
def Rcd.getHash (s : State) (off : Nat) : Nat :=
  ((List.range 8).flatMap fun i => Cmd.wordBytes (s.reg (off + 4 * i))).foldl (fun a b => 256 * a + b.toNat) 0

/-- The published ROOT and BALE_ROOT of this device. -/
def Twn.ownRoot (s : State) : Nat := Rcd.getHash s 0x000410
def Twn.ownBaleRoot (s : State) : Nat := Rcd.getHash s 0x000430

/-- The peer's most recent HELLO shows an equal bale root. -/
def Twn.sameBale (s : State) : Bool := s.twn.peer.any fun p => p.baleRoot == Twn.ownBaleRoot s

/-- The role reads a peer's state: STANDBY or SUSPECT. -/
def Twn.follows (s : State) : Bool := s.role == 2 || s.role == 4

/-- The peer reads this device's state: the active's peer is STANDBY, SUSPECT or in a resync (R505, R509). -/
def Twn.feeds (s : State) : Bool :=
  s.role == 1 && Tth.up s && (s.twn.peer.any (fun p => p.role == 2 || p.role == 4) || s.twn.resync.isSome)

/-- Commands of one kind that have started. -/
def Cmd.waiting (s : State) (w : Wait) : List Run := s.cmd.run.filter fun r => r.wait == w

/-- A boundary number as two result words. -/
def Cmd.res64 (k : Nat) : List Nat := [k % 2 ^ 32, k / 2 ^ 32]

/-- A resync ends without completing (R519): TWIN_RESYNC completes with code `why`, and E069 fires. -/
def Twn.endResync (s : State) (why : Nat) : State :=
  if s.twn.resync.isNone && (Cmd.waiting s .resync).isEmpty then s
  else
    let cmds := Cmd.waiting s .resync
    let s1 := ({ s with twn := { s.twn with resync := none, gaNotes := [], ocNotes := [], peerLeaf := [] } } : State).setFlag
      Reg.TWN_ST_RESYNC false
    let s2 := s1.each cmds fun t r => Cmd.finish t r 0 0 [0, 0, why, 0]
    if cmds.isEmpty then s2 else s2.fire 69

/-- The role becomes `r` and governs frame `k` (R489): E064; an active that gave its role away ends its TWIN_HANDOVER (R517). -/
def Twn.applyRole (s : State) (k r : Nat) : State :=
  let s0 : State := { s with twn := { s.twn with roleAt := none, takeAt := if r ≤ 1 then none else s.twn.takeAt } }
  if s.role = r then s0
  else
    let s1 := (s0.setFld Reg.TWN_ST_ROLE r).fire 64
    let s2 := if r = 1 then s1.setFld Reg.TWN_TAKE_FRAME_FRAME k else s1
    let s3 := if r = 2 ∨ r = 4 then s2 else s2.setFlag Reg.TWN_ST_HAYSYNC false
    let s4 : State := if s.role = 1 ∧ r = 2 then { s3 with twn := { s3.twn with hayFrom := some k } } else s3
    let s5 := if r = 0 then s4.setFlag Reg.TOP_RCD_FLAGS_PEER_MATCH false else s4
    if s.role = 1 then s5.each (Cmd.waiting s5 .handover) fun t c => Cmd.finish t c 0 0 (Cmd.res64 k ++ [0, 0]) else s5

/-- A role change that takes effect at boundary `k` (R489); while no boundary is struck it takes effect at once. -/
def Twn.setRole (s : State) (k r : Nat) : State :=
  if s.running then { s with twn := { s.twn with roleAt := if s.role = r then none else some (k, r) } }
  else Twn.applyRole s s.frameNo r

/-- A STANDBY, DETACHED or SUSPECT device that has taken ownership becomes ACTIVE at its boundary (R490, R497). -/
def Twn.tookRole (s : State) (k : Nat) : State :=
  if s.twn.takeAt.any fun a => decide (a ≤ k) then Twn.applyRole s k 1 else s

/-- The role that an active takes when the peer has taken ownership (Table 17-2). -/
def Twn.afterActive (s : State) : Nat :=
  if s.twn.lastDrop = 3 ∨ s.twn.lastDrop = 4 then 4 else if Tth.up s && Twn.sameBale s then 2 else 3

/-- The peer's TOP_CAP_UNITS differs, as its HELLO shows (R490). -/
def Twn.capDiffers (s : State) : Bool :=
  s.fld Reg.TWN_ST_LINK != 0 && s.twn.peer.any fun p => p.cap != s.variant.cap

/-- The fault levels F070 and F072 to F074 of the twin unit (R493, R498, R503, R490); E070 fires when F074 becomes at fault. -/
def Twn.levels (s : State) : State :=
  if !s.variant.tether then s
  else
    let diff := Twn.capDiffers s
    let s1 := (s.faultLevel 70 (s.twn.wasUp && !Tth.up s)).faultLevel 72 s.twn.ambig
    let s2 := s1.faultLevel 73 (s1.twn.wasHb && !s1.flag Reg.TWN_ST_HB_OK)
    let was := (s2.fcSrc 74).pair ≠ 1
    let s3 := s2.faultLevel 74 diff
    if diff && !was then s3.fire 70 else s3

/-- The link leaves TRAIN or UP (Table 17-7): a follower becomes DETACHED at the next boundary, a resync ends. -/
def Twn.down (s : State) : State :=
  if s.fld Reg.TWN_ST_LINK = 0 then s
  else
    let s1 := Twn.endResync (Tth.down s) 1
    Twn.levels (if Twn.follows s1 then Twn.setRole s1 (s1.frameNo + 1) 3 else s1)

/-- The link enters TRAIN when all eight lanes are locked and deskewed (Table 17-7). -/
def Twn.train (s : State) : State :=
  if s.variant.tether && s.flag Reg.TWN_CTL_EN && s.fld Reg.TWN_ST_LINK == 0 && s.twn.lanes == 255 &&
      Sparse.get s.clk.odd 11 0 == 0 then
    (s.setFld Reg.TWN_ST_LINK 1).fire 66
  else s

/-- TRAIN becomes UP when a HELLO has been received and the own HELLO acknowledged; `ack` is the lowest SEQ the peer misses. -/
def Twn.rise (s : State) (ack : Nat) : State :=
  if s.fld Reg.TWN_ST_LINK = 1 ∧ s.twn.helloIn = true ∧ (s.twn.helloSeq.any fun q => q < ack) = true then
    let s1 := (s.setFld Reg.TWN_ST_LINK 2).fire 66
    Twn.levels { s1 with twn := { s1.twn with wasUp := true } }
  else s

end Sys2Proof.Machine
end

