-- ==== Sys2Proof/Machine/Digest.lean ====
section
/-! DEFINITION. The running configuration digest, its publication, comparison, query and announce (spec 09_bales_digest.md: R305
to R315). -/

namespace Sys2Proof.Machine

/-- The leaves of the live configuration (Table 09-11). -/
def Rcd.tree (s : State) : Sparse Nat :=
  (match Bale.liveRd s with
   | some r => Rcd.baleLeaves r
   | none => []) ++
  ((Page.registers s.variant).map fun p => (1024 + p, Rcd.leaf (1024 + p) (Page.live s p))) ++
  s.bale.pages.foldl (fun m q => Sparse.put m (2048 + q) 0 (Rcd.leaf (2048 + q) (Page.live s (256 + q)))) []

/-- The root of a tree (R307). -/
def Rcd.root (leaves : Sparse Nat) : Nat := Sparse.get (Rcd.level leaves 13) 0 0

/-- A hash is placed in eight register words at `off` (Table 09-18). -/
def Rcd.putHash (s : State) (off h : Nat) : State :=
  s.each (List.range 8) fun t i => t.setReg (off + 4 * i) (BitVec.ofNat 32 (Arith.ofBytes (((Sha.bytes h).drop (4 * i)).take 4)))

/-- The record of TOP_RCD. -/
def Rcd.show (s : State) (gen k root baleRoot : Nat) : State :=
  Rcd.putHash (Rcd.putHash ((s.setReg64 0x000400 gen).setReg64 0x000408 k) 0x000410 root) 0x000430 baleRoot

/-- A change of the live configuration at boundary `k` (R308, R309): the generation counts it, and STALE is set until it is
published. -/
def Rcd.changed (s : State) (k : Nat) : State :=
  { s.setFlag Reg.TOP_RCD_FLAGS_STALE true with rcd := { s.rcd with gen := (s.rcd.gen + 1) % 2 ^ 64, k := k, half := false } }

/-- Boundary k of a swap with a bale live before (R299, R309): a part of the change is live and unpublished, so a record that waits for its
publication is never published; the generation counts the swap at k+1. -/
def Rcd.between (s : State) : State := { s.setFlag Reg.TOP_RCD_FLAGS_STALE true with rcd := { s.rcd with half := true } }

/-- A bale became live at boundary `k` with none live before: the generation counts it, unless the boot swap brought back the
configuration that it already counts (R308, R530). -/
def Rcd.boot (boot : Bool) (s : State) (k : Nat) : State :=
  let t := Rcd.changed { s with rcd := { s.rcd with keep := false } } k
  if boot && s.rcd.keep then { t with rcd := { t.rcd with gen := s.rcd.gen } } else t

/-- RCD_PUBLISH (R309): the record of the live configuration is published, kept in the saddlebag (R543) and sent to the peer (R310). -/
def execRcdPublish (s : State) : Host.Outcome State Fault Refusal :=
  .next (if s.rcd.half || (s.rcd.built && !s.flag Reg.TOP_RCD_FLAGS_STALE) then s
    else
      let leaves := Rcd.tree s
      let root := Rcd.root leaves
      let br := Save.root s
      let gen := s.rcd.gen
      let k := s.rcd.k
      let s1 := (Rcd.show s gen k root br).setFlag Reg.TOP_RCD_FLAGS_STALE false
      let s2 := { s1 with
        rcd := { s1.rcd with leaves := leaves, built := true, own := (k, root) :: s1.rcd.own.take 15, onchg := true }
        pwr := { s1.pwr with persist := { s1.pwr.persist with
          gen := gen, k := k, root := root, baleRoot := br, backlog := (Save.backlog s1 s1.cmd.taken true).length } } }
      Tth.send (s2.fire 53) s2.frameNo (.rcd gen k root br))

/-- RCD_COMPARE (R310): the most recent records of the two devices with the same K; a mismatch makes a follower DETACHED (Table
17-2). -/
def execRcdCompare (s : State) : Host.Outcome State Fault Refusal :=
  .next (if s.role = 0 then s
    else match s.rcd.own.findSome? fun o => (s.rcd.peer.find? fun p => p.2.1 = o.1).map fun p => (o.2, p.2.2.1) with
    | none => s
    | some x =>
      if x.1 = x.2 then s.setFlag Reg.TOP_RCD_FLAGS_PEER_MATCH true
      else
        let t := (s.setFlag Reg.TOP_RCD_FLAGS_PEER_MATCH false).fire 54
        if Twn.follows t then Twn.setRole t (t.frameNo + 1) 3 else t)

/-- The operands of a DIGEST_QUERY after clamping (R313): LEVEL, DEPTH, INDEX, SLOT, and the adjustments made. -/
def Rcd.operands (d : Desc) : (Nat × Nat × Nat × Nat) × Nat :=
  let level := Cmd.clamp (d.field 8 1) 0 13
  let depth := Cmd.clamp (d.field 9 1) 0 (min 4 level.1)
  let index := Cmd.clamp (d.field 12 4) 0 (2 ^ (13 - level.1) - 1)
  let slot := Cmd.clamp (d.field 10 1) 0 7
  ((level.1, depth.1, index.1, slot.1), level.2 + depth.2 + index.2 + slot.2)

/-- DIGEST_QUERY (R313, R314). -/
def Rcd.query (s : State) (run : Run) : State :=
  let o := Rcd.operands run.d
  let x := Cmd.noteAdj s run o.2
  let t := x.1
  let gen := t.reg64 0x000400
  let res := [gen % 2 ^ 32, gen / 2 ^ 32]
  if !t.rcd.built || (!run.d.flag 3 && run.d.field 16 8 != gen) then Cmd.finish t x.2 2 0 res
  else
    let level := o.1.1
    let depth := o.1.2.1
    let index := o.1.2.2.1
    let nodes := Rcd.level t.rcd.leaves (level - depth)
    let bytes := Arith.bytes 8 gen ++ Arith.bytes 8 (t.reg64 0x000408) ++ Arith.bytes 1 level ++ Arith.bytes 1 depth ++ [0, 0] ++
      Arith.bytes 4 index ++ List.replicate 8 0 ++
      (List.range (2 ^ depth)).flatMap fun j => Sha.bytes (Sparse.get nodes (index * 2 ^ depth + j) 0)
    let t1 := t.each (List.range 136) fun u i =>
      u.setReg (0x002000 + 0x400 * o.1.2.2.2 + 4 * i) (BitVec.ofNat 32 (Arith.ofBytes ((bytes.drop (4 * i)).take 4)))
    Cmd.finish t1 x.2 0 0 res

/-- DIGEST_QUERY (R313). -/
def execDigestQuery (s : State) : Host.Outcome State Fault Refusal := .next (Cmd.start s 0x20 Rcd.query)

/-- Big-endian bytes of a number. -/
def Rcd.be (n v : Nat) : List Byte := (Arith.bytes n v).reverse

/-- The 112-byte payload of the announce (Table 09-12). -/
def Rcd.payload (s : State) : List Byte :=
  let id := match Bale.live s with
    | some i => s.reg64 (0x000308 + 0x10 * i)
    | none => 0
  [0x52, 0x43, 0x44, 0x31, 0x01] ++ Rcd.be 1 (s.variant.cap / 2 ^ 56 % 16) ++ Rcd.be 1 s.role ++
    Rcd.be 1 ((if s.flag Reg.TOP_RCD_FLAGS_STALE then 1 else 0) + (if s.flag Reg.TOP_RCD_FLAGS_PEER_MATCH then 2 else 0) +
      (if s.flag Reg.TOP_RCD_FLAGS_NO_BALE then 4 else 0)) ++
    Rcd.be 8 (s.reg64 0x000460) ++ Rcd.be 8 (s.reg64 0x000400) ++ Rcd.be 8 (s.reg64 0x000408) ++
    Sha.bytes (Rcd.getHash s 0x000410) ++ Sha.bytes (Rcd.getHash s 0x000430) ++ Rcd.be 8 id ++ Rcd.be 4 s.nsw.annSeq ++ [0, 0, 0, 0]

/-- An announce leaves on the ports of ANN_PORTS (R311, R353): to TOP_ANN_DST and TOP_ANN_CTL.PORT, with that port as its source port too and
DSCP 0; 112 bytes of payload after 42 bytes of headers, and the FCS. -/
def Rcd.announce (s : State) : State :=
  if s.fld Reg.NSW_SRC_IPV4 = 0 then s
  else
    let dst := s.fld Reg.TOP_ANN_DST_GROUP
    let port := s.fld Reg.TOP_ANN_CTL_PORT
    let t := Egress.sendCp s (s.fld Reg.NSW_SRC_ANN_PORTS) 158 (Nsw.groupMac dst) (some (Nsw.cpIp s dst (some (port, port))))
      (.announce (Rcd.payload s))
    { t with nsw := { t.nsw with annSeq := (t.nsw.annSeq + 1) % 2 ^ 32 } }

/-- ANNOUNCE_PERIODIC (R311): none while PERIOD = 0 or before the first publication after reset. -/
def execAnnouncePeriodic (s : State) : Host.Outcome State Fault Refusal :=
  .next (if s.rcd.built && s.fld Reg.TOP_ANN_CTL_PERIOD ≠ 0 then Rcd.announce s else s)

/-- ANNOUNCE_ON_CHANGE (R311): an extra announce after a publication while ONCHG = 1. -/
def execAnnounceOnChange (s : State) : Host.Outcome State Fault Refusal :=
  .next (if s.rcd.onchg && s.flag Reg.TOP_ANN_CTL_ONCHG then Rcd.announce { s with rcd := { s.rcd with onchg := false } } else s)

end Sys2Proof.Machine
end

