-- ==== Sys2Proof/Machine/Sap.lean ====
section
/-! DEFINITION. Serial audio and AES3 ports (spec 13_serial_aes_ports.md): counts and slips, slot masks, clock loss, AES3
lock and blocks, the port buffer, receive and transmit states. Instants are node time in root cycles; an AUD cycle is 50. -/

namespace Sys2Proof.Machine

/-- T in AUD cycles (R396). -/
def Port.period (s : State) : Nat := if s.rate = 0 then 0 else 49152000 / s.rate

/-- g(c) − e in whole AUD cycles (R394, R396). -/
def Port.rxPhase (s : State) (e c : Nat) : Int := ((Frame.instant s c : Int) - 6144 - e).fdiv 50

/-- e − o(c) in whole AUD cycles (R394, R396). -/
def Port.txPhase (s : State) (e c : Nat) : Int := (10 * ((e : Int) - Frame.instant s c) - 86016).fdiv 500

/-- The count of an edge at `e` after count `prev` (R396), its slips, and whether the previous sample is given again first:
`phase` falls out of [0, 5T/4) where the clocks have drifted. The first edge takes the count with phase in [T/8, 9T/8). -/
def Port.assignRx (s : State) (e : Nat) (prev : Option Nat) : Nat × Nat × Bool :=
  let t : Int := Port.period s
  match prev with
  | none =>
    let est := (e + 6144) / (50 * Port.period s)
    let ok (c : Nat) := decide (t ≤ 8 * Port.rxPhase s e c) && decide (8 * Port.rxPhase s e c < 9 * t)
    (((List.range 5).map fun i => est + i - 1).find? ok |>.getD est, 0, false)
  | some p =>
    let ph := Port.rxPhase s e (p + 1)
    if ph < 0 then (p + 2, 1, true) else if 5 * t ≤ 4 * ph then (p, 1, false) else (p + 1, 0, false)

/-- The count that a slave transmitter plays at an edge at `e` (R396), and its slips. -/
def Port.assignTx (s : State) (e : Nat) (prev : Option Nat) : Nat × Nat :=
  let t : Int := Port.period s
  match prev with
  | none =>
    let est := e / (50 * Port.period s)
    let ok (c : Nat) := decide (t ≤ 8 * Port.txPhase s e c) && decide (8 * Port.txPhase s e c < 9 * t)
    (((List.range 5).map fun i => est + 1 - i).find? ok |>.getD est, 0)
  | some p =>
    let ph := Port.txPhase s e (p + 1)
    if ph < 0 then (p, 1) else if 5 * t ≤ 4 * ph then (p + 2, 1) else (p + 1, 0)

/-- The count whose grid instant a master edge at `e` lies nearest (R395); `tenths` is the grid's offset from t(c) in tenths of
a root cycle. -/
def Port.nearest (s : State) (e : Nat) (tenths : Int) : Nat :=
  let t : Int := 500 * Port.period s
  ((2 * (10 * (e : Int) - tenths) + t).fdiv (2 * t)).toNat

/-- The record of a port. -/
def Port.rec (s : State) (p : Nat) : PortRec := Sparse.get s.sap.ports p {}

/-- `s` with the record of a port replaced. -/
def Port.setRec (s : State) (p : Nat) (x : PortRec) : State :=
  { s with sap := { s.sap with ports := Sparse.put s.sap.ports p {} x } }

/-- Word length of port `p` in bits; a length above the slot width acts as the slot width (R398). -/
def Sap.sw (s : State) (p : Nat) : Nat :=
  let w := if s.fld (Reg.SAP_CFG_SW p) = 0 then 16 else if s.fld (Reg.SAP_CFG_SW p) = 1 then 24 else 32
  if w = 24 ∧ !s.flag (Reg.SAP_CFG_SLAVE p) then 32 else w

/-- Word length in bits (R397, R398). -/
def Sap.wl (s : State) (p : Nat) : Nat :=
  min (Sap.sw s p) (if s.fld (Reg.SAP_CFG_WL p) = 0 then 16 else if s.fld (Reg.SAP_CFG_WL p) = 1 then 24 else 32)

/-- S, the slots of a frame (Table 13-1); a master's S is reduced until BCLK ≤ 24.576 MHz (R398). -/
def Sap.slots (s : State) (p : Nat) : Nat :=
  if s.fld (Reg.SAP_CFG_FMT p) < 2 then 2
  else
    let n := min 4 (s.fld (Reg.SAP_CFG_SLOTS p))
    let fits (k : Nat) := s.flag (Reg.SAP_CFG_SLAVE p) || decide (s.rate * 2 ^ (k + 1) * Sap.sw s p ≤ 24576000)
    2 ^ (((List.range (n + 1)).reverse.find? fits).getD 0 + 1)

/-- The slot mask for a frame whose frame-sync edge lies at `e` (R400). -/
def Sap.mask (s : State) (p e : Nat) : Nat :=
  match (Port.rec s p).oldMask with
  | some m => if e < Frame.boundary s s.frameNo then m else s.fld (Reg.SAP_SLOT_MASK p)
  | none => s.fld (Reg.SAP_SLOT_MASK p)

/-- The P24 value of a received WL-bit word (R399). -/
def Sap.toP24 (wl w : Nat) : Int :=
  let x := Arith.int (Arith.sext wl (w % 2 ^ wl))
  if wl = 16 then x * 256 else if wl = 24 then x else Arith.sat 24 (Arith.conv x 8)

/-- The WL-bit word of a P24 sample (R399). -/
def Sap.fromP24 (wl : Nat) (x : Int) : Nat :=
  let y := if wl = 16 then Arith.sat 16 (Arith.conv x 8) else if wl = 24 then x else x * 256
  (y % 2 ^ wl).toNat

/-- D of the port buffer (R410). -/
def Port.depth (s : State) : Nat := max (2 ^ (5 + s.fld Reg.SAP_PBUF_DLOG)) (4 * s.frameN)

/-- MEMWIN address of the sample of a port-buffer channel at count `c`: SAP slot, or AES3 subframe at port 16 + n (R410). -/
def Port.place (s : State) (p slot c es : Nat) : Nat :=
  let base := s.fld Reg.SAP_PBUF_BASE * 0x40000
  let d := Port.depth s
  if p < 16 then base + 128 * d * p + es * (32 * (c % d) + slot)
  else base + 2048 * d + 8 * d * (p - 16) + es * (2 * (c % d) + slot)

/-- Bytes per sample in the port buffer (R410). -/
def Port.es (s : State) (p : Nat) : Nat :=
  if s.flag (if p < 16 then Reg.SAP_CFG_PACK p else Reg.AES_CFG_PACK (p - 16)) then 4 else 3

/-- Samples are written: frames run and there is no CLASH (R411, R414). -/
def Port.placing (s : State) : Bool := s.running && !s.flag Reg.SAP_PBUF_CLASH && s.rate ≠ 0

/-- The samples of one count are written to the port buffer and its mark is set (R410, R412), with the `mask` of the slots enabled in the
frame that brought them (R400). -/
def Port.store (s : State) (p c mask : Nat) (xs : List Int) : State :=
  if !Port.placing s then s
  else
    let es := Port.es s p
    let s1 := xs.zipIdx.foldl (fun t x =>
      Mem.write t 2 ((Arith.bytes es (Arith.word x.1).toNat).zipIdx.map fun b => (Port.place s p x.2 c es + b.2, b.1))) s
    { s1 with sap := { s1.sap with marks := Sparse.put s1.sap.marks (1024 * p + c % Port.depth s) 0 (2 ^ 32 + mask) } }

/-- A frame of samples `xs` at edge `e` of receiving port `p` takes its count and is stored (R396); answers the slips. -/
def Port.take (s : State) (p e mask : Nat) (xs : List Int) : State × Nat :=
  let x := Port.rec s p
  let r := Port.assignRx s e x.count
  let s1 := s.when r.2.2 fun t => Port.store t p (r.1 - 1) mask x.prev
  (Port.setRec (Port.store s1 p r.1 mask xs) p { x with count := some r.1, prev := xs }, r.2.1)

/-- CLK_OK takes `b`; each change fires E096 + p, a change to 0 counts in LOSS and restarts the count (R396, R403). -/
def Sap.setClk (s : State) (p : Nat) (b : Bool) : State :=
  if s.flag (Reg.SAP_ST_CLK_OK p) = b then s
  else
    let s1 := Port.setRec s p { Port.rec s p with count := none, bad := 0 }
    let s2 := (s1.setFlag (Reg.SAP_ST_CLK_OK p) b).fire (96 + p)
    s2.when (!b) fun t => t.incCnt (Reg.SAP_CNT_LOSS p)

/-- The BCLK count of a slave's frame is checked (R403): a wrong one counts, the second in a row clears CLK_OK. -/
def Sap.checkFrame (s : State) (p bclks : Nat) : State :=
  let x := Port.rec s p
  if !s.flag (Reg.SAP_CFG_SLAVE p) || bclks == Sap.slots s p * Sap.sw s p then Port.setRec s p { x with bad := 0 }
  else
    let s1 := Port.setRec (s.incCnt (Reg.SAP_CNT_FRM_ERR p)) p { x with bad := x.bad + 1 }
    if x.bad = 0 then s1 else Sap.setClk s1 p false

/-- Port `p` is present, enabled and of the direction `tx`. -/
def Sap.on (s : State) (p : Nat) (tx : Bool) : Bool :=
  decide (p < s.variant.saps) && s.flag (Reg.SAP_CFG_EN p) && s.flag (Reg.SAP_CFG_DIR p) == tx

/-- SAP_FRAME_RECEIVE (R396 to R400, R403, R410). -/
def execSapFrameReceive (port at_ bclks : Nat) (lost : Bool) (words : List Nat) (s : State) :
    Host.Outcome State Fault Refusal :=
  if !Sap.on s port false then .next s
  else
    let s0 := Sap.checkFrame (s.when lost fun t => Clk.overrun t (27 + port)) port bclks
    if !s0.flag (Reg.SAP_ST_CLK_OK port) || s.rate == 0 then .next s0
    else
      let slave := s.flag (Reg.SAP_CFG_SLAVE port)
      let mask := Sap.mask s port at_
      let new := (List.range (Sap.slots s port)).map fun i =>
        if mask.testBit i then Sap.toP24 (Sap.wl s port) (words.getD i 0) else 0
      let xs := if (Port.rec s0 port).bad = 0 then new else (Port.rec s0 port).prev
      if slave then
        let r := Port.take s0 port at_ mask xs
        let c := (Port.rec r.1 port).count.getD 0
        .next ((r.1.addCnt (Reg.SAP_CNT_SLIP port) r.2).setFld (Reg.SAP_ST_PHASE port) (Port.rxPhase s at_ c).toNat)
      else
        let c := Port.nearest s at_ (-61440)
        .next (Port.setRec (Port.store s0 port c mask xs) port { Port.rec s0 port with count := some c, prev := xs })

/-- SAP_CLOCK_LOSS (R403): no frame-sync edge within 2T + 1 µs, or a frame rate outside fs ± 0.5 %. -/
def execSapClockLoss (port : Nat) (s : State) : Host.Outcome State Fault Refusal :=
  if decide (port < s.variant.saps) && s.flag (Reg.SAP_CFG_EN port) && s.flag (Reg.SAP_CFG_SLAVE port) then
    .next (Sap.setClk s port false)
  else .next s

/-- SAP_CLOCK_PRESENT (R403): 256 consecutive frames without a fault. -/
def execSapClockPresent (port : Nat) (s : State) : Host.Outcome State Fault Refusal :=
  if decide (port < s.variant.saps) && s.flag (Reg.SAP_CFG_EN port) && s.flag (Reg.SAP_CFG_SLAVE port) && (Port.rec s port).bad == 0 then
    .next (Sap.setClk s port true)
  else .next s

/-- SAP_CFG[p] was written (R403, R412): a disabled port or a master reads CLK_OK = 1, a disabled port is OFF, an enabled one
leaves OFF for MUTED. -/
def Sap.cfgWritten (s : State) (p : Nat) : State :=
  let en := s.flag (Reg.SAP_CFG_EN p)
  let s1 := s.when (!en || !s.flag (Reg.SAP_CFG_SLAVE p)) fun t => (Sap.setClk t p true).setFld (Reg.SAP_ST_PHASE p) 0
  if !en then (Port.setRec s1 p {}).setFld (Reg.SAP_ST_STATE p) 0
  else if s1.fld (Reg.SAP_ST_STATE p) = 0 then s1.setFld (Reg.SAP_ST_STATE p) 1
  else s1

/-- The outlet samples of count `c`. -/
def Port.row (s : State) (c : Nat) : PlayRow := (s.sap.play.find? fun r => r.count = c).getD ⟨c, false, []⟩

/-- The transmit state in which count `c` is played (R413): from `st` and fade index `m`; `ok` says that the clock is present
and RUN = 1. Answers state and index before and after the sample. -/
def Port.txState (s : State) (st m c : Nat) (ok : Bool) : (Nat × Nat) × (Nat × Nat) :=
  let before := if !ok then (1, 0) else if (st = 0 ∨ st = 1) ∧ c % s.frameN = 0 then (2, 0) else (max 1 st, m)
  let after := if before.1 = 2 then (if before.2 < 15 then (2, before.2 + 1) else (3, 0)) else before
  (before, after)

/-- The value sent for sample `x` in transmit state `st` at index `m`: zero, faded in, or x; ramped to zero over N samples
while the MUTE level is asserted (R469). -/
def Port.txValue (s : State) (r : PortRec) (st m : Nat) (x : Int) : Int :=
  let y := Arith.sat 24 (Rx.value st m 0 x)
  if !s.flag Reg.FC_STAT_MUTE then y
  else if r.mute < s.frameN then Fade.mix y 0 (Fade.weight false s.frameN r.mute) else 0

/-- The transmit state and record with which the next frame of port `r` is played: after the MUTE level has ended it fades in
over 16 samples (R470). -/
def Port.unmute (s : State) (st : Nat) (r : PortRec) : Nat × PortRec :=
  if s.flag Reg.FC_STAT_MUTE || r.mute == 0 then (st, r) else (if st = 3 then 2 else st, { r with mute := 0, m := 0 })

/-- The record after a frame was played. -/
def Port.played (s : State) (r : PortRec) (count : Option Nat) (m : Nat) : PortRec :=
  { r with count := count, m := m, mute := if s.flag Reg.FC_STAT_MUTE then min 16 (r.mute + 1) else r.mute }

/-- SAP_FRAME_TRANSMIT (R396 to R401, R413, R414). -/
def execSapFrameTransmit (port at_ bclks : Nat) (s : State) : Host.Outcome State Fault Refusal :=
  if !Sap.on s port true ∨ s.rate = 0 then .next s
  else
    let s0 := Sap.checkFrame s port bclks
    let slave := s.flag (Reg.SAP_CFG_SLAVE port)
    let u := Port.unmute s (s0.fld (Reg.SAP_ST_STATE port)) (Port.rec s0 port)
    let x := u.2
    let r := if slave then Port.assignTx s at_ x.count else (Port.nearest s at_ 86016, 0)
    let row := Port.row s r.1
    let t := Port.txState s u.1 x.m r.1 (s0.flag (Reg.SAP_ST_CLK_OK port) && s.running)
    let gated := s.flag (Reg.SAP_CFG_ROLE_GATE port) && !row.owner
    let mask := Sap.mask s port at_
    let slot (i : Nat) : Option Nat :=
      if s.fld Reg.FC_STAT_SAFE / 2 % 2 = 1 then some 0
      else if !mask.testBit i || gated then (if s.flag (Reg.SAP_CFG_HIZ port) then none else some 0)
      else
        let wl := Sap.wl s port
        some (Sap.fromP24 wl (Port.txValue s x t.1.1 t.1.2 (Sparse.get row.vals (32 * port + i) 0)) * 2 ^ (Sap.sw s port - wl))
    let s1 := Port.setRec s0 port (Port.played s x (some r.1) t.2.2)
    let s2 := (s1.setFld (Reg.SAP_ST_STATE port) t.2.1).addCnt (Reg.SAP_CNT_SLIP port) r.2
    let s3 := s2.when slave fun u => u.setFld (Reg.SAP_ST_PHASE port) (Port.txPhase s at_ r.1).toNat
    .next (s3.send (.sap port r.1 ((List.range (Sap.slots s port)).map slot)))

/-- The block record of AES3 port `n`. -/
def Aes.rec (s : State) (n : Nat) : AesRec := Sparse.get s.sap.aes n {}

/-- `s` with the block record of AES3 port `n` replaced. -/
def Aes.setRec (s : State) (n : Nat) (x : AesRec) : State :=
  { s with sap := { s.sap with aes := Sparse.put s.sap.aes n {} x } }

/-- LOCK takes `l`; each change fires E112 + n (R405). Leaving LOCKED ends the block and the count. -/
def Aes.setLock (s : State) (n l : Nat) : State :=
  if s.fld (Reg.AES_ST_LOCK n) = l then s
  else
    let s1 := Port.setRec s (16 + n) { Port.rec s (16 + n) with count := none, bad := 0 }
    let x := Aes.rec s1 n
    let s2 := Aes.setRec s1 n { x with seek := none, pos := none, whole := false, cs0 := [], cs1 := [], u0 := [], u1 := [] }
    (s2.setFld (Reg.AES_ST_LOCK n) l).fire (112 + n)

/-- AES_NOSIG (R405). -/
def execAesNosig (port : Nat) (s : State) : Host.Outcome State Fault Refusal :=
  if s.variant.aess ≤ port then .next s
  else .next ((Aes.setLock s port 0).setFlag (Reg.AES_ST_RATE_ERR port) false)

/-- AES_SEEK (R405): from NOSIG, with the receiver enabled. -/
def execAesSeek (port : Nat) (s : State) : Host.Outcome State Fault Refusal :=
  if s.variant.aess ≤ port ∨ !s.flag (Reg.AES_CFG_RX_EN port) ∨ s.fld (Reg.AES_ST_LOCK port) ≠ 0 then .next s
  else .next (Aes.setLock s port 1)

/-- AES_CFG[n] was written: RX_EN = 0 takes the receiver to NOSIG and its port to OFF (R405, R412), an enabled one leaves OFF
for MUTED; TX_EN = 0 takes the transmitter to OFF. -/
def Aes.cfgWritten (s : State) (n : Nat) : State :=
  let rx := s.flag (Reg.AES_CFG_RX_EN n)
  let tx := s.flag (Reg.AES_CFG_TX_EN n)
  let s1 := s.when (!rx) fun t =>
    ((Port.setRec ((Aes.setLock t n 0).setFlag (Reg.AES_ST_RATE_ERR n) false) (16 + n) {}).setFld (Reg.AES_ST_STATE n) 0).setFld
      (Reg.AES_ST_PHASE n) 0
  let s2 := s1.when (rx && s1.fld (Reg.AES_ST_STATE n) == 0) fun t => t.setFld (Reg.AES_ST_STATE n) 1
  let s3 := s2.when (!tx) fun t => (Port.setRec t (24 + n) {}).setFld (Reg.AES_ST_TXSTATE n) 0
  s3.when (tx && s3.fld (Reg.AES_ST_TXSTATE n) == 0) fun t => t.setFld (Reg.AES_ST_TXSTATE n) 1

/-- One step of the CRC-8 of R407 with polynomial x^8 + x^4 + x^3 + x^2 + 1. -/
def Aes.crcStep (acc : Nat) (b : Bool) : Nat :=
  let top := decide (128 ≤ acc) != b
  let sh := acc * 2 % 256
  if top then sh ^^^ 0x1D else sh

/-- The CRCC over bytes 0–22, in transmission order, bit 0 of each byte first, from 0xFF (R407): the register with its most
significant bit sent first, as the eight bits of byte 23 in order. -/
def Aes.crc (bits : List Bool) : List Bool :=
  let r := (bits.take 184).foldl Aes.crcStep 0xFF
  (List.range 8).map fun i => r.testBit (7 - i)

/-- A block's channel status may be stored: consumer, or a correct CRCC (R407). -/
def Aes.csOk (bits : List Bool) : Bool := !bits.getD 0 false || bits.drop 184 == Aes.crc bits

/-- Twelve register words of two 192-bit blocks. -/
def Aes.words (b0 b1 : List Bool) : List Word :=
  let bits := b0 ++ b1
  (List.range 12).map fun w =>
    BitVec.ofNat 32 (((bits.drop (32 * w)).take 32).zipIdx.foldl (fun a x => if x.1 then a + 2 ^ x.2 else a) 0)

/-- A block ended at its Z preamble (R407): stored when whole and correct. -/
def Aes.blockEnd (s : State) (n : Nat) : State :=
  let x := Aes.rec s n
  if !x.whole || x.cs0.length ≠ 192 then s
  else if !Aes.csOk x.cs0 || !Aes.csOk x.cs1 then s.incCnt (Reg.AES_CNT1_CS_CRC n)
  else
    let put (base : Nat) (t : State) (ws : List Word) : State := ws.zipIdx.foldl (fun u w => u.setReg (base + 4 * w.2) w.1) t
    let s1 := put (0x080800 + 0x40 * n) (put (0x080400 + 0x40 * n) s (Aes.words x.cs0 x.cs1)) (Aes.words x.u0 x.u1)
    (s1.incWrap (Reg.AES_CSSEQ_SEQ n)).setFlag (Reg.AES_ST_CS_PRO n) (x.cs0.getD 0 false)

/-- The block position of a frame in LOCKED (R406): Z is expected every 192 frames; `z` says that it came. -/
def Aes.block (s : State) (n : Nat) (z : Bool) : State :=
  let x := Aes.rec s n
  let err := fun (t : State) => t.incCnt (Reg.AES_CNT1_BLK_ERR n)
  let start (w : Bool) (t : State) := Aes.setRec t n { Aes.rec t n with pos := some 0, whole := w, cs0 := [], cs1 := [], u0 := [], u1 := [] }
  match x.pos with
  | none => start z s
  | some p =>
    if p = 191 then (if z then start true (Aes.blockEnd s n) else start false (err s))
    else if z then start true (err s)
    else Aes.setRec s n { x with pos := some (p + 1) }

/-- The status bits of a frame join its block; a parity error leaves the block not whole. -/
def Aes.collect (s : State) (n : Nat) (a b : AesSub) : State :=
  let x := Aes.rec s n
  Aes.setRec s n { x with
    whole := x.whole && a.parity && b.parity
    cs0 := x.cs0 ++ [a.c], cs1 := x.cs1 ++ [b.c], u0 := x.u0 ++ [a.u], u1 := x.u1 ++ [b.u] }

/-- Both preambles are valid and there is no biphase violation. -/
def Aes.good (a b : AesSub) : Bool := (a.pre == 1 || a.pre == 3) && b.pre == 2 && !a.bip && !b.bip

/-- A frame in SEEK (Table 13-3): two Z preambles 192 good frames apart lock the receiver. -/
def Aes.seekFrame (s : State) (n : Nat) (a b : AesSub) (rate : Bool) : State :=
  let x := Aes.rec s n
  let s1 := s.setFlag (Reg.AES_ST_RATE_ERR n) (!rate)
  if !Aes.good a b || !rate then Aes.setRec s1 n { x with seek := none }
  else if a.pre = 3 then
    if x.seek = some 191 then Aes.setLock s1 n 2 else Aes.setRec s1 n { x with seek := some 0 }
  else Aes.setRec s1 n { x with seek := x.seek.bind fun k => if k < 191 then some (k + 1) else none }

/-- The sample of a subframe: the previous one again on a parity error (R404). -/
def Aes.sample (x : AesSub) (prev : Int) : Int := if x.parity then Arith.int (Arith.sext 24 x.audio) else prev

/-- A frame in LOCKED (R404 to R407). -/
def Aes.lockedFrame (s : State) (n e : Nat) (a b : AesSub) (rate : Bool) : State :=
  let x := Port.rec s (16 + n)
  let bad := if Aes.good a b then 0 else x.bad + 1
  if bad = 4 ∨ !rate then (Aes.setLock s n 1).setFlag (Reg.AES_ST_RATE_ERR n) (!rate)
  else
    let s1 := Aes.collect (Aes.block (Port.setRec s (16 + n) { x with bad := bad }) n (decide (a.pre = 3))) n a b
    let s2 := s1.addCnt (Reg.AES_CNT0_PAR_ERR n) ((if a.parity then 0 else 1) + if b.parity then 0 else 1)
    if s.rate = 0 then s2
    else
      let r := Port.take s2 (16 + n) e 3 [Aes.sample a (x.prev.getD 0 0), Aes.sample b (x.prev.getD 1 0)]
      let c := (Port.rec r.1 (16 + n)).count.getD 0
      (r.1.addCnt (Reg.AES_CNT0_SLIP n) r.2).setFld (Reg.AES_ST_PHASE n) (Port.rxPhase s e c).toNat

/-- AES_FRAME_RECEIVE (R404 to R407): the frame whose second Z locks the receiver begins the first block. A frame of which crossing 59 + port
`lost` a subframe, being full, does not arrive (R58). -/
def execAesFrameReceive (port at_ : Nat) (lost : Bool) (s0 s1 : AesSub) (rate : Bool) (s : State) : Host.Outcome State Fault Refusal :=
  if s.variant.aess ≤ port ∨ !s.flag (Reg.AES_CFG_RX_EN port) ∨ s.fld (Reg.AES_ST_LOCK port) = 0 then .next s
  else if lost then .next (Clk.overrun s (59 + port))
  else
    let t := if s.fld (Reg.AES_ST_LOCK port) = 1 then Aes.seekFrame s port s0 s1 rate else s
    if t.fld (Reg.AES_ST_LOCK port) = 2 then .next (Aes.lockedFrame t port at_ s0 s1 rate) else .next t

/-- The bits of channel-status block `u` in twelve register words. -/
def Aes.csBits (ws : List Word) (u : Nat) : List Bool :=
  (List.range 192).map fun i => (ws.getD (6 * u + i / 32) 0).toNat.testBit (i % 32)

/-- C of subframe `u` at block position `i`: byte 23 is the CRCC with AUTOCRC = 1 (R408). -/
def Aes.cBit (auto : Bool) (ws : List Word) (u i : Nat) : Bool :=
  let bits := Aes.csBits ws u
  if auto && decide (184 ≤ i) then (Aes.crc bits).getD (i - 184) false else bits.getD i false

/-- A subframe as sent: audio, V, U = 0, C, and P for even parity (R408). -/
def Aes.subframe (audio : Nat) (v c : Bool) : Nat :=
  let w := audio + (if v then 2 ^ 24 else 0) + if c then 2 ^ 26 else 0
  let ones := ((List.range 27).filter fun i => w.testBit i).length
  w + if ones % 2 = 1 then 2 ^ 27 else 0

/-- AES_FRAME_TRANSMIT (R395, R396, R408, R409, R413). -/
def execAesFrameTransmit (port at_ : Nat) (s : State) : Host.Outcome State Fault Refusal :=
  if s.variant.aess ≤ port ∨ !s.flag (Reg.AES_CFG_TX_EN port) ∨ s.rate = 0 then .next s
  else
    let un := Port.unmute s (s.fld (Reg.AES_ST_TXSTATE port)) (Port.rec s (24 + port))
    let x := un.2
    let locked := s.fld (Reg.AES_ST_LOCK port) == 2
    let slave := s.flag (Reg.AES_CFG_TX_SLAVE port) && locked
    let r := if slave then Port.assignTx s at_ x.count else (Port.nearest s at_ 86016, 0)
    let row := Port.row s r.1
    let gated := s.flag (Reg.AES_CFG_ROLE_GATE port) && !row.owner
    let ok := s.running && !gated && (locked || !s.flag (Reg.AES_CFG_TX_SLAVE port))
    let t := Port.txState s un.1 x.m r.1 ok
    let z := r.1 % 192 == 0
    let live := (List.range 12).map fun w => s.reg (0x080C00 + 0x40 * port + 4 * w)
    let ws := if z || (Aes.rec s port).txcs.isEmpty then live else (Aes.rec s port).txcs
    let sub (u : Nat) :=
      let v := Port.txValue s x t.1.1 t.1.2 (Sparse.get row.vals (512 + 2 * port + u) 0)
      Aes.subframe (v % 2 ^ 24).toNat (t.1.1 == 1) (Aes.cBit (s.flag (Reg.AES_CFG_AUTOCRC port)) ws u (r.1 % 192))
    let s1 := Port.setRec s (24 + port) (Port.played s x (if slave then some r.1 else none) t.2.2)
    let s2 := (Aes.setRec s1 port { Aes.rec s1 port with txcs := ws }).setFld (Reg.AES_ST_TXSTATE port) t.2.1
    let low := s.fld Reg.FC_STAT_SAFE / 2 % 2 = 1
    .next ((s2.addCnt (Reg.AES_CNT0_SLIP port) r.2).when (!low) fun t => t.send (.aes port r.1 z (sub 0) (sub 1)))

/-- The mark of count `c` of receiving port `p`: 0 not written, else 2^32 plus the mask of its frame (R400, R412). -/
def Port.mark (s : State) (p c : Nat) : Nat := Sparse.get s.sap.marks (1024 * p + c % Port.depth s) 0

/-- The slots of port `p` that are enabled for count `c` (R400): by its frame, or as they are now where none was written. -/
def Port.enabled (s : State) (p c : Nat) : Nat :=
  if 2 ^ 32 ≤ Port.mark s p c then Port.mark s p c - 2 ^ 32 else if p < 16 then s.fld (Reg.SAP_SLOT_MASK p) else 3

/-- The intake pass of frame `k` over one receiving port (R412): its present samples, the values of its channels, its state
before and after; a slot that is masked supplies zero (R402). `chans` are its channels, `dest` the first of them in `supplied`. -/
def Port.pass (k p chans dest : Nat) (valid : Bool) (st : Fld) (s : State) : State :=
  let x := Port.rec s p
  let es := Port.es s p
  let cnt (j : Nat) := k * s.frameN + j
  let rows := (List.range s.frameN).map fun j =>
    (valid && !s.flag Reg.SAP_PBUF_CLASH && Port.mark s p (cnt j) != 0,
      (List.range chans).map fun c => Arith.int (Arith.sext (8 * es) (Mem.elem s (Port.place s p c (cnt j) es) es)))
  let r := Rx.frame { st := s.fld st, m := x.m, h := x.h, last := x.last } rows
  let s0 := s.each ((List.range s.frameN).filter fun j => (rows.getD j (false, [])).1) fun t j =>
    t.each (List.range chans) fun u c => Mem.noteRange u 2 (Port.place s p c (cnt j) es) es
  let s1 := (Port.setRec s0 p { x with m := r.1.m, h := r.1.h, last := r.1.last }).setFld st r.1.st
  (List.range chans).foldl (fun u c =>
    { u with sap := { u.sap with
        supplied := Sparse.put u.sap.supplied (dest + c) [] (r.2.1.zipIdx.map fun row =>
          if (Port.enabled s p (cnt row.2)).testBit c then row.1.getD c 0 else 0)
        late := if r.2.2.2 then u.sap.late ++ [dest + c] else u.sap.late } }) s1

/-- The intake pass of frame `k` over every receiving port; the marks of the frame's positions are then cleared (R412). -/
def Port.intake (s : State) (k : Nat) : State :=
  let s0 := { s with sap := { s.sap with supplied := [], late := [] } }
  let s1 := s0.each ((List.range s.variant.saps).filter fun p => Sap.on s p false) fun t p =>
    Port.pass k p (Sap.slots t p) (32 * p) (t.flag (Reg.SAP_ST_CLK_OK p)) (Reg.SAP_ST_STATE p) t
  let s2 := s1.each ((List.range s.variant.aess).filter fun n => s.flag (Reg.AES_CFG_RX_EN n)) fun t n =>
    Port.pass k (16 + n) 2 (512 + 2 * n) (t.fld (Reg.AES_ST_LOCK n) == 2) (Reg.AES_ST_STATE n) t
  let gone (c : Nat) := (List.range s.frameN).any fun j => (k * s.frameN + j) % Port.depth s == c
  { s2 with sap := { s2.sap with marks := s2.sap.marks.filter fun e => !gone (e.1 % 1024) } }

/-- What intake channel source KIND 2 INDEX `i`, or KIND 3 at 512 + INDEX, supplies for sample `j` (R402, R404). -/
def Port.supply (s : State) (i j : Nat) : Int := (Sparse.get s.sap.supplied i []).getD j 0

/-- The outlet channel code of transmit slot `n`: SAP slot below 512, AES3 subframe from 512, drive channel from
528 (R437). -/
def Port.txMap (s : State) (n : Nat) : Nat :=
  if n < 512 then s.fld (Reg.SAP_TXMAP_OC n)
  else if 528 ≤ n then s.fld (Reg.DRV_CH_OC (n - 528))
  else if n % 2 = 0 then s.fld (Reg.AES_TXMAP_OCA ((n - 512) / 2)) else s.fld (Reg.AES_TXMAP_OCB ((n - 512) / 2))

/-- Boundary `k`: the outlet samples that play out in the frame, by transmit slot under the maps now live (R401, R408), and
the slot masks that the boundary replaced (R400). -/
def Port.boundary (old s : State) (k : Nat) (outlet : Nat → Nat → Int) : State :=
  let row (j : Nat) : PlayRow :=
    { count := k * s.frameN + j, owner := decide (s.role ≤ 1)
      vals := ((List.range 592).filter fun n => Port.txMap s n ≠ 0x7FF).foldl
        (fun m n => Sparse.put m n 0 (outlet (min (Port.txMap s n) 0x5FF) j)) [] }
  let play := s.sap.play ++ (List.range s.frameN).map row
  let s1 := { s with sap := { s.sap with play := play.drop (play.length - 64) } }
  s1.each (List.range s.variant.saps) fun t p =>
    let m := old.fld (Reg.SAP_SLOT_MASK p)
    Port.setRec t p { Port.rec t p with oldMask := if m = s.fld (Reg.SAP_SLOT_MASK p) then none else some m }

end Sys2Proof.Machine
end

