-- ==== Sys2Proof/Machine/SfbCoef.lean ====
section
/-! DEFINITION. The coefficients of the compensation filters (spec 14_sense_filters.md: R421, Table 14-1): C[0] to C[h] of each
response at 48, 96 and 192 kHz, as R421 derives them; the filters are symmetric. -/

namespace Sys2Proof.Machine

/-- Response 1 at 48000 Hz. -/
def Sfb.coef1_1 : List Int :=
  [-71564154, -46812747, -1589677, 56285578, 116805859, 169506660, 205275534, 217927718]

/-- Response 1 at 96000 Hz. -/
def Sfb.coef1_2 : List Int :=
  [-71564118, -46812717, -1589658, 56285582, 116805847, 169506635, 205275500, 217927681]

/-- Response 1 at 192000 Hz. -/
def Sfb.coef1_3 : List Int :=
  [-71563974, -46812598, -1589585, 56285597, 116805802, 169506537, 205275366, 217927534]

/-- Response 2 at 48000 Hz. -/
def Sfb.coef2_1 : List Int :=
  [-72616051, -47682762, -2127375, 56173168, 117138175, 170226241, 206257959, 219003116]

/-- Response 2 at 96000 Hz. -/
def Sfb.coef2_2 : List Int :=
  [-72616003, -47682722, -2127351, 56173173, 117138160, 170226208, 206257914, 219003066]

/-- Response 2 at 192000 Hz. -/
def Sfb.coef2_3 : List Int :=
  [-72615810, -47682562, -2127252, 56173194, 117138099, 170226076, 206257733, 219002869]

/-- Response 3 at 48000 Hz. -/
def Sfb.coef3_1 : List Int :=
  [-73675679, -48559170, -2669026, 56059932, 117472933, 170951111, 207247603, 220086416]

/-- Response 3 at 96000 Hz. -/
def Sfb.coef3_2 : List Int :=
  [-73675618, -48559120, -2668995, 56059939, 117472914, 170951069, 207247546, 220086354]

/-- Response 3 at 192000 Hz. -/
def Sfb.coef3_3 : List Int :=
  [-73675375, -48558919, -2668870, 56059965, 117472837, 170950903, 207247319, 220086105]

/-- Response 4 at 48000 Hz. -/
def Sfb.coef4_1 : List Int :=
  [-34603571, -18176253, 7485336, 30894116, 40971370, 31763343, 5347797, -28252635, -54244770, -58277583] ++
  [-31861263, 23972328, 98158508, 172544047, 227379555, 247541175]

/-- Response 4 at 96000 Hz. -/
def Sfb.coef4_2 : List Int :=
  [-34603474, -18176198, 7485323, 30894037, 40971256, 31763240, 5347754, -28252591, -54244642, -58277404] ++
  [-31861090, 23972437, 98158510, 172543932, 227379352, 247540939]

/-- Response 4 at 192000 Hz. -/
def Sfb.coef4_3 : List Int :=
  [-34603083, -18175978, 7485271, 30893722, 40970798, 31762830, 5347579, -28252417, -54244127, -58276688] ++
  [-31860397, 23972871, 98158518, 172543476, 227378540, 247539993]

/-- Response 5 at 48000 Hz. -/
def Sfb.coef5_1 : List Int :=
  [-35323911, -18582482, 7581102, 31474954, 41814785, 32519852, 5671046, -28571554, -55188501, -59593244] ++
  [-33136557, 23172529, 98142175, 173381315, 228870930, 249276949]

/-- Response 5 at 96000 Hz. -/
def Sfb.coef5_2 : List Int :=
  [-35323778, -18582408, 7581084, 31474847, 41814629, 32519712, 5670986, -28571496, -55188328, -59593002] ++
  [-33136322, 23172676, 98142178, 173381161, 228870656, 249276630]

/-- Response 5 at 192000 Hz. -/
def Sfb.coef5_3 : List Int :=
  [-35323248, -18582108, 7581014, 31474420, 41814008, 32519155, 5670747, -28571262, -55187634, -59592035] ++
  [-33135384, 23173265, 98142191, 173380546, 228869560, 249275355]

/-- Response 6 at 48000 Hz. -/
def Sfb.coef6_1 : List Int :=
  [-36057965, -18996931, 7677567, 32065453, 42673406, 33291459, 6003441, -28891149, -56143144, -60926759] ++
  [-34430722, 22359349, 98122761, 174227189, 230380023, 251033872]

/-- Response 6 at 96000 Hz. -/
def Sfb.coef6_2 : List Int :=
  [-36057797, -18996836, 7677545, 32065317, 42673208, 33291281, 6003364, -28891076, -56142925, -60926453] ++
  [-34430425, 22359536, 98122766, 174226995, 230379677, 251033468]

/-- Response 6 at 192000 Hz. -/
def Sfb.coef6_3 : List Int :=
  [-36057121, -18996454, 7677457, 32064773, 42672418, 33290570, 6003057, -28890783, -56142048, -60925227] ++
  [-34429235, 22360284, 98122784, 174226218, 230378290, 251031854]

/-- Response 7 at 48000 Hz. -/
def Sfb.coef7_1 : List Int :=
  [16851164, -6107157, -20896276, -7258973, 16584666, 18151302, -5285328, -22206290, -8988086, 17346391] ++
  [20845566, -4641935, -25299449, -11807345, 19518384, 25965907, -4023893, -31630838, -17034448, 24367622] ++
  [36592955, -3052934, -46075023, -29399820, 36719938, 66182967, 928875, -96531940, -86584751, 94897187] ++
  [340961865, 455561219]

/-- Response 7 at 96000 Hz. -/
def Sfb.coef7_2 : List Int :=
  [16851014, -6107104, -20896091, -7258906, 16584521, 18151139, -5285287, -22206094, -8988000, 17346243] ++
  [20845377, -4641905, -25299227, -11807227, 19518223, 25965668, -4023880, -31630564, -17034270, 24367436] ++
  [36592617, -3052963, -46074640, -29399492, 36719714, 66182356, 928645, -96531285, -86583674, 94897607] ++
  [340961059, 455559800]

/-- Response 7 at 192000 Hz. -/
def Sfb.coef7_3 : List Int :=
  [16850416, -6106892, -20895350, -7258639, 16583942, 18150486, -5285120, -22205309, -8987655, 17345651] ++
  [20844619, -4641785, -25298338, -11806756, 19517582, 25964716, -4023831, -31629470, -17033559, 24366694] ++
  [36591263, -3053079, -46073107, -29398181, 36718819, 66179916, 927726, -96528666, -86579367, 94899289] ++
  [340957835, 455554121]

/-- Response 8 at 48000 Hz. -/
def Sfb.coef8_1 : List Int :=
  [17991867, -6511507, -22308175, -7769262, 17688138, 19396141, -5602015, -23702025, -9648273, 18472139] ++
  [22290507, -4866550, -26990750, -12709609, 20734783, 27782610, -4110904, -33711326, -18396203, 25769705] ++
  [39172724, -2813322, -48979951, -31911268, 38384955, 70812272, 2729835, -101407198, -94686688, 91696280] ++
  [346976949, 466194067]

/-- Response 8 at 96000 Hz. -/
def Sfb.coef8_2 : List Int :=
  [17991654, -6511432, -22307911, -7769167, 17687932, 19395909, -5601956, -23701746, -9648150, 18471929] ++
  [22290237, -4866508, -26990435, -12709440, 20734556, 27782271, -4110889, -33710938, -18395948, 25769444] ++
  [39172243, -2813368, -48979410, -31910798, 38384647, 70811409, 2729495, -101406297, -94685184, 91696877] ++
  [346975836, 466192097]

/-- Response 8 at 192000 Hz. -/
def Sfb.coef8_3 : List Int :=
  [17990803, -6511130, -22306857, -7768786, 17687108, 19394979, -5601720, -23700629, -9647656, 18471089] ++
  [22289158, -4866342, -26989172, -12708765, 20733650, 27780914, -4110826, -33709386, -18394929, 25768401] ++
  [39170316, -2813553, -48977246, -31908919, 38383416, 70807959, 2728136, -101402692, -94679167, 91699266] ++
  [346971384, 466184216]

/-- Response 9 at 48000 Hz. -/
def Sfb.coef9_1 : List Int :=
  [19209246, -6942430, -23814782, -8315098, 18864449, 20725637, -5937217, -25297587, -10356153, 19670058] ++
  [23834370, -5100234, -28793511, -13678790, 22025148, 29723699, -4191517, -35924957, -19860860, 27247273] ++
  [41926159, -2530021, -52055459, -34610964, 40101863, 75719842, 4722250, -106440172, -103175118, 88286418] ++
  [353207433, 477263874]

/-- Response 9 at 96000 Hz. -/
def Sfb.coef9_2 : List Int :=
  [19208962, -6942330, -23814431, -8314971, 18864175, 20725327, -5937139, -25297215, -10355987, 19669779] ++
  [23834010, -5100180, -28793090, -13678563, 22024848, 29723246, -4191499, -35924441, -19860517, 27246929] ++
  [41925516, -2530089, -52054743, -34610333, 40101466, 75718699, 4721781, -106439009, -103173148, 88287213] ++
  [353205992, 477261310]

/-- Response 9 at 192000 Hz. -/
def Sfb.coef9_3 : List Int :=
  [19207826, -6941928, -23813025, -8314461, 18863077, 20724086, -5936827, -25295726, -10355326, 19668662] ++
  [23832568, -5099964, -28791408, -13677657, 22023646, 29721433, -4191427, -35922377, -19859147, 27245555] ++
  [41922946, -2530361, -52051879, -34607808, 40099880, 75714128, 4719903, -106434357, -103165268, 88290394] ++
  [353200227, 477251052]

/-- Response 10 at 48000 Hz. -/
def Sfb.coef10_1 : List Int :=
  [8449376, 5323804, 221912, -4977819, -8355145, -8652872, -5741899, -675566, 4689007, 8367315] ++
  [8976793, 6252787, 1160008, -4446258, -8491140, -9442411, -6885994, -1700458, 4241031, 8741449] ++
  [10085174, 7685189, 2330659, -4066454, -9146426, -10962666, -8717768, -3100085, 3916530, 9755534] ++
  [12170265, 10093413, 4087715, -3785181, -10656224, -13873899, -12003282, -5431439, 3664487, 12011786] ++
  [16385642, 14812613, 7399495, -3540059, -14158494, -20364737, -19316583, -10596728, 3374690, 17906852] ++
  [27478090, 27633982, 16738904, -3024275, -25811368, -43489280, -47894352, -33341892, 1368841, 52099806] ++
  [109998967, 163503376, 201203997, 214784350]

/-- Response 10 at 96000 Hz. -/
def Sfb.coef10_2 : List Int :=
  [8449303, 5323757, 221910, -4977776, -8355073, -8652796, -5741848, -675559, 4688967, 8367243] ++
  [8976715, 6252731, 1159995, -4446221, -8491066, -9442328, -6885932, -1700440, 4240997, 8741375] ++
  [10085086, 7685119, 2330634, -4066423, -9146349, -10962571, -8717688, -3100052, 3916502, 9755453] ++
  [12170159, 10093320, 4087671, -3785158, -10656138, -13873779, -12003171, -5431379, 3664470, 12011693] ++
  [16385502, 14812475, 7399411, -3540053, -14158390, -20364566, -19316401, -10596603, 3374705, 17906737] ++
  [27477869, 27633721, 16738694, -3024349, -25811251, -43488971, -47893909, -33341420, 1369217, 52099976] ++
  [109998867, 163503009, 201203435, 214783716]

/-- Response 10 at 192000 Hz. -/
def Sfb.coef10_3 : List Int :=
  [8449007, 5323570, 221900, -4977604, -8354782, -8652493, -5741644, -675530, 4688808, 8366953] ++
  [8976400, 6252507, 1159947, -4446074, -8490774, -9441996, -6885683, -1700368, 4240862, 8741077] ++
  [10084732, 7684840, 2330535, -4066299, -9146041, -10962187, -8717369, -3099919, 3916392, 9755130] ++
  [12169735, 10092948, 4087493, -3785065, -10655794, -13873299, -12002726, -5431139, 3664401, 12011319] ++
  [16384941, 14811922, 7399076, -3540025, -14157977, -20363883, -19315676, -10596104, 3374763, 17906274] ++
  [27476985, 27632679, 16737852, -3024645, -25810784, -43487737, -47892138, -33339532, 1370721, 52100654] ++
  [109998463, 163501537, 201201185, 214781182]

/-- Response 11 at 48000 Hz. -/
def Sfb.coef11_1 : List Int :=
  [8585300, 5409762, 226197, -5057034, -8489047, -8792424, -5835689, -688628, 4762244, 8500716] ++
  [9121777, 6355902, 1182499, -4513993, -8625571, -9594966, -7000474, -1733573, 4303445, 8878557] ++
  [10247975, 7813865, 2376335, -4123360, -9288089, -11139233, -8864676, -3161383, 3967200, 9904026] ++
  [12365475, 10264548, 4169544, -3827959, -10814431, -14094911, -12208038, -5542073, 3695854, 12183476] ++
  [16643684, 15066872, 7554071, -3552143, -14348407, -20678913, -19650241, -10826820, 3347089, 18118649] ++
  [27884134, 28113159, 17126443, -2886902, -26023903, -44054266, -48706060, -34207879, 678263, 51787808] ++
  [110182736, 164176875, 202234688, 215945660]

/-- Response 11 at 96000 Hz. -/
def Sfb.coef11_2 : List Int :=
  [8585200, 5409699, 226194, -5056976, -8488948, -8792322, -5835620, -688619, 4762190, 8500618] ++
  [9121671, 6355826, 1182483, -4513943, -8625472, -9594854, -7000389, -1733548, 4303399, 8878456] ++
  [10247856, 7813770, 2376302, -4123318, -9287985, -11139103, -8864568, -3161337, 3967163, 9903917] ++
  [12365331, 10264422, 4169484, -3827928, -10814315, -14094748, -12207887, -5541991, 3695831, 12183350] ++
  [16643494, 15066685, 7553957, -3552134, -14348267, -20678681, -19649995, -10826651, 3347110, 18118493] ++
  [27883835, 28112807, 17126158, -2887003, -26023748, -44053851, -48705463, -34207242, 678770, 51788038] ++
  [110182601, 164176381, 202233931, 215944807]

/-- Response 11 at 192000 Hz. -/
def Sfb.coef11_3 : List Int :=
  [8584800, 5409446, 226181, -5056742, -8488554, -8791911, -5835344, -688580, 4761974, 8500225] ++
  [9121244, 6355522, 1182416, -4513744, -8625076, -9594405, -7000052, -1733451, 4303216, 8878052] ++
  [10247376, 7813391, 2376167, -4123150, -9287568, -11138583, -8864136, -3161157, 3967014, 9903480] ++
  [12364757, 10263918, 4169243, -3827802, -10813849, -14094098, -12207284, -5541665, 3695740, 12182845] ++
  [16642734, 15065936, 7553501, -3552099, -14347709, -20677757, -19649013, -10825973, 3347192, 18117871] ++
  [27882641, 28111396, 17125017, -2887410, -26023125, -44052192, -48703078, -34204696, 680801, 51788956] ++
  [110182062, 164174403, 202230903, 215941395]

/-- Response 12 at 48000 Hz. -/
def Sfb.coef12_1 : List Int :=
  [8723395, 5497099, 230562, -5137501, -8625080, -8934212, -5931001, -701935, 4836615, 8636227] ++
  [9269085, 6460703, 1205411, -4582749, -8762112, -9749964, -7116837, -1767307, 4366761, 9017791] ++
  [10413377, 7944667, 2422868, -4181034, -9431914, -11318605, -9014021, -3223832, 4018477, 10054733] ++
  [12563760, 10438521, 4252916, -3871124, -10974915, -14319353, -12416180, -5654799, 3727278, 12357494] ++
  [16905630, 15325299, 7711570, -3563716, -14540618, -20997616, -19989234, -11061223, 3317850, 18332355] ++
  [28295381, 28599446, 17520846, -2745182, -26236277, -44623762, -49526027, -35083748, -21072, 51470744] ++
  [110366738, 164856055, 203275109, 217118194]

/-- Response 12 at 96000 Hz. -/
def Sfb.coef12_2 : List Int :=
  [8723268, 5497019, 230558, -5137427, -8624955, -8934081, -5930913, -701922, 4836547, 8636103] ++
  [9268950, 6460606, 1205390, -4582686, -8761987, -9749822, -7116730, -1767276, 4366703, 9017663] ++
  [10413225, 7944547, 2422825, -4180981, -9431782, -11318440, -9013883, -3223775, 4018430, 10054594] ++
  [12563577, 10438361, 4252840, -3871084, -10974767, -14319146, -12415989, -5654696, 3727249, 12357334] ++
  [16905389, 15325061, 7711425, -3563706, -14540441, -20997323, -19988922, -11061007, 3317878, 18332159] ++
  [28295004, 28598999, 17520483, -2745313, -26236083, -44623239, -49525274, -35082943, -20430, 51471036] ++
  [110366570, 164855432, 203274154, 217117117]

/-- Response 12 at 192000 Hz. -/
def Sfb.coef12_3 : List Int :=
  [8722760, 5496698, 230542, -5137131, -8624455, -8933560, -5930562, -701873, 4836273, 8635604] ++
  [9268408, 6460221, 1205305, -4582433, -8761484, -9749251, -7116302, -1767152, 4366470, 9017151] ++
  [10412616, 7944066, 2422654, -4180769, -9431253, -11317780, -9013334, -3223545, 4018242, 10054040] ++
  [12562848, 10437720, 4252533, -3870926, -10974177, -14318321, -12415223, -5654280, 3727134, 12356694] ++
  [16904425, 15324110, 7710845, -3563664, -14539735, -20996150, -19987675, -11060144, 3317987, 18331374] ++
  [28293492, 28597211, 17519031, -2745837, -26235305, -44621149, -49522262, -35079724, -17859, 51472202] ++
  [110365896, 164852938, 203270333, 217112811]

/-- Response 13 at 48000 Hz. -/
def Sfb.coef13_1 : List Int :=
  [-5615584, -2922806, 1174079, 4713214, 5997152, 4405359, 693488, -3364592, -5822796, -5494173] ++
  [-2522806, 1678704, 5099355, 6090245, 4157665, 208172, -3875560, -6130164, -5453353, -2141342] ++
  [2239357, 5590986, 6286613, 3957737, -312824, -4492649, -6564353, -5496530, -1755023, 2897820] ++
  [6230585, 6609669, 3797041, -909218, -5271209, -7171674, -5637831, -1335363, 3716387, 7088113] ++
  [7103994, 3669931, -1640443, -6302225, -8034053, -5908513, -840593, 4799279, 8287273, 7853928] ++
  [3573434, -2608424, -7750573, -9306171, -6373352, -198105, 6342631, 10069091, 9030334, 3508328] ++
  [-4014067, -9953458, -11313930, -7176162, 741967, 8773265, 12973865, 11028858, 3484521, -6328967] ++
  [-13730483, -14875364, -8695006, 2363170, 13241075, 18513888, 15004891, 3550539, -11002951, -21733986] ++
  [-22780145, -12313425, 6058787, 24294852, 33135907, 26333313, 4108998, -25768345, -50032399, -54571555] ++
  [-30025149, 23859069, 96945591, 171237790, 226479886, 246876812]

/-- Response 13 at 96000 Hz. -/
def Sfb.coef13_2 : List Int :=
  [-5615520, -2922772, 1174066, 4713160, 5997084, 4405308, 693480, -3364554, -5822729, -5494110] ++
  [-2522777, 1678686, 5099297, 6090175, 4157617, 208169, -3875516, -6130094, -5453290, -2141317] ++
  [2239333, 5590923, 6286541, 3957691, -312822, -4492599, -6564278, -5496467, -1755001, 2897788] ++
  [6230515, 6609593, 3796996, -909209, -5271150, -7171592, -5637765, -1335345, 3716347, 7088033] ++
  [7103912, 3669886, -1640428, -6302155, -8033961, -5908442, -840579, 4799228, 8287180, 7853836] ++
  [3573389, -2608399, -7750487, -9306064, -6373275, -198096, 6342564, 10068977, 9030227, 3508280] ++
  [-4014030, -9953349, -11313799, -7176072, 741971, 8773174, 12973719, 11028724, 3484466, -6328910] ++
  [-13730334, -14875189, -8694889, 2363167, 13240942, 18513679, 15004701, 3550464, -11002862, -21733756] ++
  [-22779871, -12313235, 6058787, 24294631, 33135536, 26332945, 4108812, -25768218, -50031938, -54570871] ++
  [-30024456, 23859524, 96945623, 171237345, 226479069, 246875855]

/-- Response 13 at 192000 Hz. -/
def Sfb.coef13_3 : List Int :=
  [-5615263, -2922638, 1174012, 4712945, 5996809, 4405106, 693447, -3364401, -5822463, -5493858] ++
  [-2522659, 1678611, 5099066, 6089896, 4157424, 208156, -3875342, -6129814, -5453038, -2141215] ++
  [2239235, 5590669, 6286252, 3957505, -312814, -4492398, -6563979, -5496211, -1754914, 2897663] ++
  [6230233, 6609288, 3796815, -909177, -5270915, -7171264, -5637501, -1335273, 3716187, 7087713] ++
  [7103583, 3669707, -1640366, -6301876, -8033593, -5908161, -840524, 4799023, 8286806, 7853468] ++
  [3573206, -2608301, -7750145, -9305636, -6372965, -198060, 6342296, 10068523, 9029798, 3508088] ++
  [-4013880, -9952912, -11313274, -7175710, 741983, 8772810, 12973133, 11028189, 3484247, -6328682] ++
  [-13729739, -14874490, -8694421, 2363154, 13240411, 18512843, 15003941, 3550163, -11002503, -21732837] ++
  [-22778773, -12312475, 6058785, 24293747, 33134052, 26331472, 4108066, -25767712, -50030095, -54568136] ++
  [-30021687, 23861345, 96945752, 171235566, 226475800, 246872025]

/-- Response 14 at 48000 Hz. -/
def Sfb.coef14_1 : List Int :=
  [-5734284, -2984707, 1198651, 4812612, 6123917, 4498833, 708785, -3435080, -5945627, -5610688] ++
  [-2577084, 1713062, 5206420, 6219120, 4246631, 214179, -3956111, -6259359, -5569564, -2188559] ++
  [2284602, 5707996, 6419957, 4043439, -316669, -4585452, -6702717, -5614481, -1795374, 2955825] ++
  [6360687, 6750409, 3880696, -924153, -5379531, -7323032, -5760030, -1368671, 3790168, 7235908] ++
  [7256160, 3752930, -1668669, -6431115, -8204067, -6038470, -866238, 4893724, 8459947, 8023675] ++
  [3657710, -2653693, -7908278, -9504019, -6516708, -214910, 6466041, 10278880, 9228252, 3597281] ++
  [-4082921, -10154668, -11556317, -7343555, 735772, 8941007, 13244317, 11276228, 3585974, -6433559] ++
  [-14005074, -15198289, -8911492, 2368670, 13485774, 18899916, 15356185, 3690309, -11167278, -22157581] ++
  [-23287102, -12665262, 6057975, 24700950, 33819790, 27013561, 4455586, -25997529, -50877395, -55828361] ++
  [-31299014, 23019873, 96883924, 172053392, 227980315, 248635275]

/-- Response 14 at 96000 Hz. -/
def Sfb.coef14_2 : List Int :=
  [-5734197, -2984661, 1198633, 4812539, 6123823, 4498764, 708774, -3435028, -5945537, -5610602] ++
  [-2577044, 1713037, 5206341, 6219025, 4246566, 214175, -3956052, -6259264, -5569479, -2188524] ++
  [2284568, 5707910, 6419858, 4043376, -316666, -4585384, -6702615, -5614394, -1795345, 2955782] ++
  [6360591, 6750305, 3880635, -924142, -5379452, -7322921, -5759940, -1368646, 3790114, 7235799] ++
  [7256048, 3752868, -1668649, -6431020, -8203942, -6038375, -866219, 4893654, 8459819, 8023550] ++
  [3657648, -2653659, -7908162, -9503873, -6516602, -214898, 6465950, 10278725, 9228107, 3597215] ++
  [-4082870, -10154520, -11556139, -7343431, 735777, 8940883, 13244118, 11276045, 3585899, -6433482] ++
  [-14004871, -15198051, -8911332, 2368666, 13485594, 18899631, 15355926, 3690205, -11167157, -22157269] ++
  [-23286728, -12665002, 6057976, 24700651, 33819286, 27013059, 4455329, -25997362, -50876775, -55827437] ++
  [-31298076, 23020491, 96883971, 172052793, 227979212, 248633982]

/-- Response 14 at 192000 Hz. -/
def Sfb.coef14_3 : List Int :=
  [-5733847, -2984479, 1198561, 4812246, 6123450, 4498489, 708729, -3434820, -5945174, -5610259] ++
  [-2576884, 1712936, 5206025, 6218645, 4246303, 214157, -3955815, -6258883, -5569136, -2188385] ++
  [2284435, 5707565, 6419465, 4043123, -316655, -4585110, -6702207, -5614046, -1795226, 2955611] ++
  [6360208, 6749890, 3880388, -924098, -5379132, -7322474, -5759579, -1368548, 3789896, 7235364] ++
  [7255599, 3752624, -1668566, -6430641, -8203441, -6037991, -866143, 4893376, 8459310, 8023050] ++
  [3657399, -2653526, -7907697, -9503289, -6516179, -214848, 6465587, 10278107, 9227523, 3596952] ++
  [-4082667, -10153927, -11555424, -7342938, 735796, 8940389, 13243320, 11275316, 3585599, -6433174] ++
  [-14004062, -15197099, -8910694, 2368651, 13484874, 18898494, 15354890, 3689792, -11166674, -22156021] ++
  [-23285234, -12663964, 6057981, 24699457, 33817272, 27011054, 4454305, -25996692, -50874291, -55823740] ++
  [-31294327, 23022962, 96884155, 172050396, 227974800, 248628811]

/-- Response 15 at 48000 Hz. -/
def Sfb.coef15_1 : List Int :=
  [-5855488, -3047916, 1223737, 4914102, 6253355, 4594286, 724418, -3507042, -6071043, -5729669] ++
  [-2632528, 1748121, 5315727, 6350716, 4337496, 220347, -4038333, -6391270, -5688246, -2236812] ++
  [2330756, 5827447, 6556120, 4130990, -320537, -4680165, -6843988, -5734953, -1836644, 3014983] ++
  [6493496, 6894134, 3966185, -939313, -5490070, -7477572, -5884864, -1402787, 3865401, 7386769] ++
  [7411568, 3837787, -1697354, -6562624, -8377658, -6171265, -892587, 4990005, 8636192, 8197064] ++
  [3743937, -2699703, -8069162, -9706035, -6663247, -232332, 6591811, 10492991, 9430454, 3688401] ++
  [-4152877, -10359882, -11803822, -7514759, 728992, 9111863, 13520299, 11529017, 3690102, -6539703] ++
  [-14284996, -15528026, -9133092, 2373365, 13734734, 19293667, 15715271, 3834206, -11333499, -22588844] ++
  [-23804521, -13025752, 6054604, 25112587, 34515911, 27708240, 4812833, -26224831, -51731152, -57102278] ++
  [-32592524, 22165722, 96817857, 172877298, 229499247, 250416126]

/-- Response 15 at 96000 Hz. -/
def Sfb.coef15_2 : List Int :=
  [-5855376, -3047857, 1223714, 4914008, 6253235, 4594199, 724403, -3506976, -6070928, -5729559] ++
  [-2632477, 1748089, 5315626, 6350595, 4337413, 220341, -4038257, -6391149, -5688136, -2236767] ++
  [2330713, 5827337, 6555995, 4130909, -320534, -4680077, -6843858, -5734842, -1836606, 3014929] ++
  [6493374, 6894001, 3966106, -939299, -5489968, -7477429, -5884749, -1402755, 3865332, 7386630] ++
  [7411425, 3837709, -1697327, -6562503, -8377498, -6171143, -892563, 4989916, 8636030, 8196904] ++
  [3743858, -2699661, -8069014, -9705849, -6663112, -232316, 6591695, 10492794, 9430268, 3688317] ++
  [-4152812, -10359693, -11803594, -7514602, 728999, 9111706, 13520045, 11528784, 3690006, -6539606] ++
  [-14284739, -15527722, -9132887, 2373361, 13734505, 19293304, 15714940, 3834073, -11333347, -22588447] ++
  [-23804044, -13025419, 6054608, 25112208, 34515271, 27707600, 4812503, -26224623, -51730368, -57101106] ++
  [-32591335, 22166508, 96817918, 172876541, 229497851, 250414489]

/-- Response 15 at 192000 Hz. -/
def Sfb.coef15_3 : List Int :=
  [-5854929, -3047624, 1223621, 4913634, 6252758, 4593847, 724346, -3506710, -6070466, -5729120] ++
  [-2632272, 1747959, 5315223, 6350110, 4337078, 220318, -4037954, -6390663, -5687699, -2236589] ++
  [2330543, 5826897, 6555493, 4130586, -320520, -4679729, -6843338, -5734398, -1836454, 3014711] ++
  [6492885, 6893472, 3965791, -939243, -5489561, -7476860, -5884289, -1402629, 3865055, 7386075] ++
  [7410852, 3837396, -1697222, -6562019, -8376859, -6170653, -892465, 4989561, 8635380, 8196265] ++
  [3743540, -2699492, -8068421, -9705105, -6662571, -232251, 6591232, 10492005, 9429523, 3687980] ++
  [-4152555, -10358937, -11802681, -7513970, 729024, 9111077, 13519028, 11527852, 3689622, -6539215] ++
  [-14283708, -15526507, -9132070, 2373345, 13733589, 19291854, 15713617, 3833541, -11332736, -22586859] ++
  [-23802137, -13024089, 6054623, 25110695, 34512708, 27705040, 4811183, -26223793, -51727231, -57096422] ++
  [-32586576, 22169653, 96818165, 172873515, 229492268, 250407943]

/-- C[0] to C[h] of response `resp` for rate code `fs` (Table 01-2). -/
def Sfb.coefHalf (resp fs : Nat) : List Int :=
  match resp, fs with
  | 1, 1 => Sfb.coef1_1
  | 1, 2 => Sfb.coef1_2
  | 1, 3 => Sfb.coef1_3
  | 2, 1 => Sfb.coef2_1
  | 2, 2 => Sfb.coef2_2
  | 2, 3 => Sfb.coef2_3
  | 3, 1 => Sfb.coef3_1
  | 3, 2 => Sfb.coef3_2
  | 3, 3 => Sfb.coef3_3
  | 4, 1 => Sfb.coef4_1
  | 4, 2 => Sfb.coef4_2
  | 4, 3 => Sfb.coef4_3
  | 5, 1 => Sfb.coef5_1
  | 5, 2 => Sfb.coef5_2
  | 5, 3 => Sfb.coef5_3
  | 6, 1 => Sfb.coef6_1
  | 6, 2 => Sfb.coef6_2
  | 6, 3 => Sfb.coef6_3
  | 7, 1 => Sfb.coef7_1
  | 7, 2 => Sfb.coef7_2
  | 7, 3 => Sfb.coef7_3
  | 8, 1 => Sfb.coef8_1
  | 8, 2 => Sfb.coef8_2
  | 8, 3 => Sfb.coef8_3
  | 9, 1 => Sfb.coef9_1
  | 9, 2 => Sfb.coef9_2
  | 9, 3 => Sfb.coef9_3
  | 10, 1 => Sfb.coef10_1
  | 10, 2 => Sfb.coef10_2
  | 10, 3 => Sfb.coef10_3
  | 11, 1 => Sfb.coef11_1
  | 11, 2 => Sfb.coef11_2
  | 11, 3 => Sfb.coef11_3
  | 12, 1 => Sfb.coef12_1
  | 12, 2 => Sfb.coef12_2
  | 12, 3 => Sfb.coef12_3
  | 13, 1 => Sfb.coef13_1
  | 13, 2 => Sfb.coef13_2
  | 13, 3 => Sfb.coef13_3
  | 14, 1 => Sfb.coef14_1
  | 14, 2 => Sfb.coef14_2
  | 14, 3 => Sfb.coef14_3
  | 15, 1 => Sfb.coef15_1
  | 15, 2 => Sfb.coef15_2
  | 15, 3 => Sfb.coef15_3
  | _, _ => [2 ^ 30]

/-- C[n] for n = 0 to T − 1. -/
def Sfb.coef (resp fs : Nat) : List Int :=
  let h := Sfb.coefHalf resp fs
  h ++ (h.reverse.drop 1)

end Sys2Proof.Machine
end

