-- ==== Sys2Proof/Machine/Sfb.lean ====
section
/-! DEFINITION. The sense filter bank (spec 14_sense_filters.md): gaps and restarts, the main, fast and rail paths, the
comparators, the sense buffer. Instants are node time in root cycles; a modulator period is 100. -/

namespace Sys2Proof.Machine

/-- The record of filter channel `i`. -/
def Sfb.chan (s : State) (i : Nat) : SfbChan := Sparse.get s.sfb.chans i {}

/-- `s` with the record of filter channel `i` replaced. -/
def Sfb.setChan (s : State) (i : Nat) (x : SfbChan) : State :=
  { s with sfb := { s.sfb with chans := Sparse.put s.sfb.chans i {} x } }

/-- The bits of input `n` flow (R418). -/
def Sfb.flows (s : State) (n : Nat) : Bool := Sparse.get s.sfb.flows n 0 == 1

/-- M, Q and T of a response (Table 14-1). -/
def Sfb.order (resp : Nat) : Nat := if resp = 0 then 3 else 3 + (resp - 1) % 3

/-- Q of a response. -/
def Sfb.q (resp : Nat) : Nat := if resp ≤ 3 then 1 else if resp ≤ 9 then 2 else 4

/-- T of a response. -/
def Sfb.taps (resp : Nat) : Nat :=
  if resp = 0 then 1 else if resp ≤ 3 then 15 else if resp ≤ 6 then 31 else if resp ≤ 9 then 63 else if resp ≤ 12 then 127
  else 191

/-- U of a response (R423). -/
def Sfb.unsettled (resp : Nat) : Nat := (Sfb.taps resp + Sfb.order resp - 1 + Sfb.q resp - 1) / Sfb.q resp - 1

/-- Modulator periods per sample. -/
def Sfb.periods (s : State) : Nat := if s.rate = 0 then 0 else 24576000 / s.rate

/-- One bit through the integrators: each takes the sum before it. -/
def Cic.integrate (b : Int) : List Int → List Int
  | [] => []
  | i :: is => (i + b) :: Cic.integrate (i + b) is

/-- One decimated value through the combs: the output and their new contents. -/
def Cic.comb (y : Int) : List Int → Int × List Int
  | [] => (y, [])
  | c :: cs => let r := Cic.comb (y - c) cs; (r.1, y :: r.2)

/-- A decimated output of a CIC of order `m` from the bits of one period (R420); an empty record is a cleared one. -/
def Cic.step (m : Nat) (x : Cic) (bits : List Bool) : Cic × Int :=
  let i0 := if x.ints.isEmpty then List.replicate m 0 else x.ints
  let c0 := if x.combs.isEmpty then List.replicate m 0 else x.combs
  let ints := bits.foldl (fun is b => Cic.integrate (if b then 1 else -1) is) i0
  let r := Cic.comb (ints.getLast?.getD 0) c0
  ({ ints := ints, combs := r.2 }, r.1)

/-- The outputs of a CIC over `n` periods of `r` bits each. -/
def Cic.run (m r : Nat) : Nat → Cic → List Bool → Cic × List Int
  | 0, x, _ => (x, [])
  | n + 1, x, bits =>
    let a := Cic.step m x (bits.take r)
    let rest := Cic.run m r n a.1 (bits.drop r)
    (rest.1, a.2 :: rest.2)

/-- STATE of channel `i` takes `st`; leaving SETTLED fires E123, and SFB_ST.SETTLED follows (R424). -/
def Sfb.enter (s : State) (i st : Nat) : State :=
  let old := s.fld (Reg.SFB_CHST_STATE i)
  if old = st then s
  else
    let s1 := s.setFld (Reg.SFB_CHST_STATE i) st
    if old = 2 then (s1.setFld Reg.SFB_ST_SETTLED (s1.fld Reg.SFB_ST_SETTLED - 1)).fire 123
    else if st = 2 then s1.setFld Reg.SFB_ST_SETTLED (s1.fld Reg.SFB_ST_SETTLED + 1)
    else s1

/-- The fast and rail paths of channel `i` become invalid, its comparators cleared (R428, R431, R432). -/
def Sfb.quiet (s : State) (i : Nat) : State :=
  let x := Sfb.chan s i
  let s1 := Sfb.setChan s i { x with fast := {}, fastN := 0, rail := {}, railN := 0, cmpA := {}, cmpB := {} }
  (((s1.setFlag (Reg.SFB_CHST_QA i) false).setFlag (Reg.SFB_CHST_QB i) false).setFlag (Reg.SFB_CHST_FVALID i) false).setFlag
    (Reg.SFB_CHST_RVALID i) false

/-- A restart of channel `i` whose first new sample is count `cs` (R419): the live EN, SRC and RESP come into force and all
three paths are cleared. -/
def Sfb.restart (s : State) (i cs : Nat) : State :=
  let on := s.flag (Reg.SFB_CH_EN i)
  let x := Sfb.chan s i
  let s1 := Sfb.quiet (Sfb.setChan s i { x with
    on := on, src := s.fld (Reg.SFB_CH_SRC i), resp := s.fld (Reg.SFB_CH_RESP i), pend := none, cs := cs, main := {}
    cics := [] }) i
  let s2 := s1.incCnt Reg.SFB_CNT_RESTARTS
  if !on then Sfb.enter s2 i 0
  else if Sfb.runs s2 && s2.flag Reg.SFB_ST_CLK_OK then Sfb.enter s2 i 1
  else Sfb.enter s2 i 3

/-- The present channels. -/
def Sfb.present (s : State) : List Nat := List.range s.variant.snsIn

/-- The first count of a restart at instant `e` (R419): one after the first c with d(c) ≥ e. -/
def Sfb.firstCount (s : State) (e : Nat) : Nat :=
  if s.rate = 0 then 0 else (e + 6100 + (2457600000 / s.rate - 1)) / (2457600000 / s.rate) + 1

/-- The bank starts or stops as R432 gives: on start every input is in a gap and every enabled channel restarts, on stop
enabled channels enter HALT. -/
def Sfb.evalRun (s : State) : State :=
  let want := s.flag Reg.SFB_CTL_EN && s.flag Reg.CLK_GATE_SNS_EN && decide (0 < s.variant.snsIn)
  if Sfb.runs s = want then Sfb.showDriving s
  else if want then
    let s1 := { s.setFlag Reg.SFB_ST_RUN true with sfb := { s.sfb with flows := [], flowed := [] } }
    let cs := Sfb.firstCount s1 s1.tkp.node
    Sfb.showDriving (s1.each ((Sfb.present s1).filter fun i => s1.flag (Reg.SFB_CH_EN i)) fun t i => Sfb.restart t i cs)
  else
    let s1 := s.setFlag Reg.SFB_ST_RUN false
    Sfb.showDriving (s1.each (Sfb.present s1) fun t i =>
      if (Sfb.chan t i).on || t.flag (Reg.SFB_CH_EN i) then Sfb.enter (Sfb.quiet t i) i 3 else t)

/-- SFB_ST.CLK_OK takes `b` (R433): each change fires E122; loss halts the enabled channels, return restarts them. -/
def Sfb.setClk (s : State) (b : Bool) : State :=
  if s.variant.snsIn = 0 ∨ s.flag Reg.SFB_ST_CLK_OK = b then s
  else
    let s1 := (s.setFlag Reg.SFB_ST_CLK_OK b).fire 122
    let on := (Sfb.present s1).filter fun i => s1.flag (Reg.SFB_CH_EN i)
    if b then
      if Sfb.runs s1 then s1.each on fun t i => Sfb.restart t i (Sfb.firstCount t t.tkp.node) else s1
    else s1.each on fun t i => Sfb.enter (Sfb.quiet t i) i 3

/-- The filter channels that read input `n`. -/
def Sfb.readers (s : State) (n : Nat) : List Nat :=
  (Sfb.present s).filter fun i => (Sfb.chan s i).on && (Sfb.chan s i).src == n

/-- A gap begins on an input (R418, R424): counted where the input's bits had flowed. -/
def Sfb.gapBegin (s : State) (input : Nat) (full : Bool) : State :=
  if s.variant.snsIn ≤ input ∨ !Sfb.runs s then s
  else
    let s0 := s.when full fun t => Clk.overrun t (67 + input / 8)
    if !Sfb.flows s0 input then s0
    else
      let s1 := { s0 with sfb := { s0.sfb with flows := Sparse.put s0.sfb.flows input 0 0 } }
      (s1.incCnt Reg.SFB_CNT_GAPS).each (Sfb.readers s1 input) fun t i =>
        (Sfb.quiet t i).when (t.fld (Reg.SFB_CHST_STATE i) == 2) fun u => Sfb.enter u i 1

/-- A gap ends on an input (R418, R419): 64 consecutive periods without a gap; the channels that read the input restart. -/
def Sfb.gapEnd (s : State) (input at_ : Nat) : State :=
  if s.variant.snsIn ≤ input ∨ !Sfb.runs s ∨ Sfb.flows s input then s
  else
    let s1 := { s with sfb := { s.sfb with
      flows := Sparse.put s.sfb.flows input 0 1, flowed := Sparse.put s.sfb.flowed input 0 1 } }
    s1.each (Sfb.readers s1 input) fun t i => Sfb.restart t i (Sfb.firstCount t at_)

/-- D of the sense buffer (R425). -/
def Sfb.depth (s : State) : Nat := max (2 ^ (5 + s.fld Reg.SFB_SBUF_DLOG)) (4 * s.frameN)

/-- MEMWIN address of sample `c` of channel `i` (R425). -/
def Sfb.place (s : State) (c i : Nat) : Nat := s.fld Reg.SFB_SBUF_BASE * 0x40000 + 4 * (128 * (c % Sfb.depth s) + i)

/-- A main-path sample is written to the sense buffer while RUN = 1 and CLASH = 0 (R425, R426): bit 31 is the UNSETTLED mark. -/
def Sfb.write (s : State) (i c : Nat) (mark : Bool) (v : Int) : State :=
  if !s.running || s.flag Reg.SFB_SBUF_CLASH || s.rate == 0 then s
  else
    let w := (v % 2 ^ 31).toNat + if mark then 2 ^ 31 else 0
    let s1 := Mem.write s 2 ((Arith.bytes 4 w).zipIdx.map fun b => (Sfb.place s c i + b.2, b.1))
    { s1 with sfb := { s1.sfb with written := Sparse.put s1.sfb.written (128 * (c % Sfb.depth s) + i) 0 1 } }

/-- The main-path value from the CIC outputs, newest first (R421). -/
def Sfb.mainValue (s : State) (resp : Nat) (cics : List Int) : Int :=
  let m := Sfb.order resp
  let r := Sfb.periods s / Sfb.q resp
  let y := ((Sfb.coef resp (s.fld Reg.TOP_FRAME_CFG_FS)).zip cics).foldl (fun a p => a + p.1 * p.2) 0
  Arith.sat 24 (Arith.conv y (7 + m * Nat.log2 r))

/-- Main-path sample `c` of channel `i` (R420 to R424). -/
def Sfb.mainSample (c : Nat) (bits : List (Nat × List Bool)) (s : State) (i : Nat) : State :=
  let x := Sfb.chan s i
  let st := s.fld (Reg.SFB_CHST_STATE i)
  let mine := ((bits.find? fun b => b.1 = x.src).map fun b => b.2).getD []
  let s1 :=
    if st = 0 then Sfb.write s i c false 0
    else if st = 3 then Sfb.write s i c true 0
    else if !Sfb.flows s x.src || mine.length ≠ Sfb.periods s then
      Sfb.write (if st = 2 then Sfb.enter s i 1 else s) i c true 0
    else
      let q := Sfb.q x.resp
      let r := Cic.run (Sfb.order x.resp) (Sfb.periods s / q) q x.main mine
      let cics := (r.2.reverse ++ x.cics).take (Sfb.taps x.resp)
      let t := Sfb.setChan s i { x with main := r.1, cics := cics }
      if c < x.cs + Sfb.unsettled x.resp then Sfb.write t i c true 0
      else
        let t1 := Sfb.write t i c false (Sfb.mainValue s x.resp cics)
        if t.running && !t.flag Reg.SFB_SBUF_CLASH then Sfb.enter t1 i 2 else t1
  if x.pend = some (c + 1) then Sfb.restart s1 i (c + 1) else s1

/-- MAIN_SAMPLE (R420 to R426): at d(c), every present channel. -/
def execMainSample (count : Nat) (bits : List (Nat × List Bool)) (s : State) : Host.Outcome State Fault Refusal :=
  .next (s.each (Sfb.present s) (Sfb.mainSample count bits))

/-- The comparator of register word `w` on fast sample `f` (R428): its record and Q. -/
def SfbCmp.step (x : SfbCmp) (w : Nat) (valid : Bool) (f : Int) : SfbCmp × Bool :=
  let th : Int := (min 512 (w % 1024) : Nat)
  let hyst : Int := min ((w / 1024 % 1024 : Nat) : Int) th
  let m := w / 2 ^ 20 % 16 + 1
  let k := min m (w / 2 ^ 24 % 16 + 1)
  let v := match w / 2 ^ 30 with
    | 0 => (f.natAbs : Int)
    | 1 => f
    | _ => -f
  let raw := valid && (decide (th < v) || (x.raw && decide (th - hyst < v)))
  let hist := if valid then (x.hist * 2 + if raw then 1 else 0) % 2 ^ 16 else 0
  let ones := ((List.range m).filter fun b => hist.testBit b).length
  ({ raw := raw, hist := hist }, decide (k ≤ ones))

/-- Q of a comparator takes its value; a rise sets its HIT bit and fires (R429). -/
def Sfb.setQ (s : State) (i : Nat) (f : Fld) (hit e : Nat) (q : Bool) : State :=
  let s1 := s.setFlag f q
  if q && !s.flag f then (s1.setVecBit hit i true).fire e else s1

/-- Words 1 to 3 of SFB_CH[i] in force on the fast path: those before the latest boundary until a fast period that began at or after it
has ended (R428, R429). -/
def Sfb.words (s : State) (i : Nat) : Word × Word × Word :=
  (Sfb.chan s i).oldW.getD (s.reg (0x091004 + 0x10 * i), s.reg (0x091008 + 0x10 * i), s.reg (0x09100C + 0x10 * i))

/-- A fast period of channel `i` that began at `from_` ends: from the first that began at or after the latest boundary on, the words that it
made live are in force. -/
def Sfb.renew (s : State) (i from_ : Nat) : State :=
  let x := Sfb.chan s i
  if x.oldW.isSome && decide (Frame.boundary s s.frameNo ≤ from_) then Sfb.setChan s i { x with oldW := none } else s

/-- FAST_SAMPLE of channel `i` (R427, R428): the first two after a restart are invalid. -/
def Sfb.fastSample (s0 : State) (i at_ : Nat) (bits : List Bool) : State :=
  let s := Sfb.renew s0 i (at_ - 800)
  let x := Sfb.chan s i
  let st := s.fld (Reg.SFB_CHST_STATE i)
  if st = 0 ∨ st = 3 then s
  else if !Sfb.flows s x.src || bits.length ≠ 8 then Sfb.quiet s i
  else
    let r := Cic.step 3 x.fast bits
    let valid := decide (2 ≤ x.fastN)
    let w := Sfb.words s i
    let a := x.cmpA.step w.1.toNat valid r.2
    let b := x.cmpB.step w.2.1.toNat valid r.2
    let s1 := Sfb.setChan s i { x with fast := r.1, fastN := min 2 (x.fastN + 1), cmpA := a.1, cmpB := b.1 }
    let s2 := Sfb.setQ (s1.setFlag (Reg.SFB_CHST_FVALID i) valid) i (Reg.SFB_CHST_QA i) 0x092200 120 a.2
    Sfb.setQ s2 i (Reg.SFB_CHST_QB i) 0x092210 121 b.2

/-- RAIL_VALUE of channel `i` (R431): the first three after a restart are invalid. -/
def Sfb.railSample (s : State) (i : Nat) (bits : List Bool) : State :=
  let x := Sfb.chan s i
  let st := s.fld (Reg.SFB_CHST_STATE i)
  if st = 0 ∨ st = 3 then s.setFlag (Reg.SFB_CHST_RVALID i) false
  else if !Sfb.flows s x.src || bits.length ≠ 64 then
    (Sfb.setChan s i { x with rail := {}, railN := 0 }).setFlag (Reg.SFB_CHST_RVALID i) false
  else
    let r := Cic.step 4 x.rail bits
    let s1 := Sfb.setChan s i { x with rail := r.1, railN := min 3 (x.railN + 1) }
    (s1.setFlag (Reg.SFB_CHST_RVALID i) (decide (3 ≤ x.railN))).setFld (Reg.SFB_CHST_RAIL i)
      (Arith.sat 24 (Arith.conv r.2 1) % 2 ^ 24).toNat

/-- The filter channels ask drive channel `d` to trip (R429): Q of an enabled comparator of some channel, while the bank
runs. -/
def Sfb.request (s : State) (d : Nat) : Bool :=
  Sfb.runs s && (Sfb.present s).any fun i =>
    let w := (Sfb.words s i).2.2
    (Reg.SFB_CH_TRIP_DRV i).of w == d &&
    ((s.flag (Reg.SFB_CHST_QA i) && (Reg.SFB_CH_TRIPA i).of w == 1) || (s.flag (Reg.SFB_CHST_QB i) && (Reg.SFB_CH_TRIPB i).of w == 1))

/-- The sample of channel `i` at count `c` as the intake reads it, and its UNSETTLED mark (R263, R426). -/
def Sfb.supply (s : State) (i c : Nat) : Int × Bool :=
  if Sparse.get s.sfb.written (128 * (c % Sfb.depth s) + i) 0 = 0 then (0, true)
  else
    let w := Mem.elem s (Sfb.place s c i) 4
    if w / 2 ^ 31 = 1 then (0, true) else (Arith.int (Arith.sext 24 w), false)

/-- The intake has read frame `k`: its positions count as not written (R426). -/
def Sfb.readDone (s : State) (k : Nat) : State :=
  let gone (c : Nat) := (List.range s.frameN).any fun j => (k * s.frameN + j) % Sfb.depth s == c
  { s with sfb := { s.sfb with written := s.sfb.written.filter fun e => !gone (e.1 / 128) } }

/-- The realignment of the dividers (R47): the fast and rail grids take the new phase, and those paths of every channel restart (R434). -/
def Sfb.realign (s : State) : State := s.each (Sfb.present s) Sfb.quiet

/-- Boundary `k`: channels whose EN, SRC or RESP changed from `old` restart at d(kN + 1), at once while the bank is stopped, and replaced
comparator words stay in force for the fast periods that began before it (R419, R428). -/
def Sfb.boundary (old s : State) (k : Nat) : State :=
  s.each (Sfb.present s) fun t i =>
    let a := 0x091000 + 0x10 * i
    let x := Sfb.chan t i
    let w := (old.reg (a + 4), old.reg (a + 8), old.reg (a + 12))
    let changed := decide (w ≠ (t.reg (a + 4), t.reg (a + 8), t.reg (a + 12)))
    let x1 := { x with oldW := if changed then some w else none }
    if old.reg a = t.reg a then (if x1 = x then t else Sfb.setChan t i x1)
    else if Sfb.runs t then Sfb.setChan t i { x1 with pend := some (k * t.frameN + 2) }
    else Sfb.restart (Sfb.setChan t i x1) i (k * t.frameN + 2)

end Sys2Proof.Machine
end

