-- ==== Sys2Proof/Machine/Drv.lean ====
section
/-! DEFINITION. The drive stage (spec 15_drive_stage.md): gain ramps, feed-forward, sag limiter, noise shaper, channel states,
trips, sense loss, start and stop. -/

namespace Sys2Proof.Machine

/-- The record of drive channel `n`. -/
def Drv.chan (s : State) (n : Nat) : DrvChan := Sparse.get s.drv.chans n {}

/-- `s` with the record of drive channel `n` replaced. -/
def Drv.setChan (s : State) (n : Nat) (x : DrvChan) : State :=
  { s with drv := { s.drv with chans := Sparse.put s.drv.chans n {} x } }

/-- STATE of drive channel `n` (Table 15-2). -/
def Drv.st (s : State) (n : Nat) : Nat := s.fld (Reg.DRV_CHST_STATE n)

/-- RAMP_UP, PLAY or RAMP_DOWN. -/
def Drv.active (s : State) (n : Nat) : Bool := decide (1 ≤ Drv.st s n) && decide (Drv.st s n ≤ 3)

/-- The present drive channels. -/
def Drv.present (s : State) : List Nat := List.range s.variant.drvCh

/-- T2, the ticks of a carrier period (R436). -/
def Drv.t2 (s : State) : Nat := if s.flag Reg.DRV_CTL_CAR then 1600 else 3200

/-- Carrier periods per sample, q (R32); 1 while no bale is live. -/
def Drv.perSample (s : State) : Nat :=
  if s.rate = 0 then 1 else (if s.flag Reg.DRV_CTL_CAR then 768000 else 384000) / s.rate

/-- The conditions under which the drive stage starts, and short of which it stops (R457). -/
def Drv.wanted (s : State) : Bool :=
  s.flag Reg.DRV_CTL_EN && s.flag Reg.CLK_GATE_MOD_EN && Tkp.marking s && !s.drv.dead && decide (0 < s.variant.drvCh)

/-- DRV_ST.RUN follows R457: the stage starts when wanted, and stops when not wanted and no channel ramps or plays; an owner
then drops ownership (Table 17-3). -/
def Drv.evalRun (s : State) : State :=
  if Drv.wanted s then s.setFlag Reg.DRV_ST_RUN true
  else if (Drv.present s).any (Drv.active s) then s
  else Twn.request (s.setFlag Reg.DRV_ST_RUN false) 5

/-- DRV_CTL_EN_WRITE (R457): ramps follow at the carrier boundaries. -/
def Bar.drvCtlEnWrite (en : Bool) (s : State) : State :=
  if s.variant.drvCh = 0 then s else Drv.evalRun (s.setFlag Reg.DRV_CTL_EN en)

/-- DRV_CTL_EN_WRITE (R457), where the access is served (R41, R319). -/
def execDrvCtlEnWrite (en : Bool) (s : State) : Host.Outcome State Fault Refusal := .next (s.bar (Bar.drvCtlEnWrite en))

/-- The rail value of channel `n` is invalid while it uses feed-forward, or its protection is missing (R444). -/
def Drv.senseBad (s : State) (n : Nat) : Bool :=
  (s.flag (Reg.DRV_CH_FFEN n) && !s.flag (Reg.SFB_CHST_RVALID (s.fld (Reg.DRV_CH_RAILCH n)))) ||
  (s.flag (Reg.DRV_CH_PROT n) && !(Sfb.present s).any fun i =>
    s.flag (Reg.SFB_CH_EN i) && (s.flag (Reg.SFB_CH_TRIPA i) || s.flag (Reg.SFB_CH_TRIPB i)) &&
    s.fld (Reg.SFB_CH_TRIP_DRV i) == n && s.flag (Reg.SFB_CHST_FVALID i))

/-- Sense loss ends as soon as its condition does (R444). -/
def Drv.senseEnd (s : State) : State :=
  s.each ((Drv.present s).filter fun n => s.flag (Reg.DRV_CHST_SLOST n) && !Drv.senseBad s n) fun t n =>
    t.setFlag (Reg.DRV_CHST_SLOST n) false

/-- SENSE_LOSS (R444): the condition has held for 64 µs. -/
def execSenseLoss (chan : Nat) (s : State) : Host.Outcome State Fault Refusal :=
  if s.variant.drvCh ≤ chan ∨ !Drv.senseBad s chan then .next s
  else .next (s.setFlag (Reg.DRV_CHST_SLOST chan) true)

/-- Sense loss stops channel `n` (SLOSS = STOP). -/
def Drv.senseStop (s : State) (n : Nat) : Bool := s.flag (Reg.DRV_CHST_SLOST n) && decide (2 ≤ s.fld (Reg.DRV_CH_SLOSS n))

/-- A trip request to this device does not trip: its twin is paired and it does not own the outputs (R456). -/
def Drv.blocked (s : State) : Bool := decide (s.role ≠ 0) && !s.flag Reg.TWN_ST_OWN

/-- REQ of channel `n` follows the filter channels (R429): a rise that a paired non-owner would have tripped on counts in
NOTRIPS (R456), a fall lets a TRIPPED channel whose hold-off has ended retry (R447). -/
def Drv.request (s : State) (n : Nat) : State :=
  let req := Sfb.request s n
  if s.flag (Reg.DRV_CHST_REQ n) = req then s
  else
    let s1 := s.setFlag (Reg.DRV_CHST_REQ n) req
    if req then (if Drv.blocked s ∧ Drv.active s n then s1.incCnt (Reg.DRV_CHST_NOTRIPS n) else s1)
    else if Drv.st s n = 4 ∧ (Drv.chan s n).held then Drv.enter s1 n 0 else s1

/-- The drive stage after the filter channels changed. -/
def Drv.sense (s : State) : State := Drv.senseEnd (s.each (Drv.present s) Drv.request)

/-- SFB_CTL_EN_WRITE (R432). -/
def Bar.sfbCtlEnWrite (en : Bool) (s : State) : State :=
  if s.variant.snsIn = 0 then s else Drv.sense (Sfb.evalRun (s.setFlag Reg.SFB_CTL_EN en))

/-- SFB_CTL_EN_WRITE (R432), where the access is served (R41, R319). -/
def execSfbCtlEnWrite (en : Bool) (s : State) : Host.Outcome State Fault Refusal := .next (s.bar (Bar.sfbCtlEnWrite en))

/-- GAP_BEGIN (R418, R424). -/
def execGapBegin (input : Nat) (full : Bool) (s : State) : Host.Outcome State Fault Refusal :=
  .next (Drv.sense (Sfb.gapBegin s input full))

/-- GAP_END (R418, R419). -/
def execGapEnd (input at_ : Nat) (s : State) : Host.Outcome State Fault Refusal :=
  .next (Drv.sense (Sfb.gapEnd s input at_))

/-- FAST_SAMPLE (R427 to R429): trip requests follow at once. -/
def execFastSample (chan at_ : Nat) (bits : List Bool) (s : State) : Host.Outcome State Fault Refusal :=
  if s.variant.snsIn ≤ chan ∨ !Sfb.runs s then .next s else .next (Drv.sense (Sfb.fastSample s chan at_ bits))

/-- RAIL_VALUE (R431). -/
def execRailValue (chan : Nat) (bits : List Bool) (s : State) : Host.Outcome State Fault Refusal :=
  if s.variant.snsIn ≤ chan ∨ !Sfb.runs s then .next s else .next (Drv.senseEnd (Sfb.railSample s chan bits))

/-- The trips of channel `n` less than LATCH_S seconds before `t` reach LATCH_N − 1 (R448). -/
def Drv.latches (s : State) (n t : Nat) : Bool :=
  let win := s.fld (Reg.DRV_CH_LATCH_S n) * 2457600000
  decide (s.fld (Reg.DRV_CH_LATCH_N n) ≤ ((Drv.chan s n).trips.filter fun x => t < x + win).length + 1)

/-- Channel `n` trips at `t` (R446 to R448). -/
def Drv.trip (s : State) (n t : Nat) : State :=
  let x := Drv.chan s n
  let s1 := Drv.setChan s n { x with
    trips := (t :: x.trips).take 15, hold := t + s.fld (Reg.DRV_CH_HOLDOFF n) * 2457600, held := false }
  ((Drv.enter s1 n (if Drv.latches s n t then 5 else 4)).incCnt (Reg.DRV_CHST_TRIPS n)).fire (128 + n)

/-- TRIP (R446): a request to a channel in RAMP_UP, PLAY or RAMP_DOWN, unless R456 blocks it. -/
def execTrip (chan at_ : Nat) (s : State) : Host.Outcome State Fault Refusal :=
  if s.variant.drvCh ≤ chan ∨ !s.flag (Reg.DRV_CHST_REQ chan) ∨ !Drv.active s chan ∨ Drv.blocked s then .next s
  else .next (Drv.trip s chan at_)

/-- HOLDOFF_EXPIRY (R447): the channel returns to OFF, or waits for its request to fall. -/
def execHoldoffExpiry (chan : Nat) (s : State) : Host.Outcome State Fault Refusal :=
  if s.variant.drvCh ≤ chan ∨ Drv.st s chan ≠ 4 then .next s
  else
    let s1 := Drv.setChan s chan { Drv.chan s chan with held := true }
    .next (if s.flag (Reg.DRV_CHST_REQ chan) then s1 else Drv.enter s1 chan 0)

/-- DRV_UNLATCH (R448): LATCHED channels return to OFF with their trip history cleared. -/
def Bar.drvUnlatch (w : Nat) (v : Word) (s : State) : State :=
  s.each ((Drv.present s).filter fun n => n / 32 = w ∧ v.toNat.testBit (n % 32) ∧ Drv.st s n = 5) fun t n =>
    Drv.enter (Drv.setChan t n { Drv.chan t n with trips := [] }) n 0

/-- DRV_UNLATCH (R448), where the access is served (R41, R319). -/
def execDrvUnlatch (w : Nat) (v : Word) (s : State) : Host.Outcome State Fault Refusal :=
  .next (s.bar (Bar.drvUnlatch w v))

/-- a / b rounded to the nearest integer, halves to even (R442). -/
def Drv.rnd (a : Int) (b : Nat) : Int :=
  let q := a.fdiv b
  let r := 2 * (a - q * b)
  if r > b ∨ (r = b ∧ q % 2 = 1) then q + 1 else q

/-- The cause of the mute gain of channel `n` in precedence, its target and ramp length (Table 15-1). -/
def Drv.cause (s : State) (n : Nat) : Nat × Nat × Nat :=
  let q := Drv.perSample s
  let ramp := 4 ^ (s.fld (Reg.DRV_CH_GRAMP n) + 2) * q
  if s.drv.save.isSome then (1, 0, if s.flag Reg.DRV_CTL_CAR then 768 else 384)
  else if s.flag Reg.DRV_ST_MUTE_FC then (2, 0, min 16 (q * s.frameN))
  else if s.flag (Reg.DRV_CHST_SLOST n) && s.fld (Reg.DRV_CH_SLOSS n) == 1 then (3, 0, ramp)
  else if s.flag (Reg.DRV_CH_MUTE n) || Drv.st s n == 3 then (4, 0, ramp)
  else (5, 2 ^ 23, ramp)

/-- GM of one carrier period (R442): a new cause starts its own ramp from the current GM. -/
def DrvChan.gain (x : DrvChan) (c : Nat × Nat × Nat) : DrvChan :=
  let y := if x.cause = c.1 then x else { x with cause := c.1, g0 := x.gm, m := 0, len := c.2.2 }
  if y.m < y.len then
    { y with m := y.m + 1, gm := ((y.g0 : Int) + Drv.rnd (((c.2.1 : Int) - y.g0) * (y.m + 1)) y.len).toNat }
  else y

/-- FF of one carrier period (R440). -/
def Drv.ff (s : State) (n : Nat) (x : DrvChan) : Nat :=
  if !s.flag (Reg.DRV_CH_FFEN n) then 65536
  else
    let ch := s.fld (Reg.DRV_CH_RAILCH n)
    if !s.flag (Reg.SFB_CHST_RVALID ch) then x.ff
    else
      let r := Arith.int (Arith.sext 24 (s.fld (Reg.SFB_CHST_RAIL ch)))
      if r ≤ 0 then 131072 else min 131072 (s.fld (Reg.DRV_CH_RNOM n) * 65536 / r.toNat)

/-- The clip bound lim in ticks (R439). -/
def Drv.lim (s : State) : Nat := Drv.t2 s - 2 * s.fld Reg.DRV_CTL_MINP - 8

/-- The sag envelope after the sample x (R441). -/
def Drv.sagStep (s : State) (n : Nat) (sag x : Int) : Int :=
  let t : Int := min (x.natAbs : Int) (2 ^ 23)
  if t ≥ sag then t
  else sag + Arith.conv (s.fld (Reg.DRV_CH_SAGRC n) * (t - sag)) (16 + s.fld (Reg.DRV_CH_SRSH n))

/-- The sag gain (R441). -/
def Drv.sagGain (s : State) (n : Nat) (sag : Int) (ff : Nat) : Nat :=
  if !s.flag (Reg.DRV_CH_SAGEN n) then 2 ^ 23
  else
    let a := 2 ^ 23 * Drv.lim s / Drv.t2 s
    let dem := sag.toNat * ff / 65536
    if a < dem then a * 2 ^ 23 / dem else 2 ^ 23

/-- The modulator of R439: W_A, W_B, the new errors and whether the period clipped. -/
def Drv.modulate (t2 lim : Nat) (x : Int) (ff g : Nat) (e : List Int) : Nat × Nat × List Int × Bool :=
  let v0 := Arith.conv (x * ff * g * t2) 46
  let bound : Int := lim * 65536
  let clip := decide (bound < v0) || decide (v0 < -bound)
  let v := max (-bound) (min bound v0)
  let w := v - 4 * e.getD 0 0 + 6 * e.getD 1 0 - 4 * e.getD 2 0 + e.getD 3 0
  let n := Arith.conv w 16
  let e0 := Arith.sat 16 (n * 65536 - w)
  let ceil2 := Int.neg ((Int.neg n).fdiv 2)
  (((t2 / 2 : Nat) + ceil2).toNat, ((t2 / 2 : Nat) - n.fdiv 2).toNat, (e0 :: e).take 4, clip)

/-- The sample value of period `i` of count `c` (R437, R438). -/
def Drv.value (s : State) (n c i : Nat) : Int :=
  let x := Sparse.get (Port.row s c).vals (528 + n) 0
  if s.flag Reg.DRV_CTL_INTERP then
    let p := Sparse.get (Port.row s (c - 1)).vals (528 + n) 0
    p + Arith.conv ((x - p) * (i + 1)) (Nat.log2 (Drv.perSample s))
  else x

/-- Lc, the carrier periods of the common-mode ramp (R445). -/
def Drv.ramp (s : State) (n : Nat) : Nat :=
  2 ^ (min 5 (s.fld (Reg.DRV_CH_CMR n)) + 1) * if s.flag Reg.DRV_CTL_CAR then 768 else 384

/-- Channel `n` may start, or go on ramping up (Table 15-3). -/
def Drv.mayRun (s : State) (n : Nat) : Bool :=
  Drv.wanted s && s.flag (Reg.DRV_CH_EN n) && s.running && !Drv.senseStop s n

/-- The transition of channel `n` at a carrier boundary (Table 15-3). The common-mode ramp of RAMP_DOWN begins from its full height in PLAY, and
from what it has reached in RAMP_UP (R443, R445). -/
def Drv.transit (s : State) (n : Nat) : State :=
  let x := Drv.chan s n
  match Drv.st s n with
  | 0 =>
    if Drv.mayRun s n && !s.flag (Reg.DRV_CHST_REQ n) && s.drv.save.isNone then
      Drv.enter (Drv.setChan s n { x with gm := 0, cause := 0, cm := 0, e := [0, 0, 0, 0], sag := 0 }) n 1
    else s
  | 1 =>
    if s.drv.save.isSome then s
    else if !Drv.mayRun s n || s.flag (Reg.DRV_CHST_REQ n) then Drv.enter s n 3
    else if Drv.ramp s n ≤ x.cm then Drv.enter (Drv.setChan s n { x with gm := 0, cause := 0 }) n 2
    else s
  | 2 => if s.drv.save.isNone && !Drv.mayRun s n then Drv.enter (Drv.setChan s n { x with cm := Drv.ramp s n }) n 3 else s
  | 3 => if x.gm == 0 && x.cm == 0 then Drv.enter s n 0 else s
  | _ => s

/-- A period of the common-mode ramp with `w` completed steps of `len`: both legs high for W ticks; none below MINP (R445). -/
def Drv.common (s : State) (i len : Nat) : Nat :=
  let w := Drv.t2 s * (i + 1) / (2 * len)
  if w < s.fld Reg.DRV_CTL_MINP then 0 else w

/-- Channel `n` in one carrier period, after its transition (R439 to R445): its record and pulses go on. -/
def Drv.period (c i : Nat) (acc : State × List (Nat × Nat × Nat)) (n : Nat) : State × List (Nat × Nat × Nat) :=
  let s := Drv.transit acc.1 n
  let x := Drv.chan s n
  let len := Drv.ramp s n
  match Drv.st s n with
  | 1 =>
    let w := Drv.common s (if s.drv.save.isSome then x.cm - 1 else x.cm) len
    (Drv.setChan s n (if s.drv.save.isSome then x else { x with cm := x.cm + 1 }), acc.2 ++ [(n, w, w)])
  | 0 => (s, acc.2)
  | 4 => (s, acc.2)
  | 5 => (s, acc.2)
  | 6 => (s, acc.2)
  | st =>
    let ff := Drv.ff s n x
    if st = 3 ∧ x.gm = 0 then
      let k := min x.cm len - 1
      let w := Drv.common s k len
      (Drv.setChan s n { x with ff := ff, cm := k }, acc.2 ++ [(n, w, w)])
    else
      let v := Drv.value s n c i
      let sag := if i = 0 ∧ s.flag (Reg.DRV_CH_SAGEN n) then Drv.sagStep s n x.sag (Sparse.get (Port.row s c).vals (528 + n) 0) else x.sag
      let gs := Drv.sagGain s n sag ff
      let y := x.gain (Drv.cause s n)
      let m := Drv.modulate (Drv.t2 s) (Drv.lim s) v ff (gs * y.gm / 2 ^ 23) x.e
      let s1 := (Drv.setChan s n { y with ff := ff, sag := sag, gs := gs, e := m.2.2.1 }).setFld (Reg.DRV_CHST_GS n) gs
      (s1.when m.2.2.2 fun t => t.incCnt (Reg.DRV_CHST_CLIPP n), acc.2 ++ [(n, m.1, m.2.1)])

/-- The SAVE_WARN ramp at a carrier boundary (R454): after its last period every channel enters OFF and the stage stays
stopped until the next reset. -/
def Drv.saveStep (s : State) : State :=
  match s.drv.save with
  | none => s
  | some m =>
    if m < (if s.flag Reg.DRV_CTL_CAR then 768 else 384) then { s with drv := { s.drv with save := some (m + 1) } }
    else
      let s1 := s.each ((Drv.present s).filter (Drv.active s)) fun t n => Drv.enter t n 0
      { s1 with drv := { s1.drv with dead := true } }

/-- CARRIER_PERIOD (R439): at a carrier boundary of the running stage a waiting drop of ownership happens (R494), every channel
takes its transition and plays one period. The boundary lies 3.5 µs after the count's instant and `i` periods on (R32). -/
def execCarrierPeriod (count i : Nat) (s : State) : Host.Outcome State Fault Refusal :=
  if s.variant.drvCh = 0 then .next s
  else
    let s0 := Drv.evalRun (Drv.senseEnd (s.setFlag Reg.DRV_ST_MUTE_FC (s.flag Reg.FC_STAT_MUTE)))
    if !s0.flag Reg.DRV_ST_RUN then .next s0
    else
      let at_ := Frame.instant s count + 8602 + i * (if s.flag Reg.DRV_CTL_CAR then 3200 else 6400)
      let r := (Drv.present s).foldl (Drv.period count i) (Drv.saveStep (Twn.carrier s0 at_), [])
      .next (Drv.evalRun (r.1.when (!r.2.isEmpty) fun t => t.send (.drv count i r.2)))

/-- SAVE_WARN reaches MOD (R454): a stage that is stopped stays so. -/
def Drv.saveWarn (s : State) : State :=
  if s.variant.drvCh = 0 ∨ s.drv.save.isSome then s
  else ({ s with drv := { s.drv with save := some 0, dead := !s.flag Reg.DRV_ST_RUN } } : State).setFlag Reg.DRV_ST_SAVE true

/-- A boundary made new values of LATCH_N or LATCH_S live: that channel's trip history is cleared (R448). -/
def Drv.boundary (old s : State) : State :=
  s.each ((Drv.present s).filter fun n =>
    old.fld (Reg.DRV_CH_LATCH_N n) ≠ s.fld (Reg.DRV_CH_LATCH_N n) ∨ old.fld (Reg.DRV_CH_LATCH_S n) ≠ s.fld (Reg.DRV_CH_LATCH_S n))
    fun t n => Drv.setChan t n { Drv.chan t n with trips := [] }

end Sys2Proof.Machine
end

