-- ==== Sys2Proof/Machine/GraphTab.lean ====
section
/-! DEFINITION. Tables of the signal graph (spec 08_signal_graph.md): high-pass coefficients (R265) and limiter thresholds
(R277). -/

namespace Sys2Proof.Machine

/-- B0, B1, B2, A1, A2 of HPF code `code` for rate code `fs` (R265, Table 08-4). -/
def Graph.hpfCoef (code fs : Nat) : List Int :=
  match code, fs with
  | 1, 1 => [1073601290, -1073601290, 0, -1073460756, 0]
  | 1, 2 => [1073671552, -1073671552, 0, -1073601281, 0]
  | 1, 3 => [1073706687, -1073706687, 0, -1073671550, 0]
  | 2, 1 => [1072748428, -2145496855, 1072748428, -2145495936, 1071755951]
  | 2, 2 => [1073245011, -2146490022, 1073245011, -2146489792, 1072748428]
  | 2, 3 => [1073493389, -2146986777, 1073493389, -2146986720, 1073245011]
  | 3, 1 => [1071755951, -2143511901, 1071755951, -2143508228, 1069773750]
  | 3, 2 => [1072748428, -2145496855, 1072748428, -2145495936, 1071755951]
  | 3, 3 => [1073245011, -2146490022, 1073245011, -2146489792, 1072748428]
  | 4, 1 => [1069773750, -2139547500, 1069773750, -2139532835, 1065820340]
  | 4, 2 => [1071755951, -2143511901, 1071755951, -2143508228, 1069773750]
  | 4, 3 => [1072748428, -2145496855, 1072748428, -2145495936, 1071755951]
  | 5, 1 => [1067498751, -2134997501, 1067498751, -2134961202, 1061291977]
  | 5, 2 => [1070615737, -2141231474, 1070615737, -2141222372, 1067498751]
  | 5, 3 => [1072177641, -2144355282, 1072177641, -2144353004, 1070615737]
  | 6, 1 => [1065820340, -2131640679, 1065820340, -2131582238, 1057957296]
  | 6, 2 => [1069773750, -2139547500, 1069773750, -2139532835, 1065820340]
  | 6, 3 => [1071755951, -2143511901, 1071755951, -2143508228, 1069773750]
  | 7, 1 => [1061881538, -2123763076, 1061881538, -2123632067, 1050152262]
  | 7, 2 => [1067795215, -2135590430, 1067795215, -2135557497, 1061881540]
  | 7, 3 => [1070764392, -2141528783, 1070764392, -2141520527, 1067795215]
  | _, _ => [2 ^ 30, 0, 0, 0, 0]

/-- round(2^23 · 10^(−TH / 200)) for TH = 0–600 (R277). -/
def Graph.thTable : List Int :=
  [8388608, 8292584, 8197660, 8103822, 8011058, 7919357, 7828704, 7739090, 7650501, 7562927, 7476355, 7390774] ++
  [7306172, 7222539, 7139863, 7058134, 6977340, 6897471, 6818517, 6740466, 6663308, 6587034, 6511633, 6437095] ++
  [6363410, 6290569, 6218561, 6147378, 6077009, 6007446, 5938680, 5870700, 5803499, 5737067, 5671395, 5606475] ++
  [5542298, 5478856, 5416140, 5354142, 5292854, 5232267, 5172374, 5113166, 5054636, 4996776, 4939579, 4883036] ++
  [4827140, 4771884, 4717261, 4663263, 4609883, 4557114, 4504949, 4453381, 4402404, 4352010, 4302193, 4252946] ++
  [4204263, 4156137, 4108563, 4061532, 4015040, 3969080, 3923647, 3878733, 3834334, 3790442, 3747054, 3704161] ++
  [3661760, 3619844, 3578408, 3537447, 3496954, 3456925, 3417353, 3378235, 3339565, 3301337, 3263547, 3226190] ++
  [3189260, 3152753, 3116663, 3080987, 3045719, 3010855, 2976390, 2942320, 2908640, 2875345, 2842431, 2809894] ++
  [2777729, 2745933, 2714500, 2683428, 2652711, 2622345, 2592328, 2562654, 2533319, 2504320, 2475654, 2447315] ++
  [2419301, 2391607, 2364231, 2337168, 2310414, 2283967, 2257823, 2231978, 2206429, 2181172, 2156204, 2131522] ++
  [2107123, 2083003, 2059159, 2035588, 2012287, 1989252, 1966482, 1943972, 1921719, 1899721, 1877975, 1856478] ++
  [1835227, 1814220, 1793453, 1772923, 1752629, 1732566, 1712734, 1693128, 1673747, 1654588, 1635648, 1616925] ++
  [1598416, 1580119, 1562032, 1544151, 1526476, 1509002, 1491729, 1474653, 1457773, 1441086, 1424590, 1408283] ++
  [1392162, 1376226, 1360473, 1344900, 1329505, 1314286, 1299242, 1284369, 1269667, 1255133, 1240766, 1226563] ++
  [1212523, 1198643, 1184922, 1171359, 1157950, 1144695, 1131592, 1118639, 1105834, 1093176, 1080662, 1068292] ++
  [1056063, 1043975, 1032024, 1020211, 1008533, 996988, 985576, 974294, 963141, 952116, 941217, 930443] ++
  [919793, 909264, 898856, 888566, 878395, 868340, 858400, 848574, 838861, 829258, 819766, 810382] ++
  [801106, 791936, 782870, 773909, 765050, 756293, 747635, 739077, 730617, 722254, 713986, 705813] ++
  [697734, 689747, 681852, 674047, 666331, 658703, 651163, 643709, 636341, 629057, 621856, 614738] ++
  [607701, 600745, 593868, 587070, 580350, 573707, 567140, 560648, 554230, 547886, 541614, 535414] ++
  [529285, 523227, 517237, 511317, 505464, 499678, 493958, 488304, 482714, 477188, 471726, 466326] ++
  [460988, 455711, 450495, 445338, 440240, 435201, 430219, 425295, 420426, 415614, 410856, 406153] ++
  [401504, 396908, 392365, 387873, 383433, 379044, 374705, 370416, 366176, 361984, 357841, 353745] ++
  [349695, 345692, 341735, 337824, 333956, 330134, 326355, 322619, 318926, 315275, 311666, 308099] ++
  [304572, 301086, 297639, 294232, 290864, 287534, 284243, 280989, 277773, 274593, 271450, 268343] ++
  [265271, 262235, 259233, 256265, 253332, 250432, 247565, 244732, 241930, 239161, 236423, 233717] ++
  [231041, 228397, 225782, 223198, 220643, 218117, 215620, 213152, 210712, 208300, 205916, 203559] ++
  [201229, 198925, 196648, 194397, 192172, 189972, 187798, 185648, 183523, 181422, 179345, 177292] ++
  [175263, 173257, 171273, 169313, 167375, 165459, 163565, 161693, 159842, 158012, 156203, 154415] ++
  [152648, 150900, 149173, 147465, 145777, 144109, 142459, 140828, 139216, 137623, 136047, 134490] ++
  [132950, 131429, 129924, 128437, 126967, 125513, 124077, 122656, 121252, 119864, 118492, 117136] ++
  [115795, 114470, 113159, 111864, 110583, 109318, 108066, 106829, 105606, 104397, 103202, 102021] ++
  [100853, 99699, 98558, 97429, 96314, 95212, 94122, 93044, 91979, 90926, 89886, 88857] ++
  [87840, 86834, 85840, 84857, 83886, 82926, 81977, 81038, 80111, 79194, 78287, 77391] ++
  [76505, 75629, 74764, 73908, 73062, 72225, 71399, 70581, 69773, 68975, 68185, 67405] ++
  [66633, 65870, 65116, 64371, 63634, 62906, 62186, 61474, 60770, 60074, 59387, 58707] ++
  [58035, 57371, 56714, 56065, 55423, 54789, 54161, 53541, 52929, 52323, 51724, 51132] ++
  [50546, 49968, 49396, 48830, 48271, 47719, 47173, 46633, 46099, 45571, 45049, 44534] ++
  [44024, 43520, 43022, 42529, 42043, 41561, 41086, 40615, 40150, 39691, 39236, 38787] ++
  [38343, 37904, 37471, 37042, 36618, 36198, 35784, 35374, 34970, 34569, 34174, 33782] ++
  [33396, 33013, 32635, 32262, 31893, 31528, 31167, 30810, 30457, 30109, 29764, 29423] ++
  [29086, 28753, 28424, 28099, 27777, 27459, 27145, 26834, 26527, 26223, 25923, 25627] ++
  [25333, 25043, 24757, 24473, 24193, 23916, 23642, 23372, 23104, 22840, 22578, 22320] ++
  [22064, 21812, 21562, 21315, 21071, 20830, 20592, 20356, 20123, 19893, 19665, 19440] ++
  [19217, 18997, 18780, 18565, 18352, 18142, 17935, 17729, 17526, 17326, 17127, 16931] ++
  [16737, 16546, 16356, 16169, 15984, 15801, 15620, 15442, 15265, 15090, 14917, 14747] ++
  [14578, 14411, 14246, 14083, 13922, 13762, 13605, 13449, 13295, 13143, 12992, 12844] ++
  [12697, 12551, 12408, 12266, 12125, 11986, 11849, 11714, 11580, 11447, 11316, 11186] ++
  [11058, 10932, 10807, 10683, 10561, 10440, 10320, 10202, 10085, 9970, 9856, 9743] ++
  [9631, 9521, 9412, 9304, 9198, 9093, 8989, 8886, 8784, 8683, 8584, 8486] ++
  [8389]

end Sys2Proof.Machine
end

