-- ==== Sys2Proof/Machine/Graph.lean ====
section
/-! DEFINITION. The signal graph (spec 08_signal_graph.md): fade engines, the intake, Gate A, Gate B and the outlet, the final
limiter, bus read-out, meters. -/

namespace Sys2Proof.Machine

/-- The kinds of entries that fade (Table 08-2). -/
inductive FadeKind where
  | intake | gateA | outlet
  deriving DecidableEq, Repr

/-- How many entries of a kind there are. -/
def FadeKind.count : FadeKind → Nat
  | .intake => 1536
  | .gateA => 3072
  | .outlet => 1536

/-- The fade engines of a kind. -/
def Graph.fades (s : State) : FadeKind → Sparse FadeRec
  | .intake => s.graph.fadeIn
  | .gateA => s.graph.fadeGa
  | .outlet => s.graph.fadeOut

/-- `s` with the fade engines of a kind replaced. -/
def Graph.setFades (s : State) (e : FadeKind) (l : Sparse FadeRec) : State :=
  match e with
  | .intake => { s with graph := { s.graph with fadeIn := l } }
  | .gateA => { s with graph := { s.graph with fadeGa := l } }
  | .outlet => { s with graph := { s.graph with fadeOut := l } }

/-- The fade engine of an entry. -/
def Graph.fade (s : State) (e : FadeKind) (i : Nat) : FadeRec := Sparse.get (Graph.fades s e) i {}

/-- `s` with the fade engine of an entry replaced. -/
def Graph.setFade (s : State) (e : FadeKind) (i : Nat) (x : FadeRec) : State :=
  Graph.setFades s e (Sparse.put (Graph.fades s e) i {} x)

/-- A fade runs. -/
def FadeRec.running (x : FadeRec) : Bool := decide (x.m < x.len)

/-- The fields whose change starts a fade of the entry (Table 08-2). -/
def Graph.fadeFields (e : FadeKind) (i : Nat) : List Fld :=
  match e with
  | .intake => [Reg.GRAPH_IN_KIND i, Reg.GRAPH_IN_INDEX i, Reg.GRAPH_IN_TRIM i, Reg.GRAPH_IN_POL i]
  | .gateA => [Reg.GRAPH_GA_SRC i]
  | .outlet => [Reg.GRAPH_OUT_SRC i, Reg.GRAPH_OUT_DELAY i]

/-- The fields FADE and CURVE of the entry, where it has them. -/
def Graph.lawFields (e : FadeKind) (i : Nat) : List Fld :=
  match e with
  | .intake => []
  | .gateA => [Reg.GRAPH_GA_FADE i, Reg.GRAPH_GA_CURVE i]
  | .outlet => [Reg.GRAPH_OUT_FADE i, Reg.GRAPH_OUT_CURVE i]

/-- The live values of a list of fields. -/
def State.flds (s : State) (fs : List Fld) : List Nat := fs.map s.fld

/-- `s` with a list of fields set. -/
def State.setFlds (s : State) (fs : List Fld) (vs : List Nat) : State := s.each (fs.zip vs) fun t p => t.setFld p.1 p.2

/-- The setting of an entry. -/
def Graph.setting (s : State) (e : FadeKind) (i : Nat) : List Nat := s.flds (Graph.fadeFields e i)

/-- A fade of the entry to the setting `new` starts with FADE `f` and CURVE `c` (R257, R259); with L = 0 it is a step. -/
def Graph.startFade (s : State) (e : FadeKind) (i : Nat) (new : List Nat) (f c : Nat) : State :=
  let len := if e = .intake then 16 else Fade.len f
  let old := Graph.setting s e i
  let s1 := (s.setFlds (Graph.fadeFields e i) new).setFlds (Graph.lawFields e i) [f, c]
  if new = old then Graph.setFade s1 e i {}
  else Graph.setFade s1 e i { old := old, m := 0, len := len, cos := decide (e ≠ .intake ∧ c = 1) }

/-- The values of a list of fields in a register word map `w`. -/
def Graph.snap (w : Nat → Word) (fs : List Fld) : List Nat := fs.map fun f => f.of (w f.off)

/-- A snapshot becomes live for one entry (R251, R259, R260). `w` is the snapshot by register offset. While a fade runs the fields are
compared with the live view: one that the snapshot leaves as it reads there keeps the value that a deferred target gives it, so that a
snapshot which sets a field back to the running fade's target does not end the deferral; FADE and CURVE of the new deferred target are the
snapshot's, also where only another field of the entry changes (DESIGN CHOICE, log 61). -/
def Graph.commitEntry (e : FadeKind) (w : Nat → Word) (s : State) (i : Nat) : State :=
  let x := Graph.fade s e i
  let live := Graph.setting s e i
  let laws := s.flds (Graph.lawFields e i)
  let new := Graph.snap w (Graph.fadeFields e i)
  let newLaws := Graph.snap w (Graph.lawFields e i)
  if new = live ∧ newLaws = laws then s
  else if x.running then
    let base := (x.defer.map fun d => d.1).getD live
    let merged := (new.zip (live.zip base)).map fun p => if p.1 ≠ p.2.1 then p.1 else p.2.2
    Graph.setFade s e i { x with defer := some (merged, newLaws.getD 0 0, newLaws.getD 1 0) }
  else Graph.startFade s e i new (newLaws.getD 0 0) (newLaws.getD 1 0)

/-- At a boundary an entry whose fade has ended starts its deferred fade (R260); `n` samples were worked in the frame. -/
def Graph.advanceEntry (e : FadeKind) (n : Nat) (s : State) (i : Nat) : State :=
  let x := Graph.fade s e i
  let y := { x with m := x.m + n }
  if y.running then Graph.setFade s e i y
  else match x.defer with
    | some d => Graph.startFade s e i d.1 d.2.1 d.2.2
    | none => Graph.setFade s e i {}

/-- The fade engines of a kind at a boundary. -/
def Graph.advance (s : State) (e : FadeKind) (done : Bool) : State :=
  s.each ((Graph.fades s e).map fun p => p.1) (Graph.advanceEntry e (if done then s.frameN else 0))

/-- A reset of the graph ends every fade of a kind as a step to the entry's latest live setting (R260). -/
def Graph.endFades (s : State) (e : FadeKind) : State :=
  s.each (Graph.fades s e) fun t p =>
    let t1 := match p.2.defer with
      | some d => (t.setFlds (Graph.fadeFields e p.1) d.1).setFlds (Graph.lawFields e p.1) [d.2.1, d.2.2]
      | none => t
    Graph.setFade t1 e p.1 {}

/-- GRAPH_FADE_STAT counts running fades and deferred targets (R261). -/
def Graph.showFades (s : State) : State :=
  let all := (s.graph.fadeIn ++ s.graph.fadeGa ++ s.graph.fadeOut).map fun p => p.2
  (s.setFld Reg.GRAPH_FADE_STAT_RUNNING (all.filter fun x => x.running).length).setFld Reg.GRAPH_FADE_STAT_DEFERRED
    (all.filter fun x => x.defer.isSome).length

/-- The mix of an entry's old and new value at sample `j` of the frame (R258, R259). -/
def FadeRec.mixAt (x : FadeRec) (j : Nat) (old new : Int) : Int :=
  if x.m + j < x.len then Fade.mix old new (Fade.weight x.cos x.len (x.m + j)) else new

/-- Sample `j` of frame `k` from source KIND `kind`, INDEX `i` (R262, R263), and its UNSETTLED mark. -/
def Graph.source (s : State) (k j kind i : Nat) : Int × Bool :=
  match kind with
  | 0 => (0, false)
  | 1 => ((Sparse.get s.nsw.supplied i []).getD j 0, false)
  | 2 => (Port.supply s i j, false)
  | 3 => (Port.supply s (512 + i) j, false)
  | _ => if i < s.variant.snsIn then Sfb.supply s i (k * s.frameN + j) else (0, false)

/-- Saturation to H32 and whether it changed the value. -/
def Graph.satH (y : Int) : Int × Bool := (Arith.sat 32 y, decide (Arith.sat 32 y ≠ y))

/-- Trim and polarity of R264 and whether they saturated. `set` is the setting KIND, INDEX, TRIM, POL. -/
def Graph.trim (x : Int) (set : List Nat) : Int × Bool :=
  let t := Graph.satH (Arith.conv (x * set.getD 2 0) 12)
  if set.getD 3 0 = 1 then
    let u := Graph.satH (-t.1)
    (u.1, t.2 || u.2)
  else t

/-- The high-pass of R265: output, saturation and history. -/
def Graph.hpf (code fs : Nat) (x : HpfRec) (t : Int) : Int × Bool × HpfRec :=
  if code = 0 then (t, false, { t1 := t, t2 := x.t1, y1 := t, y2 := x.y1 })
  else
    let c := Graph.hpfCoef code fs
    let y := c.getD 0 0 * t + c.getD 1 0 * x.t1 + c.getD 2 0 * x.t2 - c.getD 3 0 * x.y1 - c.getD 4 0 * x.y2
    let r := Graph.satH (Arith.conv y 30)
    (r.1, r.2, { t1 := t, t2 := x.t1, y1 := r.1, y2 := x.y1 })

/-- The MEMWIN address of sample `j` of intake channel `c` in the own image, or in the forward image (R246). -/
def Graph.image (s : State) (fwd : Bool) (c j : Nat) : Nat :=
  s.fld Reg.GRAPH_INIMG_BASE + (if fwd then 6144 * s.frameN else 0) + 4 * (1536 * j + c)

/-- A 32-bit word written through the matrix or the external port. -/
def Mem.putWord (s : State) (a : Nat) (v : Int) : State :=
  Mem.write s 2 ((Arith.bytes 4 (Arith.word v).toNat).zipIdx.map fun b => (a + b.2, b.1))

/-- Words written one after another from `a` on, as whole SEC-DED words where two of them fill one (R579). -/
def Mem.putRow (s : State) (a : Nat) (vs : List Int) : State :=
  Mem.put s 2 a (vs.flatMap fun v => Arith.bytes 4 (Arith.word v).toNat)

/-- An H32 word read through the matrix or the external port: zero where uncorrectable (R198). -/
def Mem.getWord (s : State) (a : Nat) : State × Int :=
  (Mem.readNote s 2 ((List.range 4).map (a + ·)), Arith.int (BitVec.ofNat 32 (Mem.elem s a 4)))

/-- MEMWIN register base of meter `m` (R280): IC, OC and MB meters in one numbering. -/
def Graph.meterBase (m : Nat) : Nat :=
  if m < 1536 then 0x200000 + 16 * m else if m < 3072 then 0x206000 + 16 * (m - 1536) else 0x20C000 + 16 * (m - 3072)

/-- The time constant of the meters in ms (Table 08-15). -/
def Graph.rmsMs (code : Nat) : Nat :=
  match code with
  | 0 => 50
  | 1 => 300
  | 2 => 1000
  | _ => 3000

/-- One sample `x` of the mean square `m`, in units of 2^-32, with a time constant of `d` samples (R282). -/
def Graph.square (d m : Nat) (x : Int) : Nat := m - m / d + x.natAbs ^ 2 * 2 ^ 32 / d

/-- The level in LG24 of the root of a number `q` of units of 2^-32 (R166): half its logarithm, by the steps of VLOG2. -/
def Graph.rootLevel (q : Nat) : Int :=
  let m := Nat.log2 q
  let u := if 30 ≤ m then q / 2 ^ (m - 30) else q * 2 ^ (30 - m)
  let j := (u - 2 ^ 30) / 2 ^ 24
  let r : Int := ((u - 2 ^ 30) % 2 ^ 24 : Nat)
  let l := Arith.logTable.getD j 0
  let h := Arith.logTable.getD (j + 1) 0
  (((m : Int) - 78) * 2 ^ 24 + (l + Arith.conv ((h - l) * r) 24)).fdiv 2

/-- The RMS level of a mean square by the AES17 convention (R12, R282): a sine has a mean square of half the square of its peak, and one
whose peak reaches 2^23 reads 0. -/
def Graph.rms (m : Nat) : Int := if m = 0 then -(2 ^ 31) else max (Graph.rootLevel (2 * m)) (-(2 ^ 31))

/-- 0.05 dB and −80 dBFS in LG24. -/
def Graph.rmsTolerance : Nat := 139332
def Graph.rmsFloor : Int := -222930821

/-- The RMS word for the mean square `m`: above −80 dBFS it lies within 0.05 dB of the exact level, by an amount that is FREE; below, where
R282 gives no bound, it is FREE (log 15). With nothing but silence since the reset it is −2^31 (R280). -/
def Graph.rmsWord (s : State) (m : Nat) : Word :=
  let l := Graph.rms m
  if m = 0 then Arith.word l
  else if Graph.rmsFloor < l then Arith.word (l + (s.freeNat % (2 * Graph.rmsTolerance + 1) : Nat) - Graph.rmsTolerance)
  else s.freeWord

/-- One meter at the end of a frame (R281, R282): `xs` its samples, `w3` its word 3. -/
def Graph.meter (s : State) (m : Nat) (xs : List Int) (w3 : Word) : State :=
  let a := Graph.meterBase m
  let mag := xs.foldl (fun p x => max p x.natAbs) 0
  let lf := Arith.int (Arith.vlog2 (Arith.word (min (mag : Int) (2 ^ 31 - 1))))
  let fall : Int := Arith.int (s.reg a) - 16 * s.fld Reg.GRAPH_METER_CTL_DECAY * s.frameN
  let peak := max lf (max fall (-(2 ^ 31)))
  let ph0 := Arith.int (s.reg (a + 8))
  let age := if ph0 < peak then 0 else Sparse.get s.graph.phAge m 0 + 1
  let time := s.fld Reg.GRAPH_METER_CTL_PH_TIME
  let drop := decide (time ≠ 0) && decide (time * s.rate / s.frameN ≤ age)
  let ph := if drop then peak else max ph0 peak
  let d := max 1 (s.rate * Graph.rmsMs (s.fld Reg.GRAPH_METER_CTL_RMS_TC) / 1000)
  let ms := xs.foldl (Graph.square d) (Sparse.get s.graph.meanSq m 0)
  let s1 := { s with graph := { s.graph with phAge := Sparse.put s.graph.phAge m 0 age, meanSq := Sparse.put s.graph.meanSq m 0 ms } }
  let s2 := ((s1.setReg a (Arith.word peak)).setReg (a + 4) (Graph.rmsWord s1 ms)).drew
  (s2.setReg (a + 8) (Arith.word ph)).setReg (a + 12) w3

/-- A sense channel supplies sample `c` by its late-data policy: its position was not written since the intake last read it (R30, R426). -/
def Graph.senseLate (s : State) (i c : Nat) : Bool :=
  decide (i < s.variant.snsIn) && Sparse.get s.sfb.written (128 * (c % Sfb.depth s) + i) 0 == 0

/-- Intake channel `c` in the pass of frame `k` (R262 to R265): its samples join those of the image's rows, and its meter follows. A sense
position that was written is read from the hayloft. -/
def Graph.intakeChannel (k : Nat) (acc0 : State × List (List Int)) (c : Nat) : State × List (List Int) :=
  let s := acc0.1
  let x := Graph.fade s .intake c
  let set := Graph.setting s .intake c
  let src (l : List Nat) (j : Nat) := Graph.source s k j (l.getD 0 0) (l.getD 1 0)
  let r := (List.range s.frameN).foldl (fun (acc : List Int × HpfRec × Bool × Bool) j =>
    let new := Graph.trim (src set j).1 set
    let old := if x.m + j < x.len then Graph.trim (src x.old j).1 x.old else (0, false)
    let uns := (src set j).2 || (decide (x.m + j < x.len) && (src x.old j).2)
    let h := Graph.hpf (s.fld (Reg.GRAPH_IN_HPF c)) (s.fld Reg.TOP_FRAME_CFG_FS) acc.2.1 (x.mixAt j old.1 new.1)
    (acc.1 ++ [h.1], h.2.2, acc.2.2.1 || new.2 || old.2 || h.2.1, acc.2.2.2 || uns))
    ([], Sparse.get s.graph.hpf c {}, false, false)
  let kind := set.getD 0 0
  let i := set.getD 1 0
  let counts := (List.range s.frameN).map (k * s.frameN + ·)
  let late := (kind == 1 && s.nsw.late.contains i) || (kind == 2 && s.sap.late.contains i) ||
    (kind == 3 && s.sap.late.contains (512 + i)) || (kind == 4 && counts.any (Graph.senseLate s i))
  let sense := if kind = 4 ∧ i < s.variant.snsIn then counts.filter fun n => !Graph.senseLate s i n else []
  let s0 := s.each sense fun t n => Mem.noteRange t 2 (Sfb.place t n i) 4
  let s1 := { s0 with graph := { s0.graph with hpf := Sparse.put s0.graph.hpf c {} r.2.1 } }
  let s2 := s1.when r.2.2.1 fun t => t.setVecBit 0x0C0100 c true
  (Graph.meter s2 c r.1 (BitVec.ofNat 32 ((if r.2.2.2 then 1 else 0) + if late then 2 else 0)), acc0.2 ++ [r.1])

/-- The intake pass of frame `k` (R244, step 1): sources, then every intake channel; the rows of the own image are written. -/
def Graph.intakePass (s : State) (k : Nat) : State :=
  let s1 := Port.intake (Nsw.intake s k) k
  let p := (List.range 1536).foldl (Graph.intakeChannel k) (s1, [])
  let s2 := p.1.each (List.range s.frameN) fun t j => Mem.putRow t (Graph.image s false 0 j) (p.2.map fun xs => xs.getD j 0)
  let s3 := Sfb.readDone s2 k
  { s3 with graph := { s3.graph with inDone := true } }

/-- The role reads the forward image: STANDBY or SUSPECT (R246, Table 01-10). -/
def Graph.forward (s : State) : Bool := s.role == 2 || s.role == 4

/-- Gate A writes input slot `i` of stall `t` (R270). -/
def Graph.gateSlot (fwd : Bool) (st : Nat) (s : State) (i : Nat) : State :=
  let g := 64 * st + i
  let x := Graph.fade s .gateA g
  s.each (List.range s.frameN) fun t j =>
    let get (t : State) (src : Nat) := if src = 0x7FF then (t, 0) else Mem.getWord t (Graph.image s fwd (min src 0x5FF) j)
    let new := get t (s.fld (Reg.GRAPH_GA_SRC g))
    let old := if x.m + j < x.len then get new.1 (x.old.getD 0 0x7FF) else (new.1, 0)
    Mem.putWord old.1 (Mem.localBase st + s.fld (Reg.GRAPH_SIO_INBASE st) + 256 * j + 4 * i) (x.mixAt j old.2 new.2)

/-- Gate A fills the input slots of every stall with code (R244, steps 5 and 7). -/
def Graph.gateA (s : State) : State :=
  s.each ((List.range s.variant.stalls).filter fun i => (Sparse.get s.stalls i {}).code) fun t st =>
    t.each (List.range (min 64 (t.fld (Reg.GRAPH_SIO_NIN st)))) (Graph.gateSlot (Graph.forward s) st)

/-- The bus bank of frame `k` is read out, saturated to H32, with its bits of TOP_BUS_SAT and its meters
(R207, R273); its samples are then zero for the frame after next (R204). -/
def Graph.readBuses (s : State) (k : Nat) : State :=
  let bank := (k % 2) * 4096
  let mine : List (Nat × Acc) := s.mem.bus.filter fun p => bank ≤ p.1 ∧ p.1 < bank + 4096
  let sums : List (Nat × Int × Bool) := mine.map fun p => (p.1 - bank, p.2.read 0 32)
  let sat : List Nat := (sums.filter fun (p : Nat × Int × Bool) => p.2.2).map fun p => p.1 % 256
  let nz : List (Nat × Int) := (sums.filter fun (p : Nat × Int × Bool) => p.2.1 ≠ 0).map fun p => (p.1, p.2.1)
  let s1 := { s with
    mem := { s.mem with bus := s.mem.bus.filter fun p => !(decide (bank ≤ p.1) && decide (p.1 < bank + 4096)) }
    graph := { s.graph with sums := nz, satBus := sat } }
  let s2 := s1.each sat fun t b => t.setVecBit 0x000180 b true
  s2.each (List.range 256) fun t b =>
    Graph.meter t (3072 + b) ((List.range s.frameN).map fun j => Sparse.get s2.graph.sums (256 * j + b) 0)
      (if sat.contains b then 1 else 0)

/-- The sums read out at the latest boundary are written to the bus image (R208). -/
def Graph.busImage (s : State) : State :=
  if s.flag Reg.TOP_BUS_IMG_EN then
    let barns := (List.range s.variant.barns).filter fun b =>
      (List.range 8).any fun i => (Sparse.get s.stalls (8 * b + i) {}).code
    s.each barns fun t b =>
      Mem.putRow t (Mem.barnBase b + s.fld Reg.TOP_BUS_IMG_BASE) ((List.range (256 * s.frameN)).map fun n => Sparse.get s.graph.sums n 0)
  else s

/-- What Gate B takes for sample `j` by source code `src` (R274, Table 08-8). -/
def Graph.gateB (s : State) (src j : Nat) : State × Int :=
  if src ≤ 0xBFF then
    let st := src / 64
    let i := src % 64
    if s.fld (Reg.GRAPH_SIO_NOUT st) ≤ i ∨ s.variant.stalls ≤ st ∨ !(Sparse.get s.stalls st {}).code ∨
        s.graph.overran.contains st then (s, 0)
    else Mem.getWord s (Mem.localBase st + s.fld (Reg.GRAPH_SIO_OUTBASE st) + 256 * j + 4 * i)
  else if 0x1000 ≤ src ∧ src ≤ 0x10FF then (s, Sparse.get s.graph.sums (256 * j + (src - 0x1000)) 0)
  else (s, 0)

/-- The final limiter (R277): output, gain G and state. -/
def Graph.limit (law th rc rsh hold : Nat) (x : LimRec) (d : Int) : Int × Nat × LimRec :=
  let t : Int := Graph.thTable.getD (min th 600) 0
  match law with
  | 0 => (d, 2 ^ 23, x)
  | 1 =>
    let a : Int := min (d.natAbs : Int) (2 ^ 31 - 1)
    let y : LimRec :=
      if a ≥ x.e then { e := a, h := hold }
      else if 0 < x.h then { x with h := x.h - 1 }
      else { x with e := x.e + Arith.conv (rc * (a - x.e)) (16 + rsh) }
    if y.e > t then
      let g := (t * 2 ^ 23).fdiv y.e
      (Arith.conv (d * g) 23, g.toNat, y)
    else (d, 2 ^ 23, y)
  | _ => (max (-t) (min d t), 2 ^ 23, x)

/-- MEMWIN address and bytes per sample of line position `p` of an outlet channel (R276). -/
def Graph.linePos (l : Nat × Bool) (p : Nat) : Nat × Nat := if l.2 then (l.1 + 3 * p, 3) else (l.1 + 4 * p, 4)

/-- A sample of a delay line. -/
def Graph.lineRead (s : State) (l : Nat × Bool) (p : Nat) : State × Int :=
  let a := Graph.linePos l p
  (Mem.readNote s 2 ((List.range a.2).map (a.1 + ·)), Arith.int (Arith.sext (8 * a.2) (Mem.elem s a.1 a.2)))

/-- A sample goes into a delay line: saturated to P24 in a P24 line (R275, R276). -/
def Graph.lineWrite (s : State) (l : Nat × Bool) (p : Nat) (g : Int) : State :=
  let a := Graph.linePos l p
  let v := if l.2 then Arith.sat 24 g else g
  Mem.write s 2 ((Arith.bytes a.2 (Arith.word v).toNat).zipIdx.map fun b => (a.1 + b.2, b.1))

/-- The delay of outlet channel `c` for sample number `n`, `j`-th of its frame (R275). -/
def Graph.delay (s : State) (c n j : Nat) (x : FadeRec) (g : Int) : State × Int :=
  let dlen := s.fld (Reg.GRAPH_OUT_DLEN c)
  if dlen = 0 then (s, g)
  else
    let l := Sparse.get s.graph.lines c (0, true)
    let s1 := Graph.lineWrite s l (n % dlen) g
    let at_ (dl : Nat) := (n % dlen + dlen - min dl (dlen - 1)) % dlen
    let new := Graph.lineRead s1 l (at_ (s.fld (Reg.GRAPH_OUT_DELAY c)))
    if x.m + j < x.len then
      let old := Graph.lineRead new.1 l (at_ (x.old.getD 1 0))
      (old.1, x.mixAt j old.2 new.2)
    else new

/-- Outlet channel `c` works on data frame `d` (R275): its samples go to the outlet store and its meter. Sample n of the
channel has media-clock count dN + j. -/
def Graph.outletChannel (d : Nat) (acc : State × Sparse Int) (c : Nat) : State × Sparse Int :=
  let s := acc.1
  let x := Graph.fade s .outlet c
  let lim := Graph.limit (s.fld (Reg.GRAPH_OUT_LAW c)) (s.fld (Reg.GRAPH_OUT_TH c)) (s.fld (Reg.GRAPH_OUT_RC c))
    (s.fld (Reg.GRAPH_OUT_RSH c)) (s.fld (Reg.GRAPH_OUT_HOLD c))
  let r := (List.range s.frameN).foldl (fun (a : State × List Int × LimRec × Nat × Bool) j =>
    let new := Graph.gateB a.1 (s.fld (Reg.GRAPH_OUT_SRC c)) j
    let old := if x.m + j < x.len then Graph.gateB new.1 (x.old.getD 0 0x1FFF) j else (new.1, 0)
    let dl := Graph.delay old.1 c (d * s.frameN + j) j x (x.mixAt j old.2 new.2)
    let l := lim a.2.2.1 dl.2
    (dl.1, a.2.1 ++ [l.1], l.2.2, min a.2.2.2.1 l.2.1, a.2.2.2.2 || decide (Arith.sat 24 l.1 ≠ l.1)))
    (s, [], Sparse.get s.graph.lim c {}, 2 ^ 23, false)
  let s1 := { r.1 with graph := { r.1.graph with lim := Sparse.put r.1.graph.lim c {} r.2.2.1 } }
  let s2 := s1.when r.2.2.2.2 fun t => t.setVecBit 0x0C0200 c true
  let store := r.2.1.zipIdx.foldl (fun m v => Sparse.put m (16 * c + v.2) 0 (Arith.sat 24 v.1)) acc.2
  (Graph.meter s2 (1536 + c) r.2.1 (Arith.vlog2 (BitVec.ofNat 32 r.2.2.2.1)), store)

/-- The outlet works on data frame `d` (R244, step 8); the store keeps three frames. -/
def Graph.outletPass (s : State) (d : Nat) : State :=
  let r := (List.range 1536).foldl (Graph.outletChannel d) (s, [])
  { r.1 with graph := { r.1.graph with store := ((d, r.2) :: r.1.graph.store).take 3, outDone := true } }

/-- The outlet store of data frame `d` at channel `oc`, sample `j`. -/
def Graph.outlet (s : State) (d oc j : Nat) : Int :=
  match s.graph.store.find? fun f => f.1 = d with
  | some f => Sparse.get f.2 (16 * oc + j) 0
  | none => 0

/-- PH_CLR takes effect at a boundary: every PHOLD becomes its PEAK (R281). -/
def Graph.clearHolds (s : State) : State :=
  if !s.graph.phClr then s
  else
    let s1 := { s with graph := { s.graph with phClr := false, phAge := [] } }
    s1.each (List.range 3328) fun t m => t.setReg (Graph.meterBase m + 8) (t.reg (Graph.meterBase m))

/-- PH_CLR (R281): pending until the next boundary. -/
def Bar.phClr (s : State) : State := { s with graph := { s.graph with phClr := true } }

/-- PH_CLR (R281), where the access is served (R41, R319). -/
def execPhClr (s : State) : Host.Outcome State Fault Refusal := .next (s.bar Bar.phClr)

end Sys2Proof.Machine
end

