-- ==== Sys2Proof/Machine/Twin.lean ====
section
/-! DEFINITION. Ownership, heartbeat, the tether's lanes, the twin commands and the start of a resync (spec 17_twin_tether.md: R491 to
R499, R503, R515 to R519). Instants are root cycles of node time; a MOD cycle is 4 of them. -/

namespace Sys2Proof.Machine

/-- The twin unit is present and out of reset (crossing 11 leads to it). -/
def Twn.alive (s : State) : Bool := s.variant.tether && Sparse.get s.clk.odd 11 0 == 0

/-- The root cycles for which the peer pair must read 01 (R493): the long rule, or 1,229 MOD cycles. -/
def Twn.need (s : State) : Nat :=
  if (!s.flag Reg.TWN_ST_SENIOR && s.flag Reg.TWN_ST_COLD) || s.twn.blind then 2457600 * s.fld Reg.TWN_CFG_JWAIT else 4916

/-- The device asserts at a carrier boundary at `at_`: it is an eligible non-owner and its qualification is complete (R493). -/
def Twn.mayAssert (s : State) (at_ : Nat) : Bool :=
  Twn.alive s && !s.flag Reg.TWN_ST_OWN && Twn.elig s && Twn.peerFree s && s.twn.drop.isNone &&
    s.twn.qual.any fun q => decide (q + Twn.need s ≤ at_)

/-- The drive record of one channel as it stood at boundary instant `t0` is applied (R456). -/
def Twn.applyRecord (t0 : Nat) (s : State) (p : DrvRecord × Nat) : State :=
  let s1 := Drv.setChan s p.2 { Drv.chan s p.2 with trips := (p.1.ages.map fun a => t0 - a * 2457600).take 15 }
  match p.1.state with
  | 5 => Drv.enter s1 p.2 5
  | 4 => Drv.enter (Drv.setChan s1 p.2 { Drv.chan s1 p.2 with hold := t0 + p.1.hold * 2457600, held := false }) p.2 4
  | _ => s1

/-- The new owner applies the old owner's most recent drive record, then a request that is 1 trips (R456). -/
def Twn.applyRecords (s : State) (at_ : Nat) : State :=
  let s1 := s.each (s.twn.drvRec.zipIdx.filter fun p => p.2 < s.variant.drvCh)
    (Twn.applyRecord (Frame.boundary s s.twn.drvFrame))
  s1.each ((Drv.present s1).filter fun n => s1.flag (Reg.DRV_CHST_REQ n) && Drv.active s1 n) fun t n => Drv.trip t n at_

/-- The role that follows from taking ownership (R497): a STANDBY, DETACHED or SUSPECT device becomes ACTIVE and says so. -/
def Twn.ownRole (s : State) (at_ : Nat) : State :=
  let r := s.role
  if r = 2 ∨ r = 3 ∨ r = 4 then
    let k := Frame.after s (at_ + 2458)
    let s1 := Tth.send { s with twn := { s.twn with takeAt := some k } } k (.role 0 1)
    if r = 2 then s1 else s1.setFlag Reg.TWN_ST_WARM true
  else s

/-- Taking ownership at a carrier boundary (R493, R496, R497, R456); a handover that the peer did not take ends here (R517). -/
def Twn.assert (s : State) (at_ : Nat) : State :=
  if !Twn.mayAssert s at_ then s
  else
    let gap := (at_ - s.twn.qual.getD at_) / 4
    let s1 := (((s.setFlag Reg.TWN_ST_OWN true).setFlag Reg.TWN_ST_COLD false).fire 65).incCnt Reg.TWN_CNT1_TAKES
    let s2 := ((s1.setFlag Reg.TWN_TAKE_VALID true).setFld Reg.TWN_TAKE_FROM s.role).setFld Reg.TWN_TAKE_GAP (min gap 0xFFF)
    let s3 : State := { s2 with twn := { s2.twn with blind := false } }
    let s4 := Twn.ownRole (Twn.applyRecords (Sfb.showDriving (s3.send (.own true))) at_) at_
    s4.each (Cmd.waiting s4 .handover) fun t r => Cmd.finish t r 0 0 [0, 0, 3, 0]

/-- OWNERSHIP_ASSERT (R493). -/
def execOwnershipAssert (at_ : Nat) (s : State) : Host.Outcome State Fault Refusal := .next (Twn.assert s at_)

/-- HANDOVER_JWAIT_EXPIRY (R517): the old owner asserts again by the long rule of R493. -/
def execHandoverJwaitExpiry (at_ : Nat) (s : State) : Host.Outcome State Fault Refusal :=
  .next (if (Cmd.waiting s .handover).isEmpty then s else Twn.assert s at_)

/-- The peer is seen to assert (R493, R494, R497). -/
def Twn.peerAsserts (s : State) (at_ : Nat) : State :=
  let s1 : State := { s.setFlag Reg.TWN_ST_COLD false with twn := { s.twn with blind := false } }
  if s1.flag Reg.TWN_ST_OWN then s1.setFire Reg.TWN_ST_CONFLICT 65
  else if s1.role = 1 ∧ s1.twn.roleAt.isNone = true then Twn.setRole s1 (Frame.after s1 (at_ + 2458)) (Twn.afterActive s1)
  else s1

/-- PEER_OWN_CHANGE (R491, R493): the synchronised pair of the peer takes a new value. -/
def execPeerOwnChange (at_ : Nat) (p n : Bool) (s : State) : Host.Outcome State Fault Refusal :=
  .next (if !s.variant.tether ∨ (s.flag Reg.TWN_ST_PEER_P = p ∧ s.flag Reg.TWN_ST_PEER_N = n) then s
    else
      let s1 := (s.setFlag Reg.TWN_ST_PEER_P p).setFlag Reg.TWN_ST_PEER_N n
      let s2 : State := { s1 with twn := { s1.twn with
        qual := if !p && n && Twn.clocked s1 then some at_ else none
        ambig := s1.twn.ambig && p == n } }
      Twn.levels (if p && !n then Twn.peerAsserts s2 at_ else s2))

/-- OWN_AMBIG (R493): the pair has read 00 or 11 for 64 MOD cycles. -/
def execOwnAmbig (s : State) : Host.Outcome State Fault Refusal :=
  .next (if Twn.alive s ∧ s.flag Reg.TWN_ST_PEER_P = s.flag Reg.TWN_ST_PEER_N then
    Twn.levels { s with twn := { s.twn with ambig := true } } else s)

/-- HEARTBEAT_TOGGLE (R498). -/
def execHeartbeatToggle (s : State) : Host.Outcome State Fault Refusal :=
  .next (if Twn.alive s && s.flag Reg.TWN_CTL_EN && !s.saveWarned then
    ({ s with twn := { s.twn with hbo := !s.twn.hbo } } : State).send (.heartbeat (!s.twn.hbo)) else s)

/-- HB_EDGE (R498): HB_OK becomes 1 after 4 consecutive edges each at most 20 µs apart. -/
def execHbEdge (within : Bool) (s : State) : Host.Outcome State Fault Refusal :=
  .next (if !Twn.alive s then s
    else
      let n := if within then s.twn.hbEdges + 1 else 1
      let s1 : State := { s with twn := { s.twn with hbEdges := min n 4 } }
      if n < 4 ∨ s.flag Reg.TWN_ST_HB_OK then s1
      else
        let s2 := (s1.setFlag Reg.TWN_ST_HB_OK true).fire 68
        Twn.levels { s2 with twn := { s2.twn with wasHb := s2.twn.wasHb || s2.flag Reg.TWN_CTL_EN } })

/-- HB_LOSS (R498). -/
def execHbLoss (s : State) : Host.Outcome State Fault Refusal :=
  .next (let s1 : State := { s with twn := { s.twn with hbEdges := 0 } }
    if Twn.alive s && s.flag Reg.TWN_ST_HB_OK then Twn.levels ((s1.setFlag Reg.TWN_ST_HB_OK false).fire 68) else s1)

/-- LANE_LOCK (R499, R503): a lane locks and is deskewed, or loses its lock. -/
def execLaneLock (lane : Nat) (locked : Bool) (s : State) : Host.Outcome State Fault Refusal :=
  .next (if !s.variant.tether then s
    else
      let bit := 2 ^ lane
      let m := s.twn.lanes
      let m1 := if locked then m ||| bit else m - (m &&& bit)
      let s1 : State := { s with twn := { s.twn with lanes := m1 } }
      if locked then Twn.train s1 else Twn.down s1)

/-- DOWN_BLOCK (R503). -/
def execDownBlock (s : State) : Host.Outcome State Fault Refusal := .next (Twn.down s)

/-- HELLO_TIMEOUT (R503). -/
def execHelloTimeout (s : State) : Host.Outcome State Fault Refusal := .next (Twn.down s)

/-- ALIGN_MISSING (R503). -/
def execAlignMissing (s : State) : Host.Outcome State Fault Refusal := .next (Twn.down s)

/-- TWN_CTL.EN takes a value (R490, R498, R503): 0 makes the device SOLO and takes the tether down, with the transmitters silent. -/
def Twn.enWritten (s : State) (en : Bool) : State :=
  if !s.variant.tether ∨ s.flag Reg.TWN_CTL_EN = en then s
  else
    let s1 := s.setFlag Reg.TWN_CTL_EN en
    if en then
      Twn.train (Twn.levels { s1 with twn := { s1.twn with wasUp := false, wasHb := s1.flag Reg.TWN_ST_HB_OK } })
    else
      let s2 := Twn.down s1
      Twn.levels (Twn.setRole s2 (s2.frameNo + 1) 0)

/-- TWN_CTL_EN_WRITE (R490). -/
def execTwnCtlEnWrite (en : Bool) (s : State) : Host.Outcome State Fault Refusal := .next (s.bar fun t => Twn.enWritten t en)

/-- TWN_CTL.OWN_EN takes a value (Table 17-3, cause 2). -/
def Twn.ownEnWritten (s : State) (en : Bool) : State :=
  if !s.variant.tether then s
  else
    let s1 := s.setFlag Reg.TWN_CTL_OWN_EN en
    if en then s1 else Twn.request s1 2

/-- OWN_EN_WRITE (R494). -/
def execOwnEnWrite (en : Bool) (s : State) : Host.Outcome State Fault Refusal := .next (s.bar fun t => Twn.ownEnWritten t en)

/-- TWIN_HANDOVER (R517, R519). -/
def Twn.handover (s : State) (r : Run) : State :=
  if !s.variant.tether then Cmd.finish s r 1 0 []
  else if !s.flag Reg.TWN_ST_OWN then Cmd.finish s r 0 0 [0, 0, 1, 0]
  else if !s.flag Reg.TWN_ST_PEER_ELIG then Cmd.finish s r 0 0 [0, 0, 2, 0]
  else Twn.request (Cmd.keepRun s { r with wait := .handover }) 1

/-- TWIN_HANDOVER (R517). -/
def execTwinHandover (s : State) : Host.Outcome State Fault Refusal := .next (Cmd.start s 0x40 Twn.handover)

/-- This device's HELLO (Table 17-6): the published record, role, ownership, eligibility. -/
def Twn.hello (s : State) : Hello :=
  { cap := s.variant.cap, baleRoot := Twn.ownBaleRoot s, root := Twn.ownRoot s, gen := s.reg64 0x000400, k := s.reg64 0x000408
    role := s.role, own := s.flag Reg.TWN_ST_OWN, elig := Twn.elig s, senior := s.flag Reg.TWN_ST_SENIOR
    haysync := s.flag Reg.TWN_ST_HAYSYNC, cold := s.flag Reg.TWN_ST_COLD }

/-- HELLO_SEND (R501): in TRAIN the first one is the HELLO that the peer must acknowledge (Table 17-7). -/
def execHelloSend (s : State) : Host.Outcome State Fault Refusal :=
  .next (let s1 := Twn.train s
    if s1.fld Reg.TWN_ST_LINK = 0 then s1
    else
      let s2 : State := if s1.fld Reg.TWN_ST_LINK = 1 ∧ s1.twn.helloSeq.isNone = true then
        { s1 with twn := { s1.twn with helloSeq := some s1.twn.txSeq } } else s1
      Tth.send s2 s2.frameNo (.hello (Twn.hello s2)))

/-- The peer's most recent HELLO shows the ROOT of this device. -/
def Twn.sameRoot (s : State) : Bool := s.twn.peer.any fun p => p.root == Twn.ownRoot s

/-- A resync is under way (R516): its record and TWN_ST.RESYNC. -/
def Twn.setResync (s : State) (x : Resync) : State :=
  ({ s with twn := { s.twn with resync := some x } } : State).setFlag Reg.TWN_ST_RESYNC true

/-- The active names boundary `r` for a resync (R516). -/
def Twn.nameResync (s : State) (r : Nat) (cmd : Bool) : State :=
  Tth.send (Twn.setResync s { r := some r, cmd := cmd, prep := false, began := s.frameNo }) r (.role 1 1)

/-- The leaves of SYNC phase 0 (R518): the published ones from 1,024 to 5,119. -/
def Twn.leaves (s : State) : List (Nat × Nat) := s.rcd.leaves.filter fun p => decide (1024 ≤ p.1) && decide (p.1 < 5120)

/-- The preparation of a resync begins, or is repeated (R518, phase 0). -/
def Twn.prepare (s : State) (cmd : Bool) : State :=
  let began := (s.twn.resync.map fun x => x.began).getD s.frameNo
  Tth.send (Twn.setResync s { r := none, cmd := cmd, prep := true, began := began }) s.frameNo (.sync 0 (.leaves (Twn.leaves s)))

/-- The pair can be resynced: one device is ACTIVE, the other DETACHED or SUSPECT (R518). -/
def Twn.pairFits (s : State) : Bool :=
  let p := s.fld Reg.TWN_ST_PEER_ROLE
  (s.role == 1 && (p == 3 || p == 4)) || (p == 1 && (s.role == 3 || s.role == 4))

/-- TWIN_RESYNC (R518, R519): with equal roots the active names a boundary at least 5 µs ahead; otherwise, and on the follower, phase 0
of the preparation opens the resync. -/
def Twn.resync (s : State) (run : Run) : State :=
  if !s.variant.tether then Cmd.finish s run 1 0 []
  else if !Tth.up s then (Cmd.finish s run 0 0 [0, 0, 1, 0]).fire 69
  else if !Twn.pairFits s then (Cmd.finish s run 0 0 [0, 0, 3, 0]).fire 69
  else if !Twn.sameBale s then (Cmd.finish s run 0 0 [0, 0, 2, 0]).fire 69
  else
    let s1 := Cmd.keepRun s { run with wait := .resync }
    if s1.twn.resync.isSome then s1
    else if s1.role = 1 ∧ Twn.sameRoot s1 = true then Twn.nameResync s1 (s1.frameNo + 2) true
    else Twn.prepare s1 true

/-- TWIN_RESYNC (R518). -/
def execTwinResync (s : State) : Host.Outcome State Fault Refusal := .next (Cmd.start s 0x41 Twn.resync)

/-- AUTO_RESYNC_START (R515): the active starts an automatic resync of a DETACHED peer with equal roots. -/
def execAutoResyncStart (at_ : Nat) (s : State) : Host.Outcome State Fault Refusal :=
  .next (if s.role = 1 ∧ s.flag Reg.TWN_CTL_AUTO_RESYNC = true ∧ Tth.up s = true ∧ s.fld Reg.TWN_ST_PEER_ROLE = 3 ∧
      Twn.sameBale s = true ∧ Twn.sameRoot s = true ∧ s.twn.resync.isNone = true ∧
      (s.twn.lastAuto.all fun t => decide (t + 245760000 * s.fld Reg.TWN_CFG_RESYNC ≤ at_)) = true then
      Twn.nameResync { s with twn := { s.twn with lastAuto := some at_ } } (Frame.after s (at_ + 12288)) false
    else s)

end Sys2Proof.Machine
end

