-- ==== Sys2Proof/Machine/Live.lean ====
section
/-! DEFINITION. What a bus close takes and what a boundary makes live: commits, swaps, migration, and the CLASH test of the DMA
buffers (spec 08_signal_graph.md: R250 to R255, R582; 09_bales_digest.md: R297 to R302; 11_network_switch.md: R362). -/

namespace Sys2Proof.Machine

/-- The receive, port and sense buffers as stretches of the hayloft (R361, R410, R425). -/
def Buf.rx (s : State) : BaleRec := ⟨2, 0, s.fld Reg.NSW_RXBUF_BASE * 0x40000, 4096 * Nsw.depth s, 0⟩
def Buf.port (s : State) : BaleRec := ⟨2, 0, s.fld Reg.SAP_PBUF_BASE * 0x40000, 2112 * Port.depth s, 0⟩
def Buf.sense (s : State) : BaleRec := ⟨2, 0, s.fld Reg.SFB_SBUF_BASE * 0x40000, 512 * Sfb.depth s, 0⟩

/-- The buffer reaches beyond the present hayloft, or meets the USE of the LIVE or an ARMED bale, or one of `others`. -/
def Buf.clash (s : State) (b : BaleRec) (others : List BaleRec) : Bool :=
  let uses := ((List.range 2).filter fun i => Bale.st s i = 4 ∨ Bale.st s i = 5).flatMap fun i => Bale.use (Bale.rd s i)
  decide (s.variant.hayMib * 0x100000 < b.base + b.len) || uses.any b.meets || others.any b.meets

/-- The CLASH tests of the three buffers (R362, R411, R425); a CLASH stands until STRM_EN is written 0. -/
def Buf.test (s : State) : State :=
  let s1 := s.when (Buf.clash s (Buf.rx s) []) fun t => t.setFlag Reg.NSW_RXBUF_CLASH true
  let s2 := s1.when (Buf.clash s (Buf.port s) [Buf.rx s]) fun t => t.setFlag Reg.SAP_PBUF_CLASH true
  s2.when (Buf.clash s (Buf.sense s) [Buf.rx s, Buf.port s]) fun t => t.setFlag Reg.SFB_SBUF_CLASH true

/-- STRM_EN was written 0: CLASH clears. -/
def Buf.clear (s : State) : State :=
  ((s.setFlag Reg.NSW_RXBUF_CLASH false).setFlag Reg.SAP_PBUF_CLASH false).setFlag Reg.SFB_SBUF_CLASH false

/-- The ARM_BALE command that waits for the writes of slot `i` completes. -/
def Bale.armDone (s : State) (i : Nat) : State := match s.cmd.run.find? fun r => r.wait == .arming with
  | some r => Bale.finish s r i 0
  | none => s

/-- The arming writes of the bale in slot `i` are complete: the slot is ARMED (Table 09-7). -/
def Bale.armed (s : State) (i : Nat) : State :=
  let s0 := Bale.noteRead s i (Bale.len (Bale.rd s i))
  let s1 := Bale.armWrites s0 (Bale.rd s i) (Bale.liveRd s)
  let s2 : State := { s1 with bale := { s1.bale with arming := none } }
  Bale.armDone (Buf.test (Bale.setState s2 i 4)) i

/-- ARMING_WRITES_COMPLETE (R297): the writes are complete and the slot becomes ARMED. -/
def execArmingWritesComplete (s : State) : Host.Outcome State Fault Refusal :=
  .next (match s.bale.arming with
    | none => s
    | some i => Bale.armed s i)

/-- STRM_EN_WRITE (R362, R371): a change to 1 tests the buffers and starts the streams afresh; a write of 0 clears CLASH. -/
def Nsw.strmEn (s : State) (en : Bool) : State :=
  let was := s.flag Reg.NSW_CTL_STRM_EN
  let s1 := s.setFlag Reg.NSW_CTL_STRM_EN en
  if en then (if was then s1 else Nsw.restart (Buf.test s1)) else Buf.clear s1

/-- STRM_EN_WRITE (R362). -/
def execStrmEnWrite (en : Bool) (s : State) : Host.Outcome State Fault Refusal := .next (s.bar fun t => Nsw.strmEn t en)

/-- The PARAM_COMMIT commands that wait, in order of acceptance, with the writes that belong to them. -/
def Commit.waiting (s : State) : List (Run × List Nat) := s.cmd.run.filterMap fun r => match r.wait with
  | .commit none ws => some (r, ws)
  | _ => none

/-- A write accepted after the last waiting PARAM_COMMIT and before the snapshot belongs to it (R582). -/
def Commit.attach (s : State) : State :=
  match (Commit.waiting s).getLast? with
  | none => s
  | some x =>
    let t := Cmd.keepRun s { x.1 with wait := .commit none (x.2 ++ s.cmd.writes) }
    { t with cmd := { t.cmd with writes := [] } }

/-- The stall parameter pages that the writes `ws` make differ from their live values. -/
def Commit.pages (s : State) (ws : List Nat) : List Nat :=
  (((ws.filter fun w => 2 ^ 24 ≤ w).map (· - 2 ^ 24)).eraseDups).filter fun q => Page.shadow s (256 + q) ≠ Page.live s (256 + q)

/-- The snapshot of the writes `ws` for boundary `k` (R582). -/
def Commit.snapshot (s : State) (k : Nat) (ws : List Nat) : Snapshot :=
  { k := k
    regs := (ws.filter fun w => w < 2 ^ 24).foldl
      (fun m o => Sparse.insert m o (Reg.blend (s.reg o) (s.shReg o) (Reg.frameBits o))) []
    pages := (Commit.pages s ws).map fun q => (q, Page.shadow s (256 + q)) }

/-- More than four changed pages lie in one barn (R255). -/
def Commit.tooMany (s : State) (ws : List Nat) : Bool :=
  let ps := Commit.pages s ws
  (List.range 6).any fun b => 4 < (ps.filter fun q => q / 512 = b).length

/-- What a bus close makes of the waiting commits: those admitted and their writes, those rejected, and whether one waits for the
backlog. -/
structure CommitSort where
  take   : List Run := []
  ws     : List Nat := []
  reject : List (Run × List Nat) := []
  late   : Bool := false

/-- One waiting commit is examined (R250, R582, R538): `may` says that the twin allows it. -/
def Commit.examine (s : State) (may : Run → Bool) (a : CommitSort) (x : Run × List Nat) : CommitSort :=
  let ws := a.ws ++ x.2
  if !may x.1 then a
  else if 12 < (Save.backlog s (some (Commit.snapshot s (s.frameNo + 1) ws)) true).length then { a with late := true }
  else if Commit.tooMany s ws then { a with reject := a.reject ++ [x] }
  else { a with take := a.take ++ [x.1], ws := ws }

/-- The commits that may be taken at this bus close are admitted or rejected, and the admitted ones are taken (R250, R252, R255, R582). -/
def Commit.take (s : State) (may : Run → Bool) : State :=
  let s1 := Commit.attach s
  let a := (Commit.waiting s1).foldl (Commit.examine s1 may) {}
  let k := s1.frameNo + 1
  let back := (a.reject.flatMap fun x => x.2).filter fun w => !a.ws.contains w
  let s2 := s1.each a.take fun t r => Cmd.keepRun t { r with wait := .commit (some k) a.ws }
  let s3 : State := if a.take.isEmpty then s2
    else (({ s2 with cmd := { s2.cmd with taken := some (Commit.snapshot s1 k a.ws) } } : State).incWrap
      Reg.GRAPH_COMMIT_COUNT).setFlag Reg.GRAPH_COMMIT_TAKEN true
  let s4 : State := { s3 with cmd := { s3.cmd with writes := s3.cmd.writes ++ back } }
  let s5 := s4.each a.reject fun t x => Cmd.finish t x.1 3 0x82 []
  Save.show ((s5.setFlag Reg.GRAPH_COMMIT_PENDING (!(Commit.waiting s5).isEmpty)).setFlag Reg.PWR_TACK_WAIT a.late)

/-- The entry of the graph that the word at `o` belongs to. -/
def Commit.entry (o : Nat) : Option (FadeKind × Nat) :=
  if 0x0C1000 ≤ o ∧ o < 0x0C4000 then some (.intake, (o - 0x0C1000) / 8)
  else if 0x0C4000 ≤ o ∧ o < 0x0C7000 then some (.gateA, (o - 0x0C4000) / 4)
  else if 0x0C8000 ≤ o ∧ o < 0x0CE000 then some (.outlet, (o - 0x0C8000) / 16)
  else none

/-- The word at `o` with the live values of the fields that fade and of FADE and CURVE. -/
def Commit.step (s : State) (o : Nat) (w : Word) : Word := match Commit.entry o with
  | none => w
  | some e => ((Graph.fadeFields e.1 e.2 ++ Graph.lawFields e.1 e.2).filter fun f => f.off = o).foldl (fun w f => f.ins w (s.fld f)) w

/-- The pages of a snapshot become live. -/
def Commit.livePages (s : State) (ps : List (Nat × List Byte)) : State :=
  { s with bale := { s.bale with
      pageLive := ps.foldl (fun m p => p.2.zipIdx.foldl (fun m b => Sparse.put m (4096 * p.1 + b.2) 0 b.1) m) s.bale.pageLive } }

/-- The F fields of a snapshot become live (R251), and no other bits of their words: entries of the graph fade (R259, R260), but for those
that `steps` names. -/
def Commit.liveRegs (s : State) (regs : Sparse Word) (steps : FadeKind → Bool) : State :=
  let fades (o : Nat) : Option (FadeKind × Nat) := match Commit.entry o with
    | some e => if steps e.1 then none else some e
    | none => none
  let s1 := s.each regs fun t p =>
    t.setReg p.1 (Reg.blend (t.reg p.1) (if (fades p.1).isSome then Commit.step s p.1 p.2 else p.2) (Reg.frameBits p.1))
  s1.each ((regs.filterMap fun p => fades p.1).eraseDups) fun t e =>
    Graph.commitEntry e.1 (fun o => Sparse.get regs o (s.reg o)) t e.2

/-- The commands of the taken commit complete, and GRAPH_COMMIT records it (R252). -/
def Commit.done (s : State) (k : Nat) : State :=
  let rs := s.cmd.run.filter fun r => match r.wait with
    | .commit (some _) _ => true
    | _ => false
  let s1 : State := ({ s with cmd := { s.cmd with taken := none } } : State).setFlag Reg.GRAPH_COMMIT_TAKEN false
  s1.each rs fun t r => Cmd.finish t r 0 0 [k % 2 ^ 32, k / 2 ^ 32, 0]

/-- The snapshot that was taken becomes live at boundary `k` (R251). -/
def Commit.live (s : State) (k : Nat) (steps : FadeKind → Bool) : State := match s.cmd.taken with
  | none => s
  | some x =>
    let s1 := Commit.livePages (Commit.liveRegs s x.regs steps) x.pages
    Commit.done (s1.setFld Reg.GRAPH_COMMIT_K_K k) k

/-- A commit that was taken before WARM_N becomes live with the boot swap at boundary `k` (R337): GRAPH_COMMIT records it (R252). -/
def Commit.shown (s : State) (k : Nat) : State :=
  if s.flag Reg.GRAPH_COMMIT_TAKEN then (s.setFld Reg.GRAPH_COMMIT_K_K k).setFlag Reg.GRAPH_COMMIT_TAKEN false else s

/-- Samples per frame and rate of the bale in slot `i`. -/
def Swap.rate (s : State) (i : Nat) : Nat := Frame.rateOf (Bale.fs (Bale.rd s i))
def Swap.n (s : State) (i : Nat) : Nat := 2 ^ Bale.nlog (Bale.rd s i)

/-- The bale in slot `i` has another format than the live one (R302). -/
def Swap.changes (s : State) (i : Nat) : Bool := Swap.rate s i != s.rate || Swap.n s i != s.frameN

/-- The number that boundary `k` of the live format has in the format of slot `i` (R302); none where it is no format boundary. -/
def Swap.number (s : State) (i k : Nat) : Option Nat :=
  let a := k * s.frameN * Swap.rate s i
  let b := s.rate * Swap.n s i
  if b = 0 then none else if a % b = 0 then some (a / b) else none

/-- The slot whose waiting swap this bus close takes (R298): `peerOk` says that the peer has an ARMED slot of the same root (R304),
`may` that the twin allows the command. -/
def Swap.due (s : State) (peerOk : Bool) (may : Run → Bool) : Option Nat :=
  if (Bale.live s).isNone then none
  else s.cmd.run.findSome? fun r => match r.wait with
    | .swap i none =>
      if s.bale.mark = some i ∧ Bale.st s i = 4 ∧ (Swap.number s i (s.frameNo + 1)).isSome = true ∧ may r = true ∧
          (!r.sent || peerOk) = true ∧ (Swap.backlog s i).length ≤ 12 then some i else none
    | _ => none

/-- The waiting swaps of slot `i` are taken; a waiting PARAM_COMMIT completes SUPERSEDED (R298, R299). -/
def Swap.take (s : State) (i : Nat) : State :=
  let k := (Swap.number s i (s.frameNo + 1)).getD (s.frameNo + 1)
  let s1 : State := { s with
    bale := { s.bale with taken := some i, boot := false }
    cmd := { s.cmd with run := s.cmd.run.map fun r => match r.wait with
      | .swap j none => if j = i then { r with wait := .swap i (some k) } else r
      | _ => r } }
  (s1.each (Commit.waiting s1) fun t x => Cmd.finish t x.1 2 0 []).setFlag Reg.GRAPH_COMMIT_PENDING false

/-- The MIGRATE records of a swap that was taken are read (R301): ping-pong sources of the last frame of the old bale. -/
def Swap.readMigration (s : State) : State :=
  match s.bale.taken, Bale.live s with
  | some i, some _ =>
    let r := Bale.rd s i
    let ms := (Bale.migs r).map (Bale.migRec r)
    let from_ (x : BaleRec) : Nat :=
      let stride := MirrorRegion.stride s ⟨x.space, x.unit, 0, 0, true⟩
      Bale.addr x.space x.unit (x.base + (if x.at_ = 1 then s.parity * stride else 0))
    let s1 := (Bale.noteRead s i (Bale.len r)).each ms fun t m => Mem.noteRange t 2 (from_ m.1) m.1.len
    { s1 with bale := { s1.bale with migrate := ms.map fun m =>
        { space := m.2.space, unit := m.2.unit, dst := m.2.base, pp := m.2.at_ = 1
          bytes := (List.range m.1.len).map fun n => Mem.clean s (from_ m.1 + n) } } }
  | _, _ => s

/-- The migration destinations are written in the frame of boundary `k`, the new strides being live (R301). -/
def Swap.writeMigration (s : State) (k : Nat) : State :=
  let s1 := s.each s.bale.migrate fun t m =>
    let stride := MirrorRegion.stride s ⟨m.space, m.unit, 0, 0, true⟩
    let a := Bale.addr m.space m.unit (m.dst + (if m.pp then (1 - k % 2) * stride else 0))
    Mem.write t 2 (m.bytes.zipIdx.map fun b => (a + b.2, b.1))
  { s1 with bale := { s1.bale with migrate := [] } }

/-- A state whose shadow words are the values that the bale in slot `i` gives every F word, after adjustment (R300). -/
def Swap.shadow (s : State) (i : Nat) : State :=
  let r := Bale.rd s i
  (Page.registers s.variant).foldl (Swap.page s r true) (Swap.dlens s r)

/-- The F words of the register pages that `sel` names take their shadow values. -/
def Swap.liveWords (s : State) (sel : Nat → Bool) : State :=
  s.each ((Page.registers s.variant).filter sel) fun t p =>
    t.each (Page.fwords s.variant p) fun u o => u.setReg o.1 (Reg.blend (u.reg o.1) (u.shReg o.1) o.2)

/-- A GRAPH_OUT page. -/
def Swap.outPage (p : Nat) : Bool := decide (0xC8 ≤ p) && decide (p ≤ 0xCD)

/-- Stall `i` takes the code and the strides of a bale: its program bank flips (R299, R127). -/
def Swap.stall (r : Nat → Nat) (s : State) (i : Nat) : State :=
  let x := s.stall i
  let s1 := (s.setStall i { x with code := decide (0 < Bale.nb r i) }).setFld (Reg.STL_PMEM_LIVE_BANK i) (1 - Stl.bank s i)
  (((s1.setFld (Reg.STL_PP_LOC_STRIDE i) (Bale.stride r 0)).setFld (Reg.STL_PP_BST_STRIDE i) (Bale.stride r 1)).setFld
    (Reg.STL_PP_HAY_STRIDE i) (Bale.stride r 2)).setReg (0x0C0400 + 8 * i) (BitVec.ofNat 32 (Bale.sio r i 0))

/-- The mirrored regions of a bale. -/
def Swap.regions (r : Nat → Nat) : List MirrorRegion :=
  (Bale.mirror r).map fun m => ⟨m.space, m.unit, m.base, m.len, m.at_ % 2 == 1⟩

/-- Timetable, strides, images, mirrored regions and format of the bale in slot `i` (Table 09-8, boundary k). -/
def Swap.timetable (s : State) (i : Nat) : State :=
  let r := Bale.rd s i
  let regions := Swap.regions r
  let s1 := s.each (List.range s.variant.stalls) (Swap.stall r)
  let s2 : State := { s1 with mem := { s1.mem with regions := regions } }
  let s3 := ((s2.setFld Reg.TOP_MIRROR_REGIONS regions.length).setFld Reg.TOP_MIRROR_BYTES ((regions.map fun m => m.len).sum)).setFld
    Reg.TOP_SCHED_CUT (Bale.tt r 0)
  let s4 := ((s3.setFlag Reg.TOP_BUS_IMG_EN (Bale.busEn r)).setFld Reg.TOP_BUS_IMG_BASE (Bale.busBase r)).setFld
    Reg.GRAPH_INIMG_BASE (Bale.inimg r)
  (s4.setFld Reg.TOP_FRAME_CFG_FS (Bale.fs r)).setFld Reg.TOP_FRAME_CFG_NLOG (Bale.nlog r)

/-- The stall parameter pages of the bale take their values in both banks (R300). -/
def Swap.stallPages (s : State) (i : Nat) : State :=
  let ps := Bale.pageList (Bale.rd s i)
  let m := ps.foldl (fun m q => (Swap.value s i (256 + q)).zipIdx.foldl (fun m b => Sparse.put m (4096 * q + b.2) 0 b.1) m) []
  { s with bale := { s.bale with pages := ps, pageLive := m, pageShad := m } }

/-- The slots and the directory: `i` becomes LIVE, the old bale VERIFIED (R286, R298). -/
def Swap.slots (s : State) (i : Nat) : State :=
  let old := (List.range 2).find? fun j => j ≠ i ∧ Bale.st s j = 5
  let s1 : State := { s with bale := { s.bale with mark := none, taken := none, boot := false } }
  let s2 := match old with
    | some j => Bale.setState s1 j 3
    | none => s1
  let s3 := ((Bale.setState s2 i 5).setFlag Reg.TOP_BALE_LIVE_VALID true).setFld Reg.TOP_BALE_LIVE_SLOT i
  (s3.incWrap Reg.TOP_BALE_LIVE_SWAPS).setFlag Reg.TOP_RCD_FLAGS_NO_BALE false

/-- GRAPH pages 8–13, the output slot areas and the delay lines of the live bale become live (Table 09-8, boundary k+1). -/
def Swap.outlet (s : State) : State := match Bale.liveRd s with
  | none => s
  | some r =>
    let i := s.fld Reg.TOP_BALE_LIVE_SLOT
    let s1 := (Swap.liveWords ((Swap.dlens s r).withShadow (Swap.shadow s i)) Swap.outPage).withShadow s
    let s2 := s1.each (List.range s.variant.stalls) fun t j => t.setReg (0x0C0404 + 8 * j) (BitVec.ofNat 32 (Bale.sio r j 1))
    let lines := (List.range 1536).foldl
      (fun m c => if 0 < Bale.dlen r c then Sparse.put m c (0, true) (Bale.lbase r c % 2 ^ 27, !(Bale.lbase r c).testBit 31) else m) []
    { s2 with
      graph := { s2.graph with fadeOut := [], lim := [], lines := lines }
      bale := { s2.bale with outPart := none } }

/-- The values that boot gives pages in place of the bale's (R539, R545). -/
def Swap.restore (s : State) : State :=
  let s1 := s.each s.pwr.restore fun t p =>
    if p.1 < 256 then
      t.each (Page.fwords s.variant p.1) fun u o =>
        let v := BitVec.ofNat 32 (Arith.ofBytes ((p.2.drop (o.1 % 4096)).take 4))
        let w := Reg.blend (u.reg o.1) v o.2
        (u.setReg o.1 w).setShReg o.1 (Reg.blend (u.shReg o.1) v o.2)
    else if t.bale.pages.contains (p.1 - 256) then
      let q := p.1 - 256
      let a := Bale.addr 0 (q / 64) (4096 * (q % 64))
      let put (m : Sparse Byte) := p.2.zipIdx.foldl (fun m b => Sparse.put m (4096 * q + b.2) 0 b.1) m
      let t1 := Mem.write t 2 (p.2.zipIdx.map fun b => (a + b.2, b.1))
      { t1 with bale := { t1.bale with pageLive := put t1.bale.pageLive, pageShad := put t1.bale.pageShad } }
    else t
  { s1 with pwr := { s1.pwr with restore := [] } }

/-- Every block learns which registers a swap or commit changed. -/
def Live.blocks (old s : State) (k : Nat) : State := Drv.boundary old (Sfb.boundary old (Nsw.commit old s) k)

/-- The swap that was taken becomes live at boundary `k` of the new numbering (R299): with no bale live before it, all its parts at
once and without migration (R253). -/
def Swap.live (s : State) (i k : Nat) : State :=
  let first := (Bale.live s).isNone
  let boot := s.bale.boot
  let change := Swap.changes s i
  let s0 := (Bale.noteRead s i (Bale.len (Bale.rd s i))).withShadow (Swap.shadow s i)
  let s1 : State := { s0 with cmd := { s0.cmd with writes := [], taken := none } }
  let s2 := Swap.timetable (Swap.stallPages s1 i) i
  let s3 := Swap.liveWords s2 fun p => !Swap.outPage p
  let s4 : State := { s3 with
    graph := { s3.graph with fadeIn := [], fadeGa := [] }
    bale := { s3.bale with outPart := some k, gapFrom := if change && !first then some k else none } }
  let s5 := Swap.slots s4 i
  let s6 := if first then Swap.outlet s5 else Swap.writeMigration s5 k
  let s7 := if boot then Swap.restore s6 else s6
  if first then (s7.each (Commit.waiting s7) fun t x => Cmd.finish t x.1 2 0 []).setFlag Reg.GRAPH_COMMIT_PENDING false else s7

/-- The taken swaps of the LIVE slot complete at boundary `at_`, each reporting its boundary k; those of it that still wait complete
SUPERSEDED (R298), but for one accepted with no bale live, which is `first`. -/
def Swap.done (s : State) (first : Bool) (at_ : Nat) : State :=
  let i := s.fld Reg.TOP_BALE_LIVE_SLOT
  s.each s.cmd.run fun t r => match r.wait with
    | .swap j k =>
      if j ≠ i then t
      else if first || k.isSome then Cmd.finish t r 0 0 [k.getD at_ % 2 ^ 32, k.getD at_ / 2 ^ 32, 0]
      else Cmd.finish t r 2 0 []
    | _ => t

end Sys2Proof.Machine
end

