-- ==== Sys2Proof/Machine/Mirror.lean ====
section
/-! DEFINITION. What the twin devices exchange about a frame (spec 17_twin_tether.md: R505 to R513, R516; 06_schedule_memory.md: R212
to R216): forwarded inputs, mirrored state, refresh, digests and their comparison, resync records. -/

namespace Sys2Proof.Machine

/-- The frame copies of the mirrored regions for parity `fp` are read, in the order of the MIRROR section (R197, R198, R212, R214, R510). -/
def Mir.copy (s : State) (fp : Nat) : State × List Byte :=
  s.mem.regions.foldl (fun p r =>
    let q := Mem.take p.1 2 (r.copyBase s fp) r.len
    (q.1, p.2 ++ q.2)) (s, [])

/-- MIR over bytes (R510): 0 where nothing is mirrored. -/
def Mir.crc (bs : List Byte) : Nat := if bs.isEmpty then 0 else Crc.crc32c bs

/-- The bytes of a copy are written into the frame copies for parity `fp` (R215). -/
def Mir.write (s : State) (fp : Nat) (bs : List Byte) : State :=
  (s.mem.regions.foldl (fun (a : State × List Byte) r =>
    (Mem.write a.1 2 ((a.2.take r.len).zipIdx.map fun b => (r.copyBase s fp + b.2, b.1)), a.2.drop r.len)) (s, bs)).1

/-- The copy of frame `f` that was received is whole and clean (R214, R506): `own` is the MIR of this device's own copies. -/
def Mir.clean (s : State) (f own : Nat) : Bool :=
  s.twn.mirFrame == f && s.twn.mirBytes.length == (s.mem.regions.map fun r => r.len).sum &&
    s.twn.mirLast.any fun x => !x.2.1 && !(x.2.2 && x.1 != own)

/-- The install of frame `f` at the boundary after it (R215, R506, R516): by a device that was STANDBY or SUSPECT in frame `f`, or whose
resync names it. Such a device counts a copy that is not clean in UNCLEAN too, DETACHED as it is, of which R516 says nothing (DESIGN CHOICE,
log 62). -/
def Mir.install (s : State) (f own : Nat) : State :=
  if Twn.follows s || s.twn.resync.any (fun x => x.r == some f && s.role != 1) then
    if Mir.clean s f own then Mir.write s (f % 2) s.twn.mirBytes else s.incCnt Reg.TOP_MIRROR_STAT_UNCLEAN
  else s

/-- The used set (R505): channels that a live Gate A slot of a stall with code takes, or took before its running fade. -/
def Twn.usedSet (s : State) : List Nat :=
  let slots := ((List.range s.variant.stalls).filter fun i => (s.stall i).code).flatMap fun i =>
    (List.range (min 64 (s.fld (Reg.GRAPH_SIO_NIN i)))).map (64 * i + ·)
  let srcs := slots.flatMap fun g =>
    let x := Graph.fade s .gateA g
    s.fld (Reg.GRAPH_GA_SRC g) :: (if x.running then [x.old.getD 0 0x7FF] else [])
  (List.range 1536).filter fun c => srcs.contains c

/-- Words of the own image, as channels and samples, read in order; with their numbers. -/
def Twn.imageWords (s : State) (ws : List (Nat × Nat × Nat)) : State × List (Nat × Int) :=
  ws.foldl (fun p w =>
    let q := Mem.getWord p.1 (Graph.image s false w.2.1 w.2.2)
    (q.1, p.2 ++ [(w.1, q.2)])) (s, [])

/-- INPUT forwarding of the active in frame `k` (R505): at N = 16 the used set, which may be too large. -/
def Twn.forward (s : State) (k : Nat) : State :=
  if !Twn.feeds s then s
  else if s.frameN = 16 then
    let used := Twn.usedSet s
    if 768 < used.length then s.setFlag Reg.TWN_ST_FWD_OVER true
    else
      let p := Twn.imageWords s (used.zipIdx.flatMap fun c => (List.range 16).map fun j => (16 * c.2 + j, c.1, j))
      Tth.send p.1 k (.input true p.2)
  else
    let p := Twn.imageWords s ((List.range (1536 * s.frameN)).map fun i => (i, i % 1536, i / 1536))
    Tth.send p.1 k (.input false p.2)

/-- The age of a trip at `t` in ms, and the record of a drive channel at boundary instant `t` (R508). -/
def Twn.drvRecord (s : State) (t n : Nat) : DrvRecord :=
  let x := Drv.chan s n
  { state := Drv.st s n
    hold := if Drv.st s n = 4 then (x.hold - t + 2457599) / 2457600 else 0
    ages := x.trips.map fun a => (t - a) / 2457600 }

/-- The owner sends its drive records at each boundary (R508). -/
def Twn.sendDrive (s : State) (k : Nat) : State :=
  if s.flag Reg.TWN_ST_OWN then
    Tth.send s k (.drvRec ((List.range 64).map (Twn.drvRecord s (Frame.boundary s k))))
  else s

/-- A byte of the hayloft belongs to the refresh area (R509). -/
def Hay.inArea (s : State) (r : Nat → Nat) (a : Nat) : Bool :=
  Bale.inside (Bale.use r) 2 0 a && !Bale.inside (Bale.images r ++ Bale.mirrorRecs r ++ [Buf.rx s, Buf.port s, Buf.sense s]) 2 0 a

/-- The 4 KiB units of the refresh area, ascending. -/
def Hay.area (s : State) : List Nat := match Bale.liveRd s with
  | none => []
  | some r => (List.range (s.variant.hayMib * 256)).filter fun u => (List.range 4096).any fun i => Hay.inArea s r (4096 * u + i)

/-- The active sends `n` units of the refresh area after bus close (R509), in ascending order from TWN_REFRESH.NEXT. -/
def Twn.refresh (n : Nat) (s : State) : State :=
  if n = 0 ∨ !Twn.feeds s then s
  else
    let area := Hay.area s
    let step (t : State) (_ : Nat) : State :=
      let next := t.fld Reg.TWN_REFRESH_NEXT
      match area.find? fun u => next ≤ u with
      | none => (t.incWrap Reg.TWN_REFRESH_PASS).setFld Reg.TWN_REFRESH_NEXT (area.headD 0)
      | some u =>
        let q := Mem.take t 2 (4096 * u) 4096
        let unit := (u, q.2)
        let t1 := (Tth.send q.1 q.1.frameNo (.refresh [unit] [])).setFld Reg.TWN_REFRESH_NEXT (u + 1)
        let t2 : State := { t1 with twn := { t1.twn with units := t1.twn.units ++ [unit] } }
        if (area.getLast?.getD 0) ≤ u then (t2.incWrap Reg.TWN_REFRESH_PASS).setFld Reg.TWN_REFRESH_NEXT (area.headD 0) else t2
    if area.isEmpty then s else s.each (List.range n) step

/-- The rows of the units sent in frame `f` that the active has written since are sent at the boundary (R509). -/
def Twn.refreshRows (s : State) (f : Nat) : State :=
  if !Twn.feeds s then { s with twn := { s.twn with units := [] } }
  else
    let rows := s.twn.units.flatMap fun u => (List.range 64).filterMap fun i =>
      let a := 4096 * u.1 + 64 * i
      let now := (Mem.take s 2 a 64).2
      if now = (u.2.drop (64 * i)).take 64 then none else some (a, now)
    let s0 := s.each rows fun t x => Mem.noteRange t 2 x.1 64
    let s1 : State := { s0 with twn := { s0.twn with units := [] } }
    if rows.isEmpty then s1 else Tth.send s1 f (.refresh [] rows)

/-- The follower writes the units and rows received for boundary `k` (R509); a pass that ends and began in time sets HAYSYNC (R516). -/
def Twn.installRefresh (s : State) (k : Nat) : State :=
  match Bale.liveRd s with
  | none => s
  | some r =>
    if !(Twn.follows s || s.twn.resync.isSome) || s.role == 1 then s
    else
      let put (t : State) (a : Nat) (bs : List Byte) : State :=
        Mem.write t 2 ((bs.zipIdx.map fun b => (a + b.2, b.1)).filter fun c => Hay.inArea s r c.1)
      let s1 := s.each s.twn.units fun t u => put t (4096 * u.1) u.2
      let s2 := s1.each s.twn.rows fun t x => put t x.1 x.2
      let area := Hay.area s
      let us := s.twn.units.map fun u => u.1
      let began := if (area.head?.any fun u => us.contains u) || area.isEmpty then k else s.twn.passFrom
      let ends := area.isEmpty || area.getLast?.any fun u => us.contains u
      let s3 : State := { s2 with twn := { s2.twn with units := [], rows := [], passFrom := began } }
      if ends && s.twn.hayFrom.any (fun h => decide (h ≤ s.twn.passFrom) || area.isEmpty) then
        ({ s3 with twn := { s3.twn with hayFrom := none } } : State).setFlag Reg.TWN_ST_HAYSYNC true
      else s3

/-- The roles of frames `d` and `d + 1`, and the first exact frame, exempt data frame `d` from comparison (R510). -/
def Twn.exempt (s : State) (d : Nat) : Bool :=
  let ok (f : Nat) := s.twn.roles.any fun x => x.1 == f && (x.2 == 1 || x.2 == 2 || x.2 == 4)
  !ok d || !ok (d + 1) || !(s.twn.exact.any fun e => decide (e ≤ d))

/-- The DIGEST of data frame `d` (R510): the outlet store and the sums noted for it. -/
def Twn.digestOf (s : State) (d : Nat) : TwnDigest :=
  let x := (s.twn.sums.find? fun x => x.1 = d).getD (d, 0, 0)
  let out := (List.range s.frameN).flatMap fun j => (List.range 1536).flatMap fun c =>
    Arith.bytes 3 ((Graph.outlet s d c j).emod (2 ^ 24)).toNat
  { out := Crc.crc32c out, bus := x.2.1, mir := x.2.2
    ufD := s.twn.faults.contains d, ufD1 := s.twn.faults.contains (d + 1), ovr := s.twn.ovr.contains d, exempt := Twn.exempt s d }

/-- BUS of the latest read-out (R510). -/
def Twn.busCrc (s : State) (n : Nat) : Nat :=
  Crc.crc32c ((List.range (256 * n)).flatMap fun i => Cmd.wordBytes (Arith.word (Sparse.get s.graph.sums i 0)))

/-- The follower's HAYSYNC: its own, or that of the peer's most recent HELLO. -/
def Twn.haysync (s : State) : Bool := if s.role = 1 then s.twn.peer.any fun p => p.haysync else s.flag Reg.TWN_ST_HAYSYNC

/-- TWN_ST.UNATTR shows the unattributed mismatches of the last 1,000 data frames up to `d` (R513). -/
def Twn.showUnattr (s : State) (d : Nat) : State :=
  let l := s.twn.unattr.filter fun x => d < x + 1000
  ({ s with twn := { s.twn with unattr := l } } : State).setFld Reg.TWN_ST_UNATTR (min 2 l.length)

/-- What follows from a counted mismatch (R512, R513): `who` is 1 for this device, 2 for the peer, 0 where it is unattributed. -/
def Twn.attribute (s : State) (d who : Nat) : State :=
  let k := s.frameNo + 1
  let s1 := (s.faultEvent 75).incCnt Reg.TWN_CNT1_MISMATCH
  if who = 1 then
    if s.role = 1 then (if s.flag Reg.TWN_ST_PEER_ELIG then Twn.request s1 3 else s1)
    else if s.role = 2 then Twn.setRole s1 k 4 else s1
  else if who = 2 then s1
  else
    let s2 := Twn.showUnattr ({ s1 with twn := { s1.twn with unattr := d :: s1.twn.unattr } } : State) d
    let s3 := s2.incCnt Reg.TWN_CNT1_UNATTR
    if s.role = 2 ∧ 3 ≤ s2.twn.unattr.length then Twn.setRole s3 k 4 else s3

/-- The comparison of data frame `d` once both digests are at hand (R511 to R513). -/
def Twn.compare (s : State) (d : Nat) : State :=
  match (s.twn.own.find? fun x => x.1 = d), (s.twn.theirs.find? fun x => x.1 = d) with
  | some a, some b =>
    let s0 : State := { s with twn := { s.twn with theirs := s.twn.theirs.filter fun x => x.1 ≠ d } }
    let x := a.2
    let y := b.2
    if x.ovr || x.exempt || y.ovr || y.exempt || (x.out = y.out && x.bus = y.bus && x.mir = y.mir) then s0
    else
      let mine := x.ufD || x.ufD1
      let other := y.ufD || y.ufD1
      let who := if mine && !other then 1 else if other && !mine then 2 else 0
      let hay := Twn.haysync s
      let s1 := ((s0.setFld Reg.TWN_MM_FRAME_FRAME d).setFlag Reg.TWN_MM_VALID true).setFlag Reg.TWN_MM_OUT (x.out != y.out)
      let s2 := ((s1.setFlag Reg.TWN_MM_BUS (x.bus != y.bus)).setFlag Reg.TWN_MM_MIR (x.mir != y.mir)).setFld Reg.TWN_MM_ATTR who
      let s3 := (s2.setFlag Reg.TWN_MM_PRE (!hay)).fire 67
      if hay then Twn.attribute s3 d who else s3
  | _, _ => s

/-- Boundary `k` of a paired device: the DIGEST of data frame `k − 2` is made, sent and compared (R510, R511). -/
def Twn.digestBoundary (s : State) (k : Nat) : State :=
  if s.role = 0 ∨ !Tth.up s ∨ k < 2 then s
  else
    let d := k - 2
    let x := Twn.digestOf s d
    let s1 := Twn.showUnattr { s with twn := { s.twn with own := ((d, x) :: s.twn.own).take 8 } } d
    Twn.compare (Tth.send s1 d (.digest x)) d

/-- The resync record of a fade engine (R516); the law is that of the running fade. -/
def Twn.fadeNote (s : State) (e : FadeKind) (i : Nat) : FadeNote :=
  let x := Graph.fade s e i
  let laws := s.flds (Graph.lawFields e i)
  let l : LimRec := if e = .outlet then Sparse.get s.graph.lim i {} else {}
  { m := if x.running then some x.m else none, old := x.old, fade := laws.getD 0 0, curve := laws.getD 1 0, defer := x.defer
    limE := l.e, limH := l.h }

/-- A record is installed in the fade engine it describes. -/
def FadeNote.install (e : FadeKind) (s : State) (p : Nat × FadeNote) : State :=
  let x := p.2
  let s1 := match x.m with
    | some m =>
      let laws := Graph.lawFields e p.1
      Graph.setFade (s.setFlds laws [x.fade, x.curve]) e p.1
        { old := x.old, m := m, len := Fade.len x.fade, cos := x.curve = 1, defer := x.defer }
    | none => Graph.setFade s e p.1 { defer := x.defer }
  if e = .outlet then
    { s1 with graph := { s1.graph with lim := Sparse.put s1.graph.lim p.1 {} { e := x.limE, h := x.limH } } }
  else s1

/-- The Gate A or outlet records that the active sends in a resync of boundary `r` (R516). -/
def Twn.sendNotes (s : State) (k : Nat) : State := match s.twn.resync with
  | none => s
  | some x =>
    if s.role ≠ 1 then s
    else if x.r = some k then
      Tth.send s k (.sync 2 (.gateA ((List.range 3072).map fun g => (g, Twn.fadeNote s .gateA g))))
    else if x.r.any (fun r => r + 1 == k) then
      Tth.send s k (.sync 2 (.outlet ((List.range 1536).map fun c => (c, Twn.fadeNote s .outlet c))))
    else s

/-- The records of a resync are installed by the follower at boundaries r+1 and r+2, before the fades of the frame advance. -/
def Twn.installNotes (s : State) (k : Nat) : State := match s.twn.resync with
  | none => s
  | some x =>
    if s.role = 1 then s
    else if x.r.any (fun r => r + 1 == k) then
      { s.each s.twn.gaNotes (FadeNote.install .gateA) with twn := { s.twn with gaNotes := [] } }
    else if x.r.any (fun r => r + 2 == k) then
      { s.each s.twn.ocNotes (FadeNote.install .outlet) with twn := { s.twn with ocNotes := [] } }
    else s

/-- The resync is complete at boundary r+2 (R516, R519). -/
def Twn.completeResync (s : State) (k r : Nat) : State :=
  let s1 : State := { s with twn := { s.twn with resync := none, exact := some (r + 1), peerLeaf := [] } }
  let s2 := ((s1.setFlag Reg.TWN_ST_RESYNC false).setFlag Reg.TWN_ST_WARM false).fire 69
  s2.each (Cmd.waiting s2 .resync) fun t c => Cmd.finish t c 0 0 (Cmd.res64 k ++ [0, 0])

/-- A resync at boundary `k` (R516, R518): the follower becomes STANDBY at r+1, both ends complete at r+2, and a preparation that has
taken 20 ms ends. -/
def Twn.resyncBoundary (s : State) (k : Nat) : State := match s.twn.resync with
  | none => s
  | some x => match x.r with
    | some r =>
      if k = r + 1 ∧ s.role ≠ 1 then
        let t := Twn.applyRole s k 2
        { t with twn := { t.twn with hayFrom := some k } }
      else if k = r + 2 then Twn.completeResync s k r
      else s
    | none => if 49152000 < Frame.boundary s (k - x.began) then Twn.endResync s 4 else s

end Sys2Proof.Machine
end

