-- ==== Sys2Proof/Machine/Frame.lean ====
section
/-! DEFINITION. The rows of the frame (spec 01_frame_path.md: R24 to R31; 06_schedule_memory.md: R174 to R181, R207, R214;
08_signal_graph.md: R244; 12_timekeeper.md: R377 to R379; 17_twin_tether.md: R507): boundary, idle mark, window opening, state cut,
bus close, landing of stores, capture close, page writes. -/

namespace Sys2Proof.Machine

/-- A stall is not working: the frame's registers, loads and stores are gone (R79). -/
def Stall.rest (x : Stall) (st : StallStatus) : Stall := { code := x.code, prog := x.prog, progErr := x.progErr, status := st }

/-- The commands that wait for a boundary take their meter records (R331): those of frame `k`. -/
def Frame.meters (s : State) (k : Nat) : State :=
  s.each s.cmd.run fun t r => match r.wait with
    | .boundary ok => Meter.take ok k t r
    | _ => t

/-- The fade engines advance over the frame that ends; a reset of the graph takes effect (R259, R260, Table 18-3). -/
def Frame.fades (s : State) (gateA : Bool) : State :=
  let s1 := Graph.advance (Graph.advance (Graph.advance s .intake s.graph.inDone) .gateA gateA) .outlet s.graph.outDone
  let s2 : State := { s1 with graph := { s1.graph with inDone := false, outDone := false } }
  if !s2.graph.rst then s2
  else
    let s3 := Graph.endFades (Graph.endFades (Graph.endFades s2 .intake) .gateA) .outlet
    { s3 with graph := { s3.graph with rst := false, hpf := [], lim := [] } }

/-- The stalls that overran the frame that ends give zero to Gate B (R180). -/
def Frame.overran (s : State) : State :=
  { s with graph := { s.graph with overran := (List.range s.variant.stalls).filter fun i => (s.stall i).status == .overrun } }

/-- A field or page of the live configuration differs between two states (R308). -/
def Rcd.differs (a b : State) : Bool :=
  a.bale.pageLive != b.bale.pageLive ||
    (Page.registers a.variant).any fun p => (Page.fwords a.variant p).any fun o =>
      (a.reg o.1 &&& BitVec.ofNat 32 o.2) != (b.reg o.1 &&& BitVec.ofNat 32 o.2)

/-- The role that boundary `k` brings, and the opening instant of the window that follows (R489, R29, R301). -/
def Frame.role (s : State) (k : Nat) (late : Bool) : State :=
  let s1 := Twn.tookRole (match s.twn.roleAt with
    | some x => if x.1 ≤ k then Twn.applyRole s k x.2 else s
    | none => s) k
  let s2 := Twn.resyncBoundary s1 k
  let s3 := s2.setFlag Reg.TOP_FRAME_CFG_LATE_WIN (late || decide (2 ≤ s2.role))
  { s3 with twn := { s3.twn with roles := ((k, s3.role) :: s3.twn.roles).take 8 } }

/-- The stalls and the mirrored state at the start of a frame. -/
def Frame.clear (s : State) : State :=
  { s with
    phase := .s
    stalls := s.stalls.map fun p => (p.1, p.2.rest .idle)
    mem := { s.mem with shared := [], before := [], issued := 0, adds := 0, cutDone := false, unclean := false, breach := false }
    mtx := { s.mtx with reqLate := false }
    twn := { s.twn with fwdGot := [], fwdDone := false } }

/-- Gate A reads the own image where the intake pass of the last frame put it, whatever image the boundary made live. -/
def Frame.gateA (base : Nat) (s : State) : State :=
  if Graph.forward s then s
  else
    let now := s.fld Reg.GRAPH_INIMG_BASE
    (Graph.gateA (s.setFld Reg.GRAPH_INIMG_BASE base)).setFld Reg.GRAPH_INIMG_BASE now

/-- The sample of the outlet store that plays out in frame `k`; zero in the two frames after a change of format (R302). -/
def Frame.playSample (s : State) (k : Nat) (oc j : Nat) : Int :=
  if s.bale.gapFrom.any fun g => g ≤ k && k < g + 2 then 0 else Graph.outlet s (k - 2) oc j

/-- MIR of frame `f` (R510): the active's as sent, another device's over its own copies. -/
def Frame.mir (s : State) (f : Nat) : Nat :=
  if s.role = 1 then (if s.twn.mirFrame = f then (s.twn.mirLast.map fun x => x.1).getD 0 else 0)
  else if Twn.follows s ∨ s.twn.resync.isSome = true then Mir.crc (Mir.copy s (f % 2)).2 else 0

/-- A follower reads its own copies for that MIR. -/
def Frame.mirRead (s : State) (f : Nat) : State :=
  if s.role ≠ 1 ∧ (Twn.follows s ∨ s.twn.resync.isSome = true) then (Mir.copy s (f % 2)).1 else s

/-- What boundary `k` does before it makes anything live: `f` is the frame that ends, in the numbering it had. -/
def Frame.ends (s : State) (k f : Nat) (was : Bool) : State :=
  let own := Frame.mir s f
  let s1 := Frame.overran (Frame.meters (Twn.refreshRows (Frame.mirRead s f) f) f)
  let s2 := Twn.installRefresh (if s.bale.taken.isSome then s1 else Mir.install s1 f own) k
  let s3 := Graph.readBuses (Frame.fades (Twn.installNotes s2 k) was) f
  let bus := if s3.role = 0 ∨ !Tth.up s3 then 0 else Twn.busCrc s3 s3.frameN
  { s3 with twn := { s3.twn with sums := ((f, bus, own) :: s3.twn.sums).take 8 } }

/-- A swap of the frame format at boundary `k` (R302): the samples that play out before k + 3.5 µs keep their instants under the new counts,
and with the same rate the packets in the making and the marks of written positions stand, where a buffer keeps its depth. -/
def Frame.format (old : State) (k : Nat) (s : State) : State :=
  if old.rate = s.rate ∧ old.frameN = s.frameN then s
  else
    let same := decide (old.rate = s.rate)
    let was := (old.frameNo + 1) * old.frameN
    let play := (s.sap.play.filter fun r => decide (r.count < was) && decide (was ≤ r.count + k * s.frameN)).map fun r =>
      { r with count := r.count + k * s.frameN - was }
    { s with
      graph := { s.graph with store := [] }
      sap := { s.sap with play := play, marks := s.sap.marks.filter fun _ => same && Port.depth old == Port.depth s }
      nsw := { s.nsw with tx := s.nsw.tx.filter fun _ => same
                          marks := s.nsw.marks.filter fun _ => same && Nsw.depth old == Nsw.depth s }
      sfb := { s.sfb with written := s.sfb.written.filter fun _ => same && Sfb.depth old == Sfb.depth s } }

/-- What boundary `k` makes live (R251, R299): a swap's parts for k, those for k+1, a commit. The outlet works on data frame k−1 with
the settings that its frame had where a swap becomes live. `was` is the state before the boundary: a deferred fade that it has started changes
the live view too (R261, R308). -/
def Frame.live (was s : State) (k : Nat) : State :=
  let old := s
  match s.bale.taken with
  | some i =>
    let first := (Bale.live s).isNone
    let t0 := if first then s else Graph.outletPass s s.frameNo
    let t1 := Frame.format t0 k (Swap.live t0 i k)
    let t2 := (Buf.test (Live.blocks old t1 k)).setReg64 0x000028 k
    let t3 := Save.show (Save.index t2)
    if first then Rcd.boot s.bale.boot (Swap.done (Commit.shown t3 k) true k) k else Rcd.between t3
  | none =>
    let part := s.bale.outPart.isSome
    let t1 := if part then Swap.outlet s else s
    let t2 := Commit.live t1 k fun e => part && e == .outlet
    let t3 := Live.blocks old t2 k
    let t4 := if part || Rcd.differs was t3 then Rcd.changed t3 k else t3
    let t5 := (if part then Swap.done t4 false k else t4).setReg64 0x000028 k
    Save.settle (Save.show (Save.index t5))

/-- What the frame of boundary `k` does at its start, once everything that the boundary brings is live (R244). -/
def Frame.begins (s : State) (base k : Nat) (outlet : Bool) (old : State) : State :=
  let s1 := Frame.gateA base (Graph.busImage (Graph.clearHolds (Frame.clear s)))
  let s2 := if outlet then Graph.outletPass s1 (k - 1) else s1
  let s3 := Nsw.txBoundary s2 k (Frame.playSample s2 k)
  let s4 := Drv.sense (Graph.showFades (Port.boundary old s3 k (Frame.playSample s3 k)))
  Twn.sendNotes (Twn.sendDrive (Twn.digestBoundary (Twn.forward s4 k) k) k) k

/-- Boundary `k` is struck (R25, R244, R489). -/
def Frame.strike (s0 : State) (k : Nat) : State :=
  let s := Fc.drain s0
  let was := s.running
  let f := s.frameNo
  let base := s.fld Reg.GRAPH_INIMG_BASE
  let swap := s.bale.taken.isSome
  let first := (Bale.live s).isNone
  let s1 := (Frame.live s (Frame.ends s k f was) k).when (!was) Sfb.realign
  let s2 := Tkp.setRun (Tkp.marked s1 (Frame.boundary s1 k)) true
  let s3 := Frame.role s2 k swap
  Frame.begins s3 (if first then s3.fld Reg.GRAPH_INIMG_BASE else base) k (!swap || first) s

/-- The number of the next boundary while boundaries are struck: in the numbering of a swap that was taken (R302). -/
def Frame.next (s : State) : Nat := match s.bale.taken with
  | some i => if (Bale.live s).isNone then s.frameNo + 1 else (Swap.number s i (s.frameNo + 1)).getD (s.frameNo + 1)
  | none => s.frameNo + 1

/-- The instant of boundary `k` in the format of the bale in slot `i`, in root cycles. -/
def Swap.instant (s : State) (i k : Nat) : Nat :=
  if Swap.rate s i = 0 then 0 else k * Swap.n s i * (2457600000 / Swap.rate s i)

/-- Boundary `k` may be struck (R24, R377, R378): the timekeeper marks time, a bale is live or becomes live, and `k` is the next one, or the
first that lies late enough after the step; where a bale becomes live it is an idle mark, the first one late enough if the step is not past.
-/
def Frame.may (s : State) (k : Nat) : Bool :=
  Tkp.marking s && (match Bale.live s, s.bale.taken with
    | some _, _ =>
      if s.running then k == Frame.next s
      else decide (s.tkp.notBefore ≤ Frame.boundary s k) && (k == 0 || decide (Frame.boundary s (k - 1) < s.tkp.notBefore))
    | none, some i =>
      let t := Swap.instant s i k
      decide (s.tkp.notBefore ≤ t) && t % 819200 == 0 && (decide (s.tkp.notBefore ≤ s.tkp.node) || decide (t < s.tkp.notBefore + 819200))
    | none, none => false)

/-- FRAME_BOUNDARY (R25): a RESTEP that waits takes effect in its place (R379). -/
def execFrameBoundary (k : Nat) (s : State) : Host.Outcome State Fault Refusal :=
  .next (if !Frame.may s k then s else if s.tkp.restep then Tkp.restepped s else Frame.strike s k)

/-- IDLE_MARK (R377): marked in TRACK, COAST and FREE; with no bale live it is the first boundary of a bale that becomes live, and a RESTEP
takes effect at it (R379). -/
def execIdleMark (m : Nat) (s : State) : Host.Outcome State Fault Refusal :=
  .next (if !Tkp.marking s then s
    else
      let s0 := Tkp.marked s (m * 819200)
      let s1 : State := { s0 with tkp := { s0.tkp with mark := m } }
      if (Bale.live s).isSome then s1
      else if s.tkp.restep then Tkp.restepped s1
      else match s.bale.taken with
        | none => s1
        | some i =>
          let k := m * Swap.rate s i / (3000 * Swap.n s i)
          if Frame.may s1 k then Frame.strike s1 k else s1)

/-- COMPUTE_WINDOW_OPEN (R130, R79, R204): every stall with code starts at bundle address 0 with its registers zero; the bus bank of
the frame is zero. -/
def execComputeWindowOpen (s : State) : Host.Outcome State Fault Refusal :=
  .next (if !s.running || s.phase != .s then s
    else
      let bank := s.parity * 4096
      let s1 : State := { s with
        phase := .c
        mem := { s.mem with bus := s.mem.bus.filter fun p => !(decide (bank ≤ p.1) && decide (p.1 < bank + 4096)) } }
      s1.each ((List.range s.variant.stalls).filter fun i => (s.stall i).code) fun t i =>
        t.setStall i { (t.stall i).rest .running with cyc := s.windowOpen })

/-- STATE_CUT (R214, R510): the active reads the frame's copies and notes their MIR; they go out by the frame's bus close. -/
def execStateCut (s : State) : Host.Outcome State Fault Refusal :=
  .next (if !s.running || s.phase != .c || s.mem.cutDone then s
    else
      let s1 : State := { s with mem := { s.mem with cutDone := true } }
      if !Twn.feeds s then s1
      else
        let p := Mir.copy s1 s.parity
        { p.1 with twn := { p.1.twn with mirFrame := s.frameNo, mirBytes := p.2, mirLast := some (Mir.crc p.2, false, false) } })

/-- What a stall that overruns the frame at bus close records (R177, R178, R181). -/
def Stl.overrun (s : State) (i : Nat) : State :=
  let x := s.stall i
  let s1 := Stl.span (s.setStall i { x with status := .overrun, snap := none, ctl := none }) i 0x7FFFF
  let s2 := ((s1.setFlag (Reg.STL_SCHED_OVR i) true).incCnt (Reg.STL_SCHED_OVR_FRAMES i)).setFlag (Reg.STL_SCHED_AT_SYNC i)
    (x.status == .atSync)
  s2.setVecBit 0x000050 i true

/-- The overrun event and fault pair of barn `b` (R181), once for all of its stalls. -/
def Barn.overrun (s : State) (b : Nat) : State := (s.fire (44 + b)).faultEvent (12 + b)

/-- The stalls `bad` overrun: each records it, then each barn of theirs reports it. -/
def Stl.overruns (s : State) (bad : List Nat) : State := (s.each bad Stl.overrun).each ((bad.map (· / 8)).eraseDups) Barn.overrun

/-- The stalls with code that have neither issued WAITF nor raised a stopping exception in the frame (R177). -/
def Stl.overrunning (s : State) : List Nat :=
  (List.range s.variant.stalls).filter fun i =>
    (s.stall i).code && (s.stall i).status != .waitf && (s.stall i).status != .exception

/-- The twin lets this command be taken at a bus close of this device (R507): a follower takes mirrored ones at TAKE, and an active
takes a mirrored one once the standby has acknowledged every CMD. -/
def Twn.mayTake (s : State) (r : Run) : Bool :=
  (!r.d.peer || decide (65536 ≤ r.d.ticket) || !Twn.follows s) &&
    (!r.sent || s.twn.held.all fun h => match h.body with
      | .cmd _ _ _ => false
      | _ => true)

/-- A LOCAL commit or swap that was taken takes a follower out of step (R490): each device says so for the boundary. -/
def Twn.localTaken (s : State) : State :=
  let mine := s.cmd.run.any fun r => r.d.isLocal && (match r.wait with
    | .commit (some _) _ => true
    | .swap _ (some _) => true
    | _ => false)
  let k := s.frameNo + 1
  if !mine || !s.variant.tether then s
  else if Twn.follows s then Tth.send (Twn.setRole s k 3) k (.role 2 3)
  else if s.role = 1 then Tth.send s k (.role 2 1)
  else s

/-- The active names boundary k for what it took of the mirrored commands (R507). -/
def Twn.sendTake (s : State) (swap : Bool) : State :=
  let ts := s.cmd.run.filterMap fun r => match r.wait with
    | .commit (some _) _ => if r.sent && !swap then some r.d.ticket else none
    | .swap _ (some _) => if r.sent && swap then some r.d.ticket else none
    | _ => none
  match ts.getLast? with
  | some t => Tth.send s (s.frameNo + 1) (.take swap t)
  | none => s

/-- Commits and swaps are taken at bus close (R250, R298, R582); after SAVE_WARN none is (R541). -/
def Frame.take (s : State) (peerOk : Bool) : State :=
  if s.saveWarned || (Bale.live s).isNone || s.bale.taken.isSome || s.cmd.taken.isSome then s
  else match Swap.due s peerOk (Twn.mayTake s) with
    | some i => Twn.localTaken (Twn.sendTake (Swap.take s i) true)
    | none => Twn.localTaken (Twn.sendTake (Commit.take s (Twn.mayTake s)) false)

/-- The active's mirrored copy of the frame goes out, with what bus close knows of its cleanliness and of unit faults (R214, R506); a copy
sent unclean is counted (R217). At a swap boundary none is sent (R304). -/
def Twn.closeMirror (s : State) : State :=
  if Twn.feeds s ∧ s.mem.cutDone ∧ s.twn.mirFrame = s.frameNo ∧ s.bale.taken.isNone = true then
    let crc := (s.twn.mirLast.map fun x => x.1).getD 0
    (Tth.send s s.frameNo (.mirror s.twn.mirBytes crc s.mem.unclean (s.twn.faults.contains s.frameNo))).when s.mem.unclean fun t =>
      t.incCnt Reg.TOP_MIRROR_STAT_UNCLEAN
  else s

/-- BUS_CLOSE (R177, R178, R250, R298; Table 03-9). -/
def execBusClose (peerOk : Bool) (s : State) : Host.Outcome State Fault Refusal :=
  .next (if !s.running || s.phase == .none || s.phase == .d then s
    else
      let bad := Stl.overrunning s
      let s1 := (Stl.overruns (Fc.drain s) bad).each (List.range s.variant.stalls) Stl.countFrame
      let s2 : State := { s1 with
        phase := .d
        mem := { s1.mem with unclean := s1.mem.unclean || !bad.isEmpty }
        twn := { s1.twn with ovr := if bad.isEmpty then s1.twn.ovr else (s1.frameNo :: s1.twn.ovr).take 8 } }
      Twn.closeMirror (Frame.take s2 peerOk))

/-- STORES_LAND (R179, R301, R509): what was issued has landed; migration sources and refresh units are read. -/
def execStoresLand (units : Nat) (s : State) : Host.Outcome State Fault Refusal :=
  .next (if !s.running || s.phase != .d then s
    else
      let s1 : State := { s with stalls := s.stalls.map fun p => (p.1, { p.2 with stores := [] }), mem := { s.mem with adds := 0 } }
      Twn.refresh units (Swap.readMigration s1))

/-- CAPTURE_WINDOW_CLOSE (R30, R244): the intake pass over the input set of the frame. -/
def execCaptureWindowClose (s : State) : Host.Outcome State Fault Refusal :=
  .next (if !s.running || s.graph.inDone then s else Graph.intakePass s s.frameNo)

/-- STALL_PAGE_WRITE (R254): the pages of the taken commit are written into their local memory areas. -/
def execStallPageWrite (s : State) : Host.Outcome State Fault Refusal :=
  .next (match s.cmd.taken with
    | none => s
    | some x => s.each x.pages fun t p =>
      let a := Bale.addr 0 (p.1 / 64) (4096 * (p.1 % 64))
      Mem.write t 2 (p.2.zipIdx.map fun b => (a + b.2, b.1)))

end Sys2Proof.Machine
end

