-- ==== Sys2Proof/Machine/Restart.lean ====
section
/-! DEFINITION. What follows the release of a reset (spec 18_power_reset_boot.md: R531, Table 18-3; 02_clocks_crossings.md: R64;
10_host_commands.md: R337; 12_timekeeper.md: Table 12-2), the resets that PWR_BLKRST asserts, and WARM_N (R530). -/

namespace Sys2Proof.Machine

/-- A reset of the whole device or WARM_N holds its blocks. -/
def Power.held (s : State) : Bool := s.pwr.por || s.pwr.porst || s.pwr.warm

/-- The timekeeper leaves INIT (Table 12-2): the root PLL is LOCKED and no reset holds it; slots that are enabled begin to
listen (R384). -/
def Tkp.start (s : State) : State :=
  if s.tkpState ≠ 0 ∨ Pll.state s ≠ 2 ∨ Power.held s = true then s
  else (Tkp.enterWait s).each [0, 1] Tkp.enWritten

/-- The command processor runs again after a reset with power kept (R337): outstanding tickets complete with ABORTED_RESET.
Before the end of the boot and after SAVE_WARN it accepts nothing. -/
def Cmd.restart (s : State) : State :=
  if s.pwr.stage ≠ 2 ∨ s.saveWarned = true ∨ Clk.held s 86 = true then s
  else Cmd.abortAll (s.setFlag Reg.CMD_STAT_CPX_READY true)

/-- Serial ports and AES3 ports restart as configured. -/
def Sap.restart (s : State) : State := s.each (List.range s.variant.saps) Sap.cfgWritten
def Aes.restart (s : State) : State := s.each (List.range s.variant.aess) Aes.cfgWritten

/-- The sense filter bank and the drive stage restart as configured. -/
def Sfb.restartAll (s : State) : State := Drv.sense (Sfb.evalRun s)
def Drv.restart (s : State) : State := if s.variant.drvCh = 0 then s else Drv.evalRun (Drv.sense s)

/-- What the target of a reset does at the release. -/
def State.restarted (s : State) (t : ResetTarget) : State :=
  match t with
  | .switch => Nsw.restart s
  | .sapAes => Aes.restart (Sap.restart s)
  | .sap => Sap.restart s
  | .aes => Aes.restart s
  | .sfb => if 0 < s.variant.snsIn then Sfb.restartAll s else s
  | .twin => Twn.levels s
  | .cpx => Cmd.restart s
  | _ => s

/-- The reset of a target ends (R64): its crossings leave reset, and the block restarts. -/
def State.leaveReset (s : State) (t : ResetTarget) : State :=
  State.restarted (s.each (ResetTarget.crossings t) Clk.reopen) t

/-- RESET_PULSE_END (R471): the oldest reset pulse of source `n` ends, 16 AON cycles after it started; while AON is lost none pass (R71). -/
def execResetPulseEnd (n : Nat) (s : State) : Host.Outcome State Fault Refusal :=
  let s1 := Fc.drain s
  .next (if Fc.aonLost s || !s1.fc.pulses.contains n then s1
    else
      let s2 : State := { s1 with fc := { s1.fc with pulses := s1.fc.pulses.erase n } }
      match Fc.target n with
      | some .fastMatrix => s2
      | some t => s2.leaveReset t
      | none => s2)

/-- A block reset of one target from beginning to end. -/
def State.pulse (s : State) (t : ResetTarget) : State := (s.enterReset t).leaveReset t

/-- The block that a bit of PWR_BLKRST.BLK resets (Table 18-14). -/
def Power.block (s : State) (bit : Nat) : State :=
  match bit with
  | 6 => s.pulse .switch
  | 7 => s.pulse .sap
  | 8 => s.pulse .aes
  | 9 => s.pulse .sfb
  | 10 => if s.variant.drvCh = 0 then s else Drv.restart (Twn.dropNow (Drv.reset s false) 5)
  | 11 => if s.variant.tether then s.pulse .twin else s
  | 12 => s.pulse .evu
  | 13 => s.pulse .digest
  | 14 => s.pulse .groom
  | 15 => Tkp.start (Tkp.reset s false)
  | 16 => s.pulse .graph
  | 17 => s.pulse .cpx
  | b => if b < s.variant.barns then s.pulse (.barn b) else s

/-- PWR_BLKRST (R531): every block whose bit is written 1 is reset, for 16 AON cycles. -/
def Bar.pwrBlkrst (v : Word) (s : State) : State :=
  (Fc.drain s).each ((List.range 18).filter fun b => v.toNat.testBit b) Power.block

/-- PWR_BLKRST (R531), where the access is served (R41, R319). -/
def execPwrBlkrst (v : Word) (s : State) : Host.Outcome State Fault Refusal :=
  .next (s.bar (Bar.pwrBlkrst v))

/-- The crossings whose far side WARM_N holds in reset. -/
def Warm.targets : List ResetTarget := [.switch, .sapAes, .sfb, .twin, .cpx]

/-- The fades end as steps and the filter states are zero (Table 18-3); the meters and a PH_CLR that waits keep what they are (R280, R283). -/
def Warm.graph (s : State) : State :=
  let t := Graph.endFades (Graph.endFades (Graph.endFades s .intake) .gateA) .outlet
  Graph.showFades { t with graph := { phClr := t.graph.phClr, phAge := t.graph.phAge, meanSq := t.graph.meanSq } }

/-- What the boot of WARM_N gives the pages (R530): every live field as it stood, the values of a commit that a bus close had taken
among them (R337); nothing where another bale was about to become live or none was. -/
def Warm.pages (s : State) : List (Nat × List Byte) :=
  if s.bale.taken.isSome then [] else if (Bale.live s).isNone then s.pwr.restore
  else (Page.all s).map fun n => (n, Page.taken s s.cmd.taken n)

/-- No bale is live any more until the boot makes it live again (R530, R534); the slots follow the directory (R287), which names the slot of
a swap that a bus close has taken, and no longer that of one that waited (R298, R337). GRAPH_COMMIT.TAKEN stays until a commit that was
taken is live. -/
def Warm.bale (s0 : State) : State :=
  let s := Bale.setMark s0 s0.bale.taken
  let pages := Warm.pages s
  let keep := (Bale.live s).isSome && s.bale.taken.isNone && (Page.all s).all fun n => Page.taken s s.cmd.taken n == Page.live s n
  let s1 : State := { s with
    bale := { s.bale with arming := none, mark := none, taken := none, boot := false, outPart := none, gapFrom := none, migrate := [] }
    cmd := { s.cmd with taken := none, writes := [] }
    pwr := { s.pwr with restore := pages }
    rcd := { s.rcd with keep := keep }
    mem := { s.mem with regions := [], bus := [], shared := [], before := [], issued := 0, adds := 0, cutDone := false, unclean := false
                        breach := false }
    mtx := { s.mtx with queue := [], unanswered := [], replay := false } }
  let s2 := (s1.setFlag Reg.TOP_BALE_LIVE_VALID false).setFlag Reg.TOP_RCD_FLAGS_NO_BALE true
  Dir.restore (Dir.noteRead (s2.setFlag Reg.GRAPH_COMMIT_TAKEN (s.cmd.taken.isSome && s.bale.taken.isNone && (Bale.live s).isSome)))

/-- WARM_N asserts (R530, Table 18-3). -/
def Warm.enter (s0 : State) (cause : Nat) : State :=
  let s : State := Fc.drain { s0 with pwr := { s0.pwr with warm := true } }
  let s1 := Warm.bale (Warm.graph s)
  let s2 := s1.each (List.range s1.variant.barns) fun t b => Barn.reset t b true
  let s3 : State := { s2 with stalls := s2.stalls.map fun p => (p.1, { p.2 with code := false }) }
  let s4 := Twn.reset (Aes.reset (Sap.reset (Nsw.reset s3)))
  let s5 := Drv.reset (if 0 < s4.variant.snsIn then Sfb.reset s4 else s4) true
  let s6 := Tkp.reset (Rcd.reset (Cmd.reset s5)) true
  let s7 := (s6.resetRegs 0x000020 0x000028 Reg.config).resetRegs 0x000030 0x000300 Reg.config
  let s8 := s7.each (Warm.targets.flatMap ResetTarget.crossings) Clk.shut
  ({ s8 with pwr := { s8.pwr with stage := if s8.pwr.stage = 0 then 0 else 1, cause := cause } } : State).setFld
    Reg.PWR_LAST_CAUSE cause

/-- WARM_N is released (R530): the blocks restart, and the boot is due from its command processor step. -/
def Warm.leave (s : State) : State :=
  let s1 : State := { s with pwr := { s.pwr with warm := false } }
  Tkp.start (Drv.restart (Warm.targets.foldl State.leaveReset s1))

/-- WARM_N (R530): the pin asserts, or is released. -/
def execWarmN (low : Bool) (s : State) : Host.Outcome State Fault Refusal :=
  .next (if s.pwr.por || s.pwr.porst || s.pwr.warm == low then s
    else if low then Warm.enter s 3 else Warm.leave s)

/-- WARM (R530): a write of 1 to PWR_CTL.WARM asserts WARM_N internally for 1 µs. -/
def Bar.warm (s : State) : State :=
  if Power.held s then s else Warm.leave (Warm.enter s 4)

/-- WARM (R530), where the access is served (R41, R319). -/
def execWarm (s : State) : Host.Outcome State Fault Refusal :=
  .next (s.bar Bar.warm)

end Sys2Proof.Machine
end

