-- ==== Sys2Proof/Machine/Power.lean ====
section
/-! DEFINITION. Clocks as the detectors and the root PLL see them (spec 02_clocks_crossings.md: R41, R42, R70 to R72, Tables 02-2
and 02-10), the power monitors, SAVE_WARN and the save (18_power_reset_boot.md: R522 to R529, R541 to R549), PORST_N and the power-on
reset. -/

namespace Sys2Proof.Machine

/-- A bit of a word where `b` holds. -/
def Clk.bit (b : Bool) (i : Nat) : Nat := if b then 2 ^ i else 0

/-- CLK_STATUS.RUN and BARN_RUN follow the clocks (Table 02-11); what idle gating stops is taken away where the register is read
(`Clk.status`). -/
def Clk.show (s : State) : State :=
  let on := Pll.running s
  let mod := on && s.flag Reg.CLK_GATE_MOD_EN
  let sns := on && s.flag Reg.CLK_GATE_SNS_EN
  let run := Clk.bit on 0 + Clk.bit on 1 + Clk.bit on 2 + Clk.bit mod 3 + Clk.bit sns 4 + Clk.bit on 5 +
    Clk.bit (s.flag Reg.CLK_STATUS_PCIE_REF_OK) 6 + Clk.bit (s.flag Reg.CLK_STATUS_AON_OK) 7
  (s.setFld Reg.CLK_STATUS_RUN run).setFld Reg.CLK_STATUS_BARN_RUN (if on then 2 ^ s.variant.barns - 1 else 0)

/-- A bit of CLK_LOSS is set; E010 fires when it was 0. -/
def Clk.loss (s : State) (f : Fld) : State := s.setFire f 10

/-- The crossings whose far side is already in reset, gated or stopped as the root-derived clocks start (R60, R63): 1 and 2 while PERST_N is
low or PCIE_REFCLK lost, the sense groups while their gate is closed, and those of WARM_N. -/
def Clk.heldAtStart (s : State) : List Nat :=
  (if s.host.perst then [1, 2] else []) ++ (if Clk.isLost s 2 then [1, 2] else []) ++
  (if s.flag Reg.CLK_GATE_SNS_EN then [] else ResetTarget.crossings .sfb) ++
  (if s.pwr.warm then Warm.targets.flatMap ResetTarget.crossings else [])

/-- The root PLL enters a state (Table 02-1): E009; entry to HOLDOVER is recorded; F081 and F082 follow the state. As it leaves ACQUIRE the
root-derived clocks start (R41). -/
def Pll.enter (s0 : State) (st : Nat) : State :=
  if Pll.state s0 = st then s0
  else
    let s := (s0.setFld Reg.CLK_STATUS_PLL_STATE st).fire 9
    let turn := if Pll.running s0 = Pll.running s then s else Twn.qualify s
    let s1 := Clk.show (if Pll.running s0 || !Pll.running s then turn else turn.each (Clk.heldAtStart s) fun t n => Clk.hold t n true)
    let s2 := if st = 3 then Clk.loss s1 Reg.CLK_LOSS_HOLDOVER else s1
    let s3 := s2.faultLevel 82 (st == 3)
    Tkp.start (if st = 2 then s3.faultLevel 81 false else s3)

/-- PLL_LOCK (R42): ACQUIRE becomes LOCKED. -/
def execPllLock (s : State) : Host.Outcome State Fault Refusal := .next (if Pll.state s = 1 then Pll.enter s 2 else s)

/-- PLL_UNLOCK (Table 02-2): the phase error of the LOCKED PLL has been too large with REFCLK present. -/
def execPllUnlock (s : State) : Host.Outcome State Fault Refusal :=
  .next (if Pll.state s = 2 then Pll.enter ((Clk.loss s Reg.CLK_LOSS_PLL_UNLOCK).faultLevel 81 true) 3 else s)

/-- PLL_REGAIN (Table 02-2): REFCLK has been present for 1 ms. -/
def execPllRegain (s : State) : Host.Outcome State Fault Refusal :=
  .next (if Pll.state s = 3 && s.flag Reg.CLK_STATUS_REF_OK then Pll.enter s 4 else s)

/-- PLL_RELOCK (R42): REGAIN becomes LOCKED. -/
def execPllRelock (s : State) : Host.Outcome State Fault Refusal := .next (if Pll.state s = 4 then Pll.enter s 2 else s)

/-- Nominal edges of a window of a detector (Table 02-10). -/
def Clk.nominal (d : Nat) : Nat :=
  match d with
  | 0 => 196
  | 1 => 1250
  | 2 => 800
  | 3 => 256
  | _ => 853

/-- The links of the switch and the tether after ETH_REFCLK is lost (Table 02-10). -/
def Clk.ethLost (s : State) : State :=
  let s1 := s.each (List.range s.variant.ports) fun t p =>
    Nsw.link (Nsw.setPort t p { Nsw.port t p with block := false, fec := false }) p
  if s1.variant.tether then Twn.down { s1 with twn := { s1.twn with lanes := 0 } } else s1

/-- A clock is declared lost (R70, R71, Table 02-10). -/
def Clk.lost (s : State) (d : Nat) : State :=
  match d with
  | 0 =>
    let s1 := (Clk.loss (s.setFlag Reg.CLK_STATUS_REF_OK false) Reg.CLK_LOSS_REF_LOSS).faultLevel 80 true
    (match Pll.state s1 with
     | 1 => Pll.enter s1 0
     | 2 => Pll.enter s1 3
     | 4 => Pll.enter s1 3
     | _ => s1)
  | 1 => Clk.ethLost ((Clk.loss (s.setFlag Reg.CLK_STATUS_ETH_REF_OK false) Reg.CLK_LOSS_ETH_REF_LOSS).faultLevel 83 true)
  | 2 =>
    let s1 := (Clk.loss (s.setFlag Reg.CLK_STATUS_PCIE_REF_OK false) Reg.CLK_LOSS_PCIE_REF_LOSS).faultLevel 84 true
    Clk.show ([1, 2].foldl Clk.shut s1)
  | 3 => Drv.sense (Sfb.setClk ((Clk.loss s Reg.CLK_LOSS_SNS_CLK_LOSS).faultLevel 85 true) false)
  | _ => Clk.show ((Clk.loss (s.setFlag Reg.CLK_STATUS_AON_OK false) Reg.CLK_LOSS_AON_LOSS).faultLevel 86 true)

/-- A clock is declared present (R70), again where it had been `lost`. -/
def Clk.back (s : State) (d : Nat) (lost : Bool) : State :=
  match d with
  | 0 =>
    let s1 := (s.setFlag Reg.CLK_STATUS_REF_OK true).faultLevel 80 false
    if Pll.state s1 = 0 ∧ Power.held { s1 with pwr := { s1.pwr with warm := false } } = false then Pll.enter s1 1 else s1
  | 1 => (s.setFlag Reg.CLK_STATUS_ETH_REF_OK true).faultLevel 83 false
  | 2 =>
    let s1 := (s.setFlag Reg.CLK_STATUS_PCIE_REF_OK true).faultLevel 84 false
    Clk.show (if lost then [1, 2].foldl Clk.reopen s1 else s1)
  | 3 => Drv.sense (Sfb.setClk (s.faultLevel 85 false) true)
  | _ => Clk.show ((s.setFlag Reg.CLK_STATUS_AON_OK true).faultLevel 86 false)

/-- The clock shows present. -/
def Clk.shown (s : State) (d : Nat) : Bool :=
  match d with
  | 0 => s.flag Reg.CLK_STATUS_REF_OK
  | 1 => s.flag Reg.CLK_STATUS_ETH_REF_OK
  | 2 => s.flag Reg.CLK_STATUS_PCIE_REF_OK
  | 3 => s.flag Reg.SFB_ST_CLK_OK
  | _ => s.flag Reg.CLK_STATUS_AON_OK

/-- `s` with the record of detector `d` replaced. -/
def Clk.setDet (s : State) (d : Nat) (x : ClkDet) : State :=
  { s with clk := { s.clk with det := Sparse.put s.clk.det d {} x } }

/-- CLOCK_LOSS_WINDOW (R70, R72): a window of detector `det` (0 REFCLK, 1 ETH_REFCLK, 2 PCIE_REFCLK, 3 SNS_CLK_I, 4 AON) ends with
`count` edges. The detector of SNS_CLK_I needs the bank and its clock. -/
def execClockLossWindow (det count : Nat) (s : State) : Host.Outcome State Fault Refusal :=
  .next (if det = 3 && (s.variant.snsIn == 0 || !s.flag Reg.CLK_GATE_SNS_EN) then s
    else
      let x := Sparse.get s.clk.det det {}
      if 2 * count < Clk.nominal det then
        if x.lost then Clk.setDet s det { x with good := 0 } else Clk.lost (Clk.setDet s det { lost := true, good := 0 }) det
      else if 9 * Clk.nominal det ≤ 10 * count then
        if x.good = 0 then Clk.setDet s det { x with good := 1 }
        else if Clk.shown s det && !x.lost then Clk.setDet s det { x with good := 2 }
        else Clk.back (Clk.setDet s det { lost := false, good := 2 }) det x.lost
      else Clk.setDet s det { x with good := 0 })

/-- AON_RETURN (R481): AON runs again, and the collector examines every source on its first edge; the releases that crossing 86 holds
follow. -/
def execAonReturn (aon : Nat) (strobe : Bool) (s : State) : Host.Outcome State Fault Refusal :=
  .next (if !Fc.aonLost s then s
    else Fc.releaseWaiting (Fc.resume (Clk.setDet s 4 { lost := false, good := 0 }) aon strobe))

/-- The first value of monitor `i` has been taken. -/
def Power.note (s : State) (i : Nat) : State := { s with pwr := { s.pwr with seen := s.pwr.seen ||| 2 ^ i } }

/-- The fault source of a rail and whether it is at fault (R523): F092 follows both SerDes rails; rail 6 is VSAVE. -/
def Power.railFault (s : State) (rail : Nat) (bad : Bool) : State :=
  let ok (i : Nat) : Bool := (s.fld Reg.PWR_STAT_RAIL_OK).testBit i
  match rail with
  | 4 => s.faultLevel 92 (bad || !(ok 5 || !s.pwr.seen.testBit 5))
  | 5 => s.faultLevel 92 (bad || !(ok 4 || !s.pwr.seen.testBit 4))
  | 6 => s.faultLevel 95 bad
  | r => s.faultLevel (88 + r) bad

/-- A rail monitor settles (R523): the bit follows; a change fires E193 or E196, but the first value fires nothing. -/
def Power.rail (s : State) (rail : Nat) (good : Bool) : State :=
  let was := if rail = 6 then s.flag Reg.PWR_STAT_HOLD_OK else (s.fld Reg.PWR_STAT_RAIL_OK).testBit rail
  let first := !s.pwr.seen.testBit rail
  let s1 := if rail = 6 then s.setFlag Reg.PWR_STAT_HOLD_OK good else s.setFlag ⟨0x0E000C, rail, 1⟩ good
  let s2 := Power.railFault (Power.note s1 rail) rail (!good)
  if first || was == good then s2 else s2.fire (if rail = 6 then 196 else 193)

/-- The monitors and the sensors work: they start at the release of PORST_N (R523, R528). -/
def Power.watches (s : State) : Bool := !s.pwr.por && !s.pwr.porst

/-- RAIL_MONITOR_FAULT (R523). -/
def execRailMonitorFault (rail : Nat) (s : State) : Host.Outcome State Fault Refusal :=
  .next (if Power.watches s then Power.rail s rail false else s)

/-- RAIL_MONITOR_GOOD (R523). -/
def execRailMonitorGood (rail : Nat) (s : State) : Host.Outcome State Fault Refusal :=
  .next (if Power.watches s then Power.rail s rail true else s)

/-- PWR_STAT.TJ in °C. -/
def Power.tj (s : State) : Int := Arith.int (Arith.sext 8 (s.fld Reg.PWR_STAT_TJ))

/-- A thermal source follows TJ against its threshold, with 5 °C of hysteresis; it fires `e` as it becomes at fault (R524). -/
def Power.heat (first : Bool) (src e : Nat) (f : Fld) (limit : Nat) (s : State) : State :=
  let on := s.flag f
  let new := if on then decide ((limit : Int) - 5 < Power.tj s) else decide ((limit : Int) ≤ Power.tj s)
  let s1 := (s.setFlag f new).faultLevel src new
  if new && !on && !first then s1.fire e else s1

/-- F093 and F094 follow TJ. -/
def Power.thermal (first : Bool) (s : State) : State :=
  Power.heat first 94 195 Reg.PWR_STAT_TCRIT_ON 115 (Power.heat first 93 194 Reg.PWR_STAT_TWARN_ON (s.fld Reg.PWR_CFG_TWARN) s)

/-- TEMPERATURE_CHANGE (R524): the sensors report `tj`; the first reading fires nothing (R523). -/
def execTemperatureChange (tj : Int) (s : State) : Host.Outcome State Fault Refusal :=
  .next (if !Power.watches s then s else Power.thermal (!s.pwr.seen.testBit 7) (Power.note (s.setFld Reg.PWR_STAT_TJ (BitVec.ofInt 8 tj).toNat) 7))

/-- VIN_MON_ARMED (R528). -/
def execVinMonArmed (s : State) : Host.Outcome State Fault Refusal :=
  .next (if Power.watches s then s.setFlag Reg.PWR_STAT_ARMED true else s)

/-- The words FC_FIRST, FC_FIRST_TS, FC_FIRST_FRAME, FC_PEND, FC_SHADOW and FC_SHADOW_COUNT (R482). -/
def Save.fcOffs : List Nat :=
  [0x020000, 0x020004, 0x020008] ++ (List.range 6).map (0x020020 + 4 * ·) ++ (List.range 6).map (0x020080 + 4 * ·) ++ [0x020014]

/-- The backlog pages of the saved configuration (R542, R544): page, bale root, bytes. -/
def Save.pages (s : State) : List (Nat × Nat × List Byte) :=
  match s.bale.taken with
  | some i =>
    let root := Sparse.get s.bale.roots i 0
    if (Bale.live s).isSome then (Swap.backlog s i).map fun n => (n, root, Swap.value s i n)
    else (s.pwr.restore.filter fun p => !s.pwr.area.any fun x => x.page == p.1 && x.root == root && x.bytes == p.2).map fun p =>
      (p.1, root, p.2)
  | none =>
    let t := if s.bale.outPart.isSome then Swap.outlet s else s
    (Save.backlog t s.cmd.taken true).map fun n => (n, Save.root t, Page.taken t s.cmd.taken n)

/-- The next boundary brings another configuration than the live one (R308). -/
def Save.changes (s : State) : Bool :=
  s.bale.outPart.isSome || (s.bale.taken.isSome && ((Bale.live s).isSome || !s.rcd.keep)) ||
    (Page.all s).any fun n => Page.taken s s.cmd.taken n != Page.live s n

/-- The snapshot of the saddlebag writer (R542, R544, Table 18-9). -/
def Save.image (s : State) : SaveImage :=
  let slot := match s.bale.taken with
    | some i => some i
    | none => Bale.live s
  let sel := s.fld Reg.TKP_STAT_SEL_LIVE
  { fc := Save.fcOffs.map s.reg
    gen := if Save.changes s then s.rcd.gen + 1 else s.rcd.gen
    k := if Save.changes s then Frame.next s else s.rcd.k
    root := Twn.ownRoot s, baleRoot := Twn.ownBaleRoot s, slot := slot
    baleId := match slot with
      | some i => s.reg64 (0x000308 + 0x10 * i)
      | none => 0
    aon := s.fld Reg.FC_AON_NOW_NOW, frame := s.frameNo, steer := s.reg 0x010008
    tkp := [s.reg 0x050008, BitVec.ofNat 32 (s.fld (Reg.TKP_DOM_OFFSET sel)), BitVec.ofNat 32 (s.fld (Reg.TKP_DOM_RATE sel))]
    role := s.role, own := s.flag Reg.TWN_ST_OWN, peer := s.fld Reg.TWN_ST_PEER_ROLE, link := s.fld Reg.TWN_ST_LINK
    next := s.fld Reg.CMD_OUTSTANDING_NEXT, tickets := s.cmd.openT.take 1024, pages := (Save.pages s).take 12 }

/-- A list of bytes filled up with zeros to `n`. -/
def Save.fill (n : Nat) (bs : List Byte) : List Byte := bs ++ List.replicate (n - bs.length) 0

/-- The bytes of the save image up to its trailer (Table 18-9). -/
def SaveImage.bytes (x : SaveImage) : List Byte :=
  let b (n v : Nat) : List Byte := Arith.bytes n v
  Save.fill 32 ([0x53, 0x41, 0x44, 0x4C] ++ b 4 x.pages.length ++ b 4 x.aon ++ b 8 x.frame) ++
  Save.fill 64 (x.fc.flatMap Cmd.wordBytes) ++
  Save.fill 96 (b 8 x.gen ++ b 8 x.k ++ Sha.bytes x.root ++ Sha.bytes x.baleRoot ++ b 8 (x.slot.getD 0xFF) ++ b 8 x.baleId) ++
  Save.fill 32 ((x.steer :: x.tkp).flatMap Cmd.wordBytes) ++
  Save.fill 16 (b 1 x.role ++ b 1 (if x.own then 1 else 0) ++ b 1 x.peer ++ b 1 x.link) ++
  Save.fill 16 (b 4 x.next ++ b 4 x.tickets.length) ++
  Save.fill 8192 (x.tickets.flatMap fun t => b 2 t.1 ++ b 1 t.2.1 ++ b 1 0 ++ Cmd.wordBytes t.2.2) ++
  x.pages.flatMap fun p => Save.fill 16 (b 4 p.1) ++ p.2.2

/-- A mark over the trailer (R544, R548); what it says is FREE. -/
def Save.mark (s : State) : State :=
  let ws := (List.range 4).map fun i => Config.freeWord (s.free + i)
  let t : State := { s with free := s.free + 4 }
  Saddle.put t 0xFFF0 (ws.flatMap Cmd.wordBytes)

/-- The actions of SAVE_WARN (R541, R544). -/
def Power.saveWarn (s : State) : State :=
  let img := Save.image s
  let s1 := Save.mark { s.setFlag Reg.PWR_STAT_SAVE_WARN true with pwr := { s.pwr with saving := some img, image := none, begun := true } }
  let s2 := Bale.setMark { s1.setFlag Reg.CMD_STAT_CPX_READY false with bale := { s1.bale with arming := none } } s1.bale.taken
  let s3 := Twn.request (Drv.saveWarn s2) 6
  s3.fire 192

/-- SAVE_WARN (R528, R541): VIN_MON of the armed comparator has fallen for 2.0 µs. -/
def execSaveWarn (s : State) : Host.Outcome State Fault Refusal :=
  .next (if !s.flag Reg.PWR_STAT_ARMED || s.saveWarned then s else Power.saveWarn s)

/-- SAVE_IMAGE_COMPLETE (R544): the trailer is written, `us` microseconds after SAVE_WARN. -/
def execSaveImageComplete (us : Nat) (s : State) : Host.Outcome State Fault Refusal :=
  .next (match s.pwr.saving with
    | none => s
    | some x =>
      let s1 := (s.incWrap Reg.PWR_LAST_SAVE_SAVES).setFld Reg.PWR_LAST_SAVE_US us
      let bs := x.bytes
      let trailer := Arith.bytes 8 (s1.fld Reg.PWR_LAST_SAVE_SAVES) ++ Arith.bytes 4 bs.length ++ Arith.bytes 4 (Crc.crc32c bs)
      let s2 := Saddle.put (Saddle.put s1 0 bs) 0xFFF0 trailer
      { s2 with pwr := { s2.pwr with saving := none, image := some x, lastSave := s2.reg 0x0E001C } })

/-- The whole device is in reset (R529, Table 18-3): what the tack room, the fuses, the pins and the sender's side hold is kept; with
`dark` power was lost and the other memories with it. -/
def Power.porst (s : State) (dark : Bool) : State :=
  let t := (if s.flag Reg.TWN_ST_OWN then s.send (.own false) else s)
  let u := if s.twn.hbo then t.send (.heartbeat false) else t
  let r : State := {
    variant := s.variant, out := u.out, free := s.free, pending := s.pending, dbg := s.dbg
    host := { perst := s.host.perst }
    mem := { bytes := if dark then s.mem.bytes.filter fun c => Mem.inTack c.1 else s.mem.bytes
             err := if dark then s.mem.err.filter fun c => Mem.inTack c.1 else s.mem.err }
    pwr := { image := s.pwr.image, begun := s.pwr.begun, persist := s.pwr.persist, lastSave := s.pwr.lastSave
             area := s.pwr.area.filter fun x => !x.staged, mac := s.pwr.mac, keys := s.pwr.keys, lock := s.pwr.lock
             por := s.pwr.por, porst := s.pwr.porst, warm := s.pwr.warm, cause := s.pwr.cause } }
  let r0 := (r.setFld Reg.NSW_SRC_MAC_LO (s.pwr.mac % 2 ^ 32)).setFld Reg.NSW_SRC_MAC_HI (s.pwr.mac / 2 ^ 32)
  let r1 := (r0.setReg 0x000330 (s.reg 0x000330)).setFlag Reg.TWN_ST_PEER_P (s.flag Reg.TWN_ST_PEER_P)
  r1.setFlag Reg.TWN_ST_PEER_N (s.flag Reg.TWN_ST_PEER_N)

/-- A slot's registers show the bale it holds (R315); the roots and signatures of verified bales are those of their images. -/
def Power.showSlot (s : State) (i : Nat) : State :=
  let rd := Bale.rd s i
  let s1 := if 2 ≤ Bale.st s i then Bale.show s i rd else s
  if 3 ≤ Bale.st s i then Bale.verified s1 i rd else s1

/-- The device leaves PORST_N (R529): straps are sampled; slots follow the directory, TOP_RCD the saved record (R315). With REFCLK already
declared present the root PLL enters ACQUIRE (Table 02-2). -/
def Power.release (s : State) (sel : Nat) (senior : Bool) : State :=
  let s1 : State := { s with pwr := { s.pwr with sel := sel, senior := senior, stage := 0 } }
  let s2 := (s1.setFld Reg.PWR_BOOT_SEL sel).setFlag Reg.TWN_ST_SENIOR (senior && s1.variant.tether)
  let s3 := Twn.qualify s2
  let p := s3.pwr.persist
  let s4 := [0, 1].foldl Power.showSlot (Dir.restore (Dir.noteRead (Rcd.show s3 p.gen p.k p.root p.baleRoot)))
  if s4.flag Reg.CLK_STATUS_REF_OK then Pll.enter s4 1 else s4

/-- PORST_N (R529): the pin asserts, or is released with the straps sampled. -/
def execPorstN (low : Bool) (sel : Nat) (senior : Bool) (s : State) : Host.Outcome State Fault Refusal :=
  .next (if s.pwr.porst == low then s
    else
      let s1 : State := { s with pwr := { s.pwr with porst := low } }
      if s.pwr.por then s1
      else if low then Power.porst { s1 with pwr := { s1.pwr with cause := 1 } } false
      else Power.release s1 sel senior)

/-- POWER_ON_RESET (R525): the internal reset holds the device (`on`), or ends; with PORST_N high the straps are then sampled. -/
def execPowerOnReset (on : Bool) (sel : Nat) (senior : Bool) (s : State) : Host.Outcome State Fault Refusal :=
  .next (if s.pwr.por == on then s
    else
      let s1 : State := { s with pwr := { s.pwr with por := on } }
      if on then Power.porst { s1 with pwr := { s1.pwr with cause := 0 } } true
      else if s.pwr.porst then s1
      else Power.release s1 sel senior)

/-- POWER_RESTART (R549): power has returned and the save is complete; a reset with the effects of PORST_N. -/
def execPowerRestart (sel : Nat) (senior : Bool) (s : State) : Host.Outcome State Fault Refusal :=
  .next (if !s.saveWarned || s.pwr.saving.isSome then s
    else Power.release (Power.porst { s with pwr := { s.pwr with cause := 2 } } false) sel senior)

end Sys2Proof.Machine
end

