-- ==== Sys2Proof/Machine/RegWrite.lean ====
section
/-! DEFINITION. REGWIN accesses (spec 00_scope.md: R6, R13 to R19; 10_host_commands.md: R317, R320, R336, R341, R342): writes, with the
behaviour of the fields that have one, and reads, with the words that latch and the fields that clear. -/

namespace Sys2Proof.Machine

/-- The state after an outcome; the state before it where nothing came of it. -/
def State.after (s : State) (o : Host.Outcome State Fault Refusal) : State :=
  match o with
  | .next t => t
  | _ => s

/-- The mask of a field. -/
def Fld.mask (f : Fld) : Nat := f.max * 2 ^ f.lo

/-- The field's bits of the register word `off`, written from `v`: whether the one-bit field `f` is written 1. -/
def Fld.on (f : Fld) (v : Word) : Bool := f.of v == 1

/-- INJECT (R102): arms one injected mismatch of the stall; ignored while one is armed. -/
def Bar.inject (stall : Nat) (s : State) : State :=
  if s.variant.stalls ≤ stall then s else s.setFlag (Reg.STL_RESIDUE_CTL_ARMED stall) true

/-- INJECT (R102), where the access is served (R41, R319). -/
def execInject (stall : Nat) (s : State) : Host.Outcome State Fault Refusal :=
  .next (s.bar (Bar.inject stall))

/-- STL_RESIDUE_VALID_CLEAR (R101): VALID, OVF and COUNT clear, and the next mismatch is recorded. -/
def Bar.stlResidueValidClear (stall : Nat) (s : State) : State :=
  if s.variant.stalls ≤ stall then s
    else ((s.setFlag (Reg.STL_RESIDUE_VALID stall) false).setFlag (Reg.STL_RESIDUE_OVF stall) false).setFld
      (Reg.STL_RESIDUE_COUNT stall) 0

/-- STL_RESIDUE_VALID_CLEAR (R101), where the access is served (R41, R319). -/
def execStlResidueValidClear (stall : Nat) (s : State) : Host.Outcome State Fault Refusal :=
  .next (s.bar (Bar.stlResidueValidClear stall))

/-- STL_EXC_CLEAR (R146): `valid`: VALID is written 1, so VALID, OVF and COUNT clear; `addr`: ADDR is written 1. -/
def Bar.stlExcClear (stall : Nat) (valid addr : Bool) (s : State) : State :=
  if s.variant.stalls ≤ stall then s
    else
      let s1 := s.when valid fun t => ((t.setFlag (Reg.STL_EXC_VALID stall) false).setFlag (Reg.STL_EXC_OVF stall) false).setFld
        (Reg.STL_EXC_COUNT stall) 0
      s1.when addr fun t => t.setFlag (Reg.STL_EXC_ADDR stall) false

/-- STL_EXC_CLEAR (R146), where the access is served (R41, R319). -/
def execStlExcClear (stall : Nat) (valid addr : Bool) (s : State) : Host.Outcome State Fault Refusal :=
  .next (s.bar (Bar.stlExcClear stall valid addr))

/-- TOP_MEM_STAT_UE_CLEAR (R198): UE and UE_OVF clear, and TOP_MEM_UE_LOC takes the next error. -/
def Bar.topMemStatUeClear (s : State) : State :=
  (s.setFlag Reg.TOP_MEM_STAT_UE false).setFlag Reg.TOP_MEM_STAT_UE_OVF false

/-- TOP_MEM_STAT_UE_CLEAR (R198), where the access is served (R41, R319). -/
def execTopMemStatUeClear (s : State) : Host.Outcome State Fault Refusal :=
  .next (s.bar Bar.topMemStatUeClear)

/-- TOP_TACK_STAT_UE_CLEAR (R581): UE and UE_OVF clear, and TOP_TACK_UE_LOC takes the next error. -/
def Bar.topTackStatUeClear (s : State) : State :=
  (s.setFlag Reg.TOP_TACK_STAT_UE false).setFlag Reg.TOP_TACK_STAT_UE_OVF false

/-- TOP_TACK_STAT_UE_CLEAR (R581), where the access is served (R41, R319). -/
def execTopTackStatUeClear (s : State) : Host.Outcome State Fault Refusal :=
  .next (s.bar Bar.topTackStatUeClear)

/-- EVU_RAW_WRITE (R341, R342): event bits clear; every vector left pending requests a message. -/
def Bar.evuRawWrite (w : Nat) (v : Word) (s : State) : State :=
  Evu.eval (Reg.plainWrite s (0x030000 + 4 * w) v) true

/-- EVU_RAW_WRITE (R341, R342), where the access is served (R41, R319). -/
def execEvuRawWrite (w : Nat) (v : Word) (s : State) : Host.Outcome State Fault Refusal :=
  .next (s.bar (Bar.evuRawWrite w v))

/-- EVU_EN_WRITE (R342): every vector left pending requests a message. -/
def Bar.evuEnWrite (w : Nat) (v : Word) (s : State) : State :=
  Evu.eval (Reg.plainWrite s (0x030020 + 4 * w) v) true

/-- EVU_EN_WRITE (R342), where the access is served (R41, R319). -/
def execEvuEnWrite (w : Nat) (v : Word) (s : State) : Host.Outcome State Fault Refusal :=
  .next (s.bar (Bar.evuEnWrite w v))

/-- EVU_MAP_WRITE (R342): the source moves at once; a vector that this makes pending requests a message. -/
def Bar.evuMapWrite (e : Nat) (v : Word) (s : State) : State :=
  Evu.eval (Reg.plainWrite s (0x030100 + 4 * e) v) false

/-- EVU_MAP_WRITE (R342), where the access is served (R41, R319). -/
def execEvuMapWrite (e : Nat) (v : Word) (s : State) : Host.Outcome State Fault Refusal :=
  .next (s.bar (Bar.evuMapWrite e v))

/-- The bits of the word at `off` that a behaviour of their own sets, and not the write itself. -/
def Reg.own (off : Nat) : Nat :=
  match off with
  | 0x040054 => Fld.mask Reg.CMD_RING_CTL_EN
  | 0x040060 => 2 ^ 32 - 1
  | 0x050000 => Fld.mask Reg.TKP_CTL_SEL
  | 0x060000 => Fld.mask Reg.NSW_CTL_STRM_EN
  | 0x0D0000 => Fld.mask Reg.TWN_CTL_EN + Fld.mask Reg.TWN_CTL_OWN_EN
  | _ => 0

/-- The gates of CLK_GATE have taken new values (R73): the qualification counts from the start of MOD (R493); the crossings of the bank see
its clock stop or start (R60), and the detector of SNS_CLK_I reports no loss while its gate is closed (R72). -/
def Clk.gated (s : State) (old : Word) : State :=
  let sns := Fld.on Reg.CLK_GATE_SNS_EN old
  let s1 := if s.flag Reg.CLK_GATE_SNS_EN = sns then s
    else if sns then (Clk.setDet (s.each (ResetTarget.crossings .sfb) Clk.shut) 3 {}).faultLevel 85 false
    else s.each (ResetTarget.crossings .sfb) Clk.reopen
  let s0 := if s1.flag Reg.CLK_GATE_MOD_EN = Fld.on Reg.CLK_GATE_MOD_EN old then s1 else Twn.qualify s1
  let s2 := if s0.variant.snsIn = 0 then s0 else Drv.sense (Sfb.evalRun s0)
  Clk.show (if s2.variant.drvCh = 0 then s2 else Drv.evalRun s2)

/-- A write of the control words of the command processor (R321, R334). -/
def Reg.cmdHook (s : State) (off : Nat) (v : Word) : State :=
  if off < 0x040040 then
    let s1 := Cmd.stage s ((off - 0x040000) / 4) v
    if off = 0x04003C then Cmd.submit s1 else s1
  else if off = 0x040054 then
    (if Fld.on Reg.CMD_RING_CTL_EN v then Cmd.ringEnable s
     else Cmd.showFull (s.setFlag Reg.CMD_RING_CTL_EN false))
  else if off = 0x040060 then Cmd.headWrite s (Reg.CMD_RING_HEAD_HEAD.of v)
  else s

/-- A write of the control words of the timekeeper (R379, R384, R385, R389); SNAP takes the node time last reached. -/
def Reg.tkpHook (s : State) (off : Nat) (v : Word) : State :=
  if off = 0x050000 then
    let s1 := Bar.selWrite (Reg.TKP_CTL_SEL.of v) s
    let s2 := s1.when (Fld.on Reg.TKP_CTL_SNAP v) fun t => Bar.snap t.tkp.node t
    s2.when (Fld.on Reg.TKP_CTL_RESTEP v) Bar.restep
  else if off = 0x050010 then Tkp.enWritten s 0
  else if off = 0x050030 then Tkp.enWritten s 1
  else s

/-- A write of the control words of the switch (R345, R349, R362). -/
def Reg.nswHook (s : State) (off : Nat) (v : Word) : State :=
  if off = 0x060000 then Nsw.strmEn s (Fld.on Reg.NSW_CTL_STRM_EN v)
  else if 0x060010 ≤ off ∧ off < 0x060030 ∧ off % 8 = 0 then Nsw.link s ((off - 0x060010) / 8)
  else if 0x060030 ≤ off ∧ off < 0x060040 ∧ off % 8 = 0 then
    (let q := (off - 0x060030) / 8; Nsw.path (Nsw.path s (2 * q)) (2 * q + 1))
  else s

/-- A write of MTX_CTL or MTX_ERR (R235, R240 to R242). -/
def Reg.mtxHook (s : State) (off : Nat) (v : Word) : State :=
  if off = 0x0B0000 then
    let fb := Fld.on Reg.MTX_CTL_REQ_FB v
    let s1 := s.when fb Bar.reqFb
    let s2 := s1.when (Fld.on Reg.MTX_CTL_REQ_FAST v) fun t => Bar.reqFast fb t
    s2.when (Fld.on Reg.MTX_CTL_RETEST v) Bar.retest
  else if off = 0x0B00B0 then s.when (Fld.on Reg.MTX_ERR_VALID v) Bar.mtxErrClear
  else s

/-- A write of the registers of a stall (R101, R102, R146). -/
def Reg.stlHook (s : State) (off : Nat) (v : Word) : State :=
  let i := (off - 0x100000) / 0x4000
  match off % 0x4000 with
  | 0x108 => s.when (v.toNat.testBit 31) fun t => Bar.stlResidueValidClear i t
  | 0x110 => s.when (v.toNat.testBit 7) fun t => Bar.inject i t
  | 0x120 => Bar.stlExcClear i (v.toNat.testBit 31) (v.toNat.testBit 24) s
  | _ => s

/-- The word at `off` is one of FC_SRC or FC_CQ, the configuration of the collector that crosses over crossing 85 (Table 02-8). -/
def Reg.configOf (off : Nat) : Bool := decide (0x020400 ≤ off) && decide (off < 0x022800)

/-- The behaviour of the fields of the word at `off`, after the plain write; `old` is the word before it. -/
def Reg.hook (s : State) (off : Nat) (old v : Word) : State :=
  match off / 0x10000 with
  | 0x0 =>
    if off = 0x000100 then s.when (Fld.on Reg.TOP_MEM_STAT_UE v) Bar.topMemStatUeClear
    else if off = 0x000334 then s.when (Fld.on Reg.TOP_TACK_STAT_UE v) Bar.topTackStatUeClear
    else s
  | 0x1 => if off = 0x010004 then Clk.gated s old else s
  | 0x2 => s.when (decide (s.reg off ≠ old) && Reg.configOf off) Fc.configured
  | 0x3 => if off < 0x030040 then Evu.eval s true else if 0x030100 ≤ off ∧ off < 0x030500 then Evu.eval s false else s
  | 0x4 => Reg.cmdHook s off v
  | 0x5 => Reg.tkpHook s off v
  | 0x6 => Reg.nswHook s off v
  | 0x7 => if off < 0x070200 ∧ off % 32 = 0 then Sap.cfgWritten s ((off - 0x070000) / 32) else s
  | 0x8 => if off < 0x080100 ∧ off % 32 = 0 then Aes.cfgWritten s ((off - 0x080000) / 32) else s
  | 0x9 => if off = 0x090000 then Drv.sense (Sfb.evalRun s) else s
  | 0xA => if off = 0x0A0000 then Drv.evalRun s
    else if off = 0x0A3010 ∨ off = 0x0A3014 then Bar.drvUnlatch ((off - 0x0A3010) / 4) v s else s
  | 0xB => Reg.mtxHook s off v
  | 0xC => if off = 0x0C0010 ∧ Fld.on Reg.GRAPH_METER_CTL_PH_CLR v = true then Bar.phClr s else s
  | 0xD => if off = 0x0D0000 then
      Twn.ownEnWritten (Twn.enWritten s (Fld.on Reg.TWN_CTL_EN v)) (Fld.on Reg.TWN_CTL_OWN_EN v) else s
  | 0xE =>
    if off = 0x0E0000 then s.when (Fld.on Reg.PWR_CTL_WARM v) Bar.warm
    else if off = 0x0E0004 then Bar.pwrBlkrst v s
    else if off = 0x0E0008 then Power.thermal false s
    else s
  | _ => if 0x100000 ≤ off ∧ off < 0x1C0000 then Reg.stlHook s off v else s

/-- A REGWIN write of the whole word at `off` (R6, R317). -/
def Reg.write (s : State) (off : Nat) (v : Word) : State :=
  if (Reg.rowAt off).isNone || !Reg.present s.variant off then s
  else
    let old := s.reg off
    Reg.hook (Reg.plainWrite s off (Reg.blend v old (Reg.own off))) off old v

/-- REGISTER_WRITE (R317): a word with partial byte enables (`whole` false) is discarded. -/
def Bar.registerWrite (off : Nat) (v : Word) (whole : Bool) (s : State) : State :=
  if whole then Reg.write s off v else s

/-- REGISTER_WRITE (R317), where the access is served (R41, R319). -/
def execRegisterWrite (off : Nat) (v : Word) (whole : Bool) (s : State) : Host.Outcome State Fault Refusal :=
  .next (s.bar (Bar.registerWrite off v whole))

/-- The low words whose read latches the high word (R14): TOP_FRAME_NO, TOP_OVR_STALLS, TOP_NODE_ID, CMD_RING_BASE,
TKP_NS with TKP_WRAP_HI (R388), TWN_PEER_CAP. -/
def Reg.lowWords : List Nat := [0x000028, 0x000050, 0x000460, 0x040058, 0x050050, 0x0D0028]

/-- The words of TOP_RCD (Table 09-20). -/
def Reg.rcdWords : List Nat := (List.range 21).map fun i => 0x000400 + 4 * i

/-- The words of AES_RXCS, AES_RXU and AES_CSSEQ of port `n` that its latch covers, but word 0 of AES_RXCS (Table 13-12). -/
def Reg.aesWords (n : Nat) : List Nat :=
  (List.range 12).map (fun i => 0x080400 + 0x40 * n + 4 * i) ++ (List.range 12).map (fun i => 0x080800 + 0x40 * n + 4 * i) ++
    [0x080014 + 0x20 * n]

/-- The words `offs` latch their values. -/
def Reg.latch (s : State) (offs : List Nat) : State :=
  { s with
    hiLatch := offs.foldl (fun m o => Sparse.insert m o (Reg.peek s o)) s.hiLatch
    latched := s.latched.filter (fun o => !offs.contains o) ++ offs }

/-- A high word that latches for one read only (R14). -/
def Reg.once (off : Nat) : Bool := Reg.lowWords.any fun o => o + 4 == off

/-- What a read of the word at `off` returns (R14, Table 00-6). -/
def Reg.value (s : State) (off : Nat) : Word :=
  if s.latched.contains off then Sparse.get s.hiLatch off 0 else Reg.peek s off

/-- The RC fields of the word at `off` clear (Table 00-6). -/
def Reg.clearRc (s : State) (off : Nat) : State :=
  match Reg.rowAt off with
  | none => s
  | some r => if r.rc = 0 ∨ Reg.present s.variant off = false then s else s.setReg off (s.reg off &&& ~~~(BitVec.ofNat 32 r.rc))

/-- The matrix address of a REGWIN offset (Table 07-2). -/
def Reg.matrix (off : Nat) : Nat := 0x10000000 + off

/-- A read of the register word at `off` without the latches that it sets: the value, RC fields clear, and a latch of R14 is used up. -/
def Reg.readWord (s : State) (off : Nat) : State × Word :=
  let s1 : State := if Reg.once off then
      { s with latched := s.latched.filter fun o => o ≠ off, hiLatch := Sparse.erase s.hiLatch off } else s
  (Reg.clearRc s1 off, Reg.value s off)

/-- A read by the host: the value goes to it. -/
def Reg.answer (off : Nat) (p : State × Word) : State := p.1.send (.readData (Reg.matrix off) p.2)

/-- A REGWIN read of the word at `off` without the latches that it sets. -/
def Reg.readPlain (s : State) (off : Nat) : State := Reg.answer off (Reg.readWord s off)

/-- The latches that a read of the word at `off` sets first: TOP_RCD (R315), a low word (R14), AES_RXCS (R415). -/
def Reg.latches (s : State) (off : Nat) : State :=
  if off = 0x000400 then Reg.latch s Reg.rcdWords
  else if Reg.lowWords.contains off ∧ Reg.present s.variant off = true then Reg.latch s [off + 4]
  else if 0x080400 ≤ off ∧ off < 0x080600 ∧ off % 0x40 = 0 ∧ (off - 0x080400) / 0x40 < s.variant.aess then
    Reg.latch s (Reg.aesWords ((off - 0x080400) / 0x40))
  else s

/-- A read of the register word at `off` at node time `at_`, which the registers of the timekeeper show (R317, R318, R390). -/
def Reg.read (s0 : State) (at_ off : Nat) : State × Word :=
  let s := if off / 0x10000 = 5 then Tkp.advance s0 at_ else s0
  if off = 0x050070 then Tkp.popTsq s else Reg.readWord (Reg.latches s off) off

/-- TOP_RCD_LATCH (R315): a read of 0x000400 latches every word of the record. -/
def Bar.topRcdLatch (s : State) : State :=
  Reg.readPlain (Reg.latches s 0x000400) 0x000400

/-- TOP_RCD_LATCH (R315), where the access is served (R41, R319). -/
def execTopRcdLatch (s : State) : Host.Outcome State Fault Refusal :=
  .next (s.bar Bar.topRcdLatch)

/-- LOW_WORD_READ (R14): the read returns the low word and latches the high word. -/
def Bar.lowWordRead (off : Nat) (s : State) : State :=
  Reg.readPlain (Reg.latches s off) off

/-- LOW_WORD_READ (R14), where the access is served (R41, R319). -/
def execLowWordRead (off : Nat) (s : State) : Host.Outcome State Fault Refusal :=
  .next (s.bar (Bar.lowWordRead off))

/-- AES_RXCS_LATCH (R415, Table 13-12): a read of word 0 of AES_RXCS latches the words of its port. -/
def Bar.aesRxcsLatch (port : Nat) (s : State) : State :=
  Reg.readPlain (Reg.latches s (0x080400 + 0x40 * port)) (0x080400 + 0x40 * port)

/-- AES_RXCS_LATCH (R415, Table 13-12), where the access is served (R41, R319). -/
def execAesRxcsLatch (port : Nat) (s : State) : Host.Outcome State Fault Refusal :=
  .next (s.bar (Bar.aesRxcsLatch port))

/-- A REGWIN read of the word at `off` at node time `at_` (R317, R318, R390). -/
def Bar.read (at_ off : Nat) (s : State) : State := Reg.answer off (Reg.read s at_ off)

/-- REGISTER_READ_CLEAR and every other read of a register (R16, R317), where the access is served (R41, R319). -/
def execRegisterReadClear (at_ off : Nat) (s : State) : Host.Outcome State Fault Refusal := .next (s.bar (Bar.read at_ off))

end Sys2Proof.Machine
end

