-- ==== Sys2Proof/Machine/Boot.lean ====
section
/-! DEFINITION. The boot (spec 18_power_reset_boot.md: R532 to R539, R543 to R548, Tables 18-5 and 18-6; 10_host_commands.md: R338). -/

namespace Sys2Proof.Machine

/-- The reader of a flash image; an erased byte reads 0xFF. -/
def Qspi.rd (flash : List Byte) (o : Nat) : Nat := (flash.getD o 0xFF).toNat

/-- LEN of a QSPI image. -/
def Qspi.len (r : Nat → Nat) : Nat := Bale.u r 8 4

/-- The image is valid (R535). -/
def Qspi.valid (s : State) (r : Nat → Nat) : Bool :=
  let n := Qspi.len r
  Bale.u r 0 4 == 0x49535142 && decide (180 ≤ n) && decide (n ≤ 2 ^ 24) &&
    Crc.crc32c (Bale.bytes r 0 (n - 148)) == Bale.u r (n - 148) 4 &&
    (!s.flag Reg.TOP_SEC_ENFORCE || Bale.signed s r n)

/-- One register record (R536): ignored where its word holds a field of effect class F. -/
def Qspi.record (r : Nat → Nat) (s : State) (i : Nat) : State :=
  let off := Bale.u r (0x20 + 8 * i) 4
  match Reg.rowAt off with
  | none => s
  | some row => if row.sh ≠ 0 then s else Reg.write s off (BitVec.ofNat 32 (Bale.u r (0x24 + 8 * i) 4))

/-- The LIVE slot of the directory. -/
def Boot.liveSlot (s : State) : Option Nat := (List.range 2).find? fun i => Bale.st s i = 5

/-- The bale of the QSPI image goes to slot 0, where no slot is LIVE, and is loaded. -/
def Qspi.bale (s : State) (r : Nat → Nat) : State :=
  let off := Bale.u r 0x14 4
  if off = 0 ∨ (Boot.liveSlot s).isSome = true then s
  else
    let bs := Bale.bytes r off (min (Bale.u r 0x18 4) 0x340000)
    let s1 := Mem.write (Bale.setState s 0 1) 2 (bs.zipIdx.map fun b => (Bale.base 0 + b.2, b.1))
    let rd := Bale.rd s1 0
    let why := Bale.loadCheck rd
    if why ≠ 0 then s1.setFld (Reg.TOP_BALE_SLOT_REASON 0) why else Bale.setState (Bale.show s1 0 rd) 0 2

/-- Step 4 (Table 18-5): the Subsystem IDs, the register records and the bale of a valid image. -/
def Qspi.apply (s : State) (r : Nat → Nat) : State :=
  let s1 : State := { s with pwr := { s.pwr with ssvid := Bale.u r 0x0C 2, ssid := Bale.u r 0x0E 2 } }
  Qspi.bale (s1.each (List.range (min 1024 (Bale.u r 0x10 4))) (Qspi.record r)) r

/-- CMD_LOG takes the bytes of its mirror (R543, R581). -/
def Boot.log (s0 : State) : State :=
  let s := Mem.noteRange s0 2 0x9010000 0x8000
  let ws := (s.mem.bytes.filter fun c => decide (0x9010000 ≤ c.1) && decide (c.1 < 0x9018000)).map fun c => (c.1 - 0x9010000) / 4
  s.each ws.eraseDups fun t w =>
    t.setReg (0x048000 + 4 * w) (BitVec.ofNat 32 (Arith.ofBytes ((List.range 4).map fun i => Mem.clean t (0x9010000 + 4 * w + i))))

/-- The outstanding tickets of a valid image are listed as UNKNOWN_AFTER_POWER_LOSS (R338); their records wait for the ring. -/
def Boot.tickets (s : State) (l : List (Nat × Nat × Word)) : State :=
  let s1 : State := Cmd.show { s with cmd := { s.cmd with openT := l } }
  let s2 := s1.each l fun t x => Cmd.writeRecord t x.1 (Cmd.words x.1 x.2.1 x.2.2 false 6 0 [] (0xFF, 0)) true
  if l.isEmpty then s2 else s2.setFire Reg.CMD_STAT_RESTORED 3

/-- A valid image is applied (R482, R546, R547): the collector's records, the generation, the steering, the tickets. -/
def Boot.image (s : State) (x : SaveImage) : State :=
  let s1 := s.each (Save.fcOffs.zip x.fc) fun t p => t.setReg p.1 p.2
  let s2 : State := { s1 with
    rcd := { s1.rcd with gen := x.gen, k := x.k, keep := true }
    tkp := { s1.tkp with savedSteer := x.steer } }
  let s3 := if s2.tkpState = 1 then Tkp.steer s2 x.steer.toInt else s2
  let s4 := Boot.tickets s3 x.tickets
  (((s4.setFld Reg.PWR_LAST_IMAGE 1).setFld Reg.PWR_LAST_ROLE x.role).setFlag Reg.PWR_LAST_OWN x.own).setFld
    Reg.PWR_LAST_UNKNOWN x.tickets.length

/-- Step 3 of a whole boot (R533, R547): the saddlebag, the persistent record, CMD_LOG. -/
def Boot.saddlebag (s : State) : State :=
  let p := s.pwr.persist
  let s1 := ((Boot.log s).setFld Reg.CMD_OUTSTANDING_NEXT p.next).setFld Reg.PWR_LAST_CAUSE s.pwr.cause
  let s2 : State := { s1.setReg 0x0E001C s1.pwr.lastSave with rcd := { s1.rcd with gen := p.gen, k := p.k, keep := false } }
  match s2.pwr.image with
  | some x => Boot.image s2 x
  | none => (s2.setFld Reg.PWR_LAST_IMAGE (if s2.pwr.begun then 2 else 0)).setFld Reg.PWR_LAST_PAGES_LOST (min p.backlog 12)

/-- The pages that take saved values at the boot swap of a bale with root `root` (R539): those of the image `x` go before those of
the index. -/
def Boot.pages (s : State) (x : Option SaveImage) (root : Nat) : List (Nat × List Byte) :=
  let img : List (Nat × List Byte) := match x with
    | some y => (y.pages.filter fun p => p.2.1 == root).map fun p => (p.1, p.2.2)
    | none => []
  let idx := (s.pwr.area.filter fun r => !r.staged && r.root == root && !(img.any fun p => p.1 == r.page)).map fun r => (r.page, r.bytes)
  img ++ idx

/-- PWR_BOOT.RESULT and SOURCE. -/
def Boot.result (s : State) (res src : Nat) : State := (s.setFld Reg.PWR_BOOT_RESULT res).setFld Reg.PWR_BOOT_SOURCE src

/-- Step 5 for slot `i` (R533, R534): its checks, its arming writes, and the swap that the first boundary brings. -/
def Boot.arm (s : State) (x : Option SaveImage) (i src : Nat) : State :=
  let rd := Bale.rd s i
  let s1 := Bale.noteRead s i (Bale.len rd)
  let why := Bale.verifyCheck s1 rd
  if why ≠ 0 then
    let s2 := s1.when (Bale.judged why) fun u => Bale.showSigned u i rd
    Boot.result (Bale.setState (s2.setFld (Reg.TOP_BALE_SLOT_REASON i) why) i 2) 2 0
  else
    let live := Bale.st s1 i == 5
    let s2 := Bale.verified s1 i rd
    let s3 := Bale.armWrites (if live then s2 else Bale.setState s2 i 3) rd none
    let s4 := Buf.test (if live then s3 else Bale.setState s3 i 4)
    let root := Sparse.get s4.bale.roots i 0
    let pages := if s4.pwr.stage = 1 ∧ s4.pwr.restore ≠ [] then s4.pwr.restore else Boot.pages s4 x root
    let keep := s4.rcd.keep && (s4.pwr.stage == 1 || (match x with | some y => y.slot == some i | none => false))
    let s5 : State := { s4 with
      bale := { s4.bale with taken := some i, boot := true }
      pwr := { s4.pwr with restore := pages }
      rcd := { s4.rcd with keep := keep } }
    Boot.result (if live then s5 else Bale.setMark s5 (some i)) 0 src

/-- Step 5 (R532, R533). `own`: the QSPI image put a bale into slot 0 that its load accepted. -/
def Boot.bale (s : State) (x : Option SaveImage) (own : Bool) : State :=
  match Boot.liveSlot s with
  | some i => Boot.arm s x i 1
  | none => if own then Boot.arm s x 0 2 else Boot.result s 1 0

/-- The image is marked consumed (R548). -/
def Boot.consume (s : State) : State :=
  if s.pwr.image.isNone then s
  else
    let t := Save.mark s
    { t with pwr := { t.pwr with image := none, begun := false } }

/-- Steps 4 and 5 (Table 18-5). -/
def Boot.sources (s : State) (x : Option SaveImage) (flash : List Byte) : State :=
  let sel := s.pwr.sel
  if sel = 2 then Boot.result s 4 0
  else if sel = 0 then Boot.bale s x false
  else
    let r := Qspi.rd flash
    if Qspi.valid s r then
      let s1 := Qspi.apply s r
      Boot.bale s1 x (Bale.u r 0x14 4 != 0 && (Boot.liveSlot s).isNone && Bale.st s1 0 == 2)
    else (Boot.bale s x false).setFld Reg.PWR_BOOT_RESULT 3

/-- BOOT (R533): steps 3 to 6, `ms` after the release of PORST_N. `flash`: what the boot flash holds. After WARM_N the saddlebag is not
read again (R530). -/
def execBoot (flash : List Byte) (ms : Nat) (s : State) : Host.Outcome State Fault Refusal :=
  .next (if Power.held s || s.pwr.stage == 2 || !Pll.running s || s.saveWarned then s
    else
      let cold := s.pwr.stage == 0
      let x := if cold then s.pwr.image else none
      let s1 := if cold then Boot.saddlebag s else s
      let s2 := Boot.sources (s1.setFlag Reg.TOP_RCD_FLAGS_NO_BALE true) x flash
      let s3 := if cold then Boot.consume (s2.setFld Reg.PWR_BOOT_MS ms) else s2
      Cmd.restart { s3 with pwr := { s3.pwr with stage := 2 } })

end Sys2Proof.Machine
end

