-- ==== Sys2Proof/Machine/Debug.lean ====
section
/-! DEFINITION. The IEEE 1149.1 debug port (spec 19_pins_electrical.md: R569). The controller's states and what each does are those of
IEEE 1149.1 (PRESUMED, log 30); the instruction codes, the lengths of its registers and the levels of the pins are FREE. -/

namespace Sys2Proof.Machine

/-- The state that the controller enters on a rising edge of TCK with TMS (IEEE 1149.1). -/
def Dbg.next (st : Nat) (tms : Bool) : Nat :=
  match st with
  | 0 => if tms then 0 else 1
  | 1 => if tms then 2 else 1
  | 2 => if tms then 9 else 3
  | 3 => if tms then 5 else 4
  | 4 => if tms then 5 else 4
  | 5 => if tms then 8 else 6
  | 6 => if tms then 7 else 6
  | 7 => if tms then 8 else 4
  | 8 => if tms then 2 else 1
  | 9 => if tms then 0 else 10
  | 10 => if tms then 12 else 11
  | 11 => if tms then 12 else 11
  | 12 => if tms then 15 else 13
  | 13 => if tms then 14 else 13
  | 14 => if tms then 15 else 11
  | _ => if tms then 2 else 1

/-- The IDCODE of stepping B0 (R569). -/
def Dbg.idcode (v : Variant) : Nat :=
  match v with
  | .bd9648 => 0x1964834F
  | .bd9632 => 0x1963234F
  | .bd9616 => 0x1961634F

/-- The instruction that acts: while the lock fuse is set, every one but IDCODE acts as BYPASS (R569). -/
def Dbg.acts (s : State) : Nat :=
  if s.dbg.ir = 0 then 0 else if s.pwr.lock ∨ 3 < s.dbg.ir then 1 else s.dbg.ir

/-- `n` bits that no rule gives. -/
def Dbg.freeBits (s : State) (n : Nat) : List Bool := (List.range n).map fun i => Config.freeBit (s.free + i)

/-- Capture-DR: the selected data register. The levels of the pins are FREE. -/
def Dbg.captureDr (s : State) : State :=
  match Dbg.acts s with
  | 0 => { s with dbg := { s.dbg with shift := (List.range 32).map fun i => (Dbg.idcode s.variant).testBit i } }
  | 1 => { s with dbg := { s.dbg with shift := [false] } }
  | _ => { s with dbg := { s.dbg with shift := Dbg.freeBits s Config.cells }, free := s.free + Config.cells }

/-- Capture-IR: the two bits next to TDO are 1 and 0; the others are FREE. -/
def Dbg.captureIr (s : State) : State :=
  { s with dbg := { s.dbg with shift := true :: false :: Dbg.freeBits s Config.irMore }, free := s.free + Config.irMore }

/-- A rising edge of TCK. -/
def Dbg.rise (s : State) (tms tdi : Bool) : State :=
  let s1 : State := match s.dbg.tap with
    | 3 => Dbg.captureDr s
    | 10 => Dbg.captureIr s
    | 4 => { s with dbg := { s.dbg with shift := s.dbg.shift.drop 1 ++ [tdi] } }
    | 11 => { s with dbg := { s.dbg with shift := s.dbg.shift.drop 1 ++ [tdi] } }
    | _ => s
  { s1 with dbg := { s1.dbg with tap := Dbg.next s.dbg.tap tms } }

/-- The number that shifted bits spell, the bit next to TDO least significant. -/
def Dbg.number (bs : List Bool) : Nat := bs.foldr (fun b a => (if b then 1 else 0) + 2 * a) 0

/-- The instruction of the bits shifted in: all ones is BYPASS. -/
def Dbg.code (bs : List Bool) : Nat := if bs.all id then 1 else Config.irCode (Dbg.number bs)

/-- A falling edge of TCK: the update stages take their values, and TDO shows the bit next to it. -/
def Dbg.fall (s : State) : State :=
  match s.dbg.tap with
  | 0 => { s with dbg := { s.dbg with ir := 0 } }
  | 4 => s.send (.tdo (s.dbg.shift.headD false))
  | 11 => s.send (.tdo (s.dbg.shift.headD false))
  | 8 => if 2 ≤ Dbg.acts s then { s with dbg := { s.dbg with bsr := s.dbg.shift } } else s
  | 15 => { s with dbg := { s.dbg with ir := Dbg.code s.dbg.shift } }
  | _ => s

/-- DEBUG_PORT_TCK (R569): an edge of TCK, or TRST_N low, which holds the test logic in reset. -/
def execDebugPortTck (trstLow rise tms tdi : Bool) (s : State) : Host.Outcome State Fault Refusal :=
  .next (if trstLow then { s with dbg := { s.dbg with tap := 0, ir := 0 } }
    else if rise then Dbg.rise s tms tdi
    else Dbg.fall s)

end Sys2Proof.Machine
end

