-- ==== Sys2Proof/Machine/StallMem.lean ====
section
/-! DEFINITION. The load/store slots of a stall (spec 05_ibcor_instructions.md: R158 to R160; 04_ibcor_encoding.md: R111 to
R129; 06_schedule_memory.md: R185 to R213, R579): loads, stores, bus additions, address registers, and the completion of
barn store and hayloft accesses. -/

namespace Sys2Proof

open Machine

/-- The number of memory elements of an LA access; a scalar one has one. -/
def LaOp.cnt (o : LaOp) (vector : Bool) : Nat := if vector then o.shape.count else 1

/-- Sign extension of a loaded element (Table 04-6). -/
def LaOp.extend (o : LaOp) (v : Nat) : Word := if o.p24 then Arith.sext 24 v else BitVec.ofNat 32 v

/-- The bytes a stored element gives (Table 04-6): P24 is sat(element, 24). -/
def LaOp.stored (o : LaOp) (w : Word) : List Byte :=
  if o.p24 then Arith.bytes 3 (BitVec.ofInt 32 (Arith.sat 24 w.toInt)).toNat else Arith.bytes 4 w.toNat

end Sys2Proof

namespace Sys2Proof.Machine

/-- The spaces a load/store slot addresses (Table 04-11, Table 04-22). -/
inductive Space where
  | loc | bst | hay | bus
  deriving DecidableEq, Repr

/-- The SPACE code of STL_ADDR_LOC (Table 04-22). -/
def Space.code : Space → Nat
  | .loc => 0 | .bst => 1 | .hay => 2 | .bus => 3

/-- The number of bytes of the space (Table 04-11; the bus summers end at 0x4000, R203). -/
def Space.size (v : Variant) : Space → Nat
  | .loc => 0x40000 | .bst => 0x200000 | .hay => v.hayMib * 0x100000 | .bus => 0x4000

/-- MEMWIN address of the space's byte 0 for stall `i`. -/
def Space.origin (i : Nat) : Space → Nat
  | .loc => Mem.localBase i
  | .bst => Mem.barnBase (i / 8)
  | .hay => 0
  | .bus => 0

/-- The ping-pong stride of the space (R125). -/
def Space.stride (s : State) (i : Nat) : Space → Nat
  | .loc => s.fld (Reg.STL_PP_LOC_STRIDE i)
  | .bst => s.fld (Reg.STL_PP_BST_STRIDE i)
  | .hay => s.fld (Reg.STL_PP_HAY_STRIDE i)
  | .bus => 0

/-- The access of an LA operation by stall `i` in space `sp`: the element addresses and the new pointer (R121). -/
def Stl.access (s : State) (i : Nat) (o : LaOp) (sp : Space) (vector : Bool) : List Nat × Word :=
  o.access (s.src i) (o.cnt vector) s.parity (sp.stride s i)

/-- Writing the pointer of an LA access (R121); PLAIN leaves it unchanged. -/
def Stl.postPointer (i : Nat) (o : LaOp) (p : Word) (s : State) : State :=
  if o.amode = .plain then s else s.onRf i fun w => w.pW o.pn p

/-- The element at address `a` of `n` bytes lies outside the space (R120). -/
def Space.outOfRange (v : Variant) (sp : Space) (a n : Nat) : Bool := decide (sp.size v < a + n)

/-- A memory element of a vector access: its index, its address and the enabled vector elements it serves (R115). -/
def Stl.vecElems (r : RegFile) (o : LaOp) (addrs : List Nat) : List (Nat × List Nat) :=
  (addrs.zipIdx.map fun p => (p.1, (o.shape.elems p.2).filter (r.enabled o.kp))).filter fun p => !p.2.isEmpty

/-- Reading one element in range at MEMWIN address `a` by a load before which `after` shared stores had been issued (R198); where a store of
this frame to a shared space is not ordered, the load may see it or not (R190, R195). -/
def Stl.readElem (i after : Nat) (o : LaOp) (sp : Space) (a : Nat) (s : State) : State × Word :=
  if Mem.bad s a o.size then (s, 0)
  else match sp with
    | .loc => (s, o.extend (Arith.ofBytes (s.bytesAt a o.size)))
    | _ =>
      let p := Mem.sharedBytes s i (s.stall i).syncRel after a o.size
      (p.1, o.extend (Arith.ofBytes p.2))

/-- The address fault of an access, whose faulting elements are at `addrs`, lowest first (R120): the lowest is recorded (R146). -/
def Stl.noteFault (i space : Nat) (o : LaOp) (addrs : List Nat) (s : State) : State :=
  match addrs with
  | [] => s
  | a :: _ => Stl.addrFault s i space o.slot1 a

/-- The rows of 64 bytes, by number, that elements of `n` bytes at the addresses cover (R222). -/
def Stl.rows (as : List Nat) (n : Nat) : List Nat := (as.flatMap fun a => [a / 64, (a + n - 1) / 64]).eraseDups

/-- The rows of a load in flight. -/
def LoadRec.rows (r : LoadRec) : List Nat := Stl.rows (r.elems.map (·.addr)) (if r.p24 then 3 else 4)

/-- The stall's port to its barn store holds 8 requests in flight (R189). -/
def Stl.barnBusy (s : State) (i : Nat) : Bool :=
  decide (8 ≤ ((s.stall i).loads.filter fun r => !r.hay).length + ((s.stall i).stores.filter fun r => !r.hay).length)

/-- The row transactions of the BARN master of stall `i` that are queued or in service at hayloft bank `p` (R222, R228): the rows in flight
of the barn's stalls, and the transactions of the master that wait or are unanswered in the matrix. -/
def Stl.atBank (s : State) (i p : Nat) : Nat :=
  let b := i / 8
  let stalls := (List.range 8).flatMap fun j =>
    let x := s.stall (8 * b + j)
    (x.loads.filter (·.hay)).flatMap LoadRec.rows ++ (x.stores.filter (·.hay)).flatMap (·.rows)
  let bank (c : List (Nat × Byte)) : Bool := (c.headD (0, 0)).1 / 0x400000 == p
  (stalls.filter fun r => r / 0x10000 == p).length +
    (s.mtx.queue.filter fun q => q.req.master == b && bank q.req.cells).length +
    (s.mtx.unanswered.filter fun q => q.req.master == b && bank q.req.cells).length

/-- A hayloft access of stall `i` to the rows `rs` would put more than 4 transactions of its BARN master at a bank port, so its bundle is held
at issue (R228). An access that needs more than 4 rows of one bank by itself issues once none is queued there (DESIGN CHOICE, log 59). -/
def Stl.hayBusy (s : State) (i : Nat) (rs : List Nat) : Bool :=
  ((rs.map (· / 0x10000)).eraseDups).any fun p =>
    let have_ := Stl.atBank s i p
    decide (0 < have_) && decide (4 < have_ + (rs.filter fun r => r / 0x10000 == p).length)

/-- The memory elements of a vector access of stall `i` and, of those in range, the rows of a shared space. -/
def Stl.hayRows (s : State) (i : Nat) (o : LaOp) : List Nat :=
  let es := Stl.vecElems (s.src i) o (Stl.access s i o .hay true).1
  Stl.rows ((es.filter fun e => !Space.hay.outOfRange s.variant e.1 o.size).map (·.1)) o.size

/-- The port of the space is busy for an access of stall `i`, so that its bundle is held (R139, R189, R228); the BARN master takes no access
while the matrix is stopped (R237). -/
def Stl.portBusy (s : State) (i : Nat) (o : LaOp) : Space → Bool
  | .loc => false
  | .bst => Stl.barnBusy s i
  | .hay => Mtx.stopped s || Stl.hayBusy s i (Stl.hayRows s i o)
  | .bus => Mtx.stopped s

/-- The bundle of a vector load waits (R139): for its register, for a place among the 16 loads in flight, or for the port of the space. -/
def Stl.loadHeld (s : State) (c : OpCtx) (o : LaOp) (sp : Space) : Bool :=
  Stl.awaits s c.stall [o.reg] || decide (16 ≤ (s.stall c.stall).loads.length) || Stl.portBusy s c.stall o sp

/-- The bundle of a vector store or of a BUSADD waits (R139): for its register or for the port of the space. -/
def Stl.storeHeld (s : State) (c : OpCtx) (o : LaOp) (sp : Space) : Bool := Stl.awaits s c.stall [o.reg] || Stl.portBusy s c.stall o sp

/-- A vector load (R115, R120, R158). Data of a barn store or hayloft load is recorded as in flight (R139). The address fault comes last: a
reaction to it takes nothing back of the access. -/
def Stl.load (c : OpCtx) (o : LaOp) (sp : Space) (s : State) : State :=
  Stl.op c true (Stl.loadHeld s c o sp) (fun t =>
    let i := c.stall
    let p := Stl.access t i o sp true
    let es := Stl.vecElems (t.src i) o p.1
    let out (e : Nat × List Nat) : Bool := sp.outOfRange t.variant e.1 o.size
    let ok := es.filter fun e => !out e
    let base := sp.origin i
    let after := t.mem.issued
    let step (u : State) (e : Nat × List Nat) : State :=
      let q := if out e then (u, (0 : Word)) else Stl.readElem i after o sp (base + e.1) u
      q.1.onRf i fun w => e.2.foldl (fun w d => w.vW o.reg d q.2) w
    let t1 := t.each es step
    let x := t1.stall i
    let t2 := match sp with
      | .loc => t1
      | _ => t1.setStall i { x with loads := x.loads ++
          [LoadRec.mk (sp == .hay) o.reg o.p24 x.syncRel after (ok.map fun e => { addr := base + e.1, dests := e.2 })] }
    let t3 := Mem.readNote (Stl.postPointer i o p.2 t2) 0 (ok.flatMap fun e => (List.range o.size).map (base + e.1 + ·))
    Stl.noteFault i sp.code o ((es.filter out).map (·.1)) t3) s

/-- The elements that stall `i` stores, as MEMWIN addresses and bytes, in element order; the check bits are given their due first (R579). -/
def Stl.writeElems (i : Nat) (sp : Space) (cells : List (Nat × List Byte)) (s : State) : State :=
  let as := cells.flatMap fun e => (List.range e.2.length).map (e.1 + ·)
  let s1 := s.each cells fun t e => match sp with
    | .loc => t.setBytes e.1 e.2
    | _ => Mem.storeShared t i (t.stall i).syncCnt (t.stall i).syncRel e.1 e.2
  s1.each (Mem.wordsOf as) (Mem.merge 0 as)

/-- A store of stall `i` issued at cycle `cyc` to the cells: a breach of the state cut is reported (R213). -/
def Stl.noteBreach (i cyc : Nat) (cells : List (Nat × List Byte)) (s : State) : State :=
  s.when (Stl.breaches s cyc (cells.flatMap fun e => (List.range e.2.length).map (e.1 + ·))) fun t => Stl.breach t i

/-- A vector store (R115, R120, R158). A barn store or hayloft store is recorded as in flight (R151, R189, R192). -/
def Stl.store (c : OpCtx) (o : LaOp) (sp : Space) (s : State) : State :=
  Stl.op c true (Stl.storeHeld s c o sp) (fun t =>
    let i := c.stall
    let r := t.src i
    let p := Stl.access t i o sp true
    let es := Stl.vecElems r o p.1
    let out (e : Nat × List Nat) : Bool := sp.outOfRange t.variant e.1 o.size
    let cells := (es.filter fun e => !out e).map fun e => (sp.origin i + e.1, o.stored (r.vR o.reg (e.2.headD 0)))
    let x := t.stall i
    let t1 := match sp with
      | .loc => t
      | _ => t.setStall i { x with stores := x.stores ++
          [{ hay := sp == .hay, stamp := x.syncCnt, rows := Stl.rows (cells.map (·.1)) o.size }] }
    let t2 := Stl.writeElems i sp cells (Stl.postPointer i o p.2 t1)
    Stl.noteFault i sp.code o ((es.filter out).map (·.1)) (Stl.noteBreach i c.cyc cells t2)) s

/-- LD.V (R158). -/
def execLdV (c : OpCtx) (o : LaOp) (s : State) : Host.Outcome State Fault Refusal := .next (Stl.load c o .loc s)
/-- ST.V (R158). -/
def execStV (c : OpCtx) (o : LaOp) (s : State) : Host.Outcome State Fault Refusal := .next (Stl.store c o .loc s)
/-- LDB (R158). -/
def execLdb (c : OpCtx) (o : LaOp) (s : State) : Host.Outcome State Fault Refusal := .next (Stl.load c o .bst s)
/-- STB (R158). -/
def execStb (c : OpCtx) (o : LaOp) (s : State) : Host.Outcome State Fault Refusal := .next (Stl.store c o .bst s)
/-- LDH (R158). -/
def execLdh (c : OpCtx) (o : LaOp) (s : State) : Host.Outcome State Fault Refusal := .next (Stl.load c o .hay s)
/-- STH (R158). -/
def execSth (c : OpCtx) (o : LaOp) (s : State) : Host.Outcome State Fault Refusal := .next (Stl.store c o .hay s)

/-- LD.S (R159): one element into G[REG]; out of range it writes 0. It is a load, so with 16 outstanding its bundle waits (R139). -/
def execLdS (c : OpCtx) (o : LaOp) (s : State) : Host.Outcome State Fault Refusal :=
  .next (Stl.op c true (decide (16 ≤ (s.stall c.stall).loads.length)) (fun t =>
    let i := c.stall
    let p := Stl.access t i o .loc false
    let a := p.1.headD 0
    let base := Mem.localBase i
    if Space.loc.outOfRange t.variant a o.size then
      Stl.noteFault i 0 o [a] (Stl.postPointer i o p.2 (t.onRf i fun w => w.gW o.reg 0))
    else
      let q := Stl.readElem i 0 o .loc (base + a) t
      Mem.readNote (Stl.postPointer i o p.2 (q.1.onRf i fun w => w.gW o.reg q.2)) 0 ((List.range o.size).map (base + a + ·))) s)

/-- ST.S (R159): G[REG] as one element; out of range it writes nothing. -/
def execStS (c : OpCtx) (o : LaOp) (s : State) : Host.Outcome State Fault Refusal :=
  .next (Stl.op c true false (fun t =>
    let i := c.stall
    let p := Stl.access t i o .loc false
    let a := p.1.headD 0
    let cells := [(Mem.localBase i + a, o.stored ((t.src i).gR o.reg))]
    let t1 := Stl.postPointer i o p.2 t
    if Space.loc.outOfRange t.variant a o.size then Stl.noteFault i 0 o [a] t1
    else Stl.noteBreach i c.cyc cells (Stl.writeElems i .loc cells t1)) s)

/-- The bus sample that address `a` names is outside the map of R203 for N samples per frame. -/
def Bus.outOfRange (n a : Nat) : Bool := a % 4 != 0 || decide (n ≤ a / 1024) || decide (0x4000 ≤ a)

/-- The bus sample with index `j` (256 · sample + bus) in the bank of parity `fp` (R204). -/
def State.busSample (s : State) (fp j : Nat) : Acc := Sparse.get s.mem.bus (4096 * fp + j) {}

/-- Adding `d` into the bus sample `j` of bank `fp` by acc with w = 64 (R88, R160); the summer's checker compares residues (R98), and a
mismatch is F057. -/
def State.busAdd (s : State) (fp j : Nat) (d : Int) : State :=
  let x := s.busSample fp j
  let t : State := { s with mem := { s.mem with bus := Sparse.put s.mem.bus (4096 * fp + j) {} (x.add d 64) } }
  t.when (Arith.addMismatch 64 x d (x.add d 64) false) fun u => u.faultEvent 57

/-- BUSADD (R160, R203, R204). The beats it sends, one for each row of 64 bytes (R222), count as in flight. -/
def execBusadd (c : OpCtx) (o : LaOp) (s : State) : Host.Outcome State Fault Refusal :=
  .next (Stl.op c true (Stl.storeHeld s c o .bus) (fun t =>
    let i := c.stall
    let r := t.src i
    let p := Stl.access t i o .bus true
    let es := Stl.vecElems r o p.1
    let out (e : Nat × List Nat) : Bool := Bus.outOfRange t.frameN e.1
    let ok := es.filter fun e => !out e
    let t1 := t.each ok fun u e => u.busAdd t.parity (e.1 / 4) (r.vR o.reg (e.2.headD 0)).toInt
    let t2 : State := { t1 with mem := { t1.mem with adds := t1.mem.adds + (Stl.rows (ok.map (·.1)) 4).length } }
    Stl.noteFault i 3 o ((es.filter out).map (·.1)) (Stl.postPointer i o p.2 t2)) s)

/-- LI (R114): IMM18 zero-extended for P, B and L, sign-extended for M. -/
def execLi (c : OpCtx) (areg imm : Nat) (s : State) : Host.Outcome State Fault Refusal :=
  let w := if areg / 8 = 3 then Arith.sext 18 imm else BitVec.ofNat 32 (imm % 2 ^ 18)
  .next (Stl.op c true false (fun t => t.onRf c.stall fun r => r.aW areg w) s)

/-- LIH (R114): register bits 31..18 become the immediate; bits 17..0 stay. -/
def execLih (c : OpCtx) (areg imm : Nat) (s : State) : Host.Outcome State Fault Refusal :=
  .next (Stl.op c true false (fun t =>
    let old := ((t.src c.stall).aR areg).toNat
    t.onRf c.stall fun r => r.aW areg (BitVec.ofNat 32 (imm % 2 ^ 14 * 2 ^ 18 + old % 2 ^ 18))) s)

/-- The oldest load in flight of space `hay` into V register `d`, and the list without it. -/
def Stl.takeLoad (hay : Bool) (d : Nat) : List LoadRec → Option LoadRec × List LoadRec
  | [] => (none, [])
  | r :: rs =>
    if r.hay = hay ∧ r.dest = d then (some r, rs)
    else ((Stl.takeLoad hay d rs).1, r :: (Stl.takeLoad hay d rs).2)

/-- The stall with its registers changed by `f`, those that the bundle in issue has read with them: a bundle that reads the register waits
for it (R139). -/
def Stall.returned (x : Stall) (f : RegFile → RegFile) : Stall := { x with rf := f x.rf, snap := x.snap.map f }

/-- An element of a returning load: where a store of this frame is not ordered against the load, whether the load saw it is settled only now,
so the element is read again (R190, R195). No operation has read or written the register since the load issued (R139, R140). -/
def Stl.returnElem (i : Nat) (r : LoadRec) (s : State) (e : LoadElem) : State :=
  let n := if r.p24 then 3 else 4
  if Mem.contested s i r.rel r.after e.addr n && !Mem.bad s e.addr n then
    let p := Mem.sharedBytes s i r.rel r.after e.addr n
    let v : Word := if r.p24 then Arith.sext 24 (Arith.ofBytes p.2) else BitVec.ofNat 32 (Arith.ofBytes p.2)
    p.1.setStall i ((p.1.stall i).returned fun w => e.dests.foldl (fun w d => w.vW r.dest d v) w)
  else s

/-- The data of the oldest load in flight into V register `d` returns (R189, R192). -/
def Stl.dataReturn (hay : Bool) (i d : Nat) (s : State) : State :=
  let x := s.stall i
  let q := Stl.takeLoad hay d x.loads
  match q.1 with
  | none => s
  | some r => (s.setStall i { x with loads := q.2 }).each r.elems (Stl.returnElem i r)

/-- The stores without the oldest one of space `hay`. -/
def Stl.dropStore (hay : Bool) : List StoreRec → List StoreRec
  | [] => []
  | r :: rs => if r.hay = hay then rs else r :: Stl.dropStore hay rs

/-- The oldest store in flight of stall `i` has been written (R151, R189, R192). -/
def Stl.storeWritten (hay : Bool) (i : Nat) (s : State) : State :=
  let x := s.stall i
  s.setStall i { x with stores := Stl.dropStore hay x.stores }

/-- LDB_DATA_RETURN (R189). -/
def execLdbDataReturn (stall vd : Nat) (s : State) : Host.Outcome State Fault Refusal :=
  .next (Stl.dataReturn false stall vd s)
/-- STB_WRITTEN (R189). -/
def execStbWritten (stall : Nat) (s : State) : Host.Outcome State Fault Refusal := .next (Stl.storeWritten false stall s)
/-- LDH_DATA_RETURN (R192). -/
def execLdhDataReturn (stall vd : Nat) (s : State) : Host.Outcome State Fault Refusal :=
  .next (Stl.dataReturn true stall vd s)
/-- STH_WRITTEN (R192). -/
def execSthWritten (stall : Nat) (s : State) : Host.Outcome State Fault Refusal := .next (Stl.storeWritten true stall s)

end Sys2Proof.Machine
end

