-- ==== Sys2Proof/Machine/MtxTx.lean ====
section
/-! DEFINITION. Transactions of the bus matrix (spec 07_bus_matrix.md: R218 to R238) and the host's window on the memories
(06_schedule_memory.md: R196; 09_bales_digest.md: R285, R581; 10_host_commands.md: R317, R320). -/

namespace Sys2Proof.Machine

/-- The target of a matrix address (Table 07-2): 0–7 HAY, 8–13 BST, 14 BUSSUM, 15 TACK, 16 BRIDGE, 31 none. -/
def Mtx.target (a : Nat) : Nat :=
  if a < 0x8000000 then a / 0x1000000
  else if a < 0x8C00000 then 8 + (a - 0x8000000) / 0x200000
  else if a < 0x9000000 then 31
  else if a < 0x9800000 then 15
  else if a < 0xA000000 then 31
  else if a < 0xAC00000 then 8 + (a - 0xA000000) / 0x200000
  else if a < 0xB000000 then 31
  else if a < 0xB300000 then 8 + (a - 0xB000000) / 0x80000
  else if a < 0xC000000 then 31
  else if a < 0xC004000 then 14
  else if a < 0x10000000 then 31
  else if a < 0x11000000 then 16
  else 31

/-- The address lies in a shadow program bank. -/
def Mtx.inProg (a : Nat) : Bool := decide (0xB000000 ≤ a) && decide (a < 0xB300000)

/-- Paths of Table 07-3: 0 none, 1 in the fast matrix only, 2 in both. -/
def Mtx.path (m t : Nat) : Nat :=
  let hay := decide (t ≤ 7)
  let bst := decide (8 ≤ t) && decide (t ≤ 13)
  if m ≤ 5 then (if hay || t == 14 then 2 else 0)
  else match m with
    | 6 => if hay then 2 else 0
    | 7 => if hay then 2 else 0
    | 8 => if hay || bst || t == 15 then 1 else if t == 16 then 2 else 0
    | 9 => if hay then 2 else 0
    | 10 => if hay then 2 else 0
    | 11 => if hay || bst then 2 else 0
    | 12 => if t == 15 || t == 16 then 2 else 0
    | 13 => if hay || bst then 2 else 0
    | 14 => if hay then 1 else if bst || t == 15 || t == 16 then 2 else 0
    | 15 => if hay || bst || t == 14 then 2 else 0
    | _ => 0

/-- The access is one that its target takes from the master (R219 to R221). -/
def Mtx.allowed (m : Nat) (write : Bool) (a : Nat) : Bool :=
  decide (Mtx.path m (Mtx.target a) ≠ 0) && (!Mtx.inProg a || m == 14) &&
    (Mtx.target a != 14 || (if write then decide (m ≤ 5) else m == 15))

/-- The addressed unit is present (R6, R7). -/
def Mtx.unitPresent (v : Variant) (a : Nat) : Bool :=
  if a < 0xB000000 then Mem.present v a
  else if Mtx.inProg a then decide ((a - 0xB000000) / 0x10000 < v.stalls)
  else if 0x10000000 ≤ a ∧ (Reg.rowAt ((a - 0x10000000) / 4 * 4)).isSome = true then Reg.present v ((a - 0x10000000) / 4 * 4)
  else true

/-- The master is present (R218). -/
def Mtx.master (v : Variant) (m : Nat) : Bool :=
  if m ≤ 5 then decide (m < v.barns) else if m = 10 then decide (0 < v.snsIn) else if m = 11 then v.tether else decide (m < 16)

/-- The arbitration point of an address (R222): hayloft banks 0–31, barn store banks 32–127, external ports 128–175, shadow program
banks 176–223, the write and read ports of BUSSUM 224 and 225, TACK 226, BRIDGE 227. The list of R222 names no point for an external port or
for a shadow program bank, and each stall has one of each here; a transaction of several rows in a barn store, whose rows lie in different
banks, is arbitrated at the bank of its first row (DESIGN CHOICE, log 60). -/
def Mtx.point (write : Bool) (a : Nat) : Nat :=
  if a < 0x8000000 then a / 0x400000
  else if a < 0x9000000 then 32 + 16 * ((a - 0x8000000) / 0x200000) + a / 64 % 16
  else if a < 0xA000000 then 226
  else if a < 0xB000000 then 128 + (a - 0xA000000) / 0x40000
  else if a < 0xC000000 then 176 + (a - 0xB000000) / 0x10000
  else if a < 0x10000000 then (if write then 224 else 225)
  else 227

/-- The master that a slot of the wheel is reserved for (Table 07-4). While no frame runs there is no phase, and every slot is open (DESIGN
CHOICE, log 60). -/
def Mtx.owner (ph : Phase) (slot : Nat) : Option Nat :=
  match ph with
  | .none => none
  | .c => if slot ≤ 5 then some slot else if slot = 6 then some 15 else if 8 ≤ slot ∧ slot ≤ 13 then some (slot - 8)
    else if slot = 14 then some 11 else none
  | _ => if slot ≤ 7 then some 15 else if 8 ≤ slot ∧ slot ≤ 11 then some 11 else none

/-- The QoS of a transaction (R232). -/
def Mtx.qos (s : State) (m : Nat) (audio : Bool) : Nat :=
  if m ≤ 5 ∨ m = 15 then 15 else if (m = 6 ∨ m = 7) ∧ audio = true then 15 else s.fld (Reg.MTX_QOS_QOS m)

/-- The place of a master in the round robin of a point, after the master granted last (R230). -/
def Mtx.turn (s : State) (point m : Nat) : Nat := (m + 16 - Sparse.get s.mtx.last point 0) % 16

/-- In an open slot request `x` goes before request `y` (R230). Of two aged requests of equal age the round robin decides, whatever their QoS
(DESIGN CHOICE, log 60). -/
def Mtx.before (s : State) (point : Nat) (x y : MtxRival) : Bool :=
  let old (r : MtxRival) : Bool := decide (s.fld Reg.MTX_AGE_LIMIT < r.waited)
  let rr := decide (Mtx.turn s point x.master ≤ Mtx.turn s point y.master)
  if old x && old y then (if x.waited = y.waited then rr else decide (y.waited < x.waited))
  else if old x || old y then old x
  else
    let a := Mtx.qos s x.master x.audio
    let b := Mtx.qos s y.master y.audio
    if a = b then rr else decide (b < a)

/-- The master that an idle point is parked on (R233): the one granted last there, or MTX_PARK.DEF of the target; none in the fall-back
matrix, none where that master is absent, and none where the point has granted nothing yet. -/
def Mtx.parked (s : State) (point target : Nat) : Option Nat :=
  let m := if s.variant.parkLast then (match Sparse.get s.mtx.last point 0 with
      | 0 => none
      | n => some (n - 1))
    else some (s.fld (Reg.MTX_PARK_DEF target))
  m.filter fun x => !Mtx.fallback s && Mtx.master s.variant x

/-- The point grants the request in this slot (R226 to R230, R233): the master that the slot is reserved for, else by the order of R230; at an
idle point a request of another master than the parked one takes one more cycle. Four of the requests at BUSSUM's write ports are granted at
once (R229). -/
def Mtx.granted (s : State) (r : MtxReq) (a waited slot : Nat) (rivals : List MtxRival) : Bool :=
  let me : MtxRival := ⟨r.master, r.audio, waited⟩
  let point := Mtx.point r.write a
  let behind := (rivals.filter fun x => !Mtx.before s point me x).length
  let idle := rivals.isEmpty && waited == 0
  let open_ := if idle then Mtx.parked s point (Mtx.target a) == some r.master
    else if point = 224 then decide (behind < 4) else behind == 0
  if 13 < Mtx.target a then open_
  else match Mtx.owner s.phase slot with
    | none => open_
    | some o => if o = r.master then true else if rivals.any fun x => x.master == o then false else open_

/-- The arbitration point of a request. -/
def Mtx.pointOf (r : MtxReq) : Nat := Mtx.point r.write (r.cells.headD (0, 0)).1

/-- The requests that the master of `r` issued before it and that are not granted: those in front of it in the queue. -/
def Mtx.ahead (s : State) (r : MtxReq) : List MtxReq :=
  ((s.mtx.queue.map (·.req)).takeWhile fun q => q ≠ r).filter fun q => q.master == r.master

/-- The other masters' oldest requests at the point of `r`: those that the command names, and those in the queue (R223). -/
def Mtx.rivals (s : State) (r : MtxReq) (named : List MtxRival) : List MtxRival :=
  s.mtx.queue.foldl (fun l q =>
    if q.req.master = r.master ∨ Mtx.pointOf q.req ≠ Mtx.pointOf r ∨ (l.any fun x => x.master == q.req.master) = true then l
    else l ++ [⟨q.req.master, q.req.audio, q.waited⟩]) named

/-- The master or the matrix holds the request back (R223, R224, R237, R238): an earlier request of the master waits at the point, or its
target has discarded one there that is yet to be reissued; the master has no room or the target accepts no beats; it overlaps an earlier write
of the master that is not answered. -/
def Mtx.holds (s : State) (r : MtxReq) : Bool :=
  !r.room || Mtx.stopped s || ((Mtx.ahead s r).any fun q => Mtx.pointOf q == Mtx.pointOf r) ||
    s.mtx.unanswered.any fun x => x.req.master == r.master &&
      ((x.point == Mtx.pointOf r && x.stage == .dropped) ||
        (x.req.write && x.req.cells.any fun c => r.cells.any fun d => d.1 == c.1))

/-- A BARN master takes no further transaction at a hayloft bank port (R228). -/
def Mtx.full (s : State) (r : MtxReq) : Bool :=
  let a := (r.cells.headD (0, 0)).1
  decide (r.master ≤ 5) && decide (a < 0x8000000) && decide (4 ≤ Stl.atBank s (8 * r.master) (a / 0x400000))

/-- The request waits: it takes its place at the end of the queue, or keeps the one it has. -/
def Mtx.enqueue (s : State) (r : MtxReq) (waited : Nat) : State :=
  let q := if s.mtx.queue.any fun x => x.req == r then s.mtx.queue.map fun x => if x.req = r then { x with waited := waited } else x
    else s.mtx.queue ++ [⟨r, waited⟩]
  { s with mtx := { s.mtx with queue := q } }

/-- The request waits no more. -/
def Mtx.dequeue (s : State) (r : MtxReq) : State :=
  { s with mtx := { s.mtx with queue := s.mtx.queue.filter fun x => x.req ≠ r } }

/-- A DECODE or NOPATH response is recorded (R235). -/
def Mtx.error (s : State) (code m : Nat) (write : Bool) (a : Nat) : State :=
  if s.flag Reg.MTX_ERR_VALID then (s.setFlag Reg.MTX_ERR_OVF true).incCnt Reg.MTX_ERR_COUNT
  else
    let s1 := ((s.setFld Reg.MTX_ERR_CODE code).setFlag Reg.MTX_ERR_WRITE write).setFld Reg.MTX_ERR_TARGET (Mtx.target a)
    ((s1.setFld Reg.MTX_ERR_MASTER m).setFld Reg.MTX_ERR_ADDR_ADDR a).setFire Reg.MTX_ERR_VALID 51

/-- The response that an access to the address gets whatever the target holds (Table 07-5): DECODE by R219 to R221, then ABSENT, which no
matrix records (R6, R7), then NOPATH. -/
def Mtx.refusal (s : State) (m : Nat) (write : Bool) (a : Nat) : MtxResp :=
  if !Mtx.allowed m write a then .decode
  else if !Mtx.unitPresent s.variant a then .absent
  else if Mtx.path m (Mtx.target a) = 1 && Mtx.fallback s then .nopath else .ok

/-- The recording of a response (R235). -/
def Mtx.record (s : State) (code : MtxResp) (m : Nat) (write : Bool) (a : Nat) : State :=
  match code with
  | .decode => Mtx.error s 1 m write a
  | .nopath => Mtx.error s 2 m write a
  | _ => s

/-- The 32-bit words that a list of cells touches, in order. -/
def Mtx.words (cells : List (Nat × Byte)) : List Nat := (cells.map fun c => c.1 / 4 * 4).eraseDups

/-- The word at `a` as the cells give it, where all of its bytes are among them. -/
def Mtx.whole (cells : List (Nat × Byte)) (a : Nat) : Option Word :=
  let b (i : Nat) : Option Byte := (cells.find? fun c => c.1 = a + i).map fun c => c.2
  match b 0, b 1, b 2, b 3 with
  | some x, some y, some z, some w => some (BitVec.ofNat 32 (x.toNat + 2 ^ 8 * y.toNat + 2 ^ 16 * z.toNat + 2 ^ 24 * w.toNat))
  | _, _, _, _ => none

/-- The parts of the tack room whose bytes the spec does not lay out: the persistent record and the parameter save area. -/
def Mtx.unlaid (a : Nat) : Bool :=
  (decide (0x9018000 ≤ a) && decide (a < 0x9019000)) || (decide (0x9041000 ≤ a) && decide (a < 0x9180000))

/-- The byte of the shadow program bank at `a`. -/
def Mtx.progOf (s : State) (a : Nat) : Byte :=
  let o := a - 0xB000000
  let i := o / 0x10000
  BitVec.ofNat 8 ((Sparse.get (s.stall i).prog (4096 * (1 - Stl.bank s i) + o % 0x10000 / 16) 0).toNat / 2 ^ (8 * (o % 16)))

/-- The word at `a` that a read returns (Table 07-5), with what the read does to a register block: of BUSSUM the frozen read-out of the
previous frame (R207, R221); where the spec lays out no bytes it is FREE. -/
def Mtx.word (s : State) (a : Nat) : State × Word :=
  match Mtx.target a with
  | 16 => Reg.read s s.tkp.node (a - 0x10000000)
  | 14 => (s, Arith.word (Sparse.get s.graph.sums ((a - 0xC000000) / 4) 0))
  | _ =>
    if Mtx.inProg a then (s, BitVec.ofNat 32 (Arith.ofBytes ((List.range 4).map fun i => Mtx.progOf s (a + i))))
    else if Mtx.unlaid a then (s.drew, s.freeWord)
    else (s, BitVec.ofNat 32 (Arith.ofBytes ((List.range 4).map fun i => Mem.clean s (a + i))))

/-- The words that a read of the cells returns. -/
def Mtx.data (s : State) (cells : List (Nat × Byte)) : State × List (Nat × Word) :=
  (Mtx.words cells).foldl (fun p a => ((Mtx.word p.1 a).1, p.2 ++ [(a, (Mtx.word p.1 a).2)])) (s, [])

/-- The zero words of a read that gets no data (Table 07-5). -/
def Mtx.zeros (write : Bool) (cells : List (Nat × Byte)) : List (Nat × Word) :=
  if write then [] else (Mtx.words cells).map fun a => (a, 0)

/-- The transaction ends with a response (R234); the master HST gives the host the data of its read. -/
def Mtx.respond (s : State) (m : Nat) (write : Bool) (code : MtxResp) (ws : List (Nat × Word)) : State :=
  (s.send (.response m write code ws)).when (m == 8) fun t => t.each ws fun u w => u.hostOut (.readData w.1 w.2)

/-- A read meets the words of memory that it touches (R197, R198). -/
def Mtx.read (s : State) (cells : List (Nat × Byte)) (a : Nat) : State :=
  if Mtx.target a = 14 ∨ Mtx.target a = 16 ∨ Mtx.inProg a = true then s else Mem.readNote s 2 (cells.map fun c => c.1)

/-- The bytes of a bundle of a shadow program bank take new values. -/
def Mtx.progByte (s : State) (c : Nat × Byte) : State :=
  let o := c.1 - 0xB000000
  let i := o / 0x10000
  let x := s.stall i
  let key := 4096 * (1 - Stl.bank s i) + o % 0x10000 / 16
  let old := (Sparse.get x.prog key 0).toNat
  let sh := 2 ^ (8 * (o % 16))
  let new : Bundle := BitVec.ofNat 128 (old - old / sh % 256 * sh + c.2.toNat * sh)
  s.setStall i { x with prog := Sparse.put x.prog key 0 new }

/-- The host writes memory bytes outside the tack room (R196). -/
def Hst.writeMem (s : State) (cells : List (Nat × Byte)) : State :=
  if s.running then s.incCnt Reg.TOP_MEM_STAT_HOST_WR_DISC else Mem.write s 2 cells

/-- The bale slot that holds all of the cells, where there is one. -/
def Hst.slot (cells : List (Nat × Byte)) : Option Nat :=
  [0, 1].find? fun i => cells.all fun c => decide (Bale.base i ≤ c.1) && decide (c.1 < Bale.base i + 0x340000)

/-- The host writes tack room bytes (R285, R286); from SAVE_WARN on every such write is discarded (R541). -/
def Hst.writeTack (s : State) (cells : List (Nat × Byte)) : State :=
  if cells.isEmpty then s
  else match Hst.slot cells with
    | none => s.incCnt Reg.TOP_TACK_STAT_WR_DISC
    | some i =>
      if 1 < Bale.st s i ∨ s.saveWarned = true then s.incCnt Reg.TOP_TACK_STAT_WR_DISC
      else Mem.write (if Bale.st s i = 0 then Bale.setState s i 1 else s) 2 cells

/-- A write takes effect at its target. -/
def Mtx.write (s : State) (m : Nat) (cells : List (Nat × Byte)) (a : Nat) : State :=
  match Mtx.target a with
  | 16 => s.each (Mtx.words cells) fun t w => match Mtx.whole cells w with
      | some v => Reg.write t (w - 0x10000000) v
      | none => t
  | 15 => if m = 8 then Hst.writeTack s cells else Mem.write s 2 cells
  | 14 => s.each (Mtx.words cells) fun t w => match Mtx.whole cells w with
      | some v => t.busAdd t.parity ((w - 0xC000000) / 4) v.toInt
      | none => t
  | _ =>
    if Mtx.inProg a then s.each cells Mtx.progByte
    else if m = 8 then Hst.writeMem s cells else Mem.write s 2 cells

/-- The response of a transaction that takes effect (Table 07-5). -/
def Mtx.code (s : State) (r : MtxReq) : MtxResp :=
  let a := (r.cells.headD (0, 0)).1
  let memory := Mtx.target a ≤ 13 ∨ Mtx.target a = 15
  if !r.write && decide memory && !Mtx.inProg a && r.cells.any fun c => Mem.err s (Mem.wordOf c.1) == 2 then .uncorr else .ok

/-- A transaction takes effect at its target; with the words that a read returns. -/
def Mtx.effect (s : State) (r : MtxReq) : State × List (Nat × Word) :=
  let a := (r.cells.headD (0, 0)).1
  if r.write then (Mtx.write s r.master r.cells a, [])
  else
    let p := Mtx.data s r.cells
    (Mtx.read p.1 r.cells a, p.2)

/-- The key of a master's sequence numbers at a point (R238). -/
def Mtx.key (m point : Nat) : Nat := 1024 * m + point

/-- The target has applied the transaction with sequence number `n`. -/
def Mtx.note (s : State) (key n : Nat) : State :=
  { s with mtx := { s.mtx with applied := Sparse.put s.mtx.applied key 0 (n + 1) } }

/-- The target of a key has applied sequence number `n`, counted mod 256 (R238). -/
def Mtx.done (s : State) (key n : Nat) : Bool :=
  match Sparse.get s.mtx.applied key 0 with
  | 0 => false
  | k => decide ((k - 1 + 256 - n) % 256 < 128)

/-- The transaction takes effect, and its target notes it. -/
def Mtx.apply (s : State) (x : MtxTx) : State × List (Nat × Word) :=
  let p := Mtx.effect s x.req
  (Mtx.note p.1 (Mtx.key x.req.master x.point) x.seq, p.2)

/-- A transaction on its way is served and answered. -/
def Mtx.serve (s : State) (x : MtxTx) : State :=
  let code := Mtx.code s x.req
  let p := Mtx.apply { s with mtx := { s.mtx with unanswered := s.mtx.unanswered.filter fun y => y ≠ x } } x
  Mtx.respond p.1 x.req.master x.req.write code p.2

/-- The transactions on their way that satisfy `p` are served, oldest first. -/
def Mtx.serveAll (s : State) (p : MtxTx → Bool) : State :=
  s.each (s.mtx.unanswered.filter fun x => x.stage == .flying && p x) Mtx.serve

/-- A granted transaction goes its way; a target serves those of a master in the order of their grants (R223). A transaction with a bad beat
is discarded whole (DESIGN CHOICE, log 60). -/
def Mtx.go (s : State) (r : MtxReq) (fate : MtxFate) : State :=
  let a := (r.cells.headD (0, 0)).1
  let key := Mtx.key r.master (Mtx.pointOf r)
  let n := Sparse.get s.mtx.seq key 0
  let s0 := Mtx.dequeue s r
  let s1 : State := { s0 with mtx := { s0.mtx with seq := Sparse.put s0.mtx.seq key 0 ((n + 1) % 256)
                                                   last := Sparse.put s0.mtx.last (Mtx.pointOf r) 0 (r.master + 1) } }
  let s2 := s1.setFld (Reg.MTX_PARK_LAST (Mtx.target a)) r.master
  let x : MtxTx := ⟨r, Mtx.pointOf r, n, .flying, []⟩
  let keep (t : State) (y : MtxTx) : State := { t with mtx := { t.mtx with unanswered := t.mtx.unanswered ++ [y] } }
  let before (t : State) : State := Mtx.serveAll t fun y => y.req.master == r.master && y.point == Mtx.pointOf r
  let unheard (t : State) : State :=
    let p := Mtx.apply (before t) x
    keep p.1 { x with stage := .applied, words := p.2 }
  match fate with
  | .served => Mtx.serve (before s2) x
  | .badBeat => Mtx.checkFail (keep s2 { x with stage := .dropped })
  | .badAnswer => Mtx.checkFail (unheard s2)
  | .lost => unheard s2
  | .inFlight => keep s2 x

/-- The master sends such a transaction: it is present; the host's requests come in (R41, R319); the command processor writes a shadow program
bank only while a bale is being armed (R141). -/
def Mtx.sends (s : State) (r : MtxReq) : Bool :=
  Mtx.master s.variant r.master && (r.master != 8 || s.served) &&
    !(r.write && Mtx.inProg (r.cells.headD (0, 0)).1 && r.master == 14 && s.bale.arming.isNone)

/-- MATRIX_TRANSACTION (R222 to R238): one that names a transaction on its way serves it; else the request is answered with DECODE, ABSENT or
NOPATH, granted, or kept waiting. -/
def execMatrixTransaction (r : MtxReq) (waited slot : Nat) (rivals : List MtxRival) (fate : MtxFate) (s : State) :
    Host.Outcome State Fault Refusal :=
  .next (
    if r.cells.isEmpty || !Mtx.sends s r then s
    else if fate = .served ∧ (s.mtx.unanswered.any fun x => x.stage == .flying && x.req == r) = true then
      (match s.mtx.unanswered.find? fun x => x.stage == .flying && x.req == r with
        | none => s
        | some x => Mtx.serveAll s fun y => y.req.master == r.master && y.point == Mtx.pointOf r && decide ((x.seq + 256 - y.seq) % 256 < 128))
    else if Mtx.full s r && !(s.mtx.queue.any fun q => q.req == r) then s
    else if Mtx.holds s r then Mtx.enqueue s r waited
    else
      let a := (r.cells.headD (0, 0)).1
      let code := Mtx.refusal s r.master r.write a
      if code ≠ .ok then Mtx.respond (Mtx.record (Mtx.dequeue s r) code r.master r.write a) r.master r.write code (Mtx.zeros r.write r.cells)
      else if Mtx.granted s r a waited slot (Mtx.rivals s r rivals) then Mtx.go s r fate
      else Mtx.enqueue s r waited)

/-- A transaction is reissued (R238): one whose effect its target has applied is answered without effect, with the bytes that it returned. One
over an F path is answered NOPATH by the fall-back matrix even where the fast matrix has applied it (DESIGN CHOICE, log 60). -/
def Mtx.again (s : State) (x : MtxTx) : State :=
  let r := x.req
  let a := (r.cells.headD (0, 0)).1
  let s1 := s.incCnt Reg.MTX_REPLAY_REPLAYED
  let code := Mtx.refusal s1 r.master r.write a
  if code ≠ .ok then Mtx.respond (Mtx.record s1 code r.master r.write a) r.master r.write code (Mtx.zeros r.write r.cells)
  else if Mtx.done s1 (Mtx.key r.master x.point) x.seq then
    Mtx.respond (s1.incCnt Reg.MTX_REPLAY_DUP) r.master r.write .ok x.words
  else Mtx.serve s1 x

/-- The transactions of the stalls that may be unanswered (R222, R238): the rows of their hayloft loads and stores in flight. -/
def Mtx.stallRows (s : State) : Nat :=
  ((List.range 48).map fun i =>
    let x := s.stall i
    ((x.loads.filter (·.hay)).map fun r => r.rows.length).sum + ((x.stores.filter (·.hay)).map fun r => r.rows.length).sum).sum

/-- The stalls' transactions are reissued (R238): each row in flight, and of the beats of BUSADD as many as are not answered yet; how many
those are, and how many of all a target has applied before, is FREE. -/
def Mtx.againStalls (s : State) : State :=
  let rows := Mtx.stallRows s
  if rows = 0 ∧ s.mem.adds = 0 then s
  else
    let beats := s.freeNat % (s.mem.adds + 1)
    let s1 := s.drew
    let dup := s1.freeNat % (rows + beats + 1)
    ((s1.drew).addCnt Reg.MTX_REPLAY_REPLAYED (rows + beats)).addCnt Reg.MTX_REPLAY_DUP dup

/-- REISSUE_COMPLETE (R238): the unanswered transactions are reissued in order, and held requests go on. -/
def execReissueComplete (s : State) : Host.Outcome State Fault Refusal :=
  .next (if !s.mtx.replay then s
    else Mtx.againStalls (s.mtx.unanswered.foldl Mtx.again { s with mtx := { s.mtx with unanswered := [], replay := false } }))

/-- FAST_MATRIX_RESET (R237, R241): while the RESET reaction of F050 is asserted, the fall-back matrix enters service, the
fast matrix is FAILED, and a pending planned switch is overridden. -/
def execFastMatrixReset (s : State) : Host.Outcome State Fault Refusal :=
  .next (if s.fc.pulses.contains 50 then
      let open_ := !s.mtx.unanswered.isEmpty || decide (0 < Mtx.stallRows s) || decide (0 < s.mem.adds)
      let s1 : State := if Mtx.fallback s then s else { s with mtx := { s.mtx with replay := open_ } }
      (Mtx.switchTo (Mtx.unplan s1) true true).setFld Reg.MTX_STAT_FAST_STATE 1
    else s)

/-- PLANNED_SWITCH (R240): at bus close + 1.0 µs of a frame a pending switch takes place, once the transactions in service have completed; one
requested after this phase D had begun waits for the next frame, and one to a fast matrix that a retest has taken from READY (R242, Table
07-7) stays pending. -/
def execPlannedSwitch (s : State) : Host.Outcome State Fault Refusal :=
  .next (match s.mtx.req with
    | none => s
    | some fb =>
      if s.phase ≠ .d ∨ s.mtx.reqLate = true ∨ (fb = false ∧ s.fld Reg.MTX_STAT_FAST_STATE ≠ 0) then s
      else Mtx.switchTo (Mtx.unplan (Mtx.serveAll s fun _ => true)) fb false)

/-- A posted write of the host to MEMWIN at offsets that are matrix addresses, past the matrix (Table 07-5, R317). -/
def Hst.write (s : State) (cells : List (Nat × Byte)) : State :=
  match cells with
  | [] => s
  | c :: _ =>
    let code := Mtx.refusal s 8 true c.1
    if code ≠ .ok then Mtx.record s code 8 true c.1
    else if Mtx.target c.1 = 15 then Hst.writeTack s cells
    else Hst.writeMem s cells

/-- MEMWIN_WRITE (R196): a write to the hayloft, a barn store or a local memory. -/
def execMemwinWrite (cells : List (Nat × Byte)) (s : State) : Host.Outcome State Fault Refusal :=
  .next (s.bar fun t => Hst.write t cells)

/-- TACK_ROOM_WRITE (R285). -/
def execTackRoomWrite (cells : List (Nat × Byte)) (s : State) : Host.Outcome State Fault Refusal :=
  .next (s.bar fun t => Hst.write t cells)

end Sys2Proof.Machine
end

