-- ==== Sys2Proof/Machine/StallCtl.lean ====
section
/-! DEFINITION. The control slot of a stall (spec 05_ibcor_instructions.md: R148 to R157; 04_ibcor_encoding.md: R130 to
R138, R143 to R145): the empty bundle, the stopping exceptions, WAITF, SYNC, branches, loops and the scalar ALU. -/

namespace Sys2Proof.Machine

/-- NOP_BUNDLE (R107): issues in one cycle and changes nothing but the bundle address. -/
def execNopBundle (c : OpCtx) (s : State) : Host.Outcome State Fault Refusal :=
  .next (Stl.op { c with last := true } false false id s)

/-- ILLEGAL (R145): a bundle with a reserved encoding is fetched (R143) and reaches issue. -/
def execIllegal (c : OpCtx) (s : State) : Host.Outcome State Fault Refusal :=
  .next (if Stl.canIssue s c.stall then
      let t := Stl.fetch c s
      if (t.stall c.stall).status == .running then Stl.except t c.stall c.cyc 1 else t
    else s)

/-- PMEM_UNCORR (R143): the fetch meets an uncorrectable error in the bundle, which the bank then holds. -/
def execPmemUncorr (c : OpCtx) (s : State) : Host.Outcome State Fault Refusal :=
  let x := s.stall c.stall
  .next (if Stl.canIssue s c.stall then
      Stl.except (s.setStall c.stall
        { x with progErr := Sparse.put x.progErr (4096 * Stl.bank s c.stall + x.pc) 0 2 }) c.stall c.cyc 2
    else s)

/-- FETCH_END (R144): issue in sequence past bundle address 4095. -/
def execFetchEnd (c : OpCtx) (s : State) : Host.Outcome State Fault Refusal :=
  let x := s.stall c.stall
  .next (if decide (c.stall < s.variant.stalls) && x.status == .running && decide (4096 ≤ x.pc) then
      Stl.except s c.stall c.cyc 3
    else s)

/-- The control slot's effect is `a` when the bundle completes. -/
def Stl.setCtl (c : OpCtx) (a : CtlAct) (s : State) : State :=
  s.setStall c.stall { s.stall c.stall with ctl := some a }

/-- WAITF (R150): the stall ends its work for the frame when the bundle has issued. -/
def execWaitf (c : OpCtx) (s : State) : Host.Outcome State Fault Refusal :=
  .next (Stl.op c true false (Stl.setCtl c .waitf) s)

/-- SYNC (R151, R153): under a true bundle predicate the stall makes its next arrival and is held. -/
def execSync (c : OpCtx) (s : State) : Host.Outcome State Fault Refusal :=
  .next (Stl.op c true false (fun t =>
    let x := t.stall c.stall
    t.setStall c.stall { x with status := .atSync, syncCnt := x.syncCnt + 1 }) s)

/-- The conditions of R151 under which the arrival of stall `i` is released. -/
def Stl.syncReady (s : State) (i : Nat) : Bool :=
  let n := (s.stall i).syncCnt
  let peers := (List.range 8).map (8 * (i / 8) + ·)
  let ended (x : Stall) : Bool := x.status == .waitf || x.status == .exception
  (peers.all fun p => p == i || decide (s.variant.stalls ≤ p) ||
    (let x := s.stall p; decide (n ≤ x.syncCnt) || ended x || !x.code)) &&
  (peers.all fun p =>
    let x := s.stall p
    if n ≤ x.syncCnt then x.stores.all fun r => decide (n ≤ r.stamp) else x.stores.isEmpty)

/-- SYNC_RELEASE (R151): the held SYNC bundle issues with all its slots, once the conditions of R151 hold. -/
def execSyncRelease (c : OpCtx) (s : State) : Host.Outcome State Fault Refusal :=
  let x := s.stall c.stall
  .next (if x.status == .atSync && Stl.syncReady s c.stall then
      let t := s.setStall c.stall { x with status := .running, syncRel := x.syncCnt, cyc := c.cyc, snap := some x.rf }
      if c.last then Stl.complete t c.stall else t
    else s)

/-- RET (R133): goes to the popped address; an empty return stack raises RSTACK_UNF. -/
def execRet (c : OpCtx) (s : State) : Host.Outcome State Fault Refusal :=
  .next (Stl.op c true false (fun t =>
    if (t.stall c.stall).rstack.isEmpty then Stl.except t c.stall c.cyc 5 else Stl.setCtl c .ret t) s)

/-- BR (R132, R137). -/
def execBr (c : OpCtx) (target : Nat) (s : State) : Host.Outcome State Fault Refusal :=
  .next (Stl.op c true false (Stl.setCtl c (.branch target)) s)

/-- BRC: taken when the bundle predicate and `cond` of K[CK] hold (R149). -/
def Stl.brc (c : OpCtx) (ck target : Nat) (cond : Word → Bool) (s : State) : State :=
  Stl.op c true false (fun t => if cond ((t.src c.stall).kR ck) then Stl.setCtl c (.branch target) t else t) s

/-- BRC.ANY (R149). -/
def execBrcAny (c : OpCtx) (ck target : Nat) (s : State) : Host.Outcome State Fault Refusal :=
  .next (Stl.brc c ck target (fun k => decide (k ≠ 0)) s)

/-- BRC.NONE (R149). -/
def execBrcNone (c : OpCtx) (ck target : Nat) (s : State) : Host.Outcome State Fault Refusal :=
  .next (Stl.brc c ck target (fun k => decide (k = 0)) s)

/-- BRC.ALL (R149). -/
def execBrcAll (c : OpCtx) (ck target : Nat) (s : State) : Host.Outcome State Fault Refusal :=
  .next (Stl.brc c ck target (fun k => decide (k = BitVec.allOnes 32)) s)

/-- BRC.NALL (R149). -/
def execBrcNall (c : OpCtx) (ck target : Nat) (s : State) : Host.Outcome State Fault Refusal :=
  .next (Stl.brc c ck target (fun k => decide (k ≠ BitVec.allOnes 32)) s)

/-- CALL (R133): pushes the next bundle's address; a full return stack raises RSTACK_OVF. -/
def execCall (c : OpCtx) (target : Nat) (s : State) : Host.Outcome State Fault Refusal :=
  .next (Stl.op c true false (fun t =>
    if 8 ≤ (t.stall c.stall).rstack.length then Stl.except t c.stall c.cyc 4 else Stl.setCtl c (.call target) t) s)

/-- Starting a loop of `n` passes to END (R135): a count of 0 goes past END, a full loop stack raises LOOP_OVF. -/
def Stl.loop (c : OpCtx) (n last : Nat) (t : State) : State :=
  if n = 0 then Stl.setCtl c (.loopSkip last) t
  else if 3 ≤ (t.stall c.stall).loops.length then Stl.except t c.stall c.cyc 6
  else Stl.setCtl c (.loopPush last n) t

/-- LOOP (R134, R135): the count is G[GS] as an unsigned integer. -/
def execLoop (c : OpCtx) (gs last : Nat) (s : State) : Host.Outcome State Fault Refusal :=
  .next (Stl.op c true false (fun t => Stl.loop c ((t.src c.stall).gR gs).toNat last t) s)

/-- LOOPI (R134, R135): the count is 1–64. -/
def execLoopi (c : OpCtx) (count last : Nat) (s : State) : Host.Outcome State Fault Refusal :=
  .next (Stl.op c true false (Stl.loop c count last) s)

/-- A scalar ALU operation on two G registers (R154). -/
def Stl.alu (c : OpCtx) (gd ga gb : Nat) (f : Word → Word → Word) (s : State) : State :=
  Stl.op c true false (fun t => let r := t.src c.stall; t.onRf c.stall fun w => w.gW gd (f (r.gR ga) (r.gR gb))) s

/-- A scalar ALU operation on a G register and an 8-bit sign-extended immediate (R154). -/
def Stl.alui (c : OpCtx) (gd ga imm : Nat) (f : Word → Word → Word) (s : State) : State :=
  Stl.op c true false (fun t => let r := t.src c.stall; t.onRf c.stall fun w => w.gW gd (f (r.gR ga) (Arith.sext 8 imm))) s

/-- ADD (R154, Table 05-6). -/
def execAdd (c : OpCtx) (gd ga gb : Nat) (s : State) : Host.Outcome State Fault Refusal :=
  .next (Stl.alu c gd ga gb (fun a b => a + b) s)

/-- SUB (R154, Table 05-6). -/
def execSub (c : OpCtx) (gd ga gb : Nat) (s : State) : Host.Outcome State Fault Refusal :=
  .next (Stl.alu c gd ga gb (fun a b => a - b) s)

/-- MUL (R154, Table 05-6). -/
def execMul (c : OpCtx) (gd ga gb : Nat) (s : State) : Host.Outcome State Fault Refusal :=
  .next (Stl.alu c gd ga gb (fun a b => a * b) s)

/-- MULH (R154, Table 05-6). -/
def execMulh (c : OpCtx) (gd ga gb : Nat) (s : State) : Host.Outcome State Fault Refusal :=
  .next (Stl.alu c gd ga gb (fun a b => Arith.mulh a b) s)

/-- MIN (R154, Table 05-6). -/
def execMin (c : OpCtx) (gd ga gb : Nat) (s : State) : Host.Outcome State Fault Refusal :=
  .next (Stl.alu c gd ga gb (fun a b => if a.toInt ≤ b.toInt then a else b) s)

/-- MAX (R154, Table 05-6). -/
def execMax (c : OpCtx) (gd ga gb : Nat) (s : State) : Host.Outcome State Fault Refusal :=
  .next (Stl.alu c gd ga gb (fun a b => if a.toInt ≤ b.toInt then b else a) s)

/-- MINU (R154, Table 05-6). -/
def execMinu (c : OpCtx) (gd ga gb : Nat) (s : State) : Host.Outcome State Fault Refusal :=
  .next (Stl.alu c gd ga gb (fun a b => if a.toNat ≤ b.toNat then a else b) s)

/-- MAXU (R154, Table 05-6). -/
def execMaxu (c : OpCtx) (gd ga gb : Nat) (s : State) : Host.Outcome State Fault Refusal :=
  .next (Stl.alu c gd ga gb (fun a b => if a.toNat ≤ b.toNat then b else a) s)

/-- AND (R154, Table 05-6). -/
def execAnd (c : OpCtx) (gd ga gb : Nat) (s : State) : Host.Outcome State Fault Refusal :=
  .next (Stl.alu c gd ga gb (fun a b => a &&& b) s)

/-- OR (R154, Table 05-6). -/
def execOr (c : OpCtx) (gd ga gb : Nat) (s : State) : Host.Outcome State Fault Refusal :=
  .next (Stl.alu c gd ga gb (fun a b => a ||| b) s)

/-- XOR (R154, Table 05-6). -/
def execXor (c : OpCtx) (gd ga gb : Nat) (s : State) : Host.Outcome State Fault Refusal :=
  .next (Stl.alu c gd ga gb (fun a b => a ^^^ b) s)

/-- ANDN (R154, Table 05-6). -/
def execAndn (c : OpCtx) (gd ga gb : Nat) (s : State) : Host.Outcome State Fault Refusal :=
  .next (Stl.alu c gd ga gb (fun a b => a &&& ~~~b) s)

/-- SHL (R154, Table 05-6). -/
def execShl (c : OpCtx) (gd ga gb : Nat) (s : State) : Host.Outcome State Fault Refusal :=
  .next (Stl.alu c gd ga gb (fun a b => a <<< (b.toNat % 32)) s)

/-- SHR (R154, Table 05-6). -/
def execShr (c : OpCtx) (gd ga gb : Nat) (s : State) : Host.Outcome State Fault Refusal :=
  .next (Stl.alu c gd ga gb (fun a b => a >>> (b.toNat % 32)) s)

/-- SRA (R154, Table 05-6). -/
def execSra (c : OpCtx) (gd ga gb : Nat) (s : State) : Host.Outcome State Fault Refusal :=
  .next (Stl.alu c gd ga gb (fun a b => a.sshiftRight (b.toNat % 32)) s)

/-- SEQ (R154, Table 05-6). -/
def execSeq (c : OpCtx) (gd ga gb : Nat) (s : State) : Host.Outcome State Fault Refusal :=
  .next (Stl.alu c gd ga gb (fun a b => Arith.bit (a == b)) s)

/-- SNE (R154, Table 05-6). -/
def execSne (c : OpCtx) (gd ga gb : Nat) (s : State) : Host.Outcome State Fault Refusal :=
  .next (Stl.alu c gd ga gb (fun a b => Arith.bit (a != b)) s)

/-- SLT (R154, Table 05-6). -/
def execSlt (c : OpCtx) (gd ga gb : Nat) (s : State) : Host.Outcome State Fault Refusal :=
  .next (Stl.alu c gd ga gb (fun a b => Arith.bit (decide (a.toInt < b.toInt))) s)

/-- SLTU (R154, Table 05-6). -/
def execSltu (c : OpCtx) (gd ga gb : Nat) (s : State) : Host.Outcome State Fault Refusal :=
  .next (Stl.alu c gd ga gb (fun a b => Arith.bit (decide (a.toNat < b.toNat))) s)

/-- SLE (R154, Table 05-6). -/
def execSle (c : OpCtx) (gd ga gb : Nat) (s : State) : Host.Outcome State Fault Refusal :=
  .next (Stl.alu c gd ga gb (fun a b => Arith.bit (decide (a.toInt ≤ b.toInt))) s)

/-- SLEU (R154, Table 05-6). -/
def execSleu (c : OpCtx) (gd ga gb : Nat) (s : State) : Host.Outcome State Fault Refusal :=
  .next (Stl.alu c gd ga gb (fun a b => Arith.bit (decide (a.toNat ≤ b.toNat))) s)

/-- ADDI (R154, Table 05-6). -/
def execAddi (c : OpCtx) (gd ga imm : Nat) (s : State) : Host.Outcome State Fault Refusal :=
  .next (Stl.alui c gd ga imm (fun a b => a + b) s)

/-- ANDI (R154, Table 05-6). -/
def execAndi (c : OpCtx) (gd ga imm : Nat) (s : State) : Host.Outcome State Fault Refusal :=
  .next (Stl.alui c gd ga imm (fun a b => a &&& b) s)

/-- ORI (R154, Table 05-6). -/
def execOri (c : OpCtx) (gd ga imm : Nat) (s : State) : Host.Outcome State Fault Refusal :=
  .next (Stl.alui c gd ga imm (fun a b => a ||| b) s)

/-- XORI (R154, Table 05-6). -/
def execXori (c : OpCtx) (gd ga imm : Nat) (s : State) : Host.Outcome State Fault Refusal :=
  .next (Stl.alui c gd ga imm (fun a b => a ^^^ b) s)

/-- SHLI (R154, R155, Table 05-6). -/
def execShli (c : OpCtx) (gd ga imm : Nat) (s : State) : Host.Outcome State Fault Refusal :=
  .next (Stl.alui c gd ga imm (fun a b => a <<< (b.toNat % 32)) s)

/-- SHRI (R154, R155, Table 05-6). -/
def execShri (c : OpCtx) (gd ga imm : Nat) (s : State) : Host.Outcome State Fault Refusal :=
  .next (Stl.alui c gd ga imm (fun a b => a >>> (b.toNat % 32)) s)

/-- SRAI (R154, R155, Table 05-6). -/
def execSrai (c : OpCtx) (gd ga imm : Nat) (s : State) : Host.Outcome State Fault Refusal :=
  .next (Stl.alui c gd ga imm (fun a b => a.sshiftRight (b.toNat % 32)) s)

/-- SLTI (R154, Table 05-6). -/
def execSlti (c : OpCtx) (gd ga imm : Nat) (s : State) : Host.Outcome State Fault Refusal :=
  .next (Stl.alui c gd ga imm (fun a b => Arith.bit (decide (a.toInt < b.toInt))) s)

/-- MOVI (R156): a sign-extended 13-bit immediate. -/
def execMovi (c : OpCtx) (gd imm : Nat) (s : State) : Host.Outcome State Fault Refusal :=
  .next (Stl.op c true false (fun t => t.onRf c.stall fun w => w.gW gd (Arith.sext 13 imm)) s)

/-- MOVSH (R156): the register shifted left by 13 bits with the immediate below. -/
def execMovsh (c : OpCtx) (gd imm : Nat) (s : State) : Host.Outcome State Fault Refusal :=
  .next (Stl.op c true false (fun t =>
    let g := (t.src c.stall).gR gd
    t.onRf c.stall fun w => w.gW gd (BitVec.ofNat 32 (g.toNat * 2 ^ 13 + imm))) s)

/-- MOVA (R157): DIR = 0 writes G[g] to the register AREG names; DIR = 1 (`toG`) writes that register to G[g]. -/
def execMova (c : OpCtx) (areg g : Nat) (toG : Bool) (s : State) : Host.Outcome State Fault Refusal :=
  .next (Stl.op c true false (fun t =>
    let r := t.src c.stall
    t.onRf c.stall fun w => if toG then w.gW g (r.aR areg) else w.aW areg (r.gR g)) s)

end Sys2Proof.Machine
end

