-- ==== Sys2Proof/Machine/StallVec.lean ====
section
/-! DEFINITION. The vector slot of a stall (spec 03_stall_datapath.md: R80 to R95; 05_ibcor_instructions.md: R161 to R171):
multiply and accumulate, read-out, element operations, predicates, dynamics and the butterfly. The bundle predicate does
not govern this slot (R108); every operation acts on the elements its KP register enables (R77). -/

namespace Sys2Proof.Machine

/-- The enabled elements of KP. -/
def RegFile.elems (r : RegFile) (kp : Nat) : List Nat := (List.range 32).filter (r.enabled kp)

/-- An addition into accumulator element `e` of Xn by acc with w = 72, setting XLOST where LOST is set (R84, R92). -/
def Stl.accumulate (i n e : Nat) (clear : Bool) (d : Int) (s : State) : State :=
  let x : Acc := if clear then {} else (s.stall i).rf.xR n e
  let y := x.add d 72
  let t := s.onRf i fun w => w.xW n e y
  if !x.lost && y.lost then Stl.xlost t i else t

/-- VMUL, VMAC and VMAC.N (R81): the product of each enabled element, negated with `neg`, into a cleared (`clear`) or
standing accumulator element; element 4l + e uses multiplier me and the adder of the element, whose checkers compare (R97, R98). Only
these operations and those of VCMAC use a checked multiplier or adder: of ENV, GCURVE, VLOG2, VEXP2 and BFLY4 the spec does not say it
(DESIGN CHOICE, log 58). -/
def Stl.mac (c : OpCtx) (o : VxOp) (clear neg : Bool) (s : State) : State :=
  Stl.op c false (Stl.awaits s c.stall [o.va, o.vb]) (fun t =>
    let r := t.src c.stall
    let es := r.elems o.kp
    let prod (e : Nat) : Int :=
      let p := (r.vR o.va e).toInt * (r.bElem o.vb o.b e).toInt
      if neg then -p else p
    let t1 := t.each es fun u e => Stl.accumulate c.stall o.xd e clear (prod e) u
    Stl.check t1 c.stall o.xd (es.flatMap fun e =>
      let a := (r.vR o.va e).toInt
      let b := (r.bElem o.vb o.b e).toInt
      let x : Acc := if clear then {} else (t.stall c.stall).rf.xR o.xd e
      [⟨0, e / 4, e % 4, Arith.mulMismatch a b (a * b)⟩,
       ⟨1, e / 4, e % 4, Arith.addMismatch 72 x (prod e) ((t1.stall c.stall).rf.xR o.xd e)⟩])) s

/-- The complex product of R82: (dre, dim). -/
def Arith.cmul (conj neg : Bool) (a b : Int × Int) : Int × Int :=
  let p0 := a.1 * b.1
  let p1 := a.2 * b.2
  let p2 := a.1 * b.2
  let p3 := a.2 * b.1
  let d := if conj then (p0 + p1, p3 - p2) else (p0 - p1, p2 + p3)
  if neg then (-d.1, -d.2) else d

/-- VCMAC (R82) on half `h` of every lane whose element 2h is enabled; the lane's four multipliers and the adders of the
pair are used (R97, R98; log 58). -/
def Stl.cmac (c : OpCtx) (o : VxOp) (h : Nat) (conj neg : Bool) (s : State) : State :=
  Stl.op c false (Stl.awaits s c.stall [o.va, o.vb]) (fun t =>
    let r := t.src c.stall
    let ls := (List.range 8).filter fun l => r.enabled o.kp (4 * l + 2 * h)
    let pair (l : Nat) := ((r.vR o.va (4 * l + 2 * h)).toInt, (r.vR o.va (4 * l + 2 * h + 1)).toInt)
    let t1 := t.each ls fun u l =>
      let d := Arith.cmul conj neg (pair l) (r.bPair o.vb o.b l h)
      Stl.accumulate c.stall o.xd (4 * l + 2 * h + 1) false d.2 (Stl.accumulate c.stall o.xd (4 * l + 2 * h) false d.1 u)
    let adder (l k : Nat) (d : Int) : Checker :=
      ⟨1, l, 2 * h + k, Arith.addMismatch 72 ((t.stall c.stall).rf.xR o.xd (4 * l + 2 * h + k)) d
        ((t1.stall c.stall).rf.xR o.xd (4 * l + 2 * h + k))⟩
    Stl.check t1 c.stall o.xd (ls.flatMap fun l =>
      let a := pair l
      let b := r.bPair o.vb o.b l h
      let d := Arith.cmul conj neg a b
      let m (k : Nat) (x y : Int) : Checker := ⟨0, l, k, Arith.mulMismatch x y (x * y)⟩
      [m 0 a.1 b.1, m 1 a.2 b.2, m 2 a.1 b.2, m 3 a.2 b.1, adder l 0 d.1, adder l 1 d.2])) s

/-- VMUL (R81). -/
def execVmul (c : OpCtx) (o : VxOp) (s : State) : Host.Outcome State Fault Refusal := .next (Stl.mac c o true false s)

/-- VMAC (R81). -/
def execVmac (c : OpCtx) (o : VxOp) (s : State) : Host.Outcome State Fault Refusal := .next (Stl.mac c o false false s)

/-- VMAC.N (R81). -/
def execVmacN (c : OpCtx) (o : VxOp) (s : State) : Host.Outcome State Fault Refusal := .next (Stl.mac c o false true s)

/-- VCMAC (R82). -/
def execVcmac (c : OpCtx) (o : VxOp) (h : Nat) (s : State) : Host.Outcome State Fault Refusal :=
  .next (Stl.cmac c o h false false s)

/-- VCMAC.C (R82). -/
def execVcmacC (c : OpCtx) (o : VxOp) (h : Nat) (s : State) : Host.Outcome State Fault Refusal :=
  .next (Stl.cmac c o h true false s)

/-- VCMAC.N (R82). -/
def execVcmacN (c : OpCtx) (o : VxOp) (h : Nat) (s : State) : Host.Outcome State Fault Refusal :=
  .next (Stl.cmac c o h false true s)

/-- VCMAC.CN (R82). -/
def execVcmacCn (c : OpCtx) (o : VxOp) (h : Nat) (s : State) : Host.Outcome State Fault Refusal :=
  .next (Stl.cmac c o h true true s)

/-- CLRX (R81): value, WRAP, SAT and LOST of each enabled element become zero. -/
def execClrx (c : OpCtx) (xd kp : Nat) (s : State) : Host.Outcome State Fault Refusal :=
  .next (Stl.op c false false (fun t =>
    let r := t.src c.stall
    t.each (r.elems kp) fun u e => u.onRf c.stall fun w => w.xW xd e {}) s)

/-- RDX in its four forms (R90 to R92): width `n`, and `clear` for RDX.C. -/
def Stl.rdx (c : OpCtx) (o : VrOp) (n : Nat) (clear : Bool) (s : State) : State :=
  Stl.op c false (Stl.awaits s c.stall [o.vd]) (fun t =>
    let r := t.src c.stall
    t.each (r.elems o.kp) fun u e =>
      let x := (u.stall c.stall).rf.xR o.xs e
      let q := x.read o.sh n
      let u1 := u.onRf c.stall fun w => (w.vW o.vd e (Arith.word q.1)).xW o.xs e (if clear then {} else x.rdx o.sh n)
      if q.2 then Stl.xsat u1 c.stall else u1) s

/-- RDX (R90). -/
def execRdx (c : OpCtx) (o : VrOp) (s : State) : Host.Outcome State Fault Refusal := .next (Stl.rdx c o 32 false s)

/-- RDX.C (R91). -/
def execRdxC (c : OpCtx) (o : VrOp) (s : State) : Host.Outcome State Fault Refusal := .next (Stl.rdx c o 32 true s)

/-- RDX.S24 (R90). -/
def execRdxS24 (c : OpCtx) (o : VrOp) (s : State) : Host.Outcome State Fault Refusal := .next (Stl.rdx c o 24 false s)

/-- RDX.C.S24 (R91). -/
def execRdxCS24 (c : OpCtx) (o : VrOp) (s : State) : Host.Outcome State Fault Refusal := .next (Stl.rdx c o 24 true s)

/-- An element operation on the V registers `vs` whose exact result is saturated to 32 bits; with `flag`, a changed result sets VSAT
(R93, R94). -/
def Stl.elementwise (c : OpCtx) (vd : Nat) (vs : List Nat) (kp : Nat) (flag : Bool) (f : RegFile → Nat → Int) (s : State) : State :=
  Stl.op c false (Stl.awaits s c.stall (vd :: vs)) (fun t =>
    let r := t.src c.stall
    let es := r.elems kp
    let t1 := t.onRf c.stall fun w => es.foldl (fun w e => w.vW vd e (Arith.word (Arith.sat 32 (f r e)))) w
    if flag && es.any (fun e => decide (Arith.sat 32 (f r e) ≠ f r e)) then Stl.vsat t1 c.stall else t1) s

/-- VADD (R93). -/
def execVadd (c : OpCtx) (o : VeOp) (s : State) : Host.Outcome State Fault Refusal :=
  .next (Stl.elementwise c o.vd [o.va, o.vb] o.kp true (fun r e => (r.vR o.va e).toInt + (r.vR o.vb e).toInt) s)

/-- VSUB (R93). -/
def execVsub (c : OpCtx) (o : VeOp) (s : State) : Host.Outcome State Fault Refusal :=
  .next (Stl.elementwise c o.vd [o.va, o.vb] o.kp true (fun r e => (r.vR o.va e).toInt - (r.vR o.vb e).toInt) s)

/-- VABS (R93): uses only VA. -/
def execVabs (c : OpCtx) (vd va kp : Nat) (s : State) : Host.Outcome State Fault Refusal :=
  .next (Stl.elementwise c vd [va] kp true (fun r e => ((r.vR va e).toInt.natAbs : Int)) s)

/-- VMAX (R93). -/
def execVmax (c : OpCtx) (o : VeOp) (s : State) : Host.Outcome State Fault Refusal :=
  .next (Stl.elementwise c o.vd [o.va, o.vb] o.kp false (fun r e => max (r.vR o.va e).toInt (r.vR o.vb e).toInt) s)

/-- VMIN (R162). -/
def execVmin (c : OpCtx) (o : VeOp) (s : State) : Host.Outcome State Fault Refusal :=
  .next (Stl.elementwise c o.vd [o.va, o.vb] o.kp false (fun r e => min (r.vR o.va e).toInt (r.vR o.vb e).toInt) s)

/-- VSHL (R94, R162): the count is IMM6 where `imm` gives it, else element i of VB clamped to −31 to +31. -/
def execVshl (c : OpCtx) (o : VeOp) (imm : Option Int) (s : State) : Host.Outcome State Fault Refusal :=
  .next (Stl.elementwise c o.vd [o.va, o.vb] o.kp true (fun r e =>
    let k : Int := match imm with
      | some k => k
      | none => max (-31) (min 31 (r.vR o.vb e).toInt)
    let a := (r.vR o.va e).toInt
    if 0 ≤ k then a * 2 ^ k.toNat else Arith.conv a (-k).toNat) s)

/-- An operation that reads the V registers `vs` and writes bit i of K[KD] for each enabled element i (R163, R164). -/
def Stl.predWrite (c : OpCtx) (kd : Nat) (vs : List Nat) (kp : Nat) (f : RegFile → Nat → Bool) (s : State) : State :=
  Stl.op c false (Stl.awaits s c.stall vs) (fun t =>
    let r := t.src c.stall
    let w := (r.elems kp).foldl (fun (k : Word) e =>
      if f r e then k ||| BitVec.ofNat 32 (2 ^ e) else k &&& ~~~BitVec.ofNat 32 (2 ^ e)) (r.kR kd)
    t.onRf c.stall fun q => q.kW kd w) s

/-- VCMP.EQ (R163). -/
def execVcmpEq (c : OpCtx) (kd va vb kp : Nat) (s : State) : Host.Outcome State Fault Refusal :=
  .next (Stl.predWrite c kd [va, vb] kp (fun r e => r.vR va e == r.vR vb e) s)

/-- VCMP.NE (R163). -/
def execVcmpNe (c : OpCtx) (kd va vb kp : Nat) (s : State) : Host.Outcome State Fault Refusal :=
  .next (Stl.predWrite c kd [va, vb] kp (fun r e => r.vR va e != r.vR vb e) s)

/-- VCMP.LT (R163). -/
def execVcmpLt (c : OpCtx) (kd va vb kp : Nat) (s : State) : Host.Outcome State Fault Refusal :=
  .next (Stl.predWrite c kd [va, vb] kp (fun r e => decide ((r.vR va e).toInt < (r.vR vb e).toInt)) s)

/-- VCMP.LE (R163). -/
def execVcmpLe (c : OpCtx) (kd va vb kp : Nat) (s : State) : Host.Outcome State Fault Refusal :=
  .next (Stl.predWrite c kd [va, vb] kp (fun r e => decide ((r.vR va e).toInt ≤ (r.vR vb e).toInt)) s)

/-- XFLG.SAT (R164). -/
def execXflgSat (c : OpCtx) (kd xs kp : Nat) (s : State) : Host.Outcome State Fault Refusal :=
  .next (Stl.predWrite c kd [] kp (fun r e => (r.xR xs e).sat) s)

/-- XFLG.LOST (R164). -/
def execXflgLost (c : OpCtx) (kd xs kp : Nat) (s : State) : Host.Outcome State Fault Refusal :=
  .next (Stl.predWrite c kd [] kp (fun r e => (r.xR xs e).lost) s)

/-- XFLG.WRAP (R164). -/
def execXflgWrap (c : OpCtx) (kd xs kp : Nat) (s : State) : Host.Outcome State Fault Refusal :=
  .next (Stl.predWrite c kd [] kp (fun r e => decide ((r.xR xs e).wrap ≠ 0)) s)

/-- XFLG.OUT (R164). -/
def execXflgOut (c : OpCtx) (kd xs kp : Nat) (s : State) : Host.Outcome State Fault Refusal :=
  .next (Stl.predWrite c kd [] kp (fun r e => (r.xR xs e).lost || decide ((r.xR xs e).wrap ≠ 0)) s)

/-- ENV (R168): the envelope passes through the enabled elements of each lane in order. -/
def execEnv (c : OpCtx) (o : VeOp) (m : EnvMode) (s : State) : Host.Outcome State Fault Refusal :=
  .next (Stl.op c false (Stl.awaits s c.stall [o.vd, o.va, o.vb]) (fun t =>
    let r := t.src c.stall
    t.onRf c.stall fun w => (List.range 8).foldl (fun w l =>
      let ca := (r.vR o.vb (4 * l)).toNat % 2 ^ 16
      let cr := (r.vR o.vb (4 * l + 1)).toNat % 2 ^ 16
      ((List.range 4).foldl (fun (p : RegFile × Int) k =>
        let i := 4 * l + k
        if r.enabled o.kp i then
          let e := Arith.envStep m ca cr p.2 (r.vR o.va i).toInt
          (p.1.vW o.vd i (Arith.word e), e)
        else p) (w, (r.vR o.vd (4 * l + m.seed)).toInt)).1) w) s)

/-- GCURVE (R169): LAW 0 compresses, LAW 1 (`expand`) expands; the lane of VB holds the parameters. -/
def execGcurve (c : OpCtx) (o : VeOp) (expand : Bool) (s : State) : Host.Outcome State Fault Refusal :=
  .next (Stl.elementwise c o.vd [o.va, o.vb] o.kp false (fun r i =>
    let p (j : Nat) := (r.vR o.vb (4 * (i / 4) + j)).toInt
    Arith.gcurve expand (r.vR o.va i).toInt (p 0) (p 1) (p 2) (p 3)) s)

/-- VLOG2 (R166). -/
def execVlog2 (c : OpCtx) (vd va kp : Nat) (s : State) : Host.Outcome State Fault Refusal :=
  .next (Stl.elementwise c vd [va] kp false (fun r e => (Arith.vlog2 (r.vR va e)).toInt) s)

/-- VEXP2 (R167). -/
def execVexp2 (c : OpCtx) (vd va kp : Nat) (s : State) : Host.Outcome State Fault Refusal :=
  .next (Stl.elementwise c vd [va] kp false (fun r e => (Arith.vexp2 (r.vR va e)).toInt) s)

/-- BFLY4 (R171): pair 0 of a lane is written where element 4l is enabled, pair 1 where element 4l + 2 is. -/
def execBfly4 (c : OpCtx) (o : VeOp) (sc : Nat) (inv out : Bool) (s : State) : Host.Outcome State Fault Refusal :=
  .next (Stl.op c false (Stl.awaits s c.stall [o.vd, o.va, o.vb]) (fun t =>
    let r := t.src c.stall
    let pair (v l h : Nat) := ((r.vR v (4 * l + 2 * h)).toInt, (r.vR v (4 * l + 2 * h + 1)).toInt)
    let fin (y : Int) : Word := Arith.word (Arith.sat 32 (Arith.conv y sc))
    t.onRf c.stall fun w => (List.range 8).foldl (fun w l =>
      let y := Arith.bfly inv out (pair o.va l 0) (pair o.va l 1) (pair o.vb l 0) (pair o.vb l 1)
      let w1 := if r.enabled o.kp (4 * l) then (w.vW o.vd (4 * l) (fin y.1.1)).vW o.vd (4 * l + 1) (fin y.1.2) else w
      if r.enabled o.kp (4 * l + 2) then (w1.vW o.vd (4 * l + 2) (fin y.2.1)).vW o.vd (4 * l + 3) (fin y.2.2) else w1) w) s)

end Sys2Proof.Machine
end

