-- ==== Sys2Proof/Machine/TwinMsg.lean ====
section
/-! DEFINITION. Received tether blocks (spec 17_twin_tether.md: R501 to R519; 01_frame_path.md R38; 09_bales_digest.md R303): one row is
one tether block with its header. -/

namespace Sys2Proof.Machine

/-- One more received block; a NOP answers every sixteenth (R502). -/
def Twn.counted (s : State) : State :=
  if s.twn.rxCount + 1 < 16 then { s with twn := { s.twn with rxCount := s.twn.rxCount + 1 } }
  else Tth.send { s with twn := { s.twn with rxCount := 0 } } s.frameNo .nop

/-- A block that fails or is missing (R502): counted, reported in NAK_SEQ, F071 pulses. -/
def Twn.badBlock (s : State) (q : Nat) : State :=
  (({ s with twn := { s.twn with naks := (q :: s.twn.naks).take 64 } } : State).incCnt Reg.TWN_CNT0_CRC_ERR).faultEvent 71

/-- A block arrives whole: every lane carried its part, and the CRC is correct. -/
def Twn.intact (h : TthHdr) : Bool := h.crcOk && h.lost.isEmpty

/-- A block whose TYPE Table 17-6 does not assign is counted, and is otherwise ignored (R501). -/
def Twn.unassigned (s : State) : State := s.incCnt Reg.TWN_CNT0_CRC_ERR

/-- A received block (R502, R503): a block damaged on the way is reported, and the fourth in a row takes the link down; an accepted block
advances the sequence, acknowledges ours and is acted on. -/
def Twn.receive (h : TthHdr) (body : State → State) (s0 : State) : State :=
  let t := Twn.train s0
  let s := if t.fld Reg.TWN_ST_LINK = 0 then t else t.each h.lost fun u l => Clk.overrun u (11 + l)
  if s.fld Reg.TWN_ST_LINK = 0 then s
  else if !Twn.intact h then
    let s1 := Twn.badBlock s s.twn.rxNext
    let s2 : State := { s1 with twn := { s1.twn with crcRun := s1.twn.crcRun + 1 } }
    if 4 ≤ s2.twn.crcRun then Twn.down s2 else s2
  else
    let gap := if Tth.before h.seq s.twn.rxNext then 0 else (h.seq + 2 ^ 32 - s.twn.rxNext) % 2 ^ 32
    let s1 := s.each (List.range (min gap 64)) fun t i => Twn.badBlock t ((s.twn.rxNext + i) % 2 ^ 32)
    let s2 : State := { s1 with twn := { s1.twn with
      crcRun := 0
      naks := s1.twn.naks.filter fun q => q ≠ h.seq
      rxNext := if Tth.before s.twn.rxNext h.seq then (h.seq + 1) % 2 ^ 32 else s.twn.rxNext } }
    let s3 := Tth.acked s2 h.ack
    let s4 := match h.nak with
      | some q => Tth.naked s3 q
      | none => s3
    Twn.rise ((if h.known then body else Twn.unassigned) (Twn.counted s4)) h.ack

/-- NOP_MESSAGE (R502): acknowledgements only. -/
def execNopMessage (h : TthHdr) (s : State) : Host.Outcome State Fault Refusal := .next (Twn.receive h id s)

/-- The active goes on with a resync whose ROOT values are equal now (R518), or repeats the preparation. -/
def Twn.prepared (s : State) : State := match s.twn.resync with
  | some x =>
    if !x.prep || s.role ≠ 1 then s
    else if Twn.sameRoot s && !s.flag Reg.TOP_RCD_FLAGS_STALE then
      Tth.send (Twn.setResync s { x with r := some (s.frameNo + 2), prep := false }) (s.frameNo + 2) (.role 1 1)
    else s
  | none => s

/-- A HELLO's contents (R501, Table 17-16). -/
def Twn.noteHello (m : Hello) (s : State) : State :=
  let s1 : State := { s with twn := { s.twn with peer := some m, helloIn := s.twn.helloIn || s.fld Reg.TWN_ST_LINK == 1 } }
  ((s1.setFld Reg.TWN_ST_PEER_ROLE m.role).setFlag Reg.TWN_ST_PEER_ELIG m.elig).setReg64 0x0D0028 m.cap

/-- What follows from the peer's HELLO (Tables 17-2, 17-7): a role from SOLO with equal capabilities, DETACHED where bale roots differ,
the end of a handover, the next step of a preparation. -/
def Twn.actOnHello (m : Hello) (k : Nat) (s : State) : State :=
  let next := s.frameNo + 1
  let s1 :=
    if s.role = 0 ∧ s.flag Reg.TWN_CTL_EN = true ∧ Tth.up s = true ∧ m.cap = s.variant.cap ∧ s.twn.roleAt.isNone = true then
      (if m.role = 1 then Twn.setRole s next 3
       else if s.flag Reg.TWN_ST_OWN || (!m.own && s.flag Reg.TWN_ST_SENIOR) then Twn.setRole s next 1 else s)
    else if Twn.follows s && !Twn.sameBale s && s.twn.roleAt.isNone then Twn.setRole s next 3
    else s
  let s2 := if m.role = 1 then s1.each (Cmd.waiting s1 .handover) fun t r => Cmd.finish t r 0 0 (Cmd.res64 k ++ [0, 0]) else s1
  Twn.levels (Twn.prepared s2)

/-- HELLO (R501). -/
def execHello (h : TthHdr) (m : Hello) (s : State) : Host.Outcome State Fault Refusal :=
  let t := Twn.receive h (Twn.noteHello m) s
  .next (if Twn.intact h && h.known && t.fld Reg.TWN_ST_LINK ≠ 0 then Twn.actOnHello m h.frame t else t)

/-- The words that an INPUT message of the frame must bring. -/
def Twn.inputSize (s : State) (used : Bool) : Nat := if used then 16 * (Twn.usedSet s).length else 1536 * s.frameN

/-- The place of word `i` of an INPUT message: channel and sample. -/
def Twn.inputPlace (set : List Nat) (used : Bool) (i : Nat) : Nat × Nat :=
  if used then (set.getD (i / 16) 0, i % 16) else (i % 1536, i / 1536)

/-- INPUT words of the frame fill the forward image; once all have come Gate A of a follower fills the slots (R505, R244). -/
def Twn.input (f : Nat) (used : Bool) (words : List (Nat × Int)) (s : State) : State :=
  if f ≠ s.frameNo ∨ !s.running ∨ s.role = 1 ∨ s.twn.fwdDone then s
  else
    let set := if used then Twn.usedSet s else []
    let n := Twn.inputSize s used
    let ws := words.filter fun w => w.1 < n
    let s1 := s.each ws fun t w =>
      let p := Twn.inputPlace set used w.1
      Mem.putWord t (Graph.image t true p.1 p.2) w.2
    let got := (s.twn.fwdGot ++ ws.map fun w => w.1).eraseDups
    let s2 : State := { s1 with twn := { s1.twn with fwdGot := got, fwdDone := decide (n ≤ got.length) } }
    if s2.twn.fwdDone && Twn.follows s2 && s2.phase == .s then Graph.gateA s2 else s2

/-- INPUT_MESSAGE (R505). -/
def execInputMessage (h : TthHdr) (used : Bool) (words : List (Nat × Int)) (s : State) : Host.Outcome State Fault Refusal :=
  .next (Twn.receive h (Twn.input h.frame used words) s)

/-- INPUT_FORWARD_TIMEOUT (R38): a follower whose input set is not complete becomes DETACHED at once, and Gate A rewrites every slot from
its own image. -/
def execInputForwardTimeout (s : State) : Host.Outcome State Fault Refusal :=
  .next (if !s.running || s.phase != .s || !Twn.follows s || s.twn.fwdDone then s
    else Graph.gateA (Twn.applyRole (Twn.endResync s 1) s.frameNo 3))

/-- MIRROR_MESSAGE (R506): bytes of the active's copies; the last block carries its MIR, UNCLEAN and UF. -/
def Twn.mirror (f : Nat) (last : Bool) (bytes : List Byte) (mir : Nat) (unclean uf : Bool) (s : State) : State :=
  if s.role = 1 then s
  else
    let old := if s.twn.mirFrame = f then s.twn.mirBytes else []
    let lastOld := if s.twn.mirFrame = f then s.twn.mirLast else none
    { s with twn := { s.twn with
      mirFrame := f, mirBytes := old ++ bytes, mirLast := if last then some (mir, unclean, uf) else lastOld } }

/-- MIRROR_MESSAGE (R506). -/
def execMirrorMessage (h : TthHdr) (bytes : List Byte) (mir : Nat) (unclean uf : Bool) (s : State) :
    Host.Outcome State Fault Refusal := .next (Twn.receive h (Twn.mirror h.frame h.last bytes mir unclean uf) s)

/-- DIGEST_MESSAGE (R511). -/
def execDigestMessage (h : TthHdr) (d : TwnDigest) (s : State) : Host.Outcome State Fault Refusal :=
  .next (Twn.receive h (fun t => Twn.compare { t with twn := { t.twn with theirs := ((h.frame, d) :: t.twn.theirs).take 8 } } h.frame) s)

/-- A mirrored command joins the queue of its kind on the standby (R507). -/
def Twn.command (ticket : Nat) (words data : List Word) (s : State) : State :=
  if !Twn.follows s then s
  else
    let d : Desc := { ticket := ticket, words := words, peer := true, data := data }
    let c := s.cmd
    { s with cmd := if Cmd.isLong d.op then { c with long := c.long ++ [d] } else { c with short := c.short ++ [d] } }

/-- CMD_MESSAGE (R507). -/
def execCmdMessage (h : TthHdr) (ticket : Nat) (words data : List Word) (s : State) : Host.Outcome State Fault Refusal :=
  .next (Twn.receive h (Twn.command ticket words data) s)

/-- The standby's answer to a mirrored command (R507): kept until the command is done here. -/
def Twn.ackCommand (ticket status reason : Nat) (s : State) : State :=
  match s.cmd.run.find? fun r => r.sent && !r.d.peer && r.d.ticket == ticket with
  | some r =>
    let r1 := { r with answer := some (status, reason) }
    (match r.wait with
     | .ack st re res => Cmd.post s r1 st re res
     | _ => Cmd.keepRun s r1)
  | none =>
    if (s.cmd.short ++ s.cmd.long).any fun d => d.sent && d.ticket == ticket then
      { s with twn := { s.twn with answers := s.twn.answers ++ [(ticket, status, reason)] } }
    else s

/-- CMDACK (R507). -/
def execCmdack (h : TthHdr) (ticket status reason : Nat) (s : State) : Host.Outcome State Fault Refusal :=
  .next (Twn.receive h (Twn.ackCommand ticket status reason) s)

/-- A commit of this device alone that its bus close took for the same boundary keeps what the later one does not write (R248). -/
def Twn.joinTaken (old : Option Snapshot) (s : State) : State :=
  match old, s.cmd.taken with
  | some o, some n =>
    if o = n then s
    else
      let j : Snapshot := { n with
        regs := n.regs.foldl (fun m e => Sparse.insert m e.1 e.2) o.regs
        pages := (o.pages.filter fun p => !(n.pages.any fun q => q.1 == p.1)) ++ n.pages }
      { s with cmd := { s.cmd with taken := some j } }
  | _, _ => s

/-- TAKE for boundary `f` (R507): the standby takes the mirrored swap or commits up to `ticket`. -/
def Twn.take (f : Nat) (swap : Bool) (ticket : Nat) (s : State) : State :=
  if !Twn.follows s ∨ f ≠ s.frameNo + 1 ∨ s.saveWarned then s
  else if swap then
    match s.cmd.run.findSome? fun r => match r.wait with
      | .swap i none => if r.d.peer && decide (Bale.st s i = 4) then some i else none
      | _ => none with
    | some i => Swap.take s i
    | none => s
  else Twn.joinTaken s.cmd.taken (Commit.take s fun r => r.d.peer && decide (r.d.ticket ≤ ticket ∨ ticket + 32768 < r.d.ticket))

/-- TAKE (R507). -/
def execTake (h : TthHdr) (swap : Bool) (ticket : Nat) (s : State) : Host.Outcome State Fault Refusal :=
  .next (Twn.receive h (Twn.take h.frame swap ticket) s)

/-- TAKE_TIMEOUT (R507): a follower with a mirrored commit or swap that waits leaves its role at the boundary; its own next bus close
takes the change. -/
def execTakeTimeout (s : State) : Host.Outcome State Fault Refusal :=
  .next (if Twn.follows s && (s.cmd.run.any fun r => r.d.peer && (match r.wait with
      | .commit none _ => true
      | .swap _ none => true
      | _ => false)) then Twn.setRole s (s.frameNo + 1) 3
    else s)

/-- A ROLE message naming frame `k` (R497, R516, R490): a new owner, the start of a resync, or a peer out of step. TWN_ST.PEER_ROLE keeps
the role of the peer's most recent HELLO (Table 17-16). -/
def Twn.roleNamed (k arg role : Nat) (s : State) : State :=
  match arg with
  | 0 => if s.role = 1 ∧ s.flag Reg.TWN_ST_OWN = false then Twn.setRole s k (Twn.afterActive s) else s
  | 1 =>
    if s.role = 3 ∨ s.role = 4 then
      Twn.setResync s { r := some k, cmd := !(Cmd.waiting s .resync).isEmpty, prep := false, began := s.frameNo }
    else s
  | _ => if role = 1 ∧ Twn.follows s = true then Twn.setRole s k 3 else s

/-- ROLE_MESSAGE (R497). -/
def execRoleMessage (h : TthHdr) (arg role : Nat) (s : State) : Host.Outcome State Fault Refusal :=
  .next (Twn.receive h (Twn.roleNamed h.frame arg role) s)

/-- DRVREC (R508): the non-owner keeps the most recent record; its second block completes the first. -/
def execDrvrec (h : TthHdr) (l : List DrvRecord) (s : State) : Host.Outcome State Fault Refusal :=
  .next (Twn.receive h (fun t =>
    if t.flag Reg.TWN_ST_OWN then t
    else
      let more := h.last && decide (l.length ≤ 32) && t.twn.drvFrame == h.frame
      { t with twn := { t.twn with drvFrame := h.frame, drvRec := if more then t.twn.drvRec ++ l else l } }) s)

/-- REFRESH_MESSAGE (R509): units and rows wait for the next boundary. -/
def execRefreshMessage (h : TthHdr) (units rows : List (Nat × List Byte)) (s : State) : Host.Outcome State Fault Refusal :=
  .next (Twn.receive h (fun t =>
    if t.role = 1 then t else { t with twn := { t.twn with units := t.twn.units ++ units, rows := t.twn.rows ++ rows } }) s)

/-- The pages whose leaves differ, as SPACE, PAGE and live bytes (R518, phase 1). -/
def Twn.differing (s : State) (l : List (Nat × Nat)) : List (Nat × Nat × List Byte) :=
  let leaf (m : List (Nat × Nat)) (i : Nat) := (m.find? fun p => p.1 = i).map fun p => p.2
  ((Page.all s).filter fun n => let i := if n < 256 then 1024 + n else 2048 + (n - 256)
    leaf l i != leaf s.rcd.leaves i).map fun n =>
    (if n < 256 then 0 else 1, if n < 256 then n else n - 256, Page.live s n)

/-- Phase 0 (R518): a device that was not asked yet answers with its leaves; the active sends the pages that differ, or names the
boundary where none does. -/
def Twn.syncLeaves (l : List (Nat × Nat)) (s : State) : State :=
  let s1 : State := { s with twn := { s.twn with peerLeaf := l } }
  if s1.twn.resync.any fun x => x.r.isSome then s1
  else if s1.role = 1 then
    if Twn.sameRoot s1 then Twn.nameResync s1 (s1.frameNo + 2) (!(Cmd.waiting s1 .resync).isEmpty)
    else
      let s2 := if s1.twn.resync.isSome then s1
        else Twn.setResync s1 { r := none, cmd := !(Cmd.waiting s1 .resync).isEmpty, prep := true, began := s1.frameNo }
      Tth.send s2 s2.frameNo (.sync 1 (.pages (Twn.differing s2 l)))
  else if s1.role = 3 ∨ s1.role = 4 then
    (if s1.twn.resync.isSome then s1 else Twn.prepare s1 (!(Cmd.waiting s1 .resync).isEmpty))
  else s1

/-- The shadow bank holds the live values again. -/
def Page.reload (s : State) : State :=
  let s1 := s.each (Page.registers s.variant) fun t p => t.each (Page.fwords s.variant p) fun u o =>
    u.setShReg o.1 (Reg.blend (u.shReg o.1) (u.reg o.1) o.2)
  { s1 with bale := { s1.bale with pageShad := s1.bale.pageLive } }

/-- Phase 1 (R518): the follower writes the pages to its shadow bank and commits them alone. -/
def Twn.syncPages (l : List (Nat × Nat × List Byte)) (s : State) : State :=
  if !(s.role = 3 ∨ s.role = 4) ∨ s.twn.resync.isNone then s
  else
    let s1 := Page.reload { s with cmd := { s.cmd with writes := [] } }
    let words (bs : List Byte) := (List.range 1024).map fun i => BitVec.ofNat 32 (Arith.ofBytes ((bs.drop (4 * i)).take 4))
    let s2 := s1.each l fun t p =>
      (Param.place t { space := p.1, page := p.2.1, off := 0, count := 1024, addr := 0, adj := 0 } (words p.2.2)).1
    let d : Desc := { ticket := 65536, words := [0x11], peer := true }
    Commit.start s2 { d := d, long := false, adj := 0, wait := .ack 0 0 [] }

/-- SYNC_MESSAGE (R516, R518): leaves, pages, Gate A or outlet records. -/
def execSyncMessage (h : TthHdr) (phase : Nat) (b : SyncBody) (s : State) : Host.Outcome State Fault Refusal :=
  .next (Twn.receive h (fun t => match b with
    | .leaves l => if phase = 0 then Twn.syncLeaves l t else t
    | .pages l => if phase = 1 then Twn.syncPages l t else t
    | .gateA l => if phase = 2 ∧ t.twn.resync.isSome = true then { t with twn := { t.twn with gaNotes := t.twn.gaNotes ++ l } } else t
    | .outlet l => if phase = 2 ∧ t.twn.resync.isSome = true then { t with twn := { t.twn with ocNotes := t.twn.ocNotes ++ l } } else t)
    s)

/-- Bale image bytes go into an EMPTY or OPEN slot, making it OPEN (R303). -/
def Twn.baleBytes (slot off : Nat) (last : Bool) (bytes : List Byte) (s : State) : State :=
  let s1 :=
    if 1 < Bale.st s slot ∨ bytes.isEmpty then s
    else
      let t := if Bale.st s slot = 0 then Bale.setState s slot 1 else s
      Mem.write t 2 (bytes.zipIdx.map fun b => (Bale.base slot + off + b.2, b.1))
  if last then { s1 with twn := { s1.twn with images := (slot :: s1.twn.images).eraseDups } } else s1

/-- BALE_MESSAGE (R303): the complete image starts the LOAD_BALE that waits for it. -/
def execBaleMessage (h : TthHdr) (slot off : Nat) (bytes : List Byte) (s : State) : Host.Outcome State Fault Refusal :=
  .next (Twn.receive h (fun t =>
    let t1 := Twn.baleBytes slot off h.last bytes t
    if h.last && (Cmd.head t1 true).any (fun d => d.peer && d.op == 0x01 && !d.flag 1 && min 1 (d.field 8 1) == slot) then
      Cmd.start t1 0x01 Bale.load
    else t1) s)

/-- RCD_MESSAGE (R310): the peer's published record; a preparation goes on from it. -/
def execRcdMessage (h : TthHdr) (gen k root baleRoot : Nat) (s : State) : Host.Outcome State Fault Refusal :=
  .next (Twn.receive h (fun t =>
    let t1 : State := { t with rcd := { t.rcd with peer := ((gen, k, root, baleRoot) :: t.rcd.peer).take 16 }
                               twn := { t.twn with peer := t.twn.peer.map fun p => { p with gen := gen, k := k, root := root, baleRoot := baleRoot } } }
    if t1.twn.resync.any (fun x => x.prep) && t1.role == 1 && !Twn.sameRoot t1 then Twn.prepare t1 true else Twn.prepared t1) s)

end Sys2Proof.Machine
end

