-- ==== Sys2Proof/Machine/Dispatch.lean ====
section
/-! DEFINITION. Each command's meaning: one arm per constructor of `Instr`, in the order of spec/opcode_table.json. -/

namespace Sys2Proof.Machine

/-- The command's effect on everything but the queue. -/
def exec (i : Instr) (s : State) : Host.Outcome State Fault Refusal :=
  match i with
  | .cmdSubmit ws => Sys2Proof.Machine.execCmdSubmit ws s
  | .loadBale => Sys2Proof.Machine.execLoadBale s
  | .verifyBale => Sys2Proof.Machine.execVerifyBale s
  | .armBale => Sys2Proof.Machine.execArmBale s
  | .swapBale peerOk => Sys2Proof.Machine.execSwapBale peerOk s
  | .paramWrite => Sys2Proof.Machine.execParamWrite s
  | .paramCommit => Sys2Proof.Machine.execParamCommit s
  | .paramRead ok => Sys2Proof.Machine.execParamRead ok s
  | .digestQuery => Sys2Proof.Machine.execDigestQuery s
  | .saveTack => Sys2Proof.Machine.execSaveTack s
  | .meterSnapshot ok => Sys2Proof.Machine.execMeterSnapshot ok s
  | .fcRelease => Sys2Proof.Machine.execFcRelease s
  | .twinHandover => Sys2Proof.Machine.execTwinHandover s
  | .twinResync => Sys2Proof.Machine.execTwinResync s
  | .undefinedOpcode => Sys2Proof.Machine.execUndefinedOpcode s
  | .cmdRingHeadWrite v => Sys2Proof.Machine.execCmdRingHeadWrite v s
  | .ringEnable => Sys2Proof.Machine.execRingEnable s
  | .reqFb => Sys2Proof.Machine.execReqFb s
  | .reqFast withFb => Sys2Proof.Machine.execReqFast withFb s
  | .retest => Sys2Proof.Machine.execRetest s
  | .inject stall => Sys2Proof.Machine.execInject stall s
  | .stlResidueValidClear stall => Sys2Proof.Machine.execStlResidueValidClear stall s
  | .stlExcClear stall valid addr => Sys2Proof.Machine.execStlExcClear stall valid addr s
  | .topMemStatUeClear => Sys2Proof.Machine.execTopMemStatUeClear s
  | .topTackStatUeClear => Sys2Proof.Machine.execTopTackStatUeClear s
  | .mtxErrClear => Sys2Proof.Machine.execMtxErrClear s
  | .restep => Sys2Proof.Machine.execRestep s
  | .snap at_ => Sys2Proof.Machine.execSnap at_ s
  | .selWrite sel => Sys2Proof.Machine.execSelWrite sel s
  | .tkpTsqTsRead => Sys2Proof.Machine.execTkpTsqTsRead s
  | .phClr => Sys2Proof.Machine.execPhClr s
  | .warm => Sys2Proof.Machine.execWarm s
  | .pwrBlkrst v => Sys2Proof.Machine.execPwrBlkrst v s
  | .drvUnlatch w v => Sys2Proof.Machine.execDrvUnlatch w v s
  | .drvCtlEnWrite en => Sys2Proof.Machine.execDrvCtlEnWrite en s
  | .ownEnWrite en => Sys2Proof.Machine.execOwnEnWrite en s
  | .twnCtlEnWrite en => Sys2Proof.Machine.execTwnCtlEnWrite en s
  | .strmEnWrite en => Sys2Proof.Machine.execStrmEnWrite en s
  | .sfbCtlEnWrite en => Sys2Proof.Machine.execSfbCtlEnWrite en s
  | .evuRawWrite w v => Sys2Proof.Machine.execEvuRawWrite w v s
  | .evuEnWrite w v => Sys2Proof.Machine.execEvuEnWrite w v s
  | .evuMapWrite e v => Sys2Proof.Machine.execEvuMapWrite e v s
  | .topRcdLatch => Sys2Proof.Machine.execTopRcdLatch s
  | .lowWordRead off => Sys2Proof.Machine.execLowWordRead off s
  | .aesRxcsLatch port => Sys2Proof.Machine.execAesRxcsLatch port s
  | .registerReadClear at_ off => Sys2Proof.Machine.execRegisterReadClear at_ off s
  | .registerWrite off v whole => Sys2Proof.Machine.execRegisterWrite off v whole s
  | .memwinWrite cells => Sys2Proof.Machine.execMemwinWrite cells s
  | .tackRoomWrite cells => Sys2Proof.Machine.execTackRoomWrite cells s
  | .perstN low reqs comps => Sys2Proof.Machine.execPerstN low reqs comps s
  | .functionLevelReset comps => Sys2Proof.Machine.execFunctionLevelReset comps s
  | .linkDown comps => Sys2Proof.Machine.execLinkDown comps s
  | .busMasterEnableClear comps => Sys2Proof.Machine.execBusMasterEnableClear comps s
  | .msixEnable enable funcMask mask => Sys2Proof.Machine.execMsixEnable enable funcMask mask s
  | .evuHoldExpiry v => Sys2Proof.Machine.execEvuHoldExpiry v s
  | .frameBoundary k => Sys2Proof.Machine.execFrameBoundary k s
  | .idleMark m => Sys2Proof.Machine.execIdleMark m s
  | .computeWindowOpen => Sys2Proof.Machine.execComputeWindowOpen s
  | .stateCut => Sys2Proof.Machine.execStateCut s
  | .busClose peerOk => Sys2Proof.Machine.execBusClose peerOk s
  | .storesLand units => Sys2Proof.Machine.execStoresLand units s
  | .captureWindowClose => Sys2Proof.Machine.execCaptureWindowClose s
  | .stallPageWrite => Sys2Proof.Machine.execStallPageWrite s
  | .nopBundle c => Sys2Proof.Machine.execNopBundle c s
  | .illegal c => Sys2Proof.Machine.execIllegal c s
  | .pmemUncorr c => Sys2Proof.Machine.execPmemUncorr c s
  | .fetchEnd c => Sys2Proof.Machine.execFetchEnd c s
  | .waitf c => Sys2Proof.Machine.execWaitf c s
  | .sync c => Sys2Proof.Machine.execSync c s
  | .syncRelease c => Sys2Proof.Machine.execSyncRelease c s
  | .ret c => Sys2Proof.Machine.execRet c s
  | .br c target => Sys2Proof.Machine.execBr c target s
  | .brcAny c ck target => Sys2Proof.Machine.execBrcAny c ck target s
  | .brcNone c ck target => Sys2Proof.Machine.execBrcNone c ck target s
  | .brcAll c ck target => Sys2Proof.Machine.execBrcAll c ck target s
  | .brcNall c ck target => Sys2Proof.Machine.execBrcNall c ck target s
  | .call c target => Sys2Proof.Machine.execCall c target s
  | .loop c gs last => Sys2Proof.Machine.execLoop c gs last s
  | .loopi c count last => Sys2Proof.Machine.execLoopi c count last s
  | .add c gd ga gb => Sys2Proof.Machine.execAdd c gd ga gb s
  | .sub c gd ga gb => Sys2Proof.Machine.execSub c gd ga gb s
  | .mul c gd ga gb => Sys2Proof.Machine.execMul c gd ga gb s
  | .mulh c gd ga gb => Sys2Proof.Machine.execMulh c gd ga gb s
  | .min c gd ga gb => Sys2Proof.Machine.execMin c gd ga gb s
  | .max c gd ga gb => Sys2Proof.Machine.execMax c gd ga gb s
  | .minu c gd ga gb => Sys2Proof.Machine.execMinu c gd ga gb s
  | .maxu c gd ga gb => Sys2Proof.Machine.execMaxu c gd ga gb s
  | .and c gd ga gb => Sys2Proof.Machine.execAnd c gd ga gb s
  | .or c gd ga gb => Sys2Proof.Machine.execOr c gd ga gb s
  | .xor c gd ga gb => Sys2Proof.Machine.execXor c gd ga gb s
  | .andn c gd ga gb => Sys2Proof.Machine.execAndn c gd ga gb s
  | .shl c gd ga gb => Sys2Proof.Machine.execShl c gd ga gb s
  | .shr c gd ga gb => Sys2Proof.Machine.execShr c gd ga gb s
  | .sra c gd ga gb => Sys2Proof.Machine.execSra c gd ga gb s
  | .seq c gd ga gb => Sys2Proof.Machine.execSeq c gd ga gb s
  | .sne c gd ga gb => Sys2Proof.Machine.execSne c gd ga gb s
  | .slt c gd ga gb => Sys2Proof.Machine.execSlt c gd ga gb s
  | .sltu c gd ga gb => Sys2Proof.Machine.execSltu c gd ga gb s
  | .sle c gd ga gb => Sys2Proof.Machine.execSle c gd ga gb s
  | .sleu c gd ga gb => Sys2Proof.Machine.execSleu c gd ga gb s
  | .addi c gd ga imm => Sys2Proof.Machine.execAddi c gd ga imm s
  | .andi c gd ga imm => Sys2Proof.Machine.execAndi c gd ga imm s
  | .ori c gd ga imm => Sys2Proof.Machine.execOri c gd ga imm s
  | .xori c gd ga imm => Sys2Proof.Machine.execXori c gd ga imm s
  | .shli c gd ga imm => Sys2Proof.Machine.execShli c gd ga imm s
  | .shri c gd ga imm => Sys2Proof.Machine.execShri c gd ga imm s
  | .srai c gd ga imm => Sys2Proof.Machine.execSrai c gd ga imm s
  | .slti c gd ga imm => Sys2Proof.Machine.execSlti c gd ga imm s
  | .movi c gd imm => Sys2Proof.Machine.execMovi c gd imm s
  | .movsh c gd imm => Sys2Proof.Machine.execMovsh c gd imm s
  | .mova c areg g toG => Sys2Proof.Machine.execMova c areg g toG s
  | .ldV c o => Sys2Proof.Machine.execLdV c o s
  | .stV c o => Sys2Proof.Machine.execStV c o s
  | .ldS c o => Sys2Proof.Machine.execLdS c o s
  | .stS c o => Sys2Proof.Machine.execStS c o s
  | .ldb c o => Sys2Proof.Machine.execLdb c o s
  | .stb c o => Sys2Proof.Machine.execStb c o s
  | .ldh c o => Sys2Proof.Machine.execLdh c o s
  | .sth c o => Sys2Proof.Machine.execSth c o s
  | .busadd c o => Sys2Proof.Machine.execBusadd c o s
  | .li c areg imm => Sys2Proof.Machine.execLi c areg imm s
  | .lih c areg imm => Sys2Proof.Machine.execLih c areg imm s
  | .ldbDataReturn stall vd => Sys2Proof.Machine.execLdbDataReturn stall vd s
  | .stbWritten stall => Sys2Proof.Machine.execStbWritten stall s
  | .ldhDataReturn stall vd => Sys2Proof.Machine.execLdhDataReturn stall vd s
  | .sthWritten stall => Sys2Proof.Machine.execSthWritten stall s
  | .vmul c o => Sys2Proof.Machine.execVmul c o s
  | .vmac c o => Sys2Proof.Machine.execVmac c o s
  | .vmacN c o => Sys2Proof.Machine.execVmacN c o s
  | .vcmac c o h => Sys2Proof.Machine.execVcmac c o h s
  | .vcmacC c o h => Sys2Proof.Machine.execVcmacC c o h s
  | .vcmacN c o h => Sys2Proof.Machine.execVcmacN c o h s
  | .vcmacCn c o h => Sys2Proof.Machine.execVcmacCn c o h s
  | .clrx c xd kp => Sys2Proof.Machine.execClrx c xd kp s
  | .rdx c o => Sys2Proof.Machine.execRdx c o s
  | .rdxC c o => Sys2Proof.Machine.execRdxC c o s
  | .rdxS24 c o => Sys2Proof.Machine.execRdxS24 c o s
  | .rdxCS24 c o => Sys2Proof.Machine.execRdxCS24 c o s
  | .vadd c o => Sys2Proof.Machine.execVadd c o s
  | .vsub c o => Sys2Proof.Machine.execVsub c o s
  | .vabs c vd va kp => Sys2Proof.Machine.execVabs c vd va kp s
  | .vmax c o => Sys2Proof.Machine.execVmax c o s
  | .vmin c o => Sys2Proof.Machine.execVmin c o s
  | .vshl c o imm => Sys2Proof.Machine.execVshl c o imm s
  | .vcmpEq c kd va vb kp => Sys2Proof.Machine.execVcmpEq c kd va vb kp s
  | .vcmpNe c kd va vb kp => Sys2Proof.Machine.execVcmpNe c kd va vb kp s
  | .vcmpLt c kd va vb kp => Sys2Proof.Machine.execVcmpLt c kd va vb kp s
  | .vcmpLe c kd va vb kp => Sys2Proof.Machine.execVcmpLe c kd va vb kp s
  | .xflgSat c kd xs kp => Sys2Proof.Machine.execXflgSat c kd xs kp s
  | .xflgLost c kd xs kp => Sys2Proof.Machine.execXflgLost c kd xs kp s
  | .xflgWrap c kd xs kp => Sys2Proof.Machine.execXflgWrap c kd xs kp s
  | .xflgOut c kd xs kp => Sys2Proof.Machine.execXflgOut c kd xs kp s
  | .env c o m => Sys2Proof.Machine.execEnv c o m s
  | .gcurve c o expand => Sys2Proof.Machine.execGcurve c o expand s
  | .vlog2 c vd va kp => Sys2Proof.Machine.execVlog2 c vd va kp s
  | .vexp2 c vd va kp => Sys2Proof.Machine.execVexp2 c vd va kp s
  | .bfly4 c o sc inv out => Sys2Proof.Machine.execBfly4 c o sc inv out s
  | .scrubRow row upsets last => Sys2Proof.Machine.execScrubRow row upsets last s
  | .scrubBundle stall bank addr upset last => Sys2Proof.Machine.execScrubBundle stall bank addr upset last s
  | .matrixTransaction t waited slot rivals fate => Sys2Proof.Machine.execMatrixTransaction t waited slot rivals fate s
  | .matrixTimeout => Sys2Proof.Machine.execMatrixTimeout s
  | .masterWatchdog master => Sys2Proof.Machine.execMasterWatchdog master s
  | .fastMatrixReset => Sys2Proof.Machine.execFastMatrixReset s
  | .reissueComplete => Sys2Proof.Machine.execReissueComplete s
  | .plannedSwitch => Sys2Proof.Machine.execPlannedSwitch s
  | .patternTestDone pass => Sys2Proof.Machine.execPatternTestDone pass s
  | .pageStage page swap => Sys2Proof.Machine.execPageStage page swap s
  | .rcdPublish => Sys2Proof.Machine.execRcdPublish s
  | .rcdCompare => Sys2Proof.Machine.execRcdCompare s
  | .announcePeriodic => Sys2Proof.Machine.execAnnouncePeriodic s
  | .announceOnChange => Sys2Proof.Machine.execAnnounceOnChange s
  | .networkFrameReceived port at_ lost f => Sys2Proof.Machine.execNetworkFrameReceived port at_ lost f s
  | .streamPacketReceived => Sys2Proof.Machine.execStreamPacketReceived s
  | .duplicateEntryExpiry pair src seqNo => Sys2Proof.Machine.execDuplicateEntryExpiry pair src seqNo s
  | .supervisionFrameSend pair => Sys2Proof.Machine.execSupervisionFrameSend pair s
  | .pathTimeout port => Sys2Proof.Machine.execPathTimeout port s
  | .linkChange port block fec loc rem => Sys2Proof.Machine.execLinkChange port block fec loc rem s
  | .streamPacketLaunch stream => Sys2Proof.Machine.execStreamPacketLaunch stream s
  | .egressFrameSent at_ port => Sys2Proof.Machine.execEgressFrameSent at_ port s
  | .igmpQuery port group => Sys2Proof.Machine.execIgmpQuery port group s
  | .arpRequest port target sender => Sys2Proof.Machine.execArpRequest port target sender s
  | .ptpAnnounce p m log => Sys2Proof.Machine.execPtpAnnounce p m log s
  | .ptpSync p src seqNo log origin corr => Sys2Proof.Machine.execPtpSync p src seqNo log origin corr s
  | .ptpFollowUp p src seqNo origin corr => Sys2Proof.Machine.execPtpFollowUp p src seqNo origin corr s
  | .ptpDelayResp p src seqNo t4 corr => Sys2Proof.Machine.execPtpDelayResp p src seqNo t4 corr s
  | .ptpPdelayReq p reply seqNo => Sys2Proof.Machine.execPtpPdelayReq p reply seqNo s
  | .ptpPdelayResp p seqNo t2 corr => Sys2Proof.Machine.execPtpPdelayResp p seqNo t2 corr s
  | .ptpPdelayRespFollowUp p seqNo t3 corr => Sys2Proof.Machine.execPtpPdelayRespFollowUp p seqNo t3 corr s
  | .ptpDelayReqSend at_ slot => Sys2Proof.Machine.execPtpDelayReqSend at_ slot s
  | .domainLoss slot => Sys2Proof.Machine.execDomainLoss slot s
  | .freeTimeout => Sys2Proof.Machine.execFreeTimeout s
  | .tscWrap => Sys2Proof.Machine.execTscWrap s
  | .clockLossWindow det count => Sys2Proof.Machine.execClockLossWindow det count s
  | .aonReturn aon strobe => Sys2Proof.Machine.execAonReturn aon strobe s
  | .pllLock => Sys2Proof.Machine.execPllLock s
  | .pllUnlock => Sys2Proof.Machine.execPllUnlock s
  | .pllRegain => Sys2Proof.Machine.execPllRegain s
  | .pllRelock => Sys2Proof.Machine.execPllRelock s
  | .faultPairChange aon strobe changes => Sys2Proof.Machine.execFaultPairChange aon strobe changes s
  | .railDisagree aon strobe src => Sys2Proof.Machine.execRailDisagree aon strobe src s
  | .resetPulseEnd src => Sys2Proof.Machine.execResetPulseEnd src s
  | .consequenceWindowClose aon strobe src => Sys2Proof.Machine.execConsequenceWindowClose aon strobe src s
  | .muteAutoRelease src => Sys2Proof.Machine.execMuteAutoRelease src s
  | .vinMonArmed => Sys2Proof.Machine.execVinMonArmed s
  | .saveWarn => Sys2Proof.Machine.execSaveWarn s
  | .saveImageComplete us => Sys2Proof.Machine.execSaveImageComplete us s
  | .powerRestart sel senior => Sys2Proof.Machine.execPowerRestart sel senior s
  | .railMonitorFault rail => Sys2Proof.Machine.execRailMonitorFault rail s
  | .railMonitorGood rail => Sys2Proof.Machine.execRailMonitorGood rail s
  | .temperatureChange tj => Sys2Proof.Machine.execTemperatureChange tj s
  | .powerOnReset on sel senior => Sys2Proof.Machine.execPowerOnReset on sel senior s
  | .porstN low sel senior => Sys2Proof.Machine.execPorstN low sel senior s
  | .warmN low => Sys2Proof.Machine.execWarmN low s
  | .boot flash ms => Sys2Proof.Machine.execBoot flash ms s
  | .carrierPeriod count period => Sys2Proof.Machine.execCarrierPeriod count period s
  | .trip chan at_ => Sys2Proof.Machine.execTrip chan at_ s
  | .holdoffExpiry chan => Sys2Proof.Machine.execHoldoffExpiry chan s
  | .senseLoss chan => Sys2Proof.Machine.execSenseLoss chan s
  | .mainSample count bits => Sys2Proof.Machine.execMainSample count bits s
  | .fastSample chan at_ bits => Sys2Proof.Machine.execFastSample chan at_ bits s
  | .railValue chan bits => Sys2Proof.Machine.execRailValue chan bits s
  | .gapBegin input full => Sys2Proof.Machine.execGapBegin input full s
  | .gapEnd input at_ => Sys2Proof.Machine.execGapEnd input at_ s
  | .sapFrameReceive port at_ bclks lost words => Sys2Proof.Machine.execSapFrameReceive port at_ bclks lost words s
  | .sapFrameTransmit port at_ bclks => Sys2Proof.Machine.execSapFrameTransmit port at_ bclks s
  | .sapClockLoss port => Sys2Proof.Machine.execSapClockLoss port s
  | .sapClockPresent port => Sys2Proof.Machine.execSapClockPresent port s
  | .aesFrameReceive port at_ lost s0 s1 rate => Sys2Proof.Machine.execAesFrameReceive port at_ lost s0 s1 rate s
  | .aesNosig port => Sys2Proof.Machine.execAesNosig port s
  | .aesSeek port => Sys2Proof.Machine.execAesSeek port s
  | .aesFrameTransmit port at_ => Sys2Proof.Machine.execAesFrameTransmit port at_ s
  | .peerOwnChange at_ p n => Sys2Proof.Machine.execPeerOwnChange at_ p n s
  | .ownershipAssert at_ => Sys2Proof.Machine.execOwnershipAssert at_ s
  | .ownAmbig => Sys2Proof.Machine.execOwnAmbig s
  | .heartbeatToggle => Sys2Proof.Machine.execHeartbeatToggle s
  | .hbEdge within => Sys2Proof.Machine.execHbEdge within s
  | .hbLoss => Sys2Proof.Machine.execHbLoss s
  | .laneLock lane locked => Sys2Proof.Machine.execLaneLock lane locked s
  | .hello h m => Sys2Proof.Machine.execHello h m s
  | .helloSend => Sys2Proof.Machine.execHelloSend s
  | .helloTimeout => Sys2Proof.Machine.execHelloTimeout s
  | .downBlock => Sys2Proof.Machine.execDownBlock s
  | .inputMessage h used words => Sys2Proof.Machine.execInputMessage h used words s
  | .inputForwardTimeout => Sys2Proof.Machine.execInputForwardTimeout s
  | .mirrorMessage h bytes mir unclean uf => Sys2Proof.Machine.execMirrorMessage h bytes mir unclean uf s
  | .digestMessage h d => Sys2Proof.Machine.execDigestMessage h d s
  | .cmdMessage h ticket words data => Sys2Proof.Machine.execCmdMessage h ticket words data s
  | .cmdack h ticket status reason => Sys2Proof.Machine.execCmdack h ticket status reason s
  | .take h swap ticket => Sys2Proof.Machine.execTake h swap ticket s
  | .takeTimeout => Sys2Proof.Machine.execTakeTimeout s
  | .roleMessage h arg role => Sys2Proof.Machine.execRoleMessage h arg role s
  | .drvrec h l => Sys2Proof.Machine.execDrvrec h l s
  | .refreshMessage h units rows => Sys2Proof.Machine.execRefreshMessage h units rows s
  | .syncMessage h phase b => Sys2Proof.Machine.execSyncMessage h phase b s
  | .baleMessage h slot off bytes => Sys2Proof.Machine.execBaleMessage h slot off bytes s
  | .rcdMessage h gen k root baleRoot => Sys2Proof.Machine.execRcdMessage h gen k root baleRoot s
  | .nopMessage h => Sys2Proof.Machine.execNopMessage h s
  | .autoResyncStart at_ => Sys2Proof.Machine.execAutoResyncStart at_ s
  | .handoverJwaitExpiry at_ => Sys2Proof.Machine.execHandoverJwaitExpiry at_ s
  | .alignMissing => Sys2Proof.Machine.execAlignMissing s
  | .hostMemoryAccessAnswer a => Sys2Proof.Machine.execHostMemoryAccessAnswer a s
  | .d3hotTransition enter => Sys2Proof.Machine.execD3hotTransition enter s
  | .armingWritesComplete => Sys2Proof.Machine.execArmingWritesComplete s
  | .debugPortTck trstLow rise tms tdi => Sys2Proof.Machine.execDebugPortTck trstLow rise tms tdi s

end Sys2Proof.Machine
end

