-- ==== Sys2Proof/Machine/BundleOps.lean ====
section
/-! DEFINITION. The operations that the 128 bits of a bundle spell (spec 04_ibcor_encoding.md: R106 to R118, R142;
05_ibcor_instructions.md: R148 to R171): which commands a stall's program gives, in the order in which they come. -/

namespace Sys2Proof.Machine

/-- The operation of a control slot (Tables 04-3, 05-2). -/
def Enc.ctlOp? (c : OpCtx) (w : Nat) : Option Instr :=
  let gd := Enc.fld w 13 5
  let ga := Enc.fld w 8 5
  let gb := Enc.fld w 3 5
  let imm8 := Enc.fld w 0 8
  let imm13 := Enc.fld w 0 13
  let addr := Enc.fld w 0 12
  match Enc.fld w 18 6, Enc.fld w 0 3 with
  | 0x01, _ => some (.waitf c)
  | 0x02, _ => some (.sync c)
  | 0x03, _ => some (.ret c)
  | 0x04, _ => some (.br c addr)
  | 0x05, _ =>
    let ck := Enc.fld w 15 3
    some (match w.testBit 13, w.testBit 14 with
      | false, false => .brcAny c ck addr
      | false, true => .brcNone c ck addr
      | true, false => .brcAll c ck addr
      | true, true => .brcNall c ck addr)
  | 0x06, _ => some (.call c addr)
  | 0x08, _ => some (.loop c (Enc.fld w 12 5) addr)
  | 0x09, _ => some (.loopi c (if Enc.fld w 12 6 = 0 then 64 else Enc.fld w 12 6) addr)
  | 0x10, 0 => some (.add c gd ga gb)
  | 0x10, 1 => some (.sub c gd ga gb)
  | 0x10, 2 => some (.mul c gd ga gb)
  | 0x10, 3 => some (.mulh c gd ga gb)
  | 0x10, 4 => some (.min c gd ga gb)
  | 0x10, 5 => some (.max c gd ga gb)
  | 0x10, 6 => some (.minu c gd ga gb)
  | 0x10, _ => some (.maxu c gd ga gb)
  | 0x11, 0 => some (.and c gd ga gb)
  | 0x11, 1 => some (.or c gd ga gb)
  | 0x11, 2 => some (.xor c gd ga gb)
  | 0x11, 3 => some (.andn c gd ga gb)
  | 0x11, 4 => some (.shl c gd ga gb)
  | 0x11, 5 => some (.shr c gd ga gb)
  | 0x11, 6 => some (.sra c gd ga gb)
  | 0x12, 0 => some (.seq c gd ga gb)
  | 0x12, 1 => some (.sne c gd ga gb)
  | 0x12, 2 => some (.slt c gd ga gb)
  | 0x12, 3 => some (.sltu c gd ga gb)
  | 0x12, 4 => some (.sle c gd ga gb)
  | 0x12, 5 => some (.sleu c gd ga gb)
  | 0x18, _ => some (.addi c gd ga imm8)
  | 0x19, _ => some (.andi c gd ga imm8)
  | 0x1A, _ => some (.ori c gd ga imm8)
  | 0x1B, _ => some (.xori c gd ga imm8)
  | 0x1C, _ => some (.shli c gd ga imm8)
  | 0x1D, _ => some (.shri c gd ga imm8)
  | 0x1E, _ => some (.srai c gd ga imm8)
  | 0x1F, _ => some (.slti c gd ga imm8)
  | 0x20, _ => some (.movi c gd imm13)
  | 0x21, _ => some (.movsh c gd imm13)
  | 0x24, _ => some (.mova c (Enc.fld w 12 6) (Enc.fld w 7 5) (w.testBit 6))
  | _, _ => none

/-- An AMODE code (Table 04-5); 0b111 is reserved. -/
def Enc.amode : Nat → AMode
  | 0 => .plain
  | 1 => .postm
  | 2 => .prem
  | 3 => .posts
  | 4 => .brev
  | 5 => .ppcur
  | _ => .ppprev

/-- A SHAPE code with its ELEM (Table 04-7). -/
def Enc.shape (code elem : Nat) : Shape :=
  match code with
  | 0 => .cont
  | 1 => .lane8 elem
  | 2 => .quad
  | _ => .splat

/-- The operands of format LA (Table 04-4). -/
def Enc.la (slot1 : Bool) (w : Nat) : LaOp :=
  { slot1 := slot1, reg := Enc.fld w 18 5, pn := Enc.fld w 15 3, mn := Enc.fld w 12 3, amode := Enc.amode (Enc.fld w 9 3)
    p24 := Enc.fld w 7 2 == 1, shape := Enc.shape (Enc.fld w 5 2) (Enc.fld w 3 2), kp := Enc.fld w 0 3 }

/-- The operation of a load/store slot (Tables 04-4, 05-3). -/
def Enc.lsOp? (slot1 : Bool) (c : OpCtx) (w : Nat) : Option Instr :=
  let o := Enc.la slot1 w
  match Enc.fld w 23 5 with
  | 0x01 => some (.ldV c o)
  | 0x02 => some (.stV c o)
  | 0x03 => some (.ldS c o)
  | 0x04 => some (.stS c o)
  | 0x05 => some (.ldb c o)
  | 0x06 => some (.stb c o)
  | 0x07 => some (.ldh c o)
  | 0x08 => some (.sth c o)
  | 0x09 => some (.busadd c o)
  | 0x10 => some (.li c (Enc.fld w 18 5) (Enc.fld w 0 18))
  | 0x11 => some (.lih c (Enc.fld w 18 5) (Enc.fld w 0 14))
  | _ => none

/-- Operand b of format VX (Table 04-9). -/
def Enc.bsel (w : Nat) : BSel :=
  match Enc.fld w 14 2 with
  | 0 => .elemw
  | 1 => .laneb (Enc.fld w 12 2)
  | _ => .glob (Enc.fld w 9 3) (Enc.fld w 12 2)

/-- The operands of format VX (Table 04-8). -/
def Enc.vx (w : Nat) : VxOp :=
  { xd := Enc.fld w 29 4, va := Enc.fld w 24 5, vb := Enc.fld w 19 5, kp := Enc.fld w 16 3, b := Enc.bsel w }

/-- The operands of format VR (Table 04-8). -/
def Enc.vr (w : Nat) : VrOp := { vd := Enc.fld w 28 5, xs := Enc.fld w 24 4, sh := Enc.fld w 18 6, kp := Enc.fld w 15 3 }

/-- The register operands of formats VE and VS (Table 04-8). -/
def Enc.ve (w : Nat) : VeOp := { vd := Enc.fld w 28 5, va := Enc.fld w 23 5, vb := Enc.fld w 18 5, kp := Enc.fld w 15 3 }

/-- The shift count of VSHL: IMM6, signed, with IS = 1, else from VB. -/
def Enc.vshlCount (w : Nat) : Option Int :=
  if w.testBit 14 then some (if Enc.fld w 8 6 < 32 then (Enc.fld w 8 6 : Int) else (Enc.fld w 8 6 : Int) - 64) else none

/-- The operation of the vector slot (Tables 04-8, 05-4, 05-8, 05-9, 05-11). -/
def Enc.vecOp? (c : OpCtx) (w : Nat) : Option Instr :=
  let o := Enc.vx w
  let h := Enc.fld w 8 1
  let r := Enc.vr w
  let e := Enc.ve w
  let kd := Enc.fld w 30 3
  let va := Enc.fld w 25 5
  let vb := Enc.fld w 20 5
  let kp := Enc.fld w 17 3
  match Enc.fld w 33 7, Enc.fld w 14 3 with
  | 0x10, _ => some (if w.testBit 6 then .vmacN c o else .vmac c o)
  | 0x11, _ => some (.vmul c o)
  | 0x12, _ => some (match w.testBit 7, w.testBit 6 with
    | false, false => .vcmac c o h
    | true, false => .vcmacC c o h
    | false, true => .vcmacN c o h
    | true, true => .vcmacCn c o h)
  | 0x13, _ => some (.clrx c o.xd o.kp)
  | 0x18, _ => some (match w.testBit 14, w.testBit 13 with
    | false, false => .rdx c r
    | true, false => .rdxC c r
    | false, true => .rdxS24 c r
    | true, true => .rdxCS24 c r)
  | 0x20, _ => some (.vadd c e)
  | 0x21, _ => some (.vsub c e)
  | 0x22, _ => some (.vabs c e.vd e.va e.kp)
  | 0x23, _ => some (.vmax c e)
  | 0x24, _ => some (.vmin c e)
  | 0x25, _ => some (.vshl c e (Enc.vshlCount w))
  | 0x28, 0 => some (.vcmpEq c kd va vb kp)
  | 0x28, 1 => some (.vcmpNe c kd va vb kp)
  | 0x28, 2 => some (.vcmpLt c kd va vb kp)
  | 0x28, 3 => some (.vcmpLe c kd va vb kp)
  | 0x29, 0 => some (.xflgSat c kd (va % 16) kp)
  | 0x29, 1 => some (.xflgLost c kd (va % 16) kp)
  | 0x29, 2 => some (.xflgWrap c kd (va % 16) kp)
  | 0x29, 3 => some (.xflgOut c kd (va % 16) kp)
  | 0x30, _ => some (.env c e { half := Enc.fld w 13 2 == 1, seed := Enc.fld w 11 2, ash := Enc.fld w 4 4, rsh := Enc.fld w 0 4 })
  | 0x31, _ => some (.gcurve c e (w.testBit 0))
  | 0x32, _ => some (.vlog2 c e.vd e.va e.kp)
  | 0x33, _ => some (.vexp2 c e.vd e.va e.kp)
  | 0x34, _ => some (.bfly4 c e (Enc.fld w 2 2) (w.testBit 1) (w.testBit 0))
  | _, _ => none

/-- The operations of a bundle in the order of its slots, each as its context makes it. -/
def Enc.ops (w : Nat) : List (OpCtx → Option Instr) :=
  (if w.testBit 127 then [fun c => Enc.ctlOp? c (Enc.fld w 96 24)] else []) ++
  (if w.testBit 126 then [fun c => Enc.lsOp? false c (Enc.fld w 68 28)] else []) ++
  (if w.testBit 125 then [fun c => Enc.lsOp? true c (Enc.fld w 40 28)] else []) ++
  (if w.testBit 124 then [fun c => Enc.vecOp? c (Enc.fld w 0 40)] else [])

/-- The commands of a bundle that stall `i` issues at ENG cycle `cyc` (R106 to R109): its operations CTL, LS0, LS1, VEC under its bundle
predicate, the last one marked; a no-operation bundle; or the exception of a reserved encoding (R142). -/
def Enc.commands (i cyc w : Nat) : List Instr :=
  let c (last : Bool) : OpCtx := { stall := i, cyc := cyc, pk := Enc.fld w 120 3, pneg := w.testBit 123, last := last }
  let ops := Enc.ops w
  if !Enc.bundleOk w then [.illegal (c true)]
  else if ops.isEmpty then [.nopBundle (c true)]
  else ops.zipIdx.filterMap fun x => x.1 (c (x.2 + 1 == ops.length))

/-- The commands that stall `i` is due to issue at ENG cycle `cyc`: those of the bundle that its live program bank holds at its program
counter (R106, R130); an uncorrectable word there is the exception of R143. A command names its operation itself, so a sender that keeps to
the program sends these (log 66). -/
def Stl.due (s : State) (i cyc : Nat) : List Instr :=
  let x := s.stall i
  let key := 4096 * Stl.bank s i + x.pc
  if Sparse.get x.progErr key 0 = 2 then [.pmemUncorr { stall := i, cyc := cyc, pk := 0, pneg := false, last := true }]
  else Enc.commands i cyc (Sparse.get x.prog key 0).toNat

end Sys2Proof.Machine
end

