-- ==== Sys2Proof/WellFormed.lean ====
section
/-! DEFINITION. Which commands are well formed: every operand lies in the range the spec gives it. -/

namespace Sys2Proof

/-- The bundle context names a stall and a predicate register. -/
def OpCtx.wf (c : OpCtx) : Bool := decide (c.stall < 48) && decide (c.pk < 8)

/-- An LA operand's registers and shape lie in range; MN is zero in PLAIN and POSTS (R113, R118). -/
def LaOp.wf (o : LaOp) : Bool :=
  decide (o.reg < 32) && decide (o.pn < 8) && decide (o.mn < 8) && decide (o.kp < 8) &&
  (o.mn == 0 || (o.amode != .plain && o.amode != .posts)) &&
  (match o.shape with
   | .lane8 e => decide (e < 4)
   | _ => true)

/-- A store's shape is CONT or LANE8 (R118). -/
def LaOp.wfStore (o : LaOp) : Bool :=
  o.wf && (match o.shape with
    | .quad => false
    | .splat => false
    | _ => true)

/-- A scalar access has SHAPE, ELEM and KP zero (R113). -/
def LaOp.wfScalar (o : LaOp) : Bool := o.wf && o.shape == .cont && o.kp == 0

/-- BUSADD takes W32 and no ping-pong mode (Table 05-7). -/
def LaOp.wfBus (o : LaOp) : Bool := o.wfStore && !o.p24 && o.amode != .ppcur && o.amode != .ppprev

/-- BE and BL lie in range (Table 04-9). -/
def BSel.wf : BSel → Bool
  | .elemw => true
  | .laneb be => decide (be < 4)
  | .glob bl be => decide (bl < 8) && decide (be < 4)

/-- For VCMAC, BE bit 1 is zero (R117). -/
def BSel.wfPair : BSel → Bool
  | .elemw => true
  | .laneb be => decide (be < 2)
  | .glob bl be => decide (bl < 8) && decide (be < 2)

/-- A VX operand lies in range. -/
def VxOp.wf (o : VxOp) : Bool :=
  decide (o.xd < 16) && decide (o.va < 32) && decide (o.vb < 32) && decide (o.kp < 8) && o.b.wf

/-- A VR operand lies in range. -/
def VrOp.wf (o : VrOp) : Bool := decide (o.vd < 32) && decide (o.xs < 16) && decide (o.sh < 64) && decide (o.kp < 8)

/-- A VE or VS operand lies in range. -/
def VeOp.wf (o : VeOp) : Bool := decide (o.vd < 32) && decide (o.va < 32) && decide (o.vb < 32) && decide (o.kp < 8)

/-- The MODE of ENV lies in range (Table 05-9). -/
def EnvMode.wf (m : EnvMode) : Bool := decide (m.seed < 4) && decide (m.ash < 16) && decide (m.rsh < 16)

/-- The signed shift count of VSHL is −31 to +31 (R118). -/
def Instr.wfShift : Option Int → Bool
  | none => true
  | some k => decide (-31 ≤ k) && decide (k ≤ 31)

/-- The fields of an AudioPkt fit their widths on the wire. -/
def AudioPkt.wf (p : AudioPkt) : Bool :=
  decide (p.src < 2 ^ 32) && decide (p.dst < (if p.aaf then 2 ^ 64 else 2 ^ 32)) && decide (p.port < 65536) &&
  decide (p.stamp < 2 ^ 32) && decide (p.seq < (if p.aaf then 256 else 65536)) && decide (p.pt < 128) &&
  decide (p.format < 8)

/-- The fields of a NetFrame fit their widths on the wire. -/
def NetFrame.wf (f : NetFrame) : Bool :=
  decide (f.src < 2 ^ 48) && decide (f.dst < 2 ^ 48) && decide (f.pcp < 8) && decide (f.vid < 4096) &&
  (match f.body with | .audio p => p.wf | .arp t => decide (t < 2 ^ 32) | _ => true)


/-- The fields of a PTP message fit their widths on the wire. -/
def PtpIn.wf (p : PtpIn) : Bool := decide (p.port < 4) && decide (p.version < 16) && decide (p.dom < 256)

/-- The fields of an AES3 subframe fit their widths. -/
def AesSub.wf (x : AesSub) : Bool := decide (x.pre < 4) && decide (x.audio < 2 ^ 24)

/-- The fields of a tether block header fit their widths. -/
def TthHdr.wf (h : TthHdr) : Bool :=
  decide (h.seq < 2 ^ 32) && decide (h.frame < 2 ^ 64) && decide (h.ack < 2 ^ 32) &&
  (match h.nak with | some n => decide (n < 2 ^ 32 - 1) | none => true) && h.lost.all fun l => decide (l < 8)

/-- The fields of a HELLO fit their widths. -/
def Hello.wf (h : Hello) : Bool :=
  decide (h.cap < 2 ^ 64) && decide (h.baleRoot < 2 ^ 256) && decide (h.root < 2 ^ 256) && decide (h.gen < 2 ^ 64) &&
  decide (h.k < 2 ^ 64) && decide (h.role < 5)

/-- The fields of a DIGEST fit their widths. -/
def TwnDigest.wf (d : TwnDigest) : Bool := decide (d.out < 2 ^ 32) && decide (d.bus < 2 ^ 32) && decide (d.mir < 2 ^ 32)

/-- The fields of a drive record fit their widths. -/
def DrvRecord.wf (r : DrvRecord) : Bool :=
  decide (r.state < 7) && decide (r.hold < 65536) && decide (r.ages.length ≤ 15) && r.ages.all fun a => decide (a < 2 ^ 32 - 1)

/-- The fields of a SYNC body fit their widths. -/
def SyncBody.wf : SyncBody → Bool
  | .leaves l => l.all fun x => decide (1024 ≤ x.1) && decide (x.1 < 5120) && decide (x.2 < 2 ^ 256)
  | .pages l => l.all fun x => decide (x.1 < 2) && decide (x.2.1 < 3072) && x.2.2.length == 4096
  | .gateA l => l.all fun x => decide (x.1 < 3072)
  | .outlet l => l.all fun x => decide (x.1 < 1536)

/-- A transaction lies within one 256-byte block of the 32-bit matrix space (R219, R222). -/
def MtxReq.wf (r : MtxReq) : Bool :=
  decide (r.master < 16) &&
  (match r.cells with
   | [] => false
   | c :: cs => decide (c.1 < 2 ^ 32) && cs.all fun d => d.1 / 256 == c.1 / 256)

/-- A waiting request names a master. -/
def MtxRival.wf (r : MtxRival) : Bool := decide (r.master < 16)

/-- Every operand of the command lies in the range that the spec gives it. -/
def Instr.wf : Instr → Bool
  | .cmdSubmit ws => decide (1 ≤ ws.length) && decide (ws.length ≤ 16)
  | .loadBale => true
  | .verifyBale => true
  | .armBale => true
  | .swapBale _ => true
  | .paramWrite => true
  | .paramCommit => true
  | .paramRead _ => true
  | .digestQuery => true
  | .saveTack => true
  | .meterSnapshot _ => true
  | .fcRelease => true
  | .twinHandover => true
  | .twinResync => true
  | .undefinedOpcode => true
  | .cmdRingHeadWrite v => decide (v < 4096)
  | .ringEnable => true
  | .reqFb => true
  | .reqFast _ => true
  | .retest => true
  | .inject stall => decide (stall < 48)
  | .stlResidueValidClear stall => decide (stall < 48)
  | .stlExcClear stall _ _ => decide (stall < 48)
  | .topMemStatUeClear => true
  | .topTackStatUeClear => true
  | .mtxErrClear => true
  | .restep => true
  | .snap _ => true
  | .selWrite sel => decide (sel < 2)
  | .tkpTsqTsRead => true
  | .phClr => true
  | .warm => true
  | .pwrBlkrst _ => true
  | .drvUnlatch w _ => decide (w < 2)
  | .drvCtlEnWrite _ => true
  | .ownEnWrite _ => true
  | .twnCtlEnWrite _ => true
  | .strmEnWrite _ => true
  | .sfbCtlEnWrite _ => true
  | .evuRawWrite w _ => decide (w < 8)
  | .evuEnWrite w _ => decide (w < 8)
  | .evuMapWrite e _ => decide (e < 256)
  | .topRcdLatch => true
  | .lowWordRead off => decide (off < 0x400000) && off % 4 == 0
  | .aesRxcsLatch port => decide (port < 8)
  | .registerReadClear _ off => decide (off < 0x400000) && off % 4 == 0
  | .registerWrite off _ _ => decide (off < 0x400000) && off % 4 == 0
  | .memwinWrite cells => cells.all (fun c => decide (c.1 < 0x10000000))
  | .tackRoomWrite cells => cells.all (fun c => decide (0x9000000 ≤ c.1) && decide (c.1 < 0x9800000))
  | .perstN _ reqs comps => decide (reqs ≤ 64) && decide (comps ≤ 64)
  | .functionLevelReset comps => decide (comps ≤ 64)
  | .linkDown comps => decide (comps ≤ 64)
  | .busMasterEnableClear comps => decide (comps ≤ 64)
  | .msixEnable _ _ mask => decide (mask < 2 ^ 32)
  | .evuHoldExpiry v => decide (v < 32)
  | .frameBoundary _ => true
  | .idleMark _ => true
  | .computeWindowOpen => true
  | .stateCut => true
  | .busClose _ => true
  | .storesLand _ => true
  | .captureWindowClose => true
  | .stallPageWrite => true
  | .nopBundle c => c.wf
  | .illegal c => c.wf
  | .pmemUncorr c => c.wf
  | .fetchEnd c => c.wf
  | .waitf c => c.wf
  | .sync c => c.wf
  | .syncRelease c => c.wf
  | .ret c => c.wf
  | .br c target => c.wf && decide (target < 4096)
  | .brcAny c ck target => c.wf && decide (ck < 8) && decide (target < 4096)
  | .brcNone c ck target => c.wf && decide (ck < 8) && decide (target < 4096)
  | .brcAll c ck target => c.wf && decide (ck < 8) && decide (target < 4096)
  | .brcNall c ck target => c.wf && decide (ck < 8) && decide (target < 4096)
  | .call c target => c.wf && decide (target < 4096)
  | .loop c gs last => c.wf && decide (gs < 32) && decide (last < 4096)
  | .loopi c count last => c.wf && decide (1 ≤ count) && decide (count ≤ 64) && decide (last < 4096)
  | .add c gd ga gb => c.wf && decide (gd < 32) && decide (ga < 32) && decide (gb < 32)
  | .sub c gd ga gb => c.wf && decide (gd < 32) && decide (ga < 32) && decide (gb < 32)
  | .mul c gd ga gb => c.wf && decide (gd < 32) && decide (ga < 32) && decide (gb < 32)
  | .mulh c gd ga gb => c.wf && decide (gd < 32) && decide (ga < 32) && decide (gb < 32)
  | .min c gd ga gb => c.wf && decide (gd < 32) && decide (ga < 32) && decide (gb < 32)
  | .max c gd ga gb => c.wf && decide (gd < 32) && decide (ga < 32) && decide (gb < 32)
  | .minu c gd ga gb => c.wf && decide (gd < 32) && decide (ga < 32) && decide (gb < 32)
  | .maxu c gd ga gb => c.wf && decide (gd < 32) && decide (ga < 32) && decide (gb < 32)
  | .and c gd ga gb => c.wf && decide (gd < 32) && decide (ga < 32) && decide (gb < 32)
  | .or c gd ga gb => c.wf && decide (gd < 32) && decide (ga < 32) && decide (gb < 32)
  | .xor c gd ga gb => c.wf && decide (gd < 32) && decide (ga < 32) && decide (gb < 32)
  | .andn c gd ga gb => c.wf && decide (gd < 32) && decide (ga < 32) && decide (gb < 32)
  | .shl c gd ga gb => c.wf && decide (gd < 32) && decide (ga < 32) && decide (gb < 32)
  | .shr c gd ga gb => c.wf && decide (gd < 32) && decide (ga < 32) && decide (gb < 32)
  | .sra c gd ga gb => c.wf && decide (gd < 32) && decide (ga < 32) && decide (gb < 32)
  | .seq c gd ga gb => c.wf && decide (gd < 32) && decide (ga < 32) && decide (gb < 32)
  | .sne c gd ga gb => c.wf && decide (gd < 32) && decide (ga < 32) && decide (gb < 32)
  | .slt c gd ga gb => c.wf && decide (gd < 32) && decide (ga < 32) && decide (gb < 32)
  | .sltu c gd ga gb => c.wf && decide (gd < 32) && decide (ga < 32) && decide (gb < 32)
  | .sle c gd ga gb => c.wf && decide (gd < 32) && decide (ga < 32) && decide (gb < 32)
  | .sleu c gd ga gb => c.wf && decide (gd < 32) && decide (ga < 32) && decide (gb < 32)
  | .addi c gd ga imm => c.wf && decide (gd < 32) && decide (ga < 32) && decide (imm < 256)
  | .andi c gd ga imm => c.wf && decide (gd < 32) && decide (ga < 32) && decide (imm < 256)
  | .ori c gd ga imm => c.wf && decide (gd < 32) && decide (ga < 32) && decide (imm < 256)
  | .xori c gd ga imm => c.wf && decide (gd < 32) && decide (ga < 32) && decide (imm < 256)
  | .shli c gd ga imm => c.wf && decide (gd < 32) && decide (ga < 32) && decide (imm < 32)
  | .shri c gd ga imm => c.wf && decide (gd < 32) && decide (ga < 32) && decide (imm < 32)
  | .srai c gd ga imm => c.wf && decide (gd < 32) && decide (ga < 32) && decide (imm < 32)
  | .slti c gd ga imm => c.wf && decide (gd < 32) && decide (ga < 32) && decide (imm < 256)
  | .movi c gd imm => c.wf && decide (gd < 32) && decide (imm < 8192)
  | .movsh c gd imm => c.wf && decide (gd < 32) && decide (imm < 8192)
  | .mova c areg g _ => c.wf && decide (areg < 40) && decide (g < 32)
  | .ldV c o => c.wf && o.wf
  | .stV c o => c.wf && o.wfStore
  | .ldS c o => c.wf && o.wfScalar
  | .stS c o => c.wf && o.wfScalar
  | .ldb c o => c.wf && o.wf
  | .stb c o => c.wf && o.wfStore
  | .ldh c o => c.wf && o.wf
  | .sth c o => c.wf && o.wfStore
  | .busadd c o => c.wf && o.wfBus
  | .li c areg imm => c.wf && decide (areg < 32) && decide (imm < 262144)
  | .lih c areg imm => c.wf && decide (areg < 32) && decide (imm < 16384)
  | .ldbDataReturn stall vd => decide (stall < 48) && decide (vd < 32)
  | .stbWritten stall => decide (stall < 48)
  | .ldhDataReturn stall vd => decide (stall < 48) && decide (vd < 32)
  | .sthWritten stall => decide (stall < 48)
  | .vmul c o => c.wf && o.wf
  | .vmac c o => c.wf && o.wf
  | .vmacN c o => c.wf && o.wf
  | .vcmac c o h => c.wf && o.wf && o.b.wfPair && decide (h < 2)
  | .vcmacC c o h => c.wf && o.wf && o.b.wfPair && decide (h < 2)
  | .vcmacN c o h => c.wf && o.wf && o.b.wfPair && decide (h < 2)
  | .vcmacCn c o h => c.wf && o.wf && o.b.wfPair && decide (h < 2)
  | .clrx c xd kp => c.wf && decide (xd < 16) && decide (kp < 8)
  | .rdx c o => c.wf && o.wf
  | .rdxC c o => c.wf && o.wf
  | .rdxS24 c o => c.wf && o.wf
  | .rdxCS24 c o => c.wf && o.wf
  | .vadd c o => c.wf && o.wf
  | .vsub c o => c.wf && o.wf
  | .vabs c vd va kp => c.wf && decide (vd < 32) && decide (va < 32) && decide (kp < 8)
  | .vmax c o => c.wf && o.wf
  | .vmin c o => c.wf && o.wf
  | .vshl c o imm => c.wf && o.wf && Instr.wfShift imm
  | .vcmpEq c kd va vb kp => c.wf && decide (kd < 8) && decide (va < 32) && decide (vb < 32) && decide (kp < 8)
  | .vcmpNe c kd va vb kp => c.wf && decide (kd < 8) && decide (va < 32) && decide (vb < 32) && decide (kp < 8)
  | .vcmpLt c kd va vb kp => c.wf && decide (kd < 8) && decide (va < 32) && decide (vb < 32) && decide (kp < 8)
  | .vcmpLe c kd va vb kp => c.wf && decide (kd < 8) && decide (va < 32) && decide (vb < 32) && decide (kp < 8)
  | .xflgSat c kd xs kp => c.wf && decide (kd < 8) && decide (xs < 16) && decide (kp < 8)
  | .xflgLost c kd xs kp => c.wf && decide (kd < 8) && decide (xs < 16) && decide (kp < 8)
  | .xflgWrap c kd xs kp => c.wf && decide (kd < 8) && decide (xs < 16) && decide (kp < 8)
  | .xflgOut c kd xs kp => c.wf && decide (kd < 8) && decide (xs < 16) && decide (kp < 8)
  | .env c o m => c.wf && o.wf && m.wf
  | .gcurve c o _ => c.wf && o.wf
  | .vlog2 c vd va kp => c.wf && decide (vd < 32) && decide (va < 32) && decide (kp < 8)
  | .vexp2 c vd va kp => c.wf && decide (vd < 32) && decide (va < 32) && decide (kp < 8)
  | .bfly4 c o sc _ _ => c.wf && o.wf && decide (sc < 3)
  | .scrubRow row _ _ => row % 64 == 0 && decide (row < 0x10000000)
  | .scrubBundle stall bank addr upset _ => decide (stall < 48) && decide (bank < 2) && decide (addr < 4096) && decide (upset < 3)
  | .matrixTransaction t _ slot rivals _ => t.wf && decide (slot < 16) && rivals.all MtxRival.wf
  | .matrixTimeout => true
  | .masterWatchdog master => decide (master < 16)
  | .fastMatrixReset => true
  | .reissueComplete => true
  | .plannedSwitch => true
  | .patternTestDone _ => true
  | .pageStage page _ => decide (page < 3328)
  | .rcdPublish => true
  | .rcdCompare => true
  | .announcePeriodic => true
  | .announceOnChange => true
  | .networkFrameReceived port _ _ f => decide (port < 4) && f.wf
  | .streamPacketReceived => true
  | .duplicateEntryExpiry pair src seqNo => decide (pair < 2) && decide (src < 2 ^ 48) && decide (seqNo < 65536)
  | .supervisionFrameSend pair => decide (pair < 2)
  | .pathTimeout port => decide (port < 4)
  | .linkChange port _ _ _ _ => decide (port < 4)
  | .streamPacketLaunch stream => decide (stream < 128)
  | .egressFrameSent _ port => decide (port < 4)
  | .igmpQuery port group => decide (port < 4) && (match group with | some g => decide (g < 2 ^ 32) | none => true)
  | .arpRequest port target sender => decide (port < 4) && decide (target < 2 ^ 32) && decide (sender < 2 ^ 48)
  | .ptpAnnounce p _ _ => p.wf
  | .ptpSync p _ seqNo _ _ _ => p.wf && decide (seqNo < 65536)
  | .ptpFollowUp p _ seqNo _ _ => p.wf && decide (seqNo < 65536)
  | .ptpDelayResp p _ seqNo _ _ => p.wf && decide (seqNo < 65536)
  | .ptpPdelayReq p _ seqNo => p.wf && decide (seqNo < 65536)
  | .ptpPdelayResp p seqNo _ _ => p.wf && decide (seqNo < 65536)
  | .ptpPdelayRespFollowUp p seqNo _ _ => p.wf && decide (seqNo < 65536)
  | .ptpDelayReqSend _ slot => decide (slot < 2)
  | .domainLoss slot => decide (slot < 2)
  | .freeTimeout => true
  | .tscWrap => true
  | .clockLossWindow det _ => decide (det < 5)
  | .aonReturn aon _ => decide (aon < 2 ^ 32)
  | .pllLock => true
  | .pllUnlock => true
  | .pllRegain => true
  | .pllRelock => true
  | .faultPairChange aon _ changes => decide (aon < 2 ^ 32) && changes.all (fun c => decide (c.src < 192) && decide (c.pair < 4))
  | .railDisagree aon _ src => decide (aon < 2 ^ 32) && decide (src < 192)
  | .resetPulseEnd src => decide (src < 192)
  | .consequenceWindowClose aon _ src => decide (aon < 2 ^ 32) && decide (src < 192)
  | .muteAutoRelease src => decide (src < 192)
  | .vinMonArmed => true
  | .saveWarn => true
  | .saveImageComplete us => decide (us < 1024)
  | .powerRestart sel _ => decide (sel < 4)
  | .railMonitorFault rail => decide (rail < 7)
  | .railMonitorGood rail => decide (rail < 7)
  | .temperatureChange tj => decide (-128 ≤ tj) && decide (tj ≤ 127)
  | .powerOnReset _ sel _ => decide (sel < 4)
  | .porstN _ sel _ => decide (sel < 4)
  | .warmN _ => true
  | .boot _ ms => decide (ms < 65536)
  | .carrierPeriod _ period => decide (period < 16)
  | .trip chan _ => decide (chan < 64)
  | .holdoffExpiry chan => decide (chan < 64)
  | .senseLoss chan => decide (chan < 64)
  | .mainSample _ _ => true
  | .fastSample chan _ _ => decide (chan < 128)
  | .railValue chan _ => decide (chan < 128)
  | .gapBegin input _ => decide (input < 128)
  | .gapEnd input _ => decide (input < 128)
  | .sapFrameReceive port _ _ _ words => decide (port < 16) && words.all (fun w => decide (w < 2 ^ 32))
  | .sapFrameTransmit port _ _ => decide (port < 16)
  | .sapClockLoss port => decide (port < 16)
  | .sapClockPresent port => decide (port < 16)
  | .aesFrameReceive port _ _ s0 s1 _ => decide (port < 8) && s0.wf && s1.wf
  | .aesNosig port => decide (port < 8)
  | .aesSeek port => decide (port < 8)
  | .aesFrameTransmit port _ => decide (port < 8)
  | .peerOwnChange _ _ _ => true
  | .ownershipAssert _ => true
  | .ownAmbig => true
  | .heartbeatToggle => true
  | .hbEdge _ => true
  | .hbLoss => true
  | .laneLock lane _ => decide (lane < 8)
  | .hello h m => h.wf && m.wf
  | .helloSend => true
  | .helloTimeout => true
  | .downBlock => true
  | .inputMessage h _ _ => h.wf
  | .inputForwardTimeout => true
  | .mirrorMessage h _ mir _ _ => h.wf && decide (mir < 2 ^ 32)
  | .digestMessage h d => h.wf && d.wf
  | .cmdMessage h ticket words _ => h.wf && decide (ticket < 65536) && words.length == 16
  | .cmdack h ticket status reason => h.wf && decide (ticket < 65536) && decide (status < 256) && decide (reason < 256)
  | .take h _ ticket => h.wf && decide (ticket < 65536)
  | .takeTimeout => true
  | .roleMessage h arg role => h.wf && decide (arg < 3) && decide (role < 5)
  | .drvrec h l => h.wf && l.all DrvRecord.wf
  | .refreshMessage h _ _ => h.wf
  | .syncMessage h phase b => h.wf && decide (phase < 3) && b.wf
  | .baleMessage h slot off bytes => h.wf && decide (slot < 2) && decide (off + bytes.length ≤ 0x340000)
  | .rcdMessage h _ _ _ _ => h.wf
  | .nopMessage h => h.wf
  | .autoResyncStart _ => true
  | .handoverJwaitExpiry _ => true
  | .alignMissing => true
  | .hostMemoryAccessAnswer _ => true
  | .d3hotTransition _ => true
  | .armingWritesComplete => true
  | .debugPortTck _ _ _ _ => true

end Sys2Proof
end

