-- ==== Sys2Proof/Safety.lean ====
section
/-! DEFINITION. What counts as a well-formed state and a safe outcome: the canonical form of the register maps and of memory, and an
outcome that stops nothing. -/

namespace Sys2Proof.Machine

/-- The canonical form of memory: addresses rise strictly, and no entry equals what an unlisted address reads as. -/
def Memory.wf (m : MemState) : Bool := Sparse.wf (fun _ => 0) m.bytes

/-- The canonical form of the register maps and of memory. -/
def State.wf (s : State) : Bool :=
  Sparse.wf Reg.reset s.regs && Sparse.wf Reg.reset s.shadow && Memory.wf s.mem && Sparse.wf (fun _ => 0) s.mem.err

/-- What every command leaves as it was when it takes `s` to `t`: the variant and the queue; what has been sent outside stays sent, a
free value once drawn is never drawn again, and a canonical state stays canonical. -/
structure State.Keeps (s t : State) : Prop where
  variant : t.variant = s.variant
  pending : t.pending = s.pending
  out : s.out <+: t.out
  free : s.free ≤ t.free
  wf : s.wf = true → t.wf = true

/-- Every next state that an outcome answers keeps what `State.Keeps` says of `s`. -/
structure State.Leads (s : State) (o : Host.Outcome State Fault Refusal) : Prop where
  keeps : ∀ t, o = .next t → State.Keeps s t

/-- Every register bit outside the fields `fs` reads in `t` as in `s`. -/
def State.keptBut (fs : List Fld) (s t : State) : Prop :=
  ∀ f : Fld, f.lo + f.wid ≤ 32 → (∀ g ∈ fs, f.off ≠ g.off ∨ f.lo + f.wid ≤ g.lo ∨ g.lo + g.wid ≤ f.lo) → t.fld f = s.fld f

/-- The bundle of `c` is in issue, or is fetched without an uncorrectable error (R143): its operation runs. -/
def Stl.runs (c : OpCtx) (s : State) : Prop :=
  Stl.canIssue s c.stall = true ∧ ((s.stall c.stall).snap.isSome = true ∨
    Sparse.get (s.stall c.stall).progErr (4096 * Stl.bank s c.stall + (s.stall c.stall).pc) 0 ≠ 2)

/-- The bundle predicate of `c` is true (R108). -/
def Stl.holds (c : OpCtx) (s : State) : Prop := (s.src c.stall).predicate c.pk c.pneg = true

/-- The stall with its bundle in issue: the operands are the registers as they stood before its first operation (R109). -/
def Stall.begun (c : OpCtx) (x : Stall) : Stall :=
  match x.snap with
  | some _ => x
  | none => { x with snap := some x.rf, cyc := c.cyc }

/-- The stall after an operation of the bundle: the bundle completes with its last one. -/
def Stall.ended (c : OpCtx) (x : Stall) : Stall := if c.last then x.advance else x

/-- What a control, scalar or vector operation of `c` without a memory access can change beside the flags `fs`: its own stall; the fetch's
corrected-error count; and STL_SPAN with its maximum when a WAITF bundle completes. -/
def Stl.only (c : OpCtx) (fs : List Fld) (s t : State) : Prop :=
  t = { s with regs := t.regs, stalls := t.stalls } ∧ (∀ j, j ≠ c.stall → t.stall j = s.stall j) ∧
  State.keptBut (Reg.STL_PMEM_CORR c.stall :: Reg.STL_SPAN_LAST c.stall :: Reg.STL_SPAN_MAX_MAX c.stall :: fs) s t

/-- An operation of `c` takes `s` to `t`, changes nothing but its stall and the flags `fs`, and leaves the stall's registers so that `p`
holds of them. -/
def Stl.gives (c : OpCtx) (fs : List Fld) (p : RegFile → Prop) (s t : State) : Prop :=
  Stl.only c fs s t ∧ ∃ rf, t.stall c.stall = Stall.ended c { Stall.begun c (s.stall c.stall) with rf := rf } ∧ p rf

/-- G register `n` becomes `w`; every other register keeps its value. -/
def RegFile.setsG (r : RegFile) (n : Nat) (w : Word) (q : RegFile) : Prop :=
  q.gR n = w ∧ (∀ m, m ≠ n → q.gR m = r.gR m) ∧ q = { r with g := q.g }

/-- The elements `es` of V register `n` become `f e`; every other element and register keeps its value. -/
def RegFile.setsV (r : RegFile) (n : Nat) (es : Nat → Bool) (f : Nat → Word) (q : RegFile) : Prop :=
  (∀ e, e < 32 → q.vR n e = if es e then f e else r.vR n e) ∧
  (∀ m e, e < 32 → m ≠ n → q.vR m e = r.vR m e) ∧ q = { r with v := q.v }

/-- The elements `es` of accumulator `n` become `f e`; every other element and register keeps its value. -/
def RegFile.setsX (r : RegFile) (n : Nat) (es : Nat → Bool) (f : Nat → Acc) (q : RegFile) : Prop :=
  (∀ e, e < 32 → q.xR n e = if es e then f e else r.xR n e) ∧
  (∀ m e, e < 32 → m ≠ n → q.xR m e = r.xR m e) ∧ q = { r with x := q.x }

/-- Table 05-6: the register forms of the scalar ALU and their results before the reduction mod 2^32. -/
def Stl.aluTable : List ((OpCtx → Nat → Nat → Nat → Instr) × (Word → Word → Int)) :=
  [(.add, fun a b => a.toInt + b.toInt), (.sub, fun a b => a.toInt - b.toInt), (.mul, fun a b => a.toInt * b.toInt),
   (.mulh, fun a b => a.toInt * b.toInt / 2 ^ 32), (.min, fun a b => min a.toInt b.toInt), (.max, fun a b => max a.toInt b.toInt),
   (.minu, fun a b => min a.toNat b.toNat), (.maxu, fun a b => max a.toNat b.toNat), (.and, fun a b => (a &&& b).toNat),
   (.or, fun a b => (a ||| b).toNat), (.xor, fun a b => (a ^^^ b).toNat), (.andn, fun a b => (a &&& ~~~b).toNat),
   (.shl, fun a b => a.toNat * 2 ^ (b.toNat % 32)), (.shr, fun a b => a.toNat / 2 ^ (b.toNat % 32)),
   (.sra, fun a b => a.toInt / 2 ^ (b.toNat % 32)), (.seq, fun a b => if a = b then 1 else 0), (.sne, fun a b => if a = b then 0 else 1),
   (.slt, fun a b => if a.toInt < b.toInt then 1 else 0), (.sltu, fun a b => if a.toNat < b.toNat then 1 else 0),
   (.sle, fun a b => if a.toInt ≤ b.toInt then 1 else 0), (.sleu, fun a b => if a.toNat ≤ b.toNat then 1 else 0)]

/-- Table 05-6: the immediate forms of the scalar ALU. -/
def Stl.aluiTable : List ((OpCtx → Nat → Nat → Nat → Instr) × (Word → Word → Int)) :=
  [(.addi, fun a b => a.toInt + b.toInt), (.andi, fun a b => (a &&& b).toNat), (.ori, fun a b => (a ||| b).toNat),
   (.xori, fun a b => (a ^^^ b).toNat), (.shli, fun a b => a.toNat * 2 ^ (b.toNat % 32)), (.shri, fun a b => a.toNat / 2 ^ (b.toNat % 32)),
   (.srai, fun a b => a.toInt / 2 ^ (b.toNat % 32)), (.slti, fun a b => if a.toInt < b.toInt then 1 else 0)]

/-- The register that AREG `a` names becomes `w`, a write of K0 is discarded; every other register keeps its value. -/
def RegFile.setsA (r : RegFile) (a : Nat) (w : Word) (q : RegFile) : Prop :=
  (a = 32 → q = r) ∧ (a ≠ 32 → q.aR a = w) ∧ (∀ n, n < 40 → n ≠ a → q.aR n = r.aR n) ∧
  q = { r with p := q.p, b := q.b, l := q.l, m := q.m, k := q.k }

/-- R149: the four forms of BRC and their conditions on K[CK]. -/
def Stl.brcTable : List ((OpCtx → Nat → Nat → Instr) × (Word → Bool)) :=
  [(.brcAny, fun k => k != 0), (.brcNone, fun k => k == 0), (.brcAll, fun k => k == BitVec.allOnes 32),
   (.brcNall, fun k => k != BitVec.allOnes 32)]

/-- The operations of the control slot and of the load/store slots, which the bundle predicate governs (R108). -/
def Instr.governed (i : Instr) : Option OpCtx :=
  match i with
  | .waitf c | .sync c | .ret c | .br c _ | .brcAny c _ _ | .brcNone c _ _ | .brcAll c _ _ | .brcNall c _ _ | .call c _ | .loop c _ _
  | .loopi c _ _ | .add c _ _ _ | .sub c _ _ _ | .mul c _ _ _ | .mulh c _ _ _ | .min c _ _ _ | .max c _ _ _ | .minu c _ _ _
  | .maxu c _ _ _ | .and c _ _ _ | .or c _ _ _ | .xor c _ _ _ | .andn c _ _ _ | .shl c _ _ _ | .shr c _ _ _ | .sra c _ _ _
  | .seq c _ _ _ | .sne c _ _ _ | .slt c _ _ _ | .sltu c _ _ _ | .sle c _ _ _ | .sleu c _ _ _ | .addi c _ _ _ | .andi c _ _ _
  | .ori c _ _ _ | .xori c _ _ _ | .shli c _ _ _ | .shri c _ _ _ | .srai c _ _ _ | .slti c _ _ _ | .movi c _ _ | .movsh c _ _
  | .mova c _ _ _ | .ldV c _ | .stV c _ | .ldS c _ | .stS c _ | .ldb c _ | .stb c _ | .ldh c _ | .sth c _ | .busadd c _
  | .li c _ _ | .lih c _ _ => some c
  | _ => none

/-- The scoreboard holds the bundle of a load or a store of `s` (R139). -/
def Stl.waits (s : State) : Instr → Bool
  | .ldV c o => Stl.loadHeld s c o .loc
  | .ldb c o => Stl.loadHeld s c o .bst
  | .ldh c o => Stl.loadHeld s c o .hay
  | .ldS c _ => decide (16 ≤ (s.stall c.stall).loads.length)
  | .stV c o => Stl.storeHeld s c o .loc
  | .stb c o => Stl.storeHeld s c o .bst
  | .sth c o => Stl.storeHeld s c o .hay
  | .busadd c o => Stl.storeHeld s c o .bus
  | _ => false

/-- The control slot of the bundle of `c` will act as `a`: kept until the bundle completes, and done with its last operation. -/
def Stl.goes (c : OpCtx) (a : CtlAct) (s t : State) : Prop :=
  Stl.only c [] s t ∧ t.stall c.stall = Stall.ended c { Stall.begun c (s.stall c.stall) with ctl := some a }

/-- The command `i` of the bundle of `c` raises the stopping exception `cause` (R133, R134, R143, R144, R145; Table 04-20). -/
def Stl.raises (s : State) (c : OpCtx) (i : Instr) (cause : Nat) : Prop :=
  let x := s.stall c.stall
  let go := Stl.runs c s ∧ Stl.holds c s
  (i = .illegal c ∧ Stl.runs c s ∧ cause = 1) ∨ (i = .pmemUncorr c ∧ Stl.canIssue s c.stall = true ∧ cause = 2) ∨
  (i = .fetchEnd c ∧ c.stall < s.variant.stalls ∧ x.status = .running ∧ 4096 ≤ x.pc ∧ cause = 3) ∨
  (∃ target, i = .call c target ∧ go ∧ 8 ≤ x.rstack.length ∧ cause = 4) ∨ (i = .ret c ∧ go ∧ x.rstack = [] ∧ cause = 5) ∨
  (∃ gs last, i = .loop c gs last ∧ go ∧ (s.src c.stall).gR gs ≠ 0 ∧ 3 ≤ x.loops.length ∧ cause = 6) ∨
  (∃ n last, i = .loopi c n last ∧ go ∧ n ≠ 0 ∧ 3 ≤ x.loops.length ∧ cause = 6)

/-- As `Stl.only`, and the event unit may take an event of the stall's barn: its registers lie at 0x030000 to 0x03FFFF. -/
def Stl.onlyEv (c : OpCtx) (fs : List Fld) (s t : State) : Prop :=
  t = { s with regs := t.regs, stalls := t.stalls, evu := t.evu, out := t.out } ∧ (∀ j, j ≠ c.stall → t.stall j = s.stall j) ∧
  ∀ f : Fld, f.lo + f.wid ≤ 32 → f.off / 65536 ≠ 3 →
    (∀ g ∈ Reg.STL_PMEM_CORR c.stall :: Reg.STL_SPAN_LAST c.stall :: Reg.STL_SPAN_MAX_MAX c.stall :: fs,
      f.off ≠ g.off ∨ f.lo + f.wid ≤ g.lo ∨ g.lo + g.wid ≤ f.lo) → t.fld f = s.fld f

/-- The stall after an operation that leaves its registers so that `p` holds of them, and may note a saturation or a loss of the frame. -/
def Stl.notes (c : OpCtx) (p : RegFile → Prop) (s t : State) : Prop :=
  ∃ rf a b d, t.stall c.stall =
    Stall.ended c { Stall.begun c (s.stall c.stall) with rf := rf, frXsat := a, frXlost := b, frVsat := d } ∧ p rf

/-- Table 03-2: the real multiplies, with whether they clear the element first and whether they negate the product. -/
def Stl.macTable : List ((OpCtx → VxOp → Instr) × Bool × Bool) :=
  [(.vmul, true, false), (.vmac, false, false), (.vmacN, false, true)]

/-- Table 05-8: the complex multiplies with conj and neg. -/
def Stl.cmacTable : List ((OpCtx → VxOp → Nat → Instr) × Bool × Bool) :=
  [(.vcmac, false, false), (.vcmacC, true, false), (.vcmacN, false, true), (.vcmacCn, true, true)]

/-- Table 05-8: the read-outs with their output width and whether they clear the element. -/
def Stl.rdxTable : List ((OpCtx → VrOp → Instr) × Nat × Bool) :=
  [(.rdx, 32, false), (.rdxC, 32, true), (.rdxS24, 24, false), (.rdxCS24, 24, true)]

/-- R163: the comparisons of VCMP. -/
def Stl.vcmpTable : List ((OpCtx → Nat → Nat → Nat → Nat → Instr) × (Int → Int → Bool)) :=
  [(.vcmpEq, fun a b => a == b), (.vcmpNe, fun a b => a != b), (.vcmpLt, fun a b => decide (a < b)),
   (.vcmpLe, fun a b => decide (a ≤ b))]

/-- R164: the flags that XFLG copies. -/
def Stl.xflgTable : List ((OpCtx → Nat → Nat → Nat → Instr) × (Acc → Bool)) :=
  [(.xflgSat, fun x => x.sat), (.xflgLost, fun x => x.lost), (.xflgWrap, fun x => decide (x.wrap ≠ 0)),
   (.xflgOut, fun x => x.lost || decide (x.wrap ≠ 0))]

/-- The number that the 32 bits of word `w` have in the elements `es`, and `k` has elsewhere. -/
def RegFile.bitsOn (k : Word) (es f : Nat → Bool) (w : Word) : Prop :=
  ∀ e, e < 32 → w.toNat.testBit e = if es e then f e else k.toNat.testBit e

/-- R168: the envelope of lane `l` before its element `k`. -/
def Stl.envelope (r : RegFile) (o : VeOp) (m : EnvMode) (l : Nat) : Nat → Int
  | 0 => (r.vR o.vd (4 * l + m.seed)).toInt
  | k + 1 =>
    if r.enabled o.kp (4 * l + k) then
      Arith.envStep m ((r.vR o.vb (4 * l)).toNat % 2 ^ 16) ((r.vR o.vb (4 * l + 1)).toNat % 2 ^ 16) (Stl.envelope r o m l k)
        (r.vR o.va (4 * l + k)).toInt
    else Stl.envelope r o m l k

/-- The memory elements of an access by `c`: their addresses in the space and the enabled vector elements each serves. -/
def Stl.elements (s : State) (c : OpCtx) (o : LaOp) (sp : Space) : List (Nat × List Nat) :=
  Stl.vecElems (s.src c.stall) o (Stl.access s c.stall o sp true).1

/-- An element out of range raises no new record, and one in range lies in words without an error, which no store of this frame that is
not ordered before the access has touched. -/
def Stl.quiet (s : State) (c : OpCtx) (o : LaOp) (sp : Space) (as : List Nat) : Prop :=
  ∀ a ∈ as, if sp.outOfRange s.variant a o.size then s.flag (Reg.STL_EXC_ADDR c.stall) = true
    else (∀ b, b < o.size → Mem.err s (Mem.wordOf (sp.origin c.stall + a + b)) = 0) ∧
      (sp = .loc ∨ Mem.contested s c.stall (s.stall c.stall).syncRel s.mem.issued (sp.origin c.stall + a) o.size = false)

/-- The bytes that a load sees at MEMWIN address `a`: those of a local memory as they are; those of a shared space with every store of this
frame that is ordered before the load, so with the stall's own earlier ones (R128, R152). -/
def Stl.seen (s : State) (i : Nat) (sp : Space) (a n : Nat) : List Byte :=
  if sp = .loc then s.bytesAt a n else Mem.view s i (s.stall i).syncRel s.mem.issued 0 a n

/-- The word that a load gives for its element at address `a`: zero out of range (R120). -/
def Stl.loaded (s : State) (c : OpCtx) (o : LaOp) (sp : Space) (a : Nat) : Word :=
  if sp.outOfRange s.variant a o.size then 0 else o.extend (Arith.ofBytes (Stl.seen s c.stall sp (sp.origin c.stall + a) o.size))

/-- Every vector element that a memory element of `es` serves becomes `val` of its address; every other element and register keeps its
value. -/
def RegFile.setsL (r : RegFile) (n : Nat) (es : List (Nat × List Nat)) (val : Nat → Word) (q : RegFile) : Prop :=
  (∀ e ∈ es, ∀ d ∈ e.2, q.vR n d = val e.1) ∧ (∀ d, d < 32 → (∀ e ∈ es, d ∉ e.2) → q.vR n d = r.vR n d) ∧
  (∀ m d, d < 32 → m ≠ n → q.vR m d = r.vR m d) ∧ q = { r with v := q.v }

/-- The registers with the pointer of the access at its new value; PLAIN leaves it unchanged (R121). -/
def Stl.pointed (o : LaOp) (p : Word) (q : RegFile) : RegFile := if o.amode = .plain then q else q.pW o.pn p

/-- The cells that a store of `c` writes: the elements in range, with the element of the register each takes (R115, R120). -/
def Stl.cells (s : State) (c : OpCtx) (o : LaOp) (sp : Space) : List (Nat × List Byte) :=
  ((Stl.elements s c o sp).filter fun e => !sp.outOfRange s.variant e.1 o.size).map fun e =>
    (sp.origin c.stall + e.1, o.stored ((s.src c.stall).vR o.reg (e.2.headD 0)))

/-- The byte at `a` after the cells have been written in order over the byte `b`. -/
def Stl.cellByte (cells : List (Nat × List Byte)) (a : Nat) (b : Byte) : Byte :=
  cells.foldl (fun b e => if e.1 ≤ a ∧ a < e.1 + e.2.length then e.2.getD (a - e.1) 0 else b) b

/-- A store of `c` takes `s` to `t`: the cells are written and every other byte of memory keeps its value; nothing else changes but the
stall, the record of who stored in this frame, and the registers that an operation's issue may touch. -/
def Stl.stores (c : OpCtx) (cells : List (Nat × List Byte)) (s t : State) : Prop :=
  t = { s with regs := t.regs, stalls := t.stalls, mem := { s.mem with
      bytes := t.mem.bytes, err := t.mem.err, shared := t.mem.shared, before := t.mem.before, issued := t.mem.issued } } ∧
  (∀ j, j ≠ c.stall → t.stall j = s.stall j) ∧
  State.keptBut [Reg.STL_PMEM_CORR c.stall, Reg.STL_SPAN_LAST c.stall, Reg.STL_SPAN_MAX_MAX c.stall] s t ∧
  (∀ a, t.byte a = Stl.cellByte cells a (s.byte a)) ∧ ∀ w, Mem.err t w = Mem.err s w

/-- The addresses of the bytes of cells. -/
def Stl.cellAddrs (cells : List (Nat × List Byte)) : List Nat := cells.flatMap fun e => (List.range e.2.length).map (e.1 + ·)

/-- The number that the low `n` bits of `x` spell in reversed order. -/
def Addr.rev (x : Nat) : Nat → Nat
  | 0 => 0
  | n + 1 => 2 * Addr.rev x n + x / 2 ^ n % 2

/-- A command of opcode `op` starts from descriptor `d` of this device: it heads its queue, which is free, it is not forwarded to a peer, and
the role lets it start (R325, R326). -/
def Cmd.starts (s : State) (op : Nat) (d : Desc) : Prop :=
  Cmd.head s (Cmd.isLong op) = some d ∧ d.op = op ∧ d.peer = false ∧ d.sent = false ∧ Cmd.mirrors s d = false ∧
  (Cmd.mirrored op = true → d.isLocal = true ∨ (s.role ≠ 2 ∧ s.role ≠ 4))

/-- The queues from `s` to `t` when the command of opcode `op` has been taken off its queue. -/
def Cmd.popped (s : State) (op : Nat) (t : State) : Prop :=
  if Cmd.isLong op then t.cmd.long = s.cmd.long.drop 1 ∧ t.cmd.short = s.cmd.short
  else t.cmd.short = s.cmd.short.drop 1 ∧ t.cmd.long = s.cmd.long

/-- The completion record of `d` stands in CMD_LOG (Table 10-8), and its ticket is closed where the ring is not enabled (R324, R333). -/
def Cmd.recorded (s : State) (d : Desc) (adj : Bool) (status reason : Nat) (res : List Nat) (t : State) : Prop :=
  (∀ i, i < 8 → t.reg (0x048000 + 32 * (d.ticket % 1024) + 4 * i) =
    (Cmd.words d.ticket d.op (d.word 1) adj status reason res (0xFF, 0)).getD i 0) ∧
  (s.flag Reg.CMD_RING_CTL_EN = false → ∀ x ∈ t.cmd.openT, x.1 ≠ d.ticket)

/-- The command `d` has left its queue and is recorded. -/
def Cmd.completed (s : State) (d : Desc) (adj : Bool) (status reason : Nat) (res : List Nat) (t : State) : Prop :=
  Cmd.recorded s d adj status reason res t ∧ Cmd.popped s d.op t

/-- What a command changes that has no effect but its completion: the registers of the command processor (0x04xxxx) and the event unit
(0x03xxxx), the discards of crossing 2 (R63), the mirror of CMD_LOG in the saddlebag, and the queues; what it sends outside. -/
def Cmd.only (s t : State) : Prop :=
  t = { s with regs := t.regs, mem := { s.mem with bytes := t.mem.bytes, err := t.mem.err }, cmd := t.cmd, evu := t.evu, out := t.out } ∧
  (∀ off, off / 65536 ≠ 3 → off / 65536 ≠ 4 → off ≠ (Reg.CLK_XDISC_DISCARD 2).off → t.reg off = s.reg off) ∧
  ∀ a, a < 0x9010000 ∨ 0x9018000 ≤ a → t.byte a = s.byte a ∧ Mem.err t a = Mem.err s a

/-- The event unit sends a request for vector `v` at once (R342). -/
def Evu.sendsAt (s : State) (v : Nat) : Prop :=
  s.evu.enable = true ∧ Evu.shut s v = false ∧ s.canSend = true ∧ (Evu.vec s v).hold = false

/-- What becomes of a request for vector `v` between `s` and `t` (R342): sent, left in the pending bit array, kept until the hold interval
ends, or dropped while MSI-X is disabled. -/
def Evu.requested (v : Nat) (s t : State) : Prop :=
  (Evu.sendsAt s v → .msix v ∈ t.out.drop s.out.length) ∧
  (s.evu.enable = true → (Evu.vec s v).hold = false → Evu.shut s v = true →
    t.evu.pba.testBit v = true) ∧
  (s.evu.enable = true → (Evu.vec s v).hold = true → (Evu.vec t v).wait = true)

/-- Only the event unit changes: its registers (0x03xxxx) and records, and what it sends or crossing 2 discards (R63). -/
def Evu.only (s t : State) : Prop :=
  t = { s with regs := t.regs, evu := t.evu, out := t.out } ∧
  (∀ off, off / 65536 ≠ 3 → off ≠ (Reg.CLK_XDISC_DISCARD 2).off → t.reg off = s.reg off) ∧
  (s.evu.enable = false → t.out = s.out ∧ t.evu = s.evu)

/-- Source `n` is at rest and not masked, so that leaving good is recorded (R459, R472, R476). -/
def Fc.ready (s : State) (n : Nat) : Prop :=
  Fc.present s.variant n = true ∧ n < 192 ∧ (s.fcSrc n).pair = 1 ∧ ((s.fcSrc n).st = .idle ∨ (s.fcSrc n).st = .held) ∧
  Fc.masked s n = false ∧ Fc.aonLost s = false

/-- Source `n` has left good: its FC_PEND bit is set, and it takes the first-fault record where that was free (R474, R476). -/
def Fc.noted (s : State) (n : Nat) (t : State) : Prop :=
  t.vecBit 0x020020 n = true ∧ (s.flag Reg.FC_FIRST_VALID = false → t.flag Reg.FC_FIRST_VALID = true ∧ t.fld Reg.FC_FIRST_SRC = n)

/-- The byte at `a` after single bytes have been written in order over the byte `b`. -/
def Mem.lastByte (cells : List (Nat × Byte)) (a : Nat) (b : Byte) : Byte := cells.foldl (fun b c => if c.1 = a then c.2 else b) b

/-- Only registers change, and of these only bits of the fields `fs`. -/
def State.onlyRegs (fs : List Fld) (s t : State) : Prop := t = { s with regs := t.regs } ∧ State.keptBut fs s t

/-- A DECODE or NOPATH response to an access of master `m` at `a` is recorded in MTX_ERR, `code` 1 or 2 (R235): the first one whole, another
as an overflow. -/
def Mtx.noted (code m : Nat) (write : Bool) (a : Nat) (s t : State) : Prop :=
  t = { s with regs := t.regs, evu := t.evu, out := t.out, mtx := { s.mtx with queue := t.mtx.queue } } ∧
  t.flag Reg.MTX_ERR_VALID = true ∧
  (s.flag Reg.MTX_ERR_VALID = false → t.fld Reg.MTX_ERR_CODE = code ∧ t.fld Reg.MTX_ERR_MASTER = m % 16 ∧
    t.fld Reg.MTX_ERR_ADDR_ADDR = a % 2 ^ 32 ∧ t.flag Reg.MTX_ERR_WRITE = write ∧ t.fld Reg.MTX_ERR_TARGET = Mtx.target a) ∧
  (s.flag Reg.MTX_ERR_VALID = true → t.flag Reg.MTX_ERR_OVF = true ∧
    t.fld Reg.MTX_ERR_COUNT = min (s.fld Reg.MTX_ERR_COUNT + 1) Reg.MTX_ERR_COUNT.max)

/-- The request waits in the queue of the matrix, with the time it has waited; nothing else changes. -/
def Mtx.queued (r : MtxReq) (waited : Nat) (s t : State) : Prop :=
  t = { s with mtx := { s.mtx with queue := t.mtx.queue } } ∧ ⟨r, waited⟩ ∈ t.mtx.queue

/-- Every address of the request lies in the hayloft, a barn store or a local memory, in words without an error. -/
def Mtx.plain (s : State) (r : MtxReq) : Prop :=
  ∀ c ∈ r.cells, Mtx.target c.1 ≤ 13 ∧ Mtx.inProg c.1 = false ∧ Mem.err s (Mem.wordOf c.1) = 0

/-- The words that a read of such a request returns. -/
def Mtx.shown (s : State) (r : MtxReq) : List (Nat × Word) :=
  (Mtx.words r.cells).map fun a => (a, BitVec.ofNat 32 (Arith.ofBytes (s.bytesAt a 4)))

/-- Such a request has taken effect: a write has left its bytes, and the host's only while no boundary is struck (R196); a read has changed no
memory. -/
def Mtx.effected (s : State) (r : MtxReq) (t : State) : Prop :=
  t.stalls = s.stalls ∧ (r.write = false → t.mem = s.mem) ∧
  (r.write = true → r.master ≠ 8 ∨ s.running = false → ∀ x, t.byte x = Mem.lastByte r.cells x (s.byte x)) ∧
  (r.write = true → r.master = 8 → s.running = true → t.mem = s.mem)

/-- Every register outside the 64 KiB pages `ps` reads in `t` as in `s`. -/
def State.pagesKept (ps : List Nat) (s t : State) : Prop := ∀ off, off / 65536 ∉ ps → t.reg off = s.reg off

/-- The whole device is in reset (R525, R529): every register outside the fuses and the peer's pins is at its reset value, every block's
record is that of reset, and what the tack room's writer keeps stays. -/
def Power.cleared (s t : State) : Prop :=
  (∀ off, off ∉ [0x000330, 0x0D0008, 0x060048, 0x06004C] → t.reg off = Reg.reset off) ∧ t.reg 0x000330 = s.reg 0x000330 ∧
  t.fld Reg.NSW_SRC_MAC_LO = s.pwr.mac % 2 ^ 32 ∧ t.fld Reg.NSW_SRC_MAC_HI = s.pwr.mac / 2 ^ 32 % 2 ^ 16 ∧
  t.stalls = [] ∧ t.cmd = State.reset.cmd ∧ t.bale = State.reset.bale ∧ t.fc = State.reset.fc ∧ t.clk = State.reset.clk ∧
  t.evu = State.reset.evu ∧ t.tkp = State.reset.tkp ∧ t.nsw = State.reset.nsw ∧ t.sap = State.reset.sap ∧ t.sfb = State.reset.sfb ∧
  t.drv = State.reset.drv ∧ t.graph = State.reset.graph ∧ t.twn = State.reset.twn ∧ t.mtx = State.reset.mtx ∧ t.rcd = State.reset.rcd ∧
  t.shadow = [] ∧ t.phase = .none ∧ t.pwr.image = s.pwr.image ∧ t.pwr.persist = s.pwr.persist ∧ t.pwr.stage = 0

/-- The device has left its reset (R529): the straps are sampled, the record of the last publication shows, a whole boot is due. -/
def Power.released (sel : Nat) (senior : Bool) (s t : State) : Prop :=
  t.pwr.sel = sel ∧ t.pwr.stage = 0 ∧ t.fld Reg.PWR_BOOT_SEL = sel % 4 ∧ t.flag Reg.TWN_ST_SENIOR = (senior && s.variant.tether) ∧
  t.reg64 0x000400 = s.pwr.persist.gen % 2 ^ 64

/-- The ROOT values of the two devices in the most recent records with an equal K (R310). -/
def Rcd.common (s : State) : Option (Nat × Nat) :=
  s.rcd.own.findSome? fun o => (s.rcd.peer.find? fun p => p.2.1 = o.1).map fun p => (o.2, p.2.2.1)

/-- Every port that `mask` selects and that held no frame in `s` holds one with the headers `head` and `body` in queue `q` in `t`, with the
sequence number of its redundant pair. -/
def Egress.queues (mask q : Nat) (head : EgHead) (body : EgBody) (s t : State) : Prop :=
  ∀ p ∈ Egress.ports s mask, Egress.held s p = [] →
    ∃ f ∈ Egress.held t p, f.head = some head ∧ f.body = body ∧ f.queue = q ∧ f.red = Egress.red s (p / 2)

/-- The counter field `f` counts one from `s` to `t` and saturates (R17). -/
def State.counts (f : Fld) (s t : State) : Prop := t.fld f = min (s.fld f + 1) f.max

/-- The fault levels of the twin unit agree with its state (R490, R493, R498, R503). -/
def Twn.shown (s : State) : Prop :=
  (s.fcSrc 70).pair = (if s.twn.wasUp && !Tth.up s then 2 else 1) ∧ (s.fcSrc 72).pair = (if s.twn.ambig then 2 else 1) ∧
  (s.fcSrc 73).pair = (if s.twn.wasHb && !s.flag Reg.TWN_ST_HB_OK then 2 else 1) ∧ (s.fcSrc 74).pair = if Twn.capDiffers s then 2 else 1

/-- A block with header `h` reaches a link that is UP and lacks nothing in either direction: it is the next in order, arrives whole with a
TYPE that is assigned, asks for nothing to be resent, and is not the sixteenth since the last acknowledgement (R500 to R502). -/
def Twn.clean (h : TthHdr) (s : State) : Prop :=
  s.fld Reg.TWN_ST_LINK = 2 ∧ Twn.intact h = true ∧ h.known = true ∧ h.seq = s.twn.rxNext ∧ h.nak = none ∧ s.twn.held = [] ∧
  s.twn.wait = [] ∧ s.twn.rxCount + 1 < 16

/-- The state once the header of a clean block has been taken in (R502). -/
def Twn.heard (h : TthHdr) (s : State) : State :=
  { s with twn := { s.twn with
      crcRun := 0, naks := s.twn.naks.filter fun q => q ≠ h.seq, rxNext := (h.seq + 1) % 2 ^ 32, rxCount := s.twn.rxCount + 1 } }

/-- An outcome that is a next state. -/
def Outcome.safe (o : Host.Outcome State Fault Refusal) : Bool :=
  match o with
  | .next _ => true
  | _ => false

end Sys2Proof.Machine
end

