-- ==== Sys2Proof/Certificates/Slice0/Obligations.lean ====
section
/-! DEFINITION. What is claimed of the model: one `Obligations.<Name> : Prop` per statement, each citing the rules of spec/ it states. -/

open Sys2Proof Sys2Proof.Machine

/-- A step runs the command at the front of the queue on the state with the queue's rest; on an empty queue the block idles (the model's
choice, log entry 41). -/
def Obligations.StepRunsFront : Prop :=
  (∀ (c : Instr) (rest : List Instr) (s : State), step { s with pending := c :: rest } = exec c { s with pending := rest }) ∧
  ∀ s : State, s.pending = [] → step s = .next s

/-- The state after reset is canonical, its queue is empty, no byte of memory is listed, and every register word has the reset value of its
row. -/
def Obligations.ResetState : Prop :=
  State.reset.wf = true ∧ State.reset.pending = [] ∧ (∀ a, State.reset.byte a = 0) ∧
  (∀ off, State.reset.reg off = Reg.reset off ∧ State.reset.shReg off = Reg.reset off) ∧
  (∀ i, State.reset.stall i = {}) ∧ State.reset.running = false ∧ State.reset.out = []

/-- A step from a canonical state leads to a canonical state: the register maps, the memory and its error marks keep their one form. -/
def Obligations.StepKeepsCanonicalForm : Prop := ∀ s t : State, s.wf = true → step s = .next t → t.wf = true

/-- Whatever the command and the state, the command answers a next state: no command stops with a fault or a refusal. It keeps the
variant and the queue, takes back nothing that has been sent, and never draws a free value again. -/
def Obligations.EveryCommandAnswers : Prop :=
  ∀ (c : Instr) (s : State), ∃ t, exec c s = .next t ∧ t.variant = s.variant ∧ t.pending = s.pending ∧ s.out <+: t.out ∧ s.free ≤ t.free

/-- R154 to R157, R114, Table 05-6: a scalar operation of two registers, the immediate forms of the scalar ALU, MOVI and MOVSH write their
result mod 2^32 to G[GD] and nothing else. -/
def Obligations.ScalarOperationResults : Prop :=
  (∀ p ∈ Stl.aluTable, ∀ (c : OpCtx) (gd ga gb : Nat) (s : State), Stl.runs c s → Stl.holds c s →
     ∃ t, exec (p.1 c gd ga gb) s = .next t ∧
       Stl.gives c [] (RegFile.setsG (s.stall c.stall).rf gd
         (BitVec.ofInt 32 (p.2 ((s.src c.stall).gR ga) ((s.src c.stall).gR gb)))) s t) ∧
  (∀ (c : OpCtx) (gd ga imm : Nat) (s : State), Stl.runs c s → Stl.holds c s →
     (∀ p ∈ Stl.aluiTable, imm < 2 ^ 8 → ∃ t, exec (p.1 c gd ga imm) s = .next t ∧
       Stl.gives c [] (RegFile.setsG (s.stall c.stall).rf gd
         (BitVec.ofInt 32 (p.2 ((s.src c.stall).gR ga) (BitVec.ofInt 32 (BitVec.ofNat 8 imm).toInt)))) s t) ∧
     (imm < 2 ^ 13 → (∃ t, exec (.movi c gd imm) s = .next t ∧
       Stl.gives c [] (RegFile.setsG (s.stall c.stall).rf gd (BitVec.ofInt 32 (BitVec.ofNat 13 imm).toInt)) s t) ∧
       ∃ t, exec (.movsh c gd imm) s = .next t ∧
         Stl.gives c [] (RegFile.setsG (s.stall c.stall).rf gd
           (BitVec.ofNat 32 (((s.src c.stall).gR gd).toNat * 2 ^ 13 + imm))) s t))

/-- R157, R114, R78: MOVA moves between a G register and the register AREG names; LI and LIH write the register AREG names. AREG counts
P0 to P7, B0 to B7, L0 to L7, M0 to M7, K0 to K7; a write of K0 is discarded, and K0 reads all ones. -/
def Obligations.AddressRegisterMoves : Prop :=
  ∀ (c : OpCtx) (areg g imm : Nat) (s : State), Stl.runs c s → Stl.holds c s → areg < 40 →
    (∃ t, exec (.mova c areg g true) s = .next t ∧
      Stl.gives c [] (RegFile.setsG (s.stall c.stall).rf g ((s.src c.stall).aR areg)) s t) ∧
    (∃ t, exec (.mova c areg g false) s = .next t ∧
      Stl.gives c [] (RegFile.setsA (s.stall c.stall).rf areg ((s.src c.stall).gR g)) s t) ∧
    (areg < 32 → imm < 2 ^ 18 → ∃ t, exec (.li c areg imm) s = .next t ∧
      Stl.gives c [] (RegFile.setsA (s.stall c.stall).rf areg
        (if 24 ≤ areg then BitVec.ofInt 32 (BitVec.ofNat 18 imm).toInt else BitVec.ofNat 32 imm)) s t) ∧
    (areg < 32 → imm < 2 ^ 14 → ∃ t, exec (.lih c areg imm) s = .next t ∧
      Stl.gives c [] (RegFile.setsA (s.stall c.stall).rf areg
        (BitVec.ofNat 32 (imm * 2 ^ 18 + ((s.src c.stall).aR areg).toNat % 2 ^ 18))) s t)

/-- R107, R108, R136: under a false bundle predicate an operation of the control slot or of a load/store slot that the scoreboard does not
hold only issues: the bundle goes on, and completes with its last operation. An empty bundle only issues: the stall goes on by the loop test,
and no register, no memory and no other stall changes. -/
def Obligations.FalseAndEmptyBundlesOnlyIssue : Prop :=
  (∀ (i : Instr) (c : OpCtx) (s : State), Instr.governed i = some c → Stl.runs c s → (s.src c.stall).predicate c.pk c.pneg = false →
     Stl.waits s i = false → ∃ t, exec i s = .next t ∧ Stl.gives c [] (fun rf => rf = (s.stall c.stall).rf) s t) ∧
  (∀ (c : OpCtx) (s : State), Stl.runs c s → (s.stall c.stall).ctl = none →
     ∃ t, exec (.nopBundle c) s = .next t ∧ Stl.only c [] s t ∧ (t.stall c.stall).rf = (s.stall c.stall).rf ∧
       (t.stall c.stall).snap = none ∧ (t.stall c.stall).status = .running ∧
       ((t.stall c.stall).loops, (t.stall c.stall).pc) =
         Stl.loopEnd (s.stall c.stall).pc (s.stall c.stall).rstack.length (s.stall c.stall).loops)

/-- R132, R133, R137, R149: BR and a taken BRC.ANY, BRC.NONE, BRC.ALL or BRC.NALL go to TARGET and leave the loops that do not hold it; a BRC
that is not taken only issues; CALL goes to TARGET and RET back to the bundle after the call. The transfer happens when the bundle
completes, so with its last operation; before that it is kept. -/
def Obligations.ControlTransfersGo : Prop :=
  ∀ (c : OpCtx) (ck target : Nat) (s : State), Stl.runs c s → Stl.holds c s →
    let x := s.stall c.stall
    let k := (s.src c.stall).kR ck
    let taken (i : Instr) : Prop := ∃ t, exec i s = .next t ∧ Stl.goes c (.branch target) s t ∧
      (c.last = true → (t.stall c.stall).pc = target ∧ (t.stall c.stall).status = .running ∧ (t.stall c.stall).rstack = x.rstack ∧
        (t.stall c.stall).loops = Stl.popLoops target x.rstack.length x.loops)
    let passed (i : Instr) : Prop := ∃ t, exec i s = .next t ∧ Stl.gives c [] (fun rf => rf = x.rf) s t
    taken (.br c target) ∧
    (k ≠ 0 → taken (.brcAny c ck target)) ∧ (k = 0 → passed (.brcAny c ck target)) ∧
    (k = 0 → taken (.brcNone c ck target)) ∧ (k ≠ 0 → passed (.brcNone c ck target)) ∧
    (k = BitVec.allOnes 32 → taken (.brcAll c ck target)) ∧ (k ≠ BitVec.allOnes 32 → passed (.brcAll c ck target)) ∧
    (k ≠ BitVec.allOnes 32 → taken (.brcNall c ck target)) ∧ (k = BitVec.allOnes 32 → passed (.brcNall c ck target)) ∧
    (x.rstack.length < 8 → ∃ t, exec (.call c target) s = .next t ∧ Stl.goes c (.call target) s t ∧
      (c.last = true → (t.stall c.stall).pc = target ∧ (t.stall c.stall).status = .running ∧
        (t.stall c.stall).rstack = (x.pc + 1) :: x.rstack ∧ (t.stall c.stall).loops = x.loops)) ∧
    (∀ a as, x.rstack = a :: as → ∃ t, exec (.ret c) s = .next t ∧ Stl.goes c .ret s t ∧
      (c.last = true → (t.stall c.stall).pc = a ∧ (t.stall c.stall).status = .running ∧ (t.stall c.stall).rstack = as ∧
        (t.stall c.stall).loops = x.loops))

/-- R134, R135, R136, R150: LOOP counts G[GS] and LOOPI its immediate. With a count above 0 it pushes an entry for the bundles from the next
one to END and goes on; LOOP with a count of 0 goes past END. WAITF ends the stall's work for the frame when its bundle completes, and
STL_SPAN shows the span. -/
def Obligations.LoopsAndWaitf : Prop :=
  ∀ (c : OpCtx) (gs count last : Nat) (s : State), Stl.runs c s → Stl.holds c s →
    let x := s.stall c.stall
    let starts (i : Instr) (n : Nat) : Prop := ∃ t, exec i s = .next t ∧ Stl.goes c (.loopPush last n) s t ∧
      (c.last = true → (t.stall c.stall).pc = x.pc + 1 ∧ (t.stall c.stall).status = .running ∧ (t.stall c.stall).rstack = x.rstack ∧
        (t.stall c.stall).loops = ⟨x.pc + 1, last, n, x.rstack.length⟩ :: x.loops)
    let n := ((s.src c.stall).gR gs).toNat
    (n = 0 → ∃ t, exec (.loop c gs last) s = .next t ∧ Stl.goes c (.loopSkip last) s t ∧
      (c.last = true → (t.stall c.stall).pc = last + 1 ∧ (t.stall c.stall).status = .running ∧ (t.stall c.stall).loops = x.loops)) ∧
    (0 < n → x.loops.length < 3 → starts (.loop c gs last) n) ∧
    (1 ≤ count → count ≤ 64 → x.loops.length < 3 → starts (.loopi c count last) count) ∧
    (∃ t, exec (.waitf c) s = .next t ∧ Stl.goes c .waitf s t ∧
      (c.last = true → (t.stall c.stall).status = .waitf ∧ (t.stall c.stall).pc = x.pc + 1 ∧
        t.fld (Reg.STL_SPAN_LAST c.stall) = ((Stall.begun c x).cyc - s.windowOpen) % 2 ^ 19))

/-- R151, R153: SYNC makes the next arrival and holds the stall; once the conditions of R151 hold, the bundle issues. -/
def Obligations.SyncHoldsAndReleases : Prop :=
  ∀ (c : OpCtx) (s : State),
    (Stl.runs c s → Stl.holds c s → ∃ t, exec (.sync c) s = .next t ∧ Stl.only c [] s t ∧
      (t.stall c.stall).status = .atSync ∧ (t.stall c.stall).syncCnt = (s.stall c.stall).syncCnt + 1 ∧
      (t.stall c.stall).pc = (s.stall c.stall).pc ∧ (t.stall c.stall).rf = (s.stall c.stall).rf) ∧
    ((s.stall c.stall).status = .atSync → Stl.syncReady s c.stall = true → ∃ t, exec (.syncRelease c) s = .next t ∧ Stl.only c [] s t ∧
      (t.stall c.stall).syncRel = (s.stall c.stall).syncCnt ∧ (t.stall c.stall).rf = (s.stall c.stall).rf ∧
      (c.last = false → (t.stall c.stall).status = .running ∧ (t.stall c.stall).pc = (s.stall c.stall).pc) ∧
      (c.last = true → (s.stall c.stall).ctl = none → (t.stall c.stall).status = .running ∧
        ((t.stall c.stall).loops, (t.stall c.stall).pc) =
          Stl.loopEnd (s.stall c.stall).pc (s.stall c.stall).rstack.length (s.stall c.stall).loops))

/-- R144, R145, R146: a stopping exception of a stall whose record is free stops the stall for the frame and records the cause with the
frame, the bank and the bundle address; where the record is taken it is counted. No register of the stall and no other stall changes. -/
def Obligations.StoppingExceptions : Prop :=
  ∀ (c : OpCtx) (i : Instr) (cause : Nat) (s : State), Stl.raises s c i cause →
    (s.flag (Reg.STL_EXC_VALID c.stall) = false → ∃ u, exec i s = .next (Stl.excReport u c.stall) ∧
      (u.stall c.stall).status = .exception ∧ u.flag (Reg.STL_EXC_VALID c.stall) = true ∧ u.fld (Reg.STL_EXC_CAUSE c.stall) = cause ∧
      u.fld (Reg.STL_EXC_LOC_FRAME c.stall) = s.frameNo % 2 ^ 16 ∧ u.fld (Reg.STL_EXC_LOC_BANK c.stall) = Stl.bank s c.stall ∧
      u.fld (Reg.STL_EXC_LOC_ADDR c.stall) = min (s.stall c.stall).pc 4095 ∧ u.mem = s.mem ∧
      (u.stall c.stall).rf = (s.stall c.stall).rf ∧ ∀ j, j ≠ c.stall → u.stall j = s.stall j) ∧
    (s.flag (Reg.STL_EXC_VALID c.stall) = true → ∃ t, exec i s = .next t ∧ (t.stall c.stall).status = .exception ∧
      t.flag (Reg.STL_EXC_OVF c.stall) = true ∧
      t.fld (Reg.STL_EXC_COUNT c.stall) = min (s.fld (Reg.STL_EXC_COUNT c.stall) + 1) 255 ∧
      t.fld (Reg.STL_EXC_CAUSE c.stall) = s.fld (Reg.STL_EXC_CAUSE c.stall) ∧ t.mem = s.mem ∧
      (t.stall c.stall).rf = (s.stall c.stall).rf ∧ ∀ j, j ≠ c.stall → t.stall j = s.stall j)

/-- R106 to R118: a bundle that a bale may hold spells one command for each of its slots that is not empty, in the order CTL, LS0, LS1, VEC,
and a no-operation bundle where all are; each command is well formed. Any other bundle is the exception ILLEGAL (R142). The bundle of Table
04-10, and one with four operations written out from Tables 04-1 to 04-9, spell what the tables say. -/
def Obligations.BundlesSpellTheirOperations : Prop :=
  (∀ (i cyc w : Nat), i < 48 → Enc.bundleOk w = true →
    (Enc.commands i cyc w).length = max 1 ((List.range 4).countP fun j => w.testBit (124 + j)) ∧
    ∀ c ∈ Enc.commands i cyc w, Instr.wf c = true) ∧
  (∀ (i cyc w : Nat), Enc.bundleOk w = false → Enc.commands i cyc w = [.illegal ⟨i, cyc, Enc.fld w 120 3, w.testBit 123, true⟩]) ∧
  (∀ (i cyc : Nat), Enc.commands i cyc 0x50000000091128000000002044300000 =
    [.ldV ⟨i, cyc, 0, false, false⟩ ⟨false, 4, 2, 1, .postm, true, .cont, 0⟩, .vmac ⟨i, cyc, 0, false, true⟩ ⟨2, 4, 6, 0, .elemw⟩]) ∧
  ∀ (i cyc : Nat), Enc.commands i cyc 0xfb154abc826a5a531d803524a6419780 =
    [.brcNone ⟨i, cyc, 3, true, false⟩ 2 0xABC, .li ⟨i, cyc, 3, true, false⟩ 9 0x2A5A5,
      .stb ⟨i, cyc, 3, true, false⟩ ⟨true, 7, 3, 0, .plain, false, .lane8 2, 5⟩,
      .vcmacC ⟨i, cyc, 3, true, true⟩ ⟨5, 6, 8, 1, .glob 3 1⟩ 1]

/-- R81, R77, R84, R92, Table 03-2: VMUL, VMAC and VMAC.N add the exact product, or its negative, into every enabled accumulator element, by
acc with w = 72; XLOST is set when an element becomes lost, and a disabled element keeps its value and flags. The bundle issues once no load
into VA or VB is in flight (R139), and with no residue injection armed (for an armed one see the error records). -/
def Obligations.MultiplyAccumulateResults : Prop :=
  ∀ p ∈ Stl.macTable, ∀ (c : OpCtx) (o : VxOp) (s : State), Stl.runs c s → Stl.awaits s c.stall [o.va, o.vb] = false →
    s.flag (Reg.STL_RESIDUE_CTL_ARMED c.stall) = false →
    let r := s.src c.stall
    let old (e : Nat) : Acc := if p.2.1 then {} else (s.stall c.stall).rf.xR o.xd e
    let prod (e : Nat) : Int := (r.vR o.va e).toInt * (r.bElem o.vb o.b e).toInt
    let new (e : Nat) : Acc := (old e).add (if p.2.2 then -prod e else prod e) 72
    ∃ t, exec (p.1 c o) s = .next t ∧ Stl.onlyEv c [Reg.STL_ARITH_XLOST c.stall] s t ∧
      Stl.notes c (RegFile.setsX (s.stall c.stall).rf o.xd (r.enabled o.kp) new) s t ∧
      t.flag (Reg.STL_ARITH_XLOST c.stall) = (s.flag (Reg.STL_ARITH_XLOST c.stall) ||
        (List.range 32).any fun e => r.enabled o.kp e && !(old e).lost && (new e).lost)

/-- R82, R77: VCMAC in its four forms adds the parts of a complex product into the pair of half h of every lane whose even element is
enabled; the other half and every other register keep their values. -/
def Obligations.ComplexMultiplyResults : Prop :=
  ∀ p ∈ Stl.cmacTable, ∀ (c : OpCtx) (o : VxOp) (h : Nat) (s : State), h < 2 → Stl.runs c s →
    Stl.awaits s c.stall [o.va, o.vb] = false → s.flag (Reg.STL_RESIDUE_CTL_ARMED c.stall) = false →
    let r := s.src c.stall
    let ar (l : Nat) := (r.vR o.va (4 * l + 2 * h)).toInt
    let ai (l : Nat) := (r.vR o.va (4 * l + 2 * h + 1)).toInt
    let b (l : Nat) := r.bPair o.vb o.b l h
    let cs : Int := if p.2.1 then -1 else 1
    let sg : Int := if p.2.2 then -1 else 1
    let re (l : Nat) := sg * (ar l * (b l).1 - cs * (ai l * (b l).2))
    let im (l : Nat) := sg * (ai l * (b l).1 + cs * (ar l * (b l).2))
    let on (e : Nat) := e / 2 % 2 == h && r.enabled o.kp (4 * (e / 4) + 2 * h)
    let old (e : Nat) : Acc := (s.stall c.stall).rf.xR o.xd e
    let new (e : Nat) : Acc := (old e).add (if e % 2 = 0 then re (e / 4) else im (e / 4)) 72
    ∃ t, exec (p.1 c o h) s = .next t ∧ Stl.onlyEv c [Reg.STL_ARITH_XLOST c.stall] s t ∧
      Stl.notes c (RegFile.setsX (s.stall c.stall).rf o.xd on new) s t ∧
      t.flag (Reg.STL_ARITH_XLOST c.stall) = (s.flag (Reg.STL_ARITH_XLOST c.stall) ||
        (List.range 32).any fun e => on e && !(old e).lost && (new e).lost)

/-- R90, R91, R92, R81: RDX in its four forms writes the rounded and saturated read-out of every enabled element and leaves the element
unchanged apart from SAT, or clears it; XSAT is set when a read-out saturates. CLRX clears the enabled elements. -/
def Obligations.ReadOutResults : Prop :=
  ∀ (c : OpCtx) (s : State), Stl.runs c s →
    (∀ p ∈ Stl.rdxTable, ∀ o : VrOp, Stl.awaits s c.stall [o.vd] = false →
      let r := s.src c.stall
      let x (e : Nat) : Acc := (s.stall c.stall).rf.xR o.xs e
      let hi : Int := 2 ^ (p.2.1 - 1) - 1
      let out (e : Nat) : Bool := (x e).lost || decide ((x e).wrap ≠ 0)
      let q (e : Nat) : Int := Arith.conv (x e).v o.sh
      let sat (e : Nat) : Bool := out e || decide (hi < q e) || decide (q e < -hi - 1)
      let val (e : Nat) : Int := if out e then (if 0 < (x e).wrap then hi else -hi - 1) else max (-hi - 1) (min hi (q e))
      ∃ t, exec (p.1 c o) s = .next t ∧ Stl.only c [Reg.STL_ARITH_XSAT c.stall] s t ∧
        Stl.notes c (fun rf => ∃ q1, RegFile.setsV (s.stall c.stall).rf o.vd (r.enabled o.kp) (fun e => BitVec.ofInt 32 (val e)) q1 ∧
          RegFile.setsX q1 o.xs (r.enabled o.kp) (fun e => if p.2.2 then {} else { x e with sat := (x e).sat || sat e }) rf) s t ∧
        t.flag (Reg.STL_ARITH_XSAT c.stall) = (s.flag (Reg.STL_ARITH_XSAT c.stall) ||
          (List.range 32).any fun e => r.enabled o.kp e && sat e)) ∧
    (∀ xd kp, ∃ t, exec (.clrx c xd kp) s = .next t ∧
      Stl.gives c [] (RegFile.setsX (s.stall c.stall).rf xd ((s.src c.stall).enabled kp) fun _ => {}) s t)

/-- R93, R94, R162: the element operations write the saturated result of every enabled element; VADD, VSUB, VABS and VSHL set VSAT when
saturation changes a result, VMAX and VMIN never do. -/
def Obligations.ElementArithmeticResults : Prop :=
  ∀ (c : OpCtx) (o : VeOp) (imm : Option Int) (s : State), Stl.runs c s →
    let r := s.src c.stall
    let a (e : Nat) : Int := (r.vR o.va e).toInt
    let b (e : Nat) : Int := (r.vR o.vb e).toInt
    let k (e : Nat) : Int := imm.getD (max (-31) (min 31 (b e)))
    let all := [o.vd, o.va, o.vb]
    ∀ p ∈ ([(.vadd c o, all, fun e => a e + b e), (.vsub c o, all, fun e => a e - b e),
        (.vabs c o.vd o.va o.kp, [o.vd, o.va], fun e => ((a e).natAbs : Int)),
        (.vmax c o, all, fun e => max (a e) (b e)), (.vmin c o, all, fun e => min (a e) (b e)),
        (.vshl c o imm, all, fun e => if 0 ≤ k e then a e * 2 ^ (k e).toNat else Arith.conv (a e) (-k e).toNat)] :
        List (Instr × List Nat × (Nat → Int))), Stl.awaits s c.stall p.2.1 = false →
      let res (e : Nat) : Int := max (-2 ^ 31) (min (2 ^ 31 - 1) (p.2.2 e))
      ∃ t, exec p.1 s = .next t ∧ Stl.only c [Reg.STL_ARITH_VSAT c.stall] s t ∧
        Stl.notes c (RegFile.setsV (s.stall c.stall).rf o.vd (r.enabled o.kp) fun e => BitVec.ofInt 32 (res e)) s t ∧
        t.flag (Reg.STL_ARITH_VSAT c.stall) = (s.flag (Reg.STL_ARITH_VSAT c.stall) ||
          (List.range 32).any fun e => r.enabled o.kp e && decide (res e ≠ p.2.2 e))

/-- R163, R164, R77, R78: VCMP and XFLG write the bits of K[KD] that KP enables and leave the others; a write of K0 is discarded. -/
def Obligations.PredicateWriteResults : Prop :=
  ∀ (c : OpCtx) (kd x vb kp : Nat) (s : State), kd < 8 → Stl.runs c s →
    let r := s.src c.stall
    (∀ p ∈ Stl.vcmpTable, Stl.awaits s c.stall [x, vb] = false → ∃ t w, exec (p.1 c kd x vb kp) s = .next t ∧
      RegFile.bitsOn (r.kR kd) (r.enabled kp) (fun e => p.2 (r.vR x e).toInt (r.vR vb e).toInt) w ∧
      Stl.gives c [] (RegFile.setsA (s.stall c.stall).rf (32 + kd) w) s t) ∧
    (∀ p ∈ Stl.xflgTable, ∃ t w, exec (p.1 c kd x kp) s = .next t ∧
      RegFile.bitsOn (r.kR kd) (r.enabled kp) (fun e => p.2 (r.xR x e)) w ∧
      Stl.gives c [] (RegFile.setsA (s.stall c.stall).rf (32 + kd) w) s t)

/-- R166, R167, R168, R169, R170: the dynamics operations write the enabled elements and set no flag. VLOG2 and VEXP2 are exact at the
powers of two, and one step of the envelope ends between the old envelope and its target. -/
def Obligations.DynamicsResults : Prop :=
  (∀ (c : OpCtx) (o : VeOp) (s : State), Stl.runs c s →
    let r := s.src c.stall
    let free (vs : List Nat) : Prop := Stl.awaits s c.stall vs = false
    (free [o.vd, o.va] → ∃ t, exec (.vlog2 c o.vd o.va o.kp) s = .next t ∧
      Stl.gives c [] (RegFile.setsV (s.stall c.stall).rf o.vd (r.enabled o.kp) fun e => Arith.vlog2 (r.vR o.va e)) s t) ∧
    (free [o.vd, o.va] → ∃ t, exec (.vexp2 c o.vd o.va o.kp) s = .next t ∧
      Stl.gives c [] (RegFile.setsV (s.stall c.stall).rf o.vd (r.enabled o.kp) fun e => Arith.vexp2 (r.vR o.va e)) s t) ∧
    (∀ m : EnvMode, free [o.vd, o.va, o.vb] → ∃ t, exec (.env c o m) s = .next t ∧
      Stl.gives c [] (RegFile.setsV (s.stall c.stall).rf o.vd (r.enabled o.kp)
        fun e => BitVec.ofInt 32 (Stl.envelope r o m (e / 4) (e % 4 + 1))) s t) ∧
    (∀ expand, free [o.vd, o.va, o.vb] → ∃ t, exec (.gcurve c o expand) s = .next t ∧
      Stl.gives c [] (RegFile.setsV (s.stall c.stall).rf o.vd (r.enabled o.kp) fun e =>
        let q (j : Nat) := (r.vR o.vb (4 * (e / 4) + j)).toInt
        BitVec.ofInt 32 (Arith.gcurve expand (r.vR o.va e).toInt (q 0) (q 1) (q 2) (q 3))) s t)) ∧
  Arith.vlog2 0 = BitVec.ofInt 32 (-2 ^ 31) ∧
  (∀ m : Nat, m < 31 → Arith.vlog2 (BitVec.ofNat 32 (2 ^ m)) = BitVec.ofInt 32 (((m : Int) - 23) * 2 ^ 24)) ∧
  (∀ n : Nat, n < 31 → Arith.vexp2 (BitVec.ofInt 32 (((n : Int) - 23) * 2 ^ 24)) = BitVec.ofNat 32 (2 ^ n)) ∧
  (∀ (m : EnvMode) (ca cr : Nat) (e a : Int), ca < 2 ^ 16 → cr < 2 ^ 16 → 0 ≤ e → e < 2 ^ 31 → -2 ^ 31 ≤ a → a < 2 ^ 31 →
    let t : Int := if m.half then max a 0 else min (a.natAbs : Int) (2 ^ 31 - 1)
    min e t ≤ Arith.envStep m ca cr e a ∧ Arith.envStep m ca cr e a ≤ max e t)

/-- R171: BFLY4 writes half of a radix-4 butterfly, j times the sign of the transform, scaled by conv and saturated; pair 0 of a lane where
element 4l is enabled, pair 1 where element 4l + 2 is. It sets no flag. -/
def Obligations.ButterflyResults : Prop :=
  ∀ (c : OpCtx) (o : VeOp) (sc : Nat) (inv out : Bool) (s : State), Stl.runs c s → Stl.awaits s c.stall [o.vd, o.va, o.vb] = false →
    let r := s.src c.stall
    let x (j l : Nat) : Int × Int :=
      let v := if j < 2 then o.va else o.vb
      ((r.vR v (4 * l + 2 * (j % 2))).toInt, (r.vR v (4 * l + 2 * (j % 2) + 1)).toInt)
    let g : Int := if out then -1 else 1
    let j : Int := if inv then 1 else -1
    let y (e : Nat) : Int :=
      let l := e / 4
      match e % 4 with
      | 0 => (x 0 l).1 + (x 2 l).1 + g * ((x 1 l).1 + (x 3 l).1)
      | 1 => (x 0 l).2 + (x 2 l).2 + g * ((x 1 l).2 + (x 3 l).2)
      | 2 => (x 0 l).1 - (x 2 l).1 - g * j * ((x 1 l).2 - (x 3 l).2)
      | _ => (x 0 l).2 - (x 2 l).2 + g * j * ((x 1 l).1 - (x 3 l).1)
    ∃ t, exec (.bfly4 c o sc inv out) s = .next t ∧
      Stl.gives c [] (RegFile.setsV (s.stall c.stall).rf o.vd (fun e => r.enabled o.kp (e / 2 * 2))
        fun e => BitVec.ofInt 32 (max (-2 ^ 31) (min (2 ^ 31 - 1) (Arith.conv (y e) sc)))) s t

/-- R83, R84, R86: an element that has not been lost represents v + WRAP × 2^72, every addition that loses nothing adds exactly d, and two
orders of the same addends that lose nothing leave the same element. -/
def Obligations.AccumulationIsExact : Prop :=
  let range (x : Acc) : Prop := -2 ^ 71 ≤ x.v ∧ x.v < 2 ^ 71 ∧ -8 ≤ x.wrap ∧ x.wrap ≤ 7
  let total (x : Acc) : Int := x.v + x.wrap * 2 ^ 72
  (∀ (x : Acc) (d : Int), range x → x.lost = false → d.natAbs ≤ 2 ^ 63 →
    range (x.add d 72) ∧ (x.add d 72).sat = x.sat ∧ ((x.add d 72).lost = false → total (x.add d 72) = total x + d) ∧
    ((x.add d 72).lost = true ↔ total x + d < -8 * 2 ^ 72 - 2 ^ 71 ∨ 7 * 2 ^ 72 + 2 ^ 71 ≤ total x + d)) ∧
  (∀ (x : Acc) (ds es : List Int), range x → x.lost = false → ds.Perm es → (∀ d ∈ ds, d.natAbs ≤ 2 ^ 63) →
    let run (l : List Int) : Acc := l.foldl (fun y d => y.add d 72) x
    (run ds).lost = false → (run es).lost = false → run ds = run es)

/-- R87: an element that starts from zero is not lost by fewer than 3,841 additions of magnitude below 2^63, nor by fewer than 7,680 of
magnitude at most 2^62. -/
def Obligations.LossNeedsManyAdditions : Prop :=
  ∀ ds : List Int,
    (ds.length < 3841 ∧ (∀ d ∈ ds, d.natAbs < 2 ^ 63)) ∨ (ds.length < 7680 ∧ (∀ d ∈ ds, d.natAbs ≤ 2 ^ 62)) →
    (ds.foldl (fun (y : Acc) d => y.add d 72) {}).lost = false

/-- R89: the rounding shift gives the nearest integer, and the even one where two are as near. -/
def Obligations.RoundingIsConvergent : Prop :=
  ∀ (y : Int) (n : Nat), 2 * (Arith.conv y n * 2 ^ n - y).natAbs ≤ 2 ^ n ∧
    (2 * (Arith.conv y n * 2 ^ n - y).natAbs = 2 ^ n → Arith.conv y n % 2 = 0) ∧ (n = 0 → Arith.conv y n = y)

/-- R158, R115, R119, R120: LD.V, LDB and LDH write the addressed elements of V[REG] that KP enables, zero for one out of range, and the
pointer; LD.S writes one element into G[REG]. A load of the barn store or the hayloft is in flight until its data returns. -/
def Obligations.LoadResults : Prop :=
  (∀ p ∈ ([(.ldV, .loc), (.ldb, .bst), (.ldh, .hay)] : List ((OpCtx → LaOp → Instr) × Space)), ∀ (c : OpCtx) (o : LaOp) (s : State),
    Stl.runs c s → Stl.holds c s → Stl.waits s (p.1 c o) = false → Stl.quiet s c o p.2 ((Stl.elements s c o p.2).map (·.1)) →
    ∃ t rf ls, exec (p.1 c o) s = .next t ∧ Stl.only c [] s t ∧
      t.stall c.stall = Stall.ended c { Stall.begun c (s.stall c.stall) with
        rf := Stl.pointed o (Stl.access s c.stall o p.2 true).2 rf, loads := (s.stall c.stall).loads ++ ls } ∧
      RegFile.setsL (s.stall c.stall).rf o.reg (Stl.elements s c o p.2) (Stl.loaded s c o p.2) rf ∧
      (p.2 = .loc → ls = []) ∧
      (p.2 ≠ .loc → ∃ r, ls = [r] ∧ r.hay = (p.2 == .hay) ∧ r.dest = o.reg ∧ r.p24 = o.p24 ∧ r.rel = (s.stall c.stall).syncRel ∧
        r.after = s.mem.issued)) ∧
  (∀ (c : OpCtx) (o : LaOp) (s : State), let a := ((Stl.access s c.stall o .loc false).1).headD 0
    Stl.runs c s → Stl.holds c s → Stl.waits s (.ldS c o) = false → Stl.quiet s c o .loc [a] →
    ∃ t, exec (.ldS c o) s = .next t ∧ Stl.gives c [] (fun q => ∃ rf, q = Stl.pointed o (Stl.access s c.stall o .loc false).2 rf ∧
      RegFile.setsG (s.stall c.stall).rf o.reg (Stl.loaded s c o .loc a) rf) s t)

/-- R158, R159, R115, R120: ST.V, STB, STH and ST.S write the enabled elements in range at the addresses that R121 gives, and no other
byte; the pointer is updated, and a store of the barn store or the hayloft is in flight until it has been written. -/
def Obligations.StoreResults : Prop :=
  (∀ p ∈ ([(.stV, .loc), (.stb, .bst), (.sth, .hay)] : List ((OpCtx → LaOp → Instr) × Space)), ∀ (c : OpCtx) (o : LaOp) (s : State),
    Stl.runs c s → Stl.holds c s → Stl.waits s (p.1 c o) = false → Stl.quiet s c o p.2 ((Stl.elements s c o p.2).map (·.1)) →
    Stl.breaches s c.cyc (Stl.cellAddrs (Stl.cells s c o p.2)) = false →
    ∃ t ls, exec (p.1 c o) s = .next t ∧ Stl.stores c (Stl.cells s c o p.2) s t ∧
      t.stall c.stall = Stall.ended c { Stall.begun c (s.stall c.stall) with
        rf := Stl.pointed o (Stl.access s c.stall o p.2 true).2 (s.stall c.stall).rf, stores := (s.stall c.stall).stores ++ ls } ∧
      (p.2 = .loc → ls = [] ∧ t.mem.shared = s.mem.shared) ∧
      (p.2 ≠ .loc → ls = [StoreRec.mk (p.2 == .hay) (s.stall c.stall).syncCnt
        (Stl.rows ((Stl.cells s c o p.2).map (·.1)) o.size)])) ∧
  (∀ (c : OpCtx) (o : LaOp) (s : State), let a := ((Stl.access s c.stall o .loc false).1).headD 0
    let cells := if Space.loc.outOfRange s.variant a o.size then []
      else [(Space.loc.origin c.stall + a, o.stored ((s.src c.stall).gR o.reg))]
    Stl.runs c s → Stl.holds c s → Stl.quiet s c o .loc [a] → Stl.breaches s c.cyc (Stl.cellAddrs cells) = false →
    ∃ t, exec (.stS c o) s = .next t ∧ Stl.stores c cells s t ∧ t.mem.shared = s.mem.shared ∧
      t.stall c.stall = Stall.ended c { Stall.begun c (s.stall c.stall) with
        rf := Stl.pointed o (Stl.access s c.stall o .loc false).2 (s.stall c.stall).rf })

/-- R160, R203, R204, R88: BUSADD adds every enabled element in the map of R203 into its bus sample of the frame's bank, by acc with w = 64;
no register but the pointer, no byte of memory and no other sample changes. -/
def Obligations.BusAddResults : Prop :=
  ∀ (c : OpCtx) (o : LaOp) (s : State), Stl.runs c s → Stl.holds c s → Stl.waits s (.busadd c o) = false →
    let es := Stl.elements s c o .bus
    (∀ e ∈ es, Bus.outOfRange s.frameN e.1 = true → s.flag (Reg.STL_EXC_ADDR c.stall) = true) →
    ∃ t, exec (.busadd c o) s = .next t ∧
      t = { s with regs := t.regs, stalls := t.stalls, mem := { s.mem with bus := t.mem.bus, adds := t.mem.adds } } ∧
      (∀ j, j ≠ c.stall → t.stall j = s.stall j) ∧
      State.keptBut [Reg.STL_PMEM_CORR c.stall, Reg.STL_SPAN_LAST c.stall, Reg.STL_SPAN_MAX_MAX c.stall] s t ∧
      t.stall c.stall = Stall.ended c { Stall.begun c (s.stall c.stall) with
        rf := Stl.pointed o (Stl.access s c.stall o .bus true).2 (s.stall c.stall).rf } ∧
      ∀ fp j, j < 4096 → t.busSample fp j =
        if fp = s.parity then
          (es.filter fun e => !Bus.outOfRange s.frameN e.1 && e.1 / 4 == j).foldl
            (fun x e => x.add ((s.src c.stall).vR o.reg (e.2.headD 0)).toInt 64) (s.busSample fp j)
        else s.busSample fp j

/-- R189, R192, R151, R128: the data of the oldest load of a space into a register returns, and the oldest store of a space has been written:
the access is no longer in flight, and nothing else changes where no store of the frame was unordered against the load; where one was, only
the load's own register may take another value (R190). A stall's load after its own store to the same bytes sees what it stored. -/
def Obligations.AccessesLand : Prop :=
  (∀ p ∈ ([(.ldbDataReturn, false), (.ldhDataReturn, true)] : List ((Nat → Nat → Instr) × Bool)),
    ∀ (i d : Nat) (s : State) (as bs : List LoadRec) (r : LoadRec),
    (s.stall i).loads = as ++ r :: bs → r.hay = p.2 → r.dest = d → (∀ x ∈ as, x.hay ≠ p.2 ∨ x.dest ≠ d) →
    ((∀ e ∈ r.elems, Mem.contested s i r.rel r.after e.addr (if r.p24 then 3 else 4) = false) →
      exec (p.1 i d) s = .next (s.setStall i { s.stall i with loads := as ++ bs })) ∧
    ((∀ e ∈ r.elems, ∀ x ∈ e.dests, x < 32) → ∃ t, exec (p.1 i d) s = .next t ∧
      t = { s with stalls := t.stalls, free := t.free } ∧ (∀ j, j ≠ i → t.stall j = s.stall j) ∧
      (t.stall i).loads = as ++ bs ∧ ∀ m e, e < 32 → m ≠ d → (t.stall i).rf.vR m e = (s.stall i).rf.vR m e)) ∧
  (∀ p ∈ ([(.stbWritten, false), (.sthWritten, true)] : List ((Nat → Instr) × Bool)),
    ∀ (i : Nat) (s : State) (as bs : List StoreRec) (r : StoreRec),
    (s.stall i).stores = as ++ r :: bs → r.hay = p.2 → (∀ x ∈ as, x.hay ≠ p.2) →
    exec (p.1 i) s = .next (s.setStall i { s.stall i with stores := as ++ bs })) ∧
  (∀ (s : State) (i stamp rel a : Nat) (bs : List Byte), bs ≠ [] → Mem.contested s i rel s.mem.issued a bs.length = false →
    let t := Mem.storeShared s i stamp rel a bs
    t.bytesAt a bs.length = bs ∧ Mem.view t i rel t.mem.issued 0 a bs.length = bs ∧
      ∀ b, b < a ∨ a + bs.length ≤ b → t.byte b = s.byte b)

/-- R121, R122, R124: a circular access stays inside its buffer and differs from the linear one by whole lengths; a linear one wraps at
2^32; the carry chain of the bit-reversed step adds one to the offset read backwards. -/
def Obligations.AddressesFollowTheirMode : Prop :=
  (∀ (a : Int) (b l : Nat), 0 < l → b ≤ Addr.circ a b l ∧ Addr.circ a b l < b + l ∧ ((Addr.circ a b l : Int) - a) % l = 0) ∧
  (∀ (a : Int) (b : Nat), (Addr.circ a b 0 : Int) = a % 2 ^ 32) ∧
  (∀ (z o w : Nat), z ≤ w → o < 2 ^ w → Addr.brevCarry z o w < 2 ^ w ∧ Addr.brevCarry z o w % 2 ^ z = o % 2 ^ z ∧
    Addr.rev (Addr.brevCarry z o w / 2 ^ z) (w - z) = (Addr.rev (o / 2 ^ z) (w - z) + 1) % 2 ^ (w - z)) ∧
  (∀ (o : LaOp) (r : RegFile) (cnt fp str j : Nat), j < cnt → r.lR o.pn ≠ 0 → o.amode ≠ .brev →
    let off := if o.amode = .ppcur then fp * str else if o.amode = .ppprev then (1 - fp) * str else 0
    let a := ((o.access r cnt fp str).1).getD j 0
    (r.bR o.pn).toNat + off ≤ a ∧ a < (r.bR o.pn).toNat + (r.lR o.pn).toNat + off)

/-- R120, R146: the first address fault since STL_EXC.ADDR was cleared records the frame, the space, the slot, the bank, the bundle and the
element's address, then reports; a later one records nothing. Of an address of 2^32 or more STL_ADDR_EA shows the low 32 bits, which is the
model's choice (log entry 56). -/
def Obligations.AddressFaultsRecord : Prop :=
  ∀ (s : State) (i space ea : Nat) (slot1 : Bool),
    (s.flag (Reg.STL_EXC_ADDR i) = true → Stl.addrFault s i space slot1 ea = s) ∧
    (s.flag (Reg.STL_EXC_ADDR i) = false → ∃ u, Stl.addrFault s i space slot1 ea = Stl.excReport u i ∧
      u.flag (Reg.STL_EXC_ADDR i) = true ∧ u.fld (Reg.STL_ADDR_LOC_FRAME i) = s.frameNo % 2 ^ 16 ∧
      u.fld (Reg.STL_ADDR_LOC_SPACE i) = space % 4 ∧ u.flag (Reg.STL_ADDR_LOC_SLOT i) = slot1 ∧
      u.fld (Reg.STL_ADDR_LOC_BANK i) = Stl.bank s i % 2 ∧ u.fld (Reg.STL_ADDR_LOC_ADDR i) = (s.stall i).pc % 2 ^ 12 ∧
      u.fld (Reg.STL_ADDR_EA_EA i) = ea % 2 ^ 32 ∧ u.stalls = s.stalls ∧ u.mem = s.mem)

/-- R321 to R325, R332: a submission is accepted with the next ticket and joins the queue of its opcode, or is refused while 1,024 tickets
are outstanding or the command processor is not ready; CMD_TICKET shows which. While the access is not served (R41, R319) nothing happens. -/
def Obligations.SubmissionsAreTicketed : Prop :=
  ∀ (ws : List Word) (s : State), ws.length = 16 →
    let d : Desc := { ticket := s.fld Reg.CMD_OUTSTANDING_NEXT, words := ws }
    let ready := s.flag Reg.CMD_STAT_CPX_READY
    (s.served = false → exec (.cmdSubmit ws) s = .next s) ∧
    (s.served = true → s.cmd.openT.length < 1024 → ready = true → ∃ t sent, exec (.cmdSubmit ws) s = .next t ∧
      (Cmd.mirrors s d = false → sent = false ∧ t.twn = s.twn ∧ t.out = s.out) ∧
      t.flag Reg.CMD_TICKET_ACCEPTED = true ∧ t.flag Reg.CMD_TICKET_FULL = false ∧ t.flag Reg.CMD_TICKET_NOTREADY = false ∧
      t.fld Reg.CMD_TICKET_TICKET = d.ticket ∧ t.fld Reg.CMD_OUTSTANDING_NEXT = (d.ticket + 1) % 65536 ∧
      t.fld Reg.CMD_OUTSTANDING_COUNT = s.cmd.openT.length + 1 ∧
      t.cmd.openT = s.cmd.openT ++ [(d.ticket, d.op, d.word 1)] ∧
      (if Cmd.isLong d.op then t.cmd.long = s.cmd.long ++ [{ d with sent := sent }] ∧ t.cmd.short = s.cmd.short
        else t.cmd.short = s.cmd.short ++ [{ d with sent := sent }] ∧ t.cmd.long = s.cmd.long) ∧
      t.cmd.run = s.cmd.run ∧ t.mem = s.mem ∧ t.stalls = s.stalls ∧ t.bale = s.bale ∧
      (∀ off, off / 65536 ≠ 4 → t.reg off = s.reg off)) ∧
    (s.served = true → 1024 ≤ s.cmd.openT.length ∨ ready = false → ∃ t, exec (.cmdSubmit ws) s = .next t ∧
      t.flag Reg.CMD_TICKET_ACCEPTED = false ∧ t.flag Reg.CMD_TICKET_FULL = decide (1024 ≤ s.cmd.openT.length) ∧
      t.flag Reg.CMD_TICKET_NOTREADY = !ready ∧ t.cmd = { s.cmd with stage := [] } ∧
      t.fld Reg.CMD_STAT_REFUSED = min (s.fld Reg.CMD_STAT_REFUSED + if 1024 ≤ s.cmd.openT.length then 1 else 0) 65535 ∧
      t.mem = s.mem ∧ t.stalls = s.stalls ∧ t.bale = s.bale)

/-- R326, R328: an opcode that is not assigned completes with reason OPCODE, and a mirrored command that is not LOCAL completes with reason
ROLE on a device in role STANDBY or SUSPECT, a bale command with the STATE of its slot (Table 10-11); neither has another effect. -/
def Obligations.CommandsRejectedByName : Prop :=
  (∀ (s : State) (d : Desc), Cmd.head s false = some d → d.peer = false → Cmd.known d.op = false →
    ∃ t, exec .undefinedOpcode s = .next t ∧ Cmd.completed s d false 3 0x80 [] t ∧ Cmd.only s t) ∧
  (∀ p ∈ ([(.loadBale, 0x01), (.verifyBale, 0x02), (.armBale, 0x03), (.swapBale true, 0x04), (.swapBale false, 0x04), (.paramWrite, 0x10),
      (.paramCommit, 0x11)] : List (Instr × Nat)), ∀ (s : State) (d : Desc),
    Cmd.head s (Cmd.isLong p.2) = some d → d.op = p.2 → d.peer = false → d.sent = false → d.isLocal = false →
    s.role = 2 ∨ s.role = 4 →
    ∃ t, exec p.1 s = .next t ∧ Cmd.only s t ∧
      Cmd.completed s d false 3 0x83 (if p.2 ≤ 3 then [Bale.st s (min (d.field 8 1) 1)] else []) t)

/-- R292 to R297, R304, Tables 09-2 and 09-7: in the slot states that allow them LOAD_BALE, VERIFY_BALE and ARM_BALE run their checks,
report the first reason that fails, and move the slot on when none does; SWAP_BALE of an ARMED slot waits for its boundary. In any other
state each completes with reason STATE and moves nothing. No word of the slot is uncorrectable. -/
def Obligations.BaleCommandsFollowTheirChecks : Prop :=
  ∀ (s : State) (d : Desc),
    let i := (Cmd.clamp (d.field 8 1) 0 1).1
    let adj := decide (0 < (Cmd.clamp (d.field 8 1) 0 1).2)
    let rd := Bale.rd s i
    let kept (t : State) : Prop := t.variant = s.variant ∧ t.stalls = s.stalls ∧ Bale.st t (1 - i) = Bale.st s (1 - i)
    let rejected (c : Instr) : Prop := ∃ t, exec c s = .next t ∧ kept t ∧ t.bale = s.bale ∧
      Cmd.completed s d adj 3 0x12 [Bale.st s i] t ∧ Bale.st t i = Bale.st s i ∧ t.fld (Reg.TOP_BALE_SLOT_REASON i) = 0x12
    (∀ w, Bale.base i ≤ w → w < Bale.base i + 0x340000 → Mem.err s w ≤ 1) →
    (Cmd.starts s 0x01 d → d.flag 1 = false → Bale.st s i = 1 → ∃ t, exec .loadBale s = .next t ∧ kept t ∧
      let why := Bale.loadCheck rd
      Cmd.completed s d adj (Bale.status why) why [if why = 0 then 2 else 1] t ∧ Bale.st t i = (if why = 0 then 2 else 1) ∧
      (why ≠ 0 → t.fld (Reg.TOP_BALE_SLOT_REASON i) = why) ∧
      (why = 0 → t.reg (0x000304 + 0x10 * i) = BitVec.ofNat 32 (Bale.len rd) ∧ t.reg64 (0x000308 + 0x10 * i) = Bale.id rd % 2 ^ 64)) ∧
    (Cmd.starts s 0x01 d → d.flag 1 = true → Bale.st s i ≠ 4 → Bale.st s i ≠ 5 → ∃ t, exec .loadBale s = .next t ∧ kept t ∧
      Cmd.completed s d adj 0 0 [0] t ∧ Bale.st t i = 0) ∧
    (Cmd.starts s 0x01 d → (d.flag 1 = false ∧ Bale.st s i ≠ 1) ∨ (d.flag 1 = true ∧ (Bale.st s i = 4 ∨ Bale.st s i = 5)) →
      rejected .loadBale) ∧
    (Cmd.starts s 0x02 d → Bale.st s i = 2 → Bale.len rd ≤ 0x340000 → ∃ t, exec .verifyBale s = .next t ∧ kept t ∧
      let why := Bale.verifyCheck s rd
      Cmd.completed s d adj (Bale.status why) why [if why = 0 then 3 else 2] t ∧ Bale.st t i = (if why = 0 then 3 else 2) ∧
      (why ≠ 0 → t.fld (Reg.TOP_BALE_SLOT_REASON i) = why) ∧
      (why = 0 ∨ 5 ≤ why → t.flag (Reg.TOP_BALE_SLOT_SIGNED i) = Bale.signed s rd (Bale.len rd)) ∧
      (why = 0 → Sparse.get t.bale.roots i 0 = Rcd.baleRoot rd)) ∧
    (Cmd.starts s 0x02 d → Bale.st s i ≠ 2 → rejected .verifyBale) ∧
    (Cmd.starts s 0x03 d → Bale.st s i = 3 → Bale.len rd ≤ 0x340000 →
      ∃ t, exec .armBale s = .next t ∧ t.variant = s.variant ∧ t.stalls = s.stalls ∧
      let why := match Bale.liveRd s with | some l => Bale.armCheck rd l | none => 0
      Bale.st t i = 3 ∧
      (why ≠ 0 → Cmd.completed s d adj (Bale.status why) why [3] t ∧ t.fld (Reg.TOP_BALE_SLOT_REASON i) = why ∧ t.bale = s.bale) ∧
      (why = 0 → t.bale.arming = some i ∧ (∃ r ∈ t.cmd.run, r.d = d ∧ r.wait = .arming) ∧
        (Bale.st s (1 - i) = 4 → s.bale.taken ≠ some (1 - i) → Bale.st t (1 - i) = 3))) ∧
    (Cmd.starts s 0x03 d → Bale.st s i ≠ 3 → rejected .armBale) ∧
    (∀ peerOk, Cmd.starts s 0x04 d → Bale.st s i = 4 → ∃ t, exec (.swapBale peerOk) s = .next t ∧ kept t ∧
      Cmd.popped s 0x04 t ∧ (∃ r ∈ t.cmd.run, r.d = d ∧ r.wait = .swap i none) ∧ t.bale.mark = some i ∧ Bale.st t i = 4 ∧
      t.bale.taken = (if (Bale.live s).isNone then some i else s.bale.taken)) ∧
    (∀ peerOk, Cmd.starts s 0x04 d → Bale.st s i ≠ 4 → ∃ t, exec (.swapBale peerOk) s = .next t ∧ Cmd.only s t ∧
      Cmd.completed s d adj 3 0x12 [] t)

/-- R297, R142: when the arming writes are complete the slot is ARMED, and the program bank that is not live of every present stall holds the
bundles of its image, with zero bundles after them; the live bank keeps its bundles. -/
def Obligations.ArmingWritesFillTheOtherBank : Prop :=
  ∀ (s : State) (i : Nat), s.bale.arming = some i → i < 2 → (∀ w, Mem.err s w ≤ 1) → (∀ j, Bale.nb (Bale.rd s i) j ≤ 4096) →
    ∃ t, exec .armingWritesComplete s = .next t ∧ Bale.st t i = 4 ∧ t.bale.arming = none ∧
      ∀ j, j < s.variant.stalls → (t.stall j).rf = (s.stall j).rf ∧ (t.stall j).pc = (s.stall j).pc ∧ Stl.bank t j = Stl.bank s j ∧
        ∀ b, b < 4096 →
          Sparse.get (t.stall j).prog (4096 * (1 - Stl.bank s j) + b) 0 = BitVec.ofNat 128 ((Bale.image (Bale.rd s i) j).getD b 0) ∧
          Sparse.get (t.stall j).prog (4096 * Stl.bank s j + b) 0 = Sparse.get (s.stall j).prog (4096 * Stl.bank s j + b) 0

/-- R248, R250, R329, R330, R335, R582: inline words of PARAM_WRITE land in the shadow; other words are asked of the host; PARAM_COMMIT waits
for a bus close with the writes made since the commit before it; PARAM_READ sends the words of the view it names. A transfer that the host
cannot be asked for, or that it answers with an error, completes with reason DMA. -/
def Obligations.ParameterCommands : Prop :=
  ∀ (s : State) (d : Desc),
    let inl := d.flag 2
    let o := Param.operands d inl
    let w := Param.operands d false
    (Cmd.starts s 0x10 d → inl = true → Param.check s o = none → o.space = 1 → ∃ t, exec .paramWrite s = .next t ∧
      Cmd.completed s d (decide (0 < o.adj)) 0 0 [o.count, 0] t ∧ t.shadow = s.shadow ∧
      (∀ a, Sparse.get t.bale.pageShad a 0 =
        if 4096 * o.page + o.off ≤ a ∧ a < 4096 * o.page + o.off + 4 * o.count then
          let n := a - (4096 * o.page + o.off)
          BitVec.ofNat 8 ((d.word (6 + n / 4)).toNat / 2 ^ (8 * (n % 4)))
        else Sparse.get s.bale.pageShad a 0) ∧
      t.bale = { s.bale with pageShad := t.bale.pageShad } ∧ 2 ^ 24 + o.page ∈ t.cmd.writes) ∧
    (Cmd.starts s 0x10 d → inl = true → Param.check s o = none → o.space = 0 → o.count = 1 →
      let off := 4096 * o.page + o.off
      let m := Reg.shMask s off
      let x := Reg.adjust s off (Reg.blend (s.shReg off) (d.word 6) m) m
      ∃ t, exec .paramWrite s = .next t ∧ t.bale = s.bale ∧ (∀ a, a ≠ off → t.shReg a = s.shReg a) ∧
        (m ≠ 0 → t.shReg off = x.w ∧ off ∈ t.cmd.writes ∧ Cmd.completed s d (decide (0 < o.adj + x.n)) 0 0 [1, x.n] t) ∧
        (m = 0 → t.shReg off = s.shReg off ∧ Cmd.completed s d (decide (0 < o.adj)) 0 0 [1, 0] t)) ∧
    (Cmd.starts s 0x10 d → inl = false → Param.check s w = none → ∃ t, exec .paramWrite s = .next t ∧ Cmd.only s t ∧
      (s.canSend = true → t.out = s.out ++ [.hostRead w.addr (4 * w.count)] ∧ ∃ r ∈ t.cmd.run, r.d = d ∧ r.wait = .hostRead) ∧
      (s.canSend = false → Cmd.completed s d (decide (0 < w.adj)) 3 0x84 [] t)) ∧
    (∀ x, Cmd.starts s 0x10 d → Param.check s o = some x → ∃ t, exec .paramWrite s = .next t ∧ Cmd.only s t ∧
      Cmd.completed s d (decide (0 < o.adj)) x.1 x.2 [] t) ∧
    (Cmd.starts s 0x11 d → ∃ t, exec .paramCommit s = .next t ∧ t = { s with regs := t.regs, cmd := t.cmd } ∧
      State.keptBut [Reg.GRAPH_COMMIT_PENDING] s t ∧ t.flag Reg.GRAPH_COMMIT_PENDING = true ∧ Cmd.popped s 0x11 t ∧ t.cmd.writes = [] ∧
      ∃ r ∈ t.cmd.run, r.d = d ∧ r.wait = .commit none s.cmd.writes) ∧
    (∀ ok, Cmd.starts s 0x12 d → ∃ t, exec (.paramRead ok) s = .next t ∧ Cmd.only s t ∧
      (∀ x, Param.check s w = some x → Cmd.completed s d (decide (0 < w.adj)) x.1 x.2 [] t) ∧
      (Param.check s w = none → ok = false ∨ s.canSend = false → Cmd.completed s d (decide (0 < w.adj)) 3 0x84 [] t) ∧
      (Param.check s w = none → ok = true → s.canSend = true →
        s.out ++ [.hostWrite w.addr (Param.words s w (d.flag 4))] <+: t.out ∧
        Cmd.completed s d (decide (0 < w.adj)) 0 0 (if d.flag 4 then [0, 0] else [s.frameNo % 2 ^ 32, s.frameNo / 2 ^ 32]) t))

/-- R313, R314, R331, R335, R478, R517, R518, R540: what DIGEST_QUERY, SAVE_TACK, METER_SNAPSHOT, FC_RELEASE of an absent unit,
TWIN_HANDOVER and TWIN_RESYNC answer. -/
def Obligations.QueryCommandsAnswer : Prop :=
  ∀ (s : State) (d : Desc),
    let q := Rcd.operands d
    let gen := s.reg64 0x000400
    let miss := s.rcd.built = false ∨ (d.flag 3 = false ∧ d.field 16 8 ≠ gen)
    (Cmd.starts s 0x20 d → ∃ t, exec .digestQuery s = .next t ∧
      Cmd.completed s d (decide (0 < q.2)) (if miss then 2 else 0) 0 [gen % 2 ^ 32, gen / 2 ^ 32] t ∧ t.rcd = s.rcd ∧ t.stalls = s.stalls ∧
      (miss → Cmd.only s t) ∧
      (¬ miss → let at_ := 0x002000 + 0x400 * q.1.2.2.2
        t.reg64 at_ = gen ∧ t.reg64 (at_ + 8) = s.reg64 0x000408 ∧ t.reg (at_ + 16) = BitVec.ofNat 32 (q.1.1 + 256 * q.1.2.1) ∧
        t.reg (at_ + 20) = BitVec.ofNat 32 q.1.2.2.1 ∧
        ∀ j i, j < 2 ^ q.1.2.1 → i < 8 → t.reg (at_ + 32 + 32 * j + 4 * i) = BitVec.ofNat 32 (Arith.ofBytes
          (((Sha.bytes (Sparse.get (Rcd.level s.rcd.leaves (q.1.1 - q.1.2.1)) (q.1.2.2.1 * 2 ^ q.1.2.1 + j) 0)).drop (4 * i)).take 4)))) ∧
    ((∀ r ∈ s.cmd.run, ∀ ps n, r.wait ≠ .save ps n) → Cmd.starts s 0x21 d → ∃ t, exec .saveTack s = .next t ∧ Cmd.only s t ∧
      let late := Save.backlog s s.cmd.taken false
      if late = [] then Cmd.completed s d false 0 0 [0] t
      else Cmd.popped s 0x21 t ∧ ∃ r ∈ t.cmd.run, r.d = d ∧ r.wait = .save late 0) ∧
    (∀ ok, Cmd.starts s 0x22 d → ∃ t, exec (.meterSnapshot ok) s = .next t ∧ Cmd.only s t ∧ Cmd.popped s 0x22 t ∧
      let m := Meter.operands d
      let base := if m.1.1 = 0 then 0x200000 else if m.1.1 = 1 then 0x206000 else 0x20C000
      let words := (List.range (4 * m.1.2.2.1)).map fun i => s.reg (base + 16 * m.1.2.1 + 4 * i)
      (s.running = true → ∃ r ∈ t.cmd.run, r.d = d ∧ r.wait = .boundary ok) ∧
      (s.running = false → ok = false ∨ s.canSend = false → Cmd.completed s d (decide (0 < m.2)) 3 0x84 [] t) ∧
      (s.running = false → ok = true → s.canSend = true → s.out ++ [.hostWrite m.1.2.2.2 words] <+: t.out ∧
        Cmd.completed s d (decide (0 < m.2)) 0 0 [s.frameNo % 2 ^ 32, s.frameNo / 2 ^ 32] t)) ∧
    (Cmd.starts s 0x30 d → d.field 8 1 = 1 → d.field 10 2 < 192 → Fc.assigned (d.field 10 2) = true →
      Fc.present s.variant (d.field 10 2) = false →
      ∃ t, exec .fcRelease s = .next t ∧ Cmd.only s t ∧ Cmd.completed s d false 1 0 [] t) ∧
    (Cmd.starts s 0x40 d →
      (s.variant.tether = false → ∃ t, exec .twinHandover s = .next t ∧ Cmd.only s t ∧ Cmd.completed s d false 1 0 [] t) ∧
      (s.variant.tether = true → s.flag Reg.TWN_ST_OWN = false →
        ∃ t, exec .twinHandover s = .next t ∧ Cmd.only s t ∧ Cmd.completed s d false 0 0 [0, 0, 1, 0] t) ∧
      (s.variant.tether = true → s.flag Reg.TWN_ST_OWN = true → s.flag Reg.TWN_ST_PEER_ELIG = false →
        ∃ t, exec .twinHandover s = .next t ∧ Cmd.only s t ∧ Cmd.completed s d false 0 0 [0, 0, 2, 0] t)) ∧
    (Cmd.starts s 0x41 d →
      (s.variant.tether = false → ∃ t, exec .twinResync s = .next t ∧ Cmd.only s t ∧ Cmd.completed s d false 1 0 [] t) ∧
      (s.variant.tether = true →
        let why := if Tth.up s = false then 1 else if Twn.pairFits s = false then 3 else if Twn.sameBale s = false then 2 else 0
        (why ≠ 0 → ∃ t, exec .twinResync s = .next t ∧ Cmd.only s t ∧ Cmd.completed s d false 0 0 [0, 0, why, 0] t) ∧
        (why = 0 → ∃ t x, exec .twinResync s = .next t ∧ t.twn.resync = some x ∧ Cmd.popped s 0x41 t ∧
          (∃ r ∈ t.cmd.run, r.d = d ∧ r.wait = .resync) ∧
          (s.twn.resync = none → t.flag Reg.TWN_ST_RESYNC = true ∧ x.cmd = true ∧
            (if s.role = 1 ∧ Twn.sameRoot s = true then x.r = some (s.frameNo + 2) else x.r = none ∧ x.prep = true)))))

/-- R319, R329, R334, R335: the host's answer to a read lands the words and completes their command, which a mirrored one does only after the
peer has answered (R326); an error completes it with reason DMA; an error on the ring disables it. -/
def Obligations.HostAnswersLand : Prop :=
  (∀ s : State, ∃ t, exec (.hostMemoryAccessAnswer .ringError) s = .next t ∧ Cmd.only s t ∧ t.cmd = s.cmd ∧
    t.flag Reg.CMD_RING_CTL_EN = false ∧ t.flag Reg.CMD_STAT_RING_ERR = true ∧ t.flag Reg.CMD_STAT_RING_FULL = false) ∧
  (∀ (s : State) (r : Run), Param.waiting s = some r → r.d.peer = false → r.sent = false → r.answer = none → s.saveWarned = false →
    (∃ t, exec (.hostMemoryAccessAnswer .error) s = .next t ∧ Cmd.only s t ∧ Cmd.recorded s r.d (decide (0 < r.adj)) 3 0x84 [] t) ∧
    (∀ ws : List Word, let o := Param.operands r.d false
      let landed (t : State) : Prop := t.shadow = s.shadow ∧ ∀ a, Sparse.get t.bale.pageShad a 0 =
        if 4096 * o.page + o.off ≤ a ∧ a < 4096 * o.page + o.off + 4 * o.count then
          let n := a - (4096 * o.page + o.off)
          BitVec.ofNat 8 ((ws.getD (n / 4) 0).toNat / 2 ^ (8 * (n % 4)))
        else Sparse.get s.bale.pageShad a 0
      let done (t : State) (n : Nat) : Prop :=
        (Cmd.mirrors s r.d = false → Cmd.recorded s r.d (decide (0 < r.adj + n)) 0 0 [o.count, n] t) ∧
        (Cmd.mirrors s r.d = true → ∃ x ∈ t.cmd.run, x.d = r.d ∧ x.wait = .ack 0 0 [o.count, n])
      (o.space = 1 → ∃ t, exec (.hostMemoryAccessAnswer (.data ws)) s = .next t ∧ landed t ∧ done t 0) ∧
      (o.space = 0 → ∃ t n, exec (.hostMemoryAccessAnswer (.data ws)) s = .next t ∧ done t n ∧ t.bale = s.bale ∧
        ∀ a, a < 4096 * o.page + o.off ∨ 4096 * o.page + o.off + 4 * o.count ≤ a → t.shReg a = s.shReg a)))

/-- R333, R334: writing HEAD and enabling the ring move its registers, and a record that waits is written to host memory, words 1 to 7 before
word 0 with the phase, when the ring is enabled and not full. While the access is not served (R41, R319) nothing happens. -/
def Obligations.RingServesTheHost : Prop :=
  (∀ (s : State) (v : Nat), s.served = false → exec (.cmdRingHeadWrite v) s = .next s ∧ exec .ringEnable s = .next s) ∧
  (∀ (s : State) (v : Nat), s.served = true → s.cmd.ringQ = [] ∨ s.flag Reg.CMD_RING_CTL_EN = false → ∃ t, exec (.cmdRingHeadWrite v) s = .next t ∧
    Cmd.only s t ∧ t.cmd = s.cmd ∧ t.fld Reg.CMD_RING_HEAD_HEAD = v % Cmd.ringSize s % 2 ^ 12 ∧
    t.fld Reg.CMD_RING_TAIL_TAIL = s.fld Reg.CMD_RING_TAIL_TAIL) ∧
  (∀ s : State, s.served = true → s.cmd.ringQ = [] → ∃ t, exec .ringEnable s = .next t ∧ Cmd.only s t ∧ t.cmd = s.cmd ∧
    t.flag Reg.CMD_RING_CTL_EN = true ∧ t.fld Reg.CMD_RING_TAIL_TAIL = 0 ∧ t.fld Reg.CMD_RING_HEAD_HEAD = 0 ∧
    t.fld Reg.CMD_RING_TAIL_PHASE = 1) ∧
  (∀ (s : State) (v x : Nat), s.served = true → s.cmd.ringQ = [x] → s.flag Reg.CMD_RING_CTL_EN = true →
    let n := Cmd.ringSize s
    let tail := s.fld Reg.CMD_RING_TAIL_TAIL
    let next := (tail + 1) % n
    let phase := s.fld Reg.CMD_RING_TAIL_PHASE
    next ≠ v % n % 2 ^ 12 % n →
    ∃ t, exec (.cmdRingHeadWrite v) s = .next t ∧ Cmd.only s t ∧ t.cmd.ringQ = [] ∧ (∀ y ∈ t.cmd.openT, y.1 ≠ x) ∧
      t.fld Reg.CMD_RING_TAIL_TAIL = next % 2 ^ 12 ∧ t.fld Reg.CMD_RING_TAIL_PHASE = (if next = 0 then 1 - phase else phase) ∧
      s.out ++ [.hostWrite (s.reg64 0x040058 + 32 * tail + 4) ((Cmd.logRecord s x).drop 1),
        .hostWrite (s.reg64 0x040058 + 32 * tail)
          [BitVec.ofNat 32 (((Cmd.logRecord s x).getD 0 0).toNat % 2 ^ 31 + phase * 2 ^ 31)]] <+: t.out)

/-- R319, R63: PERST#, a Function Level Reset and a link down reset MSI-X and disable the ring; a clear of Bus Master Enable disables the ring
alone; a PARAM_WRITE that waits for the host ends with reason DMA. D3hot is left by each reset, and while it lasts nothing is sent. -/
def Obligations.FunctionResetsQuietTheHostSide : Prop :=
  let resets (s : State) (i : Instr) : Prop :=
    (∃ q c, i = .perstN true q c ∧ s.host.perst = false) ∨ (∃ c, i = .functionLevelReset c) ∨ ∃ c, i = .linkDown c
  (∀ (s : State) (i : Instr), resets s i → Param.waiting s = none →
    ∃ t, exec i s = .next t ∧ t = { s with regs := t.regs, evu := t.evu, host := t.host, clk := t.clk } ∧
      (∀ off, off ≠ 0x040044 → off ≠ 0x040054 → off / 65536 ≠ 1 → t.reg off = s.reg off) ∧
      t.flag Reg.CMD_RING_CTL_EN = false ∧ t.flag Reg.CMD_STAT_RING_FULL = false ∧
      t.evu = { s.evu with enable := false, funcMask := false, mask := 0xFFFFFFFF, pba := 0 } ∧
      t.host = { s.host with perst := t.host.perst, d3hot := false } ∧
      (t.host.perst = true ↔ s.host.perst = true ∨ ∃ q c, i = .perstN true q c)) ∧
  (∀ (s : State) (i : Instr) (r : Run), resets s i ∨ (∃ c, i = .busMasterEnableClear c) → Param.waiting s = some r → r.d.peer = false →
    r.sent = false → r.answer = none → s.saveWarned = false →
    ∃ t, exec i s = .next t ∧ t.flag Reg.CMD_RING_CTL_EN = false ∧ Cmd.recorded s r.d (decide (0 < r.adj)) 3 0x84 [] t ∧
      ∀ x ∈ t.cmd.openT, x.1 ≠ r.d.ticket) ∧
  (∀ (s : State) (q c : Nat), s.host.perst = true → ∃ t, exec (.perstN false q c) s = .next t ∧
    t = { s with regs := t.regs, host := t.host, clk := t.clk } ∧
    (∀ off, off / 65536 ≠ 1 → t.reg off = s.reg off) ∧ t.host.perst = false ∧ t.host.d3hot = false) ∧
  (∀ (s : State) (c : Nat), Param.waiting s = none → ∃ t, exec (.busMasterEnableClear c) s = .next t ∧
    State.onlyRegs [Reg.CMD_RING_CTL_EN, Reg.CMD_STAT_RING_FULL, Reg.CLK_XDISC_DISCARD 2] s t ∧ t.flag Reg.CMD_RING_CTL_EN = false ∧
    t.flag Reg.CMD_STAT_RING_FULL = false ∧
    t.fld (Reg.CLK_XDISC_DISCARD 2) = (if Pll.running s then min (s.fld (Reg.CLK_XDISC_DISCARD 2) + c) (Reg.CLK_XDISC_DISCARD 2).max
      else s.fld (Reg.CLK_XDISC_DISCARD 2))) ∧
  (∀ s : State, exec (.d3hotTransition true) s = .next { s with host := { s.host with d3hot := true } }) ∧
  (∀ s : State, s.evu.pba = 0 → s.cmd.ringQ = [] → ∃ t, exec (.d3hotTransition false) s = .next t ∧ t.cmd = s.cmd ∧ t.mem = s.mem ∧
    t.stalls = s.stalls ∧ t.host = { s.host with d3hot := false })

/-- R341, R342: writes of EVU_RAW clear event bits, writes of EVU_EN and EVU_MAP select, EVU_PENDING follows, and every vector left pending
by a write of RAW or EN requests a message. A source of a present unit that fires sets its RAW bit, and a vector that this makes pending
requests a message; a source of an absent unit, or one whose bit is set, changes nothing. A hold interval that ends sends the request that
waits; enabling MSI-X requests every pending vector and clears the pending bits of the others. A write that is not served (R41, R319) does
nothing. -/
def Obligations.EventsRequestMessages : Prop :=
  (∀ (s : State) (w e : Nat) (v : Word), s.served = false →
    exec (.evuRawWrite w v) s = .next s ∧ exec (.evuEnWrite w v) s = .next s ∧ exec (.evuMapWrite e v) s = .next s) ∧
  ((∀ (s : State) (w : Nat) (v : Word), s.served = true → w < 8 → ∃ t, exec (.evuRawWrite w v) s = .next t ∧ Evu.only s t ∧
     t.reg (0x030000 + 4 * w) = s.reg (0x030000 + 4 * w) &&& ~~~v ∧ t.reg 0x030580 = BitVec.ofNat 32 (Evu.pendMask t) ∧
     ∀ n, n < 32 → (Evu.pendMask t).testBit n = true → Evu.requested n s t) ∧
   (∀ (s : State) (w : Nat) (v : Word), s.served = true → w < 8 → ∃ t, exec (.evuEnWrite w v) s = .next t ∧ Evu.only s t ∧
     (∀ j, j < 32 → Evu.present s.variant (32 * w + j) = true → (t.reg (0x030020 + 4 * w)).toNat.testBit j = v.toNat.testBit j) ∧
     t.reg 0x030580 = BitVec.ofNat 32 (Evu.pendMask t) ∧ ∀ n, n < 32 → (Evu.pendMask t).testBit n = true → Evu.requested n s t) ∧
   (∀ (s : State) (e : Nat) (v : Word), s.served = true → e < 256 → ∃ t, exec (.evuMapWrite e v) s = .next t ∧ Evu.only s t ∧
     t.fld (Reg.EVU_MAP_VECTOR e) = v.toNat % 32 ∧ t.reg 0x030580 = BitVec.ofNat 32 (Evu.pendMask t) ∧
     ∀ n, n < 32 → (Evu.pendMask t).testBit n = true → (s.reg 0x030580).toNat.testBit n = false → Evu.requested n s t)) ∧
  ((∀ (s : State) (e : Nat), e < 256 →
     (Pll.running s = false ∨ Evu.present s.variant e = false ∨ s.vecBit 0x030000 e = true → s.fire e = s) ∧
     (Pll.running s = true → Evu.present s.variant e = true → s.vecBit 0x030000 e = false →
       Evu.only s (s.fire e) ∧ (s.fire e).vecBit 0x030000 e = true ∧
       ((s.reg (0x030020 + 4 * (e / 32))).toNat.testBit (e % 32) = true →
         (s.reg 0x030580).toNat.testBit (s.fld (Reg.EVU_MAP_VECTOR e)) = false →
         Evu.requested (s.fld (Reg.EVU_MAP_VECTOR e)) s (s.fire e)))) ∧
   (∀ (s : State) (v : Nat), v < 32 → ∃ t, exec (.evuHoldExpiry v) s = .next t ∧
     let due := (Evu.vec s v).wait = true ∧ s.evu.enable = true ∧ (s.reg 0x030580).toNat.testBit v = true
     (¬ due → t.out = s.out ∧ Evu.vec t v = {} ∧ t.regs = s.regs) ∧
     (due → Evu.shut s v = true → t.out = s.out ∧ t.evu.pba.testBit v = true ∧ Evu.vec t v = {}) ∧
     (due → Evu.shut s v = false → t.out = (if s.canSend then s.out ++ [.msix v] else s.out) ∧
       t.evu.pba.testBit v = false ∧ (Evu.vec t v).wait = false ∧
       t.fld (Reg.EVU_HOLD_SENT v) = min (s.fld (Reg.EVU_HOLD_SENT v) + 1) 65535)) ∧
   (∀ (s : State) (enable funcMask : Bool) (mask : Nat), ∃ t, exec (.msixEnable enable funcMask mask) s = .next t ∧
     t.evu.enable = enable ∧ t.evu.funcMask = funcMask ∧ t.evu.mask = mask ∧ t.mem = s.mem ∧ t.cmd = s.cmd ∧ t.stalls = s.stalls ∧
     (enable = false ∨ (s.evu.enable = true ∧ funcMask = true) → t.out = s.out ∧ t.regs = s.regs ∧ t.evu.pba = s.evu.pba) ∧
     (s.evu.enable = false → enable = true → ∀ v, v < 32 →
       ((s.reg 0x030580).toNat.testBit v = false → t.evu.pba.testBit v = false) ∧
       ((s.reg 0x030580).toNat.testBit v = true → (Evu.vec s v).hold = false →
         (mask.testBit v = true ∨ funcMask = true ∨ s.host.perst = true ∨ s.host.d3hot = true → t.evu.pba.testBit v = true) ∧
         (mask.testBit v = false → funcMask = false → s.canSend = true → .msix v ∈ t.out.drop s.out.length)))))

/-- R13, R14, R315, R317, R415, Table 00-6: a served read sends the word to the host and clears its RC fields; the low word of a 64-bit
register, TOP_RCD and word 0 of AES_RXCS latch the words that belong to them as they stand; reserved space and absent units read 0; a read of
the timekeeper's registers sees the node time of the access. A read that is not served (R41, R319) does nothing. -/
def Obligations.RegisterReadsLatchAndClear : Prop :=
  (∀ (s : State) (at_ off port : Nat), s.served = false → exec (.lowWordRead off) s = .next s ∧ exec .topRcdLatch s = .next s ∧
    exec (.aesRxcsLatch port) s = .next s ∧ exec (.registerReadClear at_ off) s = .next s) ∧
  (∀ (s : State) (at_ off : Nat), s.served = true → off ∈ Reg.lowWords → Reg.present s.variant off = true →
    (off / 65536 = 5 → at_ ≤ s.tkp.node) → ∃ t u, exec (.lowWordRead off) s = .next t ∧
    t = { s with out := t.out, latched := t.latched, hiLatch := t.hiLatch } ∧
    t.out = s.out ++ [.readData (0x10000000 + off) (Reg.value s off)] ∧
    exec (.registerReadClear at_ (off + 4)) t = .next u ∧ u.out = t.out ++ [.readData (0x10000000 + off + 4) (Reg.peek s (off + 4))] ∧
    u.latched.contains (off + 4) = false) ∧
  (∀ s : State, s.served = true → ∃ t, exec .topRcdLatch s = .next t ∧
    t = { s with out := t.out, latched := t.latched, hiLatch := t.hiLatch } ∧
    t.out = s.out ++ [.readData 0x10000400 (Reg.peek s 0x000400)] ∧ ∀ o ∈ Reg.rcdWords, Reg.value t o = Reg.peek s o) ∧
  (∀ (s : State) (port : Nat), s.served = true → port < s.variant.aess → ∃ t, exec (.aesRxcsLatch port) s = .next t ∧
    t = { s with out := t.out, latched := t.latched, hiLatch := t.hiLatch } ∧
    t.out = s.out ++ [.readData (0x10080400 + 0x40 * port) (Reg.peek s (0x080400 + 0x40 * port))] ∧
    ∀ o ∈ Reg.aesWords port, Reg.value t o = Reg.peek s o) ∧
  (∀ (s : State) (at_ off : Nat) (r : RegRow), s.served = true → Reg.rowAt off = some r → Reg.present s.variant off = true →
    (off / 65536 = 5 → at_ ≤ s.tkp.node ∧ off ≠ 0x050070) →
    off ≠ 0x000400 → off ∉ Reg.lowWords → ¬ (0x080400 ≤ off ∧ off < 0x080600 ∧ off % 0x40 = 0) → Reg.once off = false →
    ∃ t, exec (.registerReadClear at_ off) s = .next t ∧ t = { s with regs := t.regs, out := t.out } ∧
      t.out = s.out ++ [.readData (0x10000000 + off) (Reg.value s off)] ∧ t.reg off = s.reg off &&& ~~~(BitVec.ofNat 32 r.rc) ∧
      ∀ o, o ≠ off → t.reg o = s.reg o) ∧
  (∀ (s : State) (at_ off : Nat), s.served = true → off / 65536 ≠ 5 → s.latched.contains off = false →
    Reg.rowAt off = none ∨ (Reg.present s.variant off = false ∧ off ∉ Reg.lowWords) → ∃ t, exec (.registerReadClear at_ off) s = .next t ∧
    t = { s with out := t.out, latched := t.latched, hiLatch := t.hiLatch } ∧ t.out = s.out ++ [.readData (0x10000000 + off) 0]) ∧
  (∀ (s : State) (at_ off : Nat), s.served = true → off / 65536 = 5 →
    exec (.registerReadClear at_ off) s = (if off = 0x050070 then exec .tkpTsqTsRead (Tkp.advance s at_)
      else exec (.registerReadClear s.tkp.node off) (Tkp.advance s at_)))

/-- R6, R15, R19, R247 to R249, R317, R319, R336: a write that is not served, one with partial byte enables, and one to reserved space or to
an absent unit do nothing. Another to a word without a command of its own sets the RW bits, and the S bits while their block is stopped,
clears W1C bits, writes F fields to the shadow, and counts the adjustments; one that changes the configuration of the collector crosses as a
word, and eight that cross too fast leave STALE (R57, log 68). A write to a word with a command of its own acts as that
command. -/
def Obligations.RegisterWritesFollowTheAccess : Prop :=
  (∀ (s : State) (off : Nat) (v : Word) (whole : Bool), s.served = false → exec (.registerWrite off v whole) s = .next s) ∧
  (∀ (s : State) (off : Nat) (v : Word), exec (.registerWrite off v false) s = .next s ∧
    (Reg.rowAt off = none ∨ Reg.present s.variant off = false → exec (.registerWrite off v true) s = .next s)) ∧
  (∀ (s : State) (off : Nat) (v : Word) (r : RegRow), s.served = true → Reg.rowAt off = some r → Reg.present s.variant off = true →
    off ∉ [0x000100, 0x000334, 0x010004, 0x040054, 0x040060, 0x050000, 0x050010, 0x050030, 0x060000, 0x090000, 0x0A0000, 0x0A3010, 0x0A3014,
      0x0B0000, 0x0B00B0, 0x0C0010, 0x0D0000, 0x0E0000, 0x0E0004, 0x0E0008] →
    ¬ (0x030000 ≤ off ∧ off < 0x030040) → ¬ (0x030100 ≤ off ∧ off < 0x030500) → ¬ (0x040000 ≤ off ∧ off < 0x040040) →
    ¬ (0x060010 ≤ off ∧ off < 0x060040 ∧ off % 8 = 0) → ¬ (0x070000 ≤ off ∧ off < 0x070200 ∧ off % 32 = 0) →
    ¬ (0x080000 ≤ off ∧ off < 0x080100 ∧ off % 32 = 0) →
    ¬ (0x100000 ≤ off ∧ (off % 0x4000 = 0x108 ∨ off % 0x4000 = 0x110 ∨ off % 0x4000 = 0x120)) → Reg.configOf off = false →
    let m := Reg.liveMask s off r &&& Reg.presentBits s off
    let cleared := s.reg off &&& ~~~(v &&& BitVec.ofNat 32 r.w1c)
    let a : Adj := if m = 0 then ⟨cleared, 0, 0⟩ else Reg.adjust s off (Reg.blend cleared v m) m
    let sh := Reg.shMask s off
    let b : Adj := if sh = 0 then ⟨s.shReg off, 0, 0⟩ else Reg.adjust (s.setReg off a.w) off (Reg.blend (s.shReg off) v sh) sh
    ∃ t, exec (.registerWrite off v true) s = .next t ∧ t = { s with regs := t.regs, shadow := t.shadow, cmd := t.cmd } ∧
      t.reg off = a.w ∧ t.shReg off = b.w ∧ t.fld Reg.CMD_ADJUSTED_COUNT_COUNT = min (s.fld Reg.CMD_ADJUSTED_COUNT_COUNT + a.n + b.n) (2 ^ 32 - 1) ∧
      (∀ o, o ≠ off → o ≠ 0x040048 → o ≠ 0x04004C → t.reg o = s.reg o) ∧ (∀ o, o ≠ off → t.shReg o = s.shReg o) ∧
      (sh = 0 → t.cmd = s.cmd) ∧ (sh ≠ 0 → off ∈ t.cmd.writes)) ∧
  (∀ (s : State) (off : Nat) (v : Word) (r : RegRow), s.served = true → Reg.rowAt off = some r → Reg.present s.variant off = true →
    Reg.configOf off = true →
    let m := Reg.liveMask s off r &&& Reg.presentBits s off
    let cleared := s.reg off &&& ~~~(v &&& BitVec.ofNat 32 r.w1c)
    let a : Adj := if m = 0 then ⟨cleared, 0, 0⟩ else Reg.adjust s off (Reg.blend cleared v m) m
    ∃ t, exec (.registerWrite off v true) s = .next t ∧
      t = { s with regs := t.regs, cmd := t.cmd, clk := t.clk, evu := t.evu, out := t.out, free := t.free } ∧ t.reg off = a.w ∧
      (∀ o, o ≠ off → o / 65536 ≠ 3 → o ∉ [0x0103A8, 0x040048, 0x04004C] → t.reg o = s.reg o) ∧
      (a.w = s.reg off ∨ s.clk.cfg < 7 ∨ Fc.aonLost s = true → t.evu = s.evu ∧ t.out = s.out ∧ t.reg 0x0103A8 = s.reg 0x0103A8) ∧
      (t.flag (Reg.CLK_XFLAG_STALE_NOW 85) = true → s.flag (Reg.CLK_XFLAG_STALE_NOW 85) = false →
        t.flag (Reg.CLK_XFLAG_STALE 85) = true ∧ t.flag (Reg.CLK_XFLAG_OVERRUN 85) = s.flag (Reg.CLK_XFLAG_OVERRUN 85))) ∧
  (∀ (s : State) (v : Word) (n : Nat), s.served = true → n < s.variant.stalls →
    let w (off : Nat) := exec (.registerWrite off v true) s
    let plain (off : Nat) := Reg.plainWrite s off v
    let on (i : Nat) := v.toNat.testBit i
    w 0x000100 = (if Fld.on Reg.TOP_MEM_STAT_UE v then exec .topMemStatUeClear (plain 0x000100) else .next (plain 0x000100)) ∧
    w 0x000334 = (if Fld.on Reg.TOP_TACK_STAT_UE v then exec .topTackStatUeClear (plain 0x000334) else .next (plain 0x000334)) ∧
    w 0x0B00B0 = (if Fld.on Reg.MTX_ERR_VALID v then exec .mtxErrClear (plain 0x0B00B0) else .next (plain 0x0B00B0)) ∧
    w 0x0C0010 = (if Fld.on Reg.GRAPH_METER_CTL_PH_CLR v then exec .phClr (plain 0x0C0010) else .next (plain 0x0C0010)) ∧
    w 0x0E0000 = (if Fld.on Reg.PWR_CTL_WARM v then exec .warm (plain 0x0E0000) else .next (plain 0x0E0000)) ∧
    w 0x0E0004 = exec (.pwrBlkrst v) (plain 0x0E0004) ∧
    w (0x100108 + 0x4000 * n) = (if on 31 then exec (.stlResidueValidClear n) (plain (0x100108 + 0x4000 * n))
      else .next (plain (0x100108 + 0x4000 * n))) ∧
    w (0x100110 + 0x4000 * n) = (if on 7 then exec (.inject n) (plain (0x100110 + 0x4000 * n)) else .next (plain (0x100110 + 0x4000 * n))) ∧
    w (0x100120 + 0x4000 * n) = exec (.stlExcClear n (on 31) (on 24)) (plain (0x100120 + 0x4000 * n))) ∧
  (∀ (s : State) (v : Word) (n : Nat), s.served = true →
    (n < 8 → exec (.registerWrite (0x030000 + 4 * n) v true) s = exec (.evuRawWrite n v) s ∧
      exec (.registerWrite (0x030020 + 4 * n) v true) s = exec (.evuEnWrite n v) s) ∧
    (n < 256 → exec (.registerWrite (0x030100 + 4 * n) v true) s = exec (.evuMapWrite n v) s) ∧
    (n < 2 → 0 < s.variant.drvCh →
      exec (.registerWrite (0x0A3010 + 4 * n) v true) s = exec (.drvUnlatch n v) (Reg.plainWrite s (0x0A3010 + 4 * n) v)))

/-- R97, R98, R100 to R102, R146, R198, R235, R581: arming an injection and clearing the error records of a stall, of the memories, of the
tack room and of the matrix change exactly the fields that the rules name; those of an absent stall, and an access that is not served, do
nothing. A product and a sum as computed never mismatch, and always with the reference inverted; the first use of the selected checker uses
the injection up, and its mismatch is recorded and drives the barn's fault pair. -/
def Obligations.ErrorRecordsClear : Prop :=
  (∀ (s : State) (i : Nat) (valid addr : Bool), s.served = false → exec (.inject i) s = .next s ∧ exec (.stlResidueValidClear i) s = .next s ∧
    exec (.stlExcClear i valid addr) s = .next s ∧ exec .topMemStatUeClear s = .next s ∧ exec .topTackStatUeClear s = .next s ∧
    exec .mtxErrClear s = .next s) ∧
  (∀ (s : State) (i : Nat) (valid addr : Bool), s.served = true →
    (s.variant.stalls ≤ i → exec (.inject i) s = .next s ∧ exec (.stlResidueValidClear i) s = .next s ∧
      exec (.stlExcClear i valid addr) s = .next s) ∧
    (i < s.variant.stalls →
      (∃ t, exec (.inject i) s = .next t ∧ State.onlyRegs [Reg.STL_RESIDUE_CTL_ARMED i] s t ∧
        t.flag (Reg.STL_RESIDUE_CTL_ARMED i) = true) ∧
      (∃ t, exec (.stlResidueValidClear i) s = .next t ∧
        State.onlyRegs [Reg.STL_RESIDUE_VALID i, Reg.STL_RESIDUE_OVF i, Reg.STL_RESIDUE_COUNT i] s t ∧
        t.flag (Reg.STL_RESIDUE_VALID i) = false ∧ t.flag (Reg.STL_RESIDUE_OVF i) = false ∧ t.fld (Reg.STL_RESIDUE_COUNT i) = 0) ∧
      (∃ t, exec (.stlExcClear i valid addr) s = .next t ∧
        State.onlyRegs [Reg.STL_EXC_VALID i, Reg.STL_EXC_OVF i, Reg.STL_EXC_COUNT i, Reg.STL_EXC_ADDR i] s t ∧
        t.flag (Reg.STL_EXC_VALID i) = (s.flag (Reg.STL_EXC_VALID i) && !valid) ∧
        t.flag (Reg.STL_EXC_ADDR i) = (s.flag (Reg.STL_EXC_ADDR i) && !addr) ∧
        (valid = true → t.flag (Reg.STL_EXC_OVF i) = false ∧ t.fld (Reg.STL_EXC_COUNT i) = 0) ∧
        (valid = false → t.flag (Reg.STL_EXC_OVF i) = s.flag (Reg.STL_EXC_OVF i) ∧ t.fld (Reg.STL_EXC_COUNT i) = s.fld (Reg.STL_EXC_COUNT i)))) ∧
    (∃ t, exec .topMemStatUeClear s = .next t ∧ State.onlyRegs [Reg.TOP_MEM_STAT_UE, Reg.TOP_MEM_STAT_UE_OVF] s t ∧
      t.flag Reg.TOP_MEM_STAT_UE = false ∧ t.flag Reg.TOP_MEM_STAT_UE_OVF = false) ∧
    (∃ t, exec .topTackStatUeClear s = .next t ∧ State.onlyRegs [Reg.TOP_TACK_STAT_UE, Reg.TOP_TACK_STAT_UE_OVF] s t ∧
      t.flag Reg.TOP_TACK_STAT_UE = false ∧ t.flag Reg.TOP_TACK_STAT_UE_OVF = false) ∧
    (∃ t, exec .mtxErrClear s = .next t ∧ State.onlyRegs [Reg.MTX_ERR_VALID, Reg.MTX_ERR_OVF, Reg.MTX_ERR_COUNT] s t ∧
      t.flag Reg.MTX_ERR_VALID = false ∧ t.flag Reg.MTX_ERR_OVF = false ∧ t.fld Reg.MTX_ERR_COUNT = 0)) ∧
  (∀ (a b : Int) (x : Acc), Arith.mulMismatch a b (a * b) false = false ∧ Arith.mulMismatch a b (a * b) true = true ∧
    Arith.addMismatch 72 x a (x.add a 72) false = false ∧ Arith.addMismatch 72 x a (x.add a 72) true = true) ∧
  (∀ (s : State) (i xreg : Nat) (cs : List Checker), (∀ c ∈ cs, c.mismatch false = false ∧ c.mismatch true = true) →
    (s.flag (Reg.STL_RESIDUE_CTL_ARMED i) = false → Stl.check s i xreg cs = s) ∧
    (∀ c : Checker, s.flag (Reg.STL_RESIDUE_CTL_ARMED i) = true →
      (cs.filter fun d => d.unit == s.fld (Reg.STL_RESIDUE_CTL_UNITSEL i) && d.lane == s.fld (Reg.STL_RESIDUE_CTL_LANE i) &&
        d.elem == s.fld (Reg.STL_RESIDUE_CTL_ELEM i)) = [c] →
      ∃ t : State, Stl.check s i xreg cs = t.faultEvent (i / 8) ∧ t.flag (Reg.STL_RESIDUE_CTL_ARMED i) = false ∧
        t.flag (Reg.STL_ARITH_RESIDUE i) = true ∧ t.flag (Reg.STL_RESIDUE_VALID i) = true ∧
        (s.flag (Reg.STL_RESIDUE_VALID i) = false → t.fld (Reg.STL_RESIDUE_UNIT i) = c.unit ∧ t.fld (Reg.STL_RESIDUE_LANE i) = c.lane ∧
          t.fld (Reg.STL_RESIDUE_ELEM i) = c.elem ∧ t.fld (Reg.STL_RESIDUE_XREG i) = xreg % 16) ∧
        (s.flag (Reg.STL_RESIDUE_VALID i) = true → t.flag (Reg.STL_RESIDUE_OVF i) = true ∧
          t.fld (Reg.STL_RESIDUE_UNIT i) = s.fld (Reg.STL_RESIDUE_UNIT i))))

/-- R7, R196, R235, R285, R286, R541, Table 07-5: the host writes hayloft, barn stores and local memories while no boundary is struck, and a
bale slot that is EMPTY or OPEN, which becomes OPEN; every other such write is discarded and counted. A write of an absent unit has no
effect, one without a path is recorded, and one that is not served (R41, R319) does nothing. -/
def Obligations.HostWritesWhereItMay : Prop :=
  (∀ (s : State) (cells : List (Nat × Byte)), s.served = false ∨ cells = [] → exec (.memwinWrite cells) s = .next s ∧
    exec (.tackRoomWrite cells) s = .next s) ∧
  ∀ (s : State) (a : Nat × Byte) (l : List (Nat × Byte)), s.served = true →
    let cells := a :: l
    let code := Mtx.refusal s 8 true a.1
    (code = .absent → exec (.memwinWrite cells) s = .next s ∧ exec (.tackRoomWrite cells) s = .next s) ∧
    (code = .decode ∨ code = .nopath → ∃ t, exec (.memwinWrite cells) s = .next t ∧ exec (.tackRoomWrite cells) s = .next t ∧
      Mtx.noted (if code = .decode then 1 else 2) 8 true a.1 s t) ∧
    ((∀ c ∈ cells, Mem.err s (Mem.wordOf c.1) = 0) → code = .ok → Mtx.target a.1 ≠ 15 →
      (s.running = false → ∃ t, exec (.memwinWrite cells) s = .next t ∧
        t = { s with mem := { s.mem with bytes := t.mem.bytes, err := t.mem.err, shared := t.mem.shared } } ∧
        (∀ x, t.byte x = Mem.lastByte cells x (s.byte x)) ∧ ∀ w, Mem.err t w = Mem.err s w) ∧
      (s.running = true → ∃ t, exec (.memwinWrite cells) s = .next t ∧ State.onlyRegs [Reg.TOP_MEM_STAT_HOST_WR_DISC] s t ∧
        t.fld Reg.TOP_MEM_STAT_HOST_WR_DISC = min (s.fld Reg.TOP_MEM_STAT_HOST_WR_DISC + 1) 255)) ∧
    ((∀ c ∈ cells, Mem.err s (Mem.wordOf c.1) = 0) → code = .ok → Mtx.target a.1 = 15 →
      (∀ i, Hst.slot cells = some i → Bale.st s i ≤ 1 → s.saveWarned = false → ∃ t, exec (.tackRoomWrite cells) s = .next t ∧
        Bale.st t i = 1 ∧ t.stalls = s.stalls ∧
        ∀ x, x < 0x9040000 ∨ 0x9041000 ≤ x → t.byte x = Mem.lastByte cells x (s.byte x)) ∧
      ((∀ i, Hst.slot cells = some i → 1 < Bale.st s i ∨ s.saveWarned = true) → ∃ t, exec (.tackRoomWrite cells) s = .next t ∧
        State.onlyRegs [Reg.TOP_TACK_STAT_WR_DISC] s t ∧
        t.fld Reg.TOP_TACK_STAT_WR_DISC = min (s.fld Reg.TOP_TACK_STAT_WR_DISC + 1) 65535))

/-- R235, R237, R240 to R242, Table 07-7: requests for a switch, its taking place in phase D, the fall-back on a reset of the fast matrix,
and the pattern test move IN_SERVICE, PENDING and FAST_STATE as the rules say; the host's requests act where they are served (R41, R319). -/
def Obligations.MatrixSwitches : Prop :=
  (∀ (s : State) (b : Bool), s.served = false →
    exec .reqFb s = .next s ∧ exec (.reqFast b) s = .next s ∧ exec .retest s = .next s) ∧
  ∀ s : State,
    let fb := Mtx.fallback s
    let fast := s.fld Reg.MTX_STAT_FAST_STATE
    (s.served = true →
      (fb = true → exec .reqFb s = .next s) ∧
      (fb = false → ∃ t, exec .reqFb s = .next t ∧ t = { s with regs := t.regs, mtx := { s.mtx with req := some true, reqLate := s.phase == .d } } ∧
        State.keptBut [Reg.MTX_STAT_PENDING] s t ∧ t.flag Reg.MTX_STAT_PENDING = true) ∧
      exec (.reqFast true) s = .next s ∧
      (fast ≠ 0 → ∃ t, exec (.reqFast false) s = .next t ∧ State.onlyRegs [Reg.MTX_STAT_REFUSED] s t ∧ t.flag Reg.MTX_STAT_REFUSED = true) ∧
      (fast = 0 → fb = false → exec (.reqFast false) s = .next s) ∧
      (fast = 0 → fb = true → ∃ t, exec (.reqFast false) s = .next t ∧ State.keptBut [Reg.MTX_STAT_PENDING] s t ∧
        t = { s with regs := t.regs, mtx := { s.mtx with req := some false, reqLate := s.phase == .d } } ∧ t.flag Reg.MTX_STAT_PENDING = true) ∧
      (fb = true → fast ≤ 1 → ∃ t, exec .retest s = .next t ∧ State.onlyRegs [Reg.MTX_STAT_FAST_STATE] s t ∧ t.fld Reg.MTX_STAT_FAST_STATE = 2) ∧
      (fb = false ∨ 1 < fast → exec .retest s = .next s)) ∧
    (∀ pass, fast = 2 → ∃ t, exec (.patternTestDone pass) s = .next t ∧ State.onlyRegs [Reg.MTX_STAT_FAST_STATE] s t ∧
      t.fld Reg.MTX_STAT_FAST_STATE = if pass then 0 else 1) ∧
    (∀ pass, fast ≠ 2 → exec (.patternTestDone pass) s = .next s) ∧
    (∀ want, s.mtx.req = some want → s.mtx.reqLate = false → s.phase = .d → want = true ∨ fast = 0 → s.mtx.unanswered = [] →
      ∃ t, exec .plannedSwitch s = .next t ∧ t.mtx = { s.mtx with req := none, reqLate := false } ∧
      Mtx.fallback t = want ∧ t.flag Reg.MTX_STAT_PENDING = false ∧ t.mem = s.mem ∧ t.stalls = s.stalls ∧
      (fb ≠ want → t.flag Reg.MTX_STAT_LAST_CAUSE = false ∧ t.fld Reg.MTX_STAT_SWITCHES = min (s.fld Reg.MTX_STAT_SWITCHES + 1) 255)) ∧
    (∀ want, s.mtx.req = some want → s.mtx.reqLate = true ∨ s.phase ≠ .d ∨ (want = false ∧ fast ≠ 0) → exec .plannedSwitch s = .next s) ∧
    (s.mtx.req = none → exec .plannedSwitch s = .next s) ∧
    (50 ∈ s.fc.pulses → ∃ t, exec .fastMatrixReset s = .next t ∧ Mtx.fallback t = true ∧ t.fld Reg.MTX_STAT_FAST_STATE = 1 ∧
      t.mtx.req = none ∧ t.flag Reg.MTX_STAT_PENDING = false ∧ t.mem = s.mem ∧ t.stalls = s.stalls ∧ t.mtx.unanswered = s.mtx.unanswered ∧
      (fb = true → t.mtx.replay = s.mtx.replay) ∧
      (fb = false → (t.mtx.replay = true ↔ s.mtx.unanswered ≠ [] ∨ 0 < Mtx.stallRows s ∨ 0 < s.mem.adds) ∧
        t.flag Reg.MTX_STAT_LAST_CAUSE = true)) ∧
    (50 ∉ s.fc.pulses → exec .fastMatrixReset s = .next s)

/-- R236, R484, R461, R476: a timeout of the matrix in service and a watchdog pulse their fault source, which is recorded; a master without a
watchdog has none. -/
def Obligations.MatrixFaultsAreNoted : Prop :=
  ∀ s : State,
    (Fc.ready s (if Mtx.fallback s then 51 else 50) → ∃ t, exec .matrixTimeout s = .next t ∧
      Fc.noted s (if Mtx.fallback s then 51 else 50) t) ∧
    (∀ m, m < 16 → match Mtx.watchdog m with
      | some n => Fc.ready s n → ∃ t, exec (.masterWatchdog m) s = .next t ∧ Fc.noted s n t
      | none => exec (.masterWatchdog m) s = .next s)

/-- R7, R218 to R238: a master that is not there sends nothing; an access that its target does not take is answered with an error that is
recorded; one that is held back or not granted waits in its place; a granted one takes effect, takes the next sequence number and is answered;
one on its way takes effect when it is served; a reissued one takes effect once, and is answered again. -/
def Obligations.MatrixTransactionsTakeEffect : Prop :=
  (∀ (s : State) (r : MtxReq) (waited slot : Nat) (rivals : List MtxRival) (fate : MtxFate), r.cells = [] ∨ Mtx.sends s r = false →
    exec (.matrixTransaction r waited slot rivals fate) s = .next s) ∧
  (∀ (s : State) (r : MtxReq) (c : Nat × Byte) (l : List (Nat × Byte)) (waited slot : Nat) (rivals : List MtxRival) (fate : MtxFate),
    r.cells = c :: l → Mtx.sends s r = true →
    let code := Mtx.refusal s r.master r.write c.1
    let i := Instr.matrixTransaction r waited slot rivals fate
    let granted := Mtx.granted s r c.1 waited slot (Mtx.rivals s r rivals)
    let key := Mtx.key r.master (Mtx.point r.write c.1)
    let seq := Sparse.get s.mtx.seq key 0
    (∀ x : MtxTx, fate = .served → s.mtx.unanswered = [x] → x.stage = .flying → x.req = r → x.point = Mtx.pointOf r → Mtx.plain s r →
      ∃ t, exec i s = .next t ∧ t.mtx.unanswered = [] ∧ Sparse.get t.mtx.applied key 0 = x.seq + 1 ∧ Mtx.effected s r t ∧
        .response r.master r.write .ok (if r.write then [] else Mtx.shown s r) ∈ t.out) ∧
    ((∀ x ∈ s.mtx.unanswered, x.req ≠ r) →
      (Mtx.full s r = true → (∀ q ∈ s.mtx.queue, q.req ≠ r) → exec i s = .next s) ∧
      (Mtx.full s r = false ∨ (∃ q ∈ s.mtx.queue, q.req = r) →
        (Mtx.holds s r = true → ∃ t, exec i s = .next t ∧ Mtx.queued r waited s t) ∧
        (Mtx.holds s r = false → code ≠ .ok → ∃ t, exec i s = .next t ∧ (∀ q ∈ t.mtx.queue, q.req ≠ r) ∧ t.mem = s.mem ∧ t.stalls = s.stalls ∧
          .response r.master r.write code (if r.write then [] else (Mtx.words r.cells).map fun a => (a, 0)) ∈ t.out ∧
          (code = .decode → Mtx.noted 1 r.master r.write c.1 s t) ∧ (code = .nopath → Mtx.noted 2 r.master r.write c.1 s t)) ∧
        (Mtx.holds s r = false → code = .ok → granted = false → ∃ t, exec i s = .next t ∧ Mtx.queued r waited s t) ∧
        (Mtx.holds s r = false → code = .ok → granted = true → fate = .served ∨ fate = .lost ∨ fate = .inFlight → Mtx.plain s r →
          s.mtx.unanswered = [] → ∃ t, exec i s = .next t ∧ Sparse.get t.mtx.seq key 0 = (seq + 1) % 256 ∧
          t.fld (Reg.MTX_PARK_LAST (Mtx.target c.1)) = r.master % 16 ∧ (∀ q ∈ t.mtx.queue, q.req ≠ r) ∧
          (fate = .inFlight → t.mem = s.mem ∧ t.mtx.unanswered = [⟨r, Mtx.pointOf r, seq, .flying, []⟩]) ∧
          (fate ≠ .inFlight → Mtx.effected s r t ∧ Sparse.get t.mtx.applied key 0 = seq + 1) ∧
          (fate = .lost → t.mtx.unanswered = [⟨r, Mtx.pointOf r, seq, .applied, if r.write then [] else Mtx.shown s r⟩]) ∧
          (fate = .served → t.mtx.unanswered = [] ∧ .response r.master r.write .ok (if r.write then [] else Mtx.shown s r) ∈ t.out))))) ∧
  (∀ s : State, s.mtx.replay = false → exec .reissueComplete s = .next s) ∧
  (∀ (s : State) (x : MtxTx) (c : Nat × Byte) (l : List (Nat × Byte)), s.mtx.replay = true → s.mtx.unanswered = [x] →
    Mtx.stallRows s = 0 → s.mem.adds = 0 → x.req.cells = c :: l → Mtx.refusal s x.req.master x.req.write c.1 = .ok →
    let key := Mtx.key x.req.master x.point
    (Mtx.done s key x.seq = true → ∃ t, exec .reissueComplete s = .next t ∧
      t = { s with regs := t.regs, mtx := { s.mtx with unanswered := [], replay := false }, out := t.out } ∧
      State.keptBut [Reg.MTX_REPLAY_REPLAYED, Reg.MTX_REPLAY_DUP, Reg.CLK_XDISC_DISCARD 2] s t ∧
      .response x.req.master x.req.write .ok x.words ∈ t.out ∧
      t.fld Reg.MTX_REPLAY_REPLAYED = min (s.fld Reg.MTX_REPLAY_REPLAYED + 1) 65535 ∧
      t.fld Reg.MTX_REPLAY_DUP = min (s.fld Reg.MTX_REPLAY_DUP + 1) 65535) ∧
    (Mtx.done s key x.seq = false → Mtx.plain s x.req → ∃ t, exec .reissueComplete s = .next t ∧ t.mtx.replay = false ∧ t.mtx.unanswered = [] ∧
      Mtx.effected s x.req t ∧ Sparse.get t.mtx.applied key 0 = x.seq + 1 ∧
      .response x.req.master x.req.write .ok (if x.req.write then [] else Mtx.shown s x.req) ∈ t.out ∧
      t.fld Reg.MTX_REPLAY_REPLAYED = min (s.fld Reg.MTX_REPLAY_REPLAYED + 1) 65535 ∧ t.fld Reg.MTX_REPLAY_DUP = s.fld Reg.MTX_REPLAY_DUP))

/-- R6, R197, R198, R200, R201: the groom counts every corrected word of a row and writes it back clean where no word of the row is
uncorrectable, corrects a bundle of a stall that issues none outside a shadow bank being armed, reports one that cannot be corrected, and
counts the pass at its end; what has struck a bundle that the scrub does not reach stays. -/
def Obligations.GroomScrubs : Prop :=
  (∀ (s : State) (row : Nat) (last : Bool), let base := row / 64 * 64
    let ws := Mem.wordsOf ((List.range 64).map (base + ·))
    (Mem.present s.variant base = false ∨ Mem.inTack base = true → ∃ t, exec (.scrubRow row [] last) s = .next t ∧
      State.onlyRegs [Reg.TOP_GROOM_PASS] s t ∧
      t.fld Reg.TOP_GROOM_PASS = (s.fld Reg.TOP_GROOM_PASS + if last then 1 else 0) % 65536) ∧
    (Mem.present s.variant base = true → Mem.inTack base = false → (∀ w ∈ ws, Mem.err s w ≤ 1) →
    ∃ t, exec (.scrubRow row [] last) s = .next t ∧ t = { s with regs := t.regs, mem := { s.mem with err := t.mem.err } } ∧
      State.keptBut [Reg.TOP_MEM_STAT_CE, Reg.TOP_GROOM_PASS] s t ∧ (∀ w ∈ ws, Mem.err t w = 0) ∧
      (∀ w, w ∉ ws → Mem.err t w = Mem.err s w) ∧
      t.fld Reg.TOP_MEM_STAT_CE = min (s.fld Reg.TOP_MEM_STAT_CE + (ws.filter fun w => Mem.err s w == 1).length) 65535 ∧
      t.fld Reg.TOP_GROOM_PASS = (s.fld Reg.TOP_GROOM_PASS + if last then 1 else 0) % 65536)) ∧
  (∀ (s : State) (i bank addr upset : Nat) (last : Bool), s.variant.stalls ≤ i →
    ∃ t, exec (.scrubBundle i bank addr upset last) s = .next t ∧ State.onlyRegs [Reg.TOP_GROOM_PASS] s t) ∧
  (∀ (s : State) (i bank addr upset : Nat) (last : Bool), i < s.variant.stalls → upset ≤ 2 →
    let x := s.stall i
    let mark := max upset (Sparse.get x.progErr (4096 * bank + addr) 0)
    let reached : Prop := x.status ≠ .running ∧ x.status ≠ .atSync ∧ (bank = Stl.bank s i ∨ s.bale.arming = none)
    (¬ reached → ∃ t, exec (.scrubBundle i bank addr upset last) s = .next t ∧ t = { s with stalls := t.stalls } ∧
      t.stall i = { x with progErr := (t.stall i).progErr } ∧ Sparse.get (t.stall i).progErr (4096 * bank + addr) 0 = mark) ∧
    (reached → mark ≤ 1 →
      ∃ t, exec (.scrubBundle i bank addr upset last) s = .next t ∧ t = { s with regs := t.regs, stalls := t.stalls } ∧
      State.keptBut [Reg.TOP_GROOM_PM_CE, Reg.TOP_GROOM_PASS] s t ∧
      t.stall i = { x with progErr := (t.stall i).progErr } ∧ Sparse.get (t.stall i).progErr (4096 * bank + addr) 0 = 0 ∧
      t.fld Reg.TOP_GROOM_PM_CE = min (s.fld Reg.TOP_GROOM_PM_CE + mark) 255 ∧
      t.fld Reg.TOP_GROOM_PASS = (s.fld Reg.TOP_GROOM_PASS + if last then 1 else 0) % 65536) ∧
    (reached → mark = 2 → Fc.ready s (24 + i / 8) →
      ∃ t, exec (.scrubBundle i bank addr upset last) s = .next t ∧ Fc.noted s (24 + i / 8) t))

/-- R459, R461 to R466, R469, R474 to R476, R481: a source that leaves good is recorded with its class, the AON time and the frame, holds the
reaction of its class while its pair is away from good, and is HELD or IDLE when the pair is good again. -/
def Obligations.FaultsAreCollected : Prop :=
  (∀ (s : State) (aon n : Nat) (strobe : Bool), Fc.ready s n → ∃ t, exec (.faultPairChange aon strobe [⟨n, 2, none⟩]) s = .next t ∧
    Fc.noted s n t ∧ (t.fcSrc n).pair = 2 ∧ (t.fcSrc n).st = .fault ∧ (t.fcSrc n).cls = Fc.cls s n ∧ t.vecBit 0x020040 n = true ∧
    (s.flag Reg.FC_FIRST_VALID = false → t.fld Reg.FC_FIRST_CLASS = Fc.cls s n ∧ t.fld Reg.FC_FIRST_TS_TS = aon % 2 ^ 32 ∧
      t.fld Reg.FC_FIRST_FRAME_FRAME = Fc.frameOf s strobe % 2 ^ 32) ∧
    (Fc.cls s n = Fc.mute → t.vecBit 0x020060 n = true ∧ t.flag Reg.FC_STAT_MUTE = true) ∧
    (Fc.cls s n = Fc.safe → (t.fcSrc n).latch = true ∧ ∀ b, b < 3 → (s.fcSrc n).latch = false →
      (s.fld (Reg.FC_SRC_GROUPS n)).testBit b = true → (t.fld Reg.FC_STAT_SAFE).testBit b = true)) ∧
  (∀ (s : State) (aon n : Nat) (strobe : Bool), Fc.present s.variant n = true → n < 192 → (s.fcSrc n).pair = 2 → (s.fcSrc n).st = .fault →
    Fc.aonLost s = false → ∃ t, exec (.faultPairChange aon strobe [⟨n, 1, none⟩]) s = .next t ∧ (t.fcSrc n).pair = 1 ∧
      t.vecBit 0x020040 n = false ∧ (t.fcSrc n).st = (if Fc.mute ≤ (s.fcSrc n).cls then .held else .idle) ∧
      (t.fcSrc n).latch = (s.fcSrc n).latch) ∧
  (∀ (s : State) (aon n : Nat) (strobe : Bool), Fc.present s.variant n = true → n < 192 → (s.fcSrc n).pair = 0 ∨ (s.fcSrc n).pair = 3 →
    (s.fcSrc n).st = .idle ∨ (s.fcSrc n).st = .held → Fc.masked s n = false → Fc.aonLost s = false →
    ∃ t, exec (.railDisagree aon strobe n) s = .next t ∧ Fc.noted s n t ∧
      (s.flag Reg.FC_FIRST_VALID = false → t.fld Reg.FC_FIRST_RAIL = if (s.fcSrc n).pair = 0 then 1 else 2))

/-- R53, R71, R470 to R473, R478: a held MUTE reaction is released after its hold-off or by FC_RELEASE, which clears the source's pending bit
and the record that names it; a consequence window and a reset pulse end. While AON is lost none of them does, and a release waits in
crossing 86. -/
def Obligations.FaultsAreReleased : Prop :=
  (∀ (s : State) (n : Nat), let x := s.fcSrc n
    let due := Fc.aonLost s = false ∧ x.st = .held ∧ x.cls = Fc.mute ∧ s.flag (Reg.FC_SRC_AUTO n) = true ∧ x.pair = 1
    (¬ due → exec (.muteAutoRelease n) s = .next s) ∧
    (due → n < 192 → x.latch = false → ∃ t, exec (.muteAutoRelease n) s = .next t ∧ (t.fcSrc n).st = .idle ∧
      t.vecBit 0x020060 n = false ∧ t.vecBit 0x020020 n = s.vecBit 0x020020 n ∧ ∀ m, m ≠ n → t.fcSrc m = s.fcSrc m)) ∧
  (∀ (s : State) (d : Desc), let n := d.field 10 2
    Cmd.starts s 0x30 d → d.field 8 1 = 1 → n < 192 → Fc.present s.variant n = true → (s.fcSrc n).pair = 1 → (s.fcSrc n).st = .held →
    Fc.mute ≤ (s.fcSrc n).cls →
    (Fc.aonLost s = true → s.clk.x86.length ≤ 3 → ∃ t, exec .fcRelease s = .next t ∧ t.fc = s.fc ∧ t.clk.x86 = s.clk.x86 ++ [(1, n)] ∧
      Cmd.popped s 0x30 t ∧ ∃ r ∈ t.cmd.run, r.d = d ∧ r.wait = .release) ∧
    (Fc.aonLost s = false → ∃ t, exec .fcRelease s = .next t ∧
      Cmd.completed s d false 0 0 [1, if s.vecBit 0x020040 n then 1 else 0] t ∧ (t.fcSrc n).st = .idle ∧ (t.fcSrc n).latch = false ∧
      t.vecBit 0x020020 n = false ∧ t.vecBit 0x020060 n = false ∧
      (s.flag Reg.FC_FIRST_VALID = true → s.fld Reg.FC_FIRST_SRC = n → t.flag Reg.FC_FIRST_VALID = false))) ∧
  (∀ (s : State) (aon n : Nat) (strobe : Bool),
    (Fc.aonLost s = true ∨ (∀ w ∈ s.fc.windows, w.src ≠ n) → exec (.consequenceWindowClose aon strobe n) s = .next s) ∧
    (∀ as bs w, Fc.aonLost s = false → s.fc.windows = as ++ w :: bs → w.src = n → (∀ v ∈ as, v.src ≠ n) → w.mask = 0 →
      ∃ t, exec (.consequenceWindowClose aon strobe n) s = .next t ∧ t.fc = { s.fc with windows := as ++ bs } ∧
        t.fld Reg.FC_STAT_WINDOWS = (as ++ bs).length % 256 ∧ t.fld Reg.FC_AON_NOW_NOW = aon % 2 ^ 32)) ∧
  (∀ (s : State) (n : Nat), s.clk.x84 = {} →
    (Fc.aonLost s = true ∨ n ∉ s.fc.pulses → exec (.resetPulseEnd n) s = .next s) ∧
    (Fc.aonLost s = false → n ∈ s.fc.pulses → n < 42 ∨ n = 50 → exec (.resetPulseEnd n) s = .next { s with fc := { s.fc with pulses := s.fc.pulses.erase n } }))

/-- R41, R42, R70 to R72, R481, Tables 02-1, 02-2 and 02-10: the root PLL moves as its events say and raises or ends F081 and F082; a
detector declares its clock lost after a window of less than half the edges and present after two of at least nine tenths; when AON
returns, the sources that stand away from good are recorded. -/
def Obligations.ClocksFollowTheirDetectors : Prop :=
  (∀ s : State,
    let pll (st : Nat) (t : State) : Prop := t.fld Reg.CLK_STATUS_PLL_STATE = st ∧ t.vecBit 0x030000 9 = true ∧ t.stalls = s.stalls ∧
      t.mem = s.mem ∧ t.cmd = s.cmd ∧ State.pagesKept [0, 1, 2, 3, 5, 7, 8, 9, 10, 13] s t
    let st := s.fld Reg.CLK_STATUS_PLL_STATE
    (st = 1 → ∃ t, exec .pllLock s = .next t ∧ pll 2 t ∧ (t.fcSrc 81).pair = 1 ∧ (t.fcSrc 82).pair = 1) ∧
    (st ≠ 1 → exec .pllLock s = .next s) ∧
    (st = 2 → ∃ t, exec .pllUnlock s = .next t ∧ pll 3 t ∧ (t.fcSrc 81).pair = 2 ∧ (t.fcSrc 82).pair = 2 ∧
      t.flag Reg.CLK_LOSS_PLL_UNLOCK = true ∧ t.flag Reg.CLK_LOSS_HOLDOVER = true) ∧
    (st ≠ 2 → exec .pllUnlock s = .next s) ∧
    (st = 3 → s.flag Reg.CLK_STATUS_REF_OK = true → ∃ t, exec .pllRegain s = .next t ∧ pll 4 t ∧ (t.fcSrc 82).pair = 1) ∧
    (st ≠ 3 ∨ s.flag Reg.CLK_STATUS_REF_OK = false → exec .pllRegain s = .next s) ∧
    (st = 4 → ∃ t, exec .pllRelock s = .next t ∧ pll 2 t ∧ (t.fcSrc 81).pair = 1 ∧ (t.fcSrc 82).pair = 1) ∧
    (st ≠ 4 → exec .pllRelock s = .next s)) ∧
  (∀ (s : State) (d count : Nat), d < 5 → (d = 3 → s.variant.snsIn ≠ 0 ∧ s.flag Reg.CLK_GATE_SNS_EN = true) →
    let x : ClkDet := Sparse.get s.clk.det d {}
    let few := 2 * count < Clk.nominal d
    let many := 9 * Clk.nominal d ≤ 10 * count
    let det (t : State) : ClkDet := Sparse.get t.clk.det d {}
    let only (y : ClkDet) (t : State) : Prop := t = { s with clk := { s.clk with det := t.clk.det } } ∧ det t = y ∧
      ∀ e, e ≠ d → Sparse.get t.clk.det e {} = Sparse.get s.clk.det e {}
    let src := if d = 0 then 80 else d + 82
    (few → x.lost = false → ∃ t, exec (.clockLossWindow d count) s = .next t ∧ det t = { lost := true, good := 0 } ∧ Clk.shown t d = false ∧
      (t.fcSrc src).pair = 2 ∧
      (d = 0 → t.flag Reg.CLK_LOSS_REF_LOSS = true ∧ t.fld Reg.CLK_STATUS_PLL_STATE =
        match s.fld Reg.CLK_STATUS_PLL_STATE with | 1 => 0 | 2 => 3 | 4 => 3 | n => n) ∧
      (d = 1 → t.flag Reg.CLK_LOSS_ETH_REF_LOSS = true) ∧ (d = 2 → t.flag Reg.CLK_LOSS_PCIE_REF_LOSS = true) ∧
      (d = 3 → t.flag Reg.CLK_LOSS_SNS_CLK_LOSS = true) ∧ (d = 4 → t.flag Reg.CLK_LOSS_AON_LOSS = true)) ∧
    (few → x.lost = true → ∃ t, exec (.clockLossWindow d count) s = .next t ∧ only { x with good := 0 } t) ∧
    (many → x.good = 0 → ∃ t, exec (.clockLossWindow d count) s = .next t ∧ only { x with good := 1 } t) ∧
    (many → x.good ≠ 0 → x.lost = false → Clk.shown s d = true → ∃ t, exec (.clockLossWindow d count) s = .next t ∧
      only { x with good := 2 } t) ∧
    (many → x.good ≠ 0 → x.lost = true ∨ Clk.shown s d = false → ∃ t, exec (.clockLossWindow d count) s = .next t ∧
      det t = { lost := false, good := 2 } ∧ Clk.shown t d = true ∧ (t.fcSrc src).pair = 1) ∧
    (¬ few → ¬ many → ∃ t, exec (.clockLossWindow d count) s = .next t ∧ only { x with good := 0 } t)) ∧
  (∀ (s : State) (count : Nat), s.variant.snsIn = 0 ∨ s.flag Reg.CLK_GATE_SNS_EN = false → exec (.clockLossWindow 3 count) s = .next s) ∧
  (∀ (s : State) (aon : Nat) (strobe : Bool),
    (Fc.aonLost s = false → exec (.aonReturn aon strobe) s = .next s) ∧
    (Fc.aonLost s = true → s.clk.x86 = [] → ∃ t, exec (.aonReturn aon strobe) s = .next t ∧ Fc.aonLost t = false ∧
      t.fld Reg.FC_AON_NOW_NOW = aon % 2 ^ 32 ∧
      ∀ n, n < 192 → Fc.present s.variant n = true → (s.fcSrc n).st = .idle ∨ (s.fcSrc n).st = .held → Fc.masked s n = false →
        (s.fcSrc n).latch = true ∨ (s.fcSrc n).pair ≠ 1 → t.vecBit 0x020020 n = true))

/-- R523, R524, R528, R541, R544, R581: a rail monitor and the temperature show in PWR_STAT and drive F088 to F095, a change after the first
value fires, and nothing is watched before the release of PORST_N; the armed comparator raises SAVE_WARN, which takes the snapshot and stops
commands; the image is written with its trailer. -/
def Obligations.PowerIsWatchedAndSaved : Prop :=
  (∀ (s : State) (rail : Nat) (tj : Int), Power.watches s = false → exec (.railMonitorGood rail) s = .next s ∧
    exec (.railMonitorFault rail) s = .next s ∧ exec (.temperatureChange tj) s = .next s ∧ exec .vinMonArmed s = .next s) ∧
  (∀ (s : State) (rail : Nat) (good : Bool), rail ≤ 6 → Power.watches s = true → ∃ t,
    exec (if good then .railMonitorGood rail else .railMonitorFault rail) s = .next t ∧ t.stalls = s.stalls ∧ t.mem = s.mem ∧ t.cmd = s.cmd ∧
    let f : Fld := if rail = 6 then Reg.PWR_STAT_HOLD_OK else ⟨0x0E000C, rail, 1⟩
    let pair (b : Bool) := if b then 1 else 2
    let other (i : Nat) := s.flag ⟨0x0E000C, i, 1⟩ || !s.pwr.seen.testBit i
    t.flag f = good ∧ t.pwr.seen.testBit rail = true ∧ (rail < 4 → (t.fcSrc (88 + rail)).pair = pair good) ∧
    (rail = 4 → (t.fcSrc 92).pair = pair (good && other 5)) ∧ (rail = 5 → (t.fcSrc 92).pair = pair (good && other 4)) ∧
    (rail = 6 → (t.fcSrc 95).pair = pair good) ∧
    (Pll.running s = true → s.pwr.seen.testBit rail = true → s.flag f ≠ good → t.vecBit 0x030000 (if rail = 6 then 196 else 193) = true)) ∧
  (∀ (s : State) (tj : Int), -128 ≤ tj → tj < 128 → Power.watches s = true → ∃ t, exec (.temperatureChange tj) s = .next t ∧ t.stalls = s.stalls ∧ t.mem = s.mem ∧
    t.cmd = s.cmd ∧ (t.fld Reg.PWR_STAT_TJ : Int) = tj % 256 ∧
    ∀ x ∈ [(Reg.PWR_STAT_TWARN_ON, s.fld Reg.PWR_CFG_TWARN, 93, 194), (Reg.PWR_STAT_TCRIT_ON, 115, 94, 195)],
      let on := decide (if s.flag x.1 then (x.2.1 : Int) - 5 < tj else (x.2.1 : Int) ≤ tj)
      t.flag x.1 = on ∧ (t.fcSrc x.2.2.1).pair = (if on then 2 else 1) ∧
      (Pll.running s = true → on = true → s.flag x.1 = false → s.pwr.seen.testBit 7 = true → t.vecBit 0x030000 x.2.2.2 = true)) ∧
  (∀ s : State, Power.watches s = true → ∃ t, exec .vinMonArmed s = .next t ∧ State.onlyRegs [Reg.PWR_STAT_ARMED] s t ∧ t.flag Reg.PWR_STAT_ARMED = true) ∧
  (∀ s : State,
    (s.flag Reg.PWR_STAT_ARMED = false ∨ s.saveWarned = true → exec .saveWarn s = .next s) ∧
    (s.flag Reg.PWR_STAT_ARMED = true → s.saveWarned = false → ∃ t, exec .saveWarn s = .next t ∧ t.stalls = s.stalls ∧ t.saveWarned = true ∧
      t.flag Reg.CMD_STAT_CPX_READY = false ∧ (Pll.running s = true → t.vecBit 0x030000 192 = true) ∧ t.pwr.saving = some (Save.image s) ∧ t.pwr.image = none ∧
      t.bale.arming = none ∧ (s.variant.drvCh ≠ 0 → t.drv.save.isSome = true))) ∧
  (∀ (s : State) (us : Nat),
    (s.pwr.saving = none → exec (.saveImageComplete us) s = .next s) ∧
    (∀ x, s.pwr.saving = some x → x.bytes.length ≤ 0xFFF0 → ∃ t, exec (.saveImageComplete us) s = .next t ∧
      t = { s with regs := t.regs, mem := { s.mem with bytes := t.mem.bytes, err := t.mem.err }, pwr := { s.pwr with
        saving := none, image := some x, lastSave := t.reg 0x0E001C } } ∧
      State.keptBut [Reg.PWR_LAST_SAVE_SAVES, Reg.PWR_LAST_SAVE_US] s t ∧ t.fld Reg.PWR_LAST_SAVE_US = us % 1024 ∧
      let saves := (s.fld Reg.PWR_LAST_SAVE_SAVES + 1) % 65536
      t.fld Reg.PWR_LAST_SAVE_SAVES = saves ∧ (∀ i, i < x.bytes.length → t.byte (0x9000000 + i) = x.bytes.getD i 0) ∧
      (∀ i, i < 16 → t.byte (0x900FFF0 + i) =
        (Arith.bytes 8 saves ++ Arith.bytes 4 x.bytes.length ++ Arith.bytes 4 (Crc.crc32c x.bytes)).getD i 0) ∧
      ∀ a, a < 0x9000000 ∨ (0x9000000 + x.bytes.length ≤ a ∧ a < 0x900FFF0) ∨ 0x9010000 ≤ a → t.byte a = s.byte a))

/-- R41, R319, R525, R529 to R534, R549, Tables 18-3 and 18-5: a reset of the device leaves every register but those of the pins and fuses
at its reset value and keeps the tack room; its release samples the straps; WARM_N stops frames and stalls and keeps the boundary number;
PWR_BLKRST resets the blocks it names; the boot ends with the command processor ready. -/
def Obligations.ResetsAndBootFollowTheirTables : Prop :=
  ∀ s : State, s.wf = true →
    let held := s.pwr.por || s.pwr.porst || s.pwr.warm
    (∀ (sel : Nat) (senior : Bool),
      (∀ low, s.pwr.porst = low → exec (.porstN low sel senior) s = .next s) ∧
      (∀ low, s.pwr.porst = !low → s.pwr.por = true →
        exec (.porstN low sel senior) s = .next { s with pwr := { s.pwr with porst := low } }) ∧
      (s.pwr.porst = false → s.pwr.por = false → ∃ t, exec (.porstN true sel senior) s = .next t ∧ Power.cleared s t ∧ t.pwr.porst = true ∧
        t.pwr.cause = 1 ∧ ∀ a, t.byte a = s.byte a) ∧
      (s.pwr.porst = true → s.pwr.por = false → ∃ t, exec (.porstN false sel senior) s = .next t ∧ Power.released sel senior s t ∧
        t.pwr.porst = false) ∧
      (∀ on, s.pwr.por = on → exec (.powerOnReset on sel senior) s = .next s) ∧
      (s.pwr.por = false → ∃ t, exec (.powerOnReset true sel senior) s = .next t ∧ Power.cleared s t ∧ t.pwr.por = true ∧ t.pwr.cause = 0 ∧
        ∀ a, t.byte a = if Mem.inTack a then s.byte a else 0) ∧
      (s.pwr.por = true → s.pwr.porst = true →
        exec (.powerOnReset false sel senior) s = .next { s with pwr := { s.pwr with por := false } }) ∧
      (s.pwr.por = true → s.pwr.porst = false → ∃ t, exec (.powerOnReset false sel senior) s = .next t ∧ Power.released sel senior s t ∧
        t.pwr.por = false) ∧
      (s.saveWarned = false ∨ s.pwr.saving.isSome = true → exec (.powerRestart sel senior) s = .next s) ∧
      (s.saveWarned = true → s.pwr.saving = none → ∃ t, exec (.powerRestart sel senior) s = .next t ∧ Power.released sel senior s t ∧
        t.saveWarned = false ∧ t.pwr.cause = 2)) ∧
    (s.served = false → (∀ v, exec (.pwrBlkrst v) s = .next s) ∧ exec .warm s = .next s) ∧
    (held = true → exec .warm s = .next s ∧ exec (.warmN true) s = .next s) ∧
    (∀ i ∈ ([(.warm, 4, false), (.warmN true, 3, true)] : List (Instr × Nat × Bool)), held = false → i.2.1 = 3 ∨ s.served = true →
      ∃ t, exec i.1 s = .next t ∧ t.fld Reg.PWR_LAST_CAUSE = i.2.1 ∧
      t.pwr.warm = i.2.2 ∧ t.running = false ∧ t.flag Reg.TOP_BALE_LIVE_VALID = false ∧ t.frameNo = s.frameNo ∧
      t.pwr.stage = (if s.pwr.stage = 0 then 0 else 1) ∧
      ∀ n, n < s.variant.stalls → (t.stall n).code = false ∧ (t.stall n).status ≠ .running ∧ (t.stall n).status ≠ .atSync) ∧
    (s.pwr.por = false → s.pwr.porst = false → s.pwr.warm = true → ∃ t, exec (.warmN false) s = .next t ∧ t.pwr.warm = false ∧
      t.stalls = s.stalls) ∧
    (s.clk.x84 = {} → exec (.pwrBlkrst 0) s = .next s) ∧
    (∀ b, s.served = true → b < s.variant.barns → ∃ t, exec (.pwrBlkrst (BitVec.ofNat 32 (2 ^ b))) s = .next t ∧ t.mem = s.mem ∧
      (∀ n, n / 8 ≠ b → t.stall n = s.stall n) ∧ ∀ n, n / 8 = b → (t.stall n).status ≠ .running ∧ (t.stall n).status ≠ .atSync ∧
        t.stall n = { code := (s.stall n).code, prog := (s.stall n).prog, progErr := (s.stall n).progErr, status := (t.stall n).status }) ∧
    (s.served = true → ∃ t, exec (.pwrBlkrst 0x2000) s = .next t ∧ t.flag Reg.TOP_RCD_FLAGS_STALE = true ∧ t.rcd = { s.rcd with leaves := [], built := false } ∧
      t.stalls = s.stalls ∧ t.mem = s.mem) ∧
    (s.served = true → ∃ t, exec (.pwrBlkrst 0x8000) s = .next t ∧ t.running = false ∧ t.tkpState ≤ 1 ∧ t.tkp.node = 0 ∧ t.stalls = s.stalls ∧
      t.mem = s.mem) ∧
    (s.served = true → ∃ t, exec (.pwrBlkrst 0x20000) s = .next t ∧ t.cmd.short = [] ∧ t.cmd.long = [] ∧ t.cmd.run = [] ∧ t.stalls = s.stalls) ∧
    (∀ (flash : List Byte) (ms : Nat),
      let due := held = false ∧ s.pwr.stage ≠ 2 ∧ 2 ≤ s.fld Reg.CLK_STATUS_PLL_STATE ∧ s.saveWarned = false
      (¬ due → exec (.boot flash ms) s = .next s) ∧
      (due → s.pwr.sel = 0 ∨ s.pwr.sel = 2 → ∃ t, exec (.boot flash ms) s = .next t ∧ t.pwr.stage = 2 ∧
        t.flag Reg.TOP_RCD_FLAGS_NO_BALE = true ∧ (Sparse.get s.clk.odd 86 0 = 0 → t.flag Reg.CMD_STAT_CPX_READY = true) ∧
        (s.pwr.sel = 2 → t.fld Reg.PWR_BOOT_RESULT = 4 ∧ t.fld Reg.PWR_BOOT_SOURCE = 0 ∧ t.stalls = s.stalls) ∧
        (s.pwr.sel = 0 → Bale.st s 0 ≠ 5 → Bale.st s 1 ≠ 5 → t.fld Reg.PWR_BOOT_RESULT = 1 ∧ t.fld Reg.PWR_BOOT_SOURCE = 0) ∧
        (∀ i, s.pwr.sel = 0 → s.pwr.stage = 1 → Boot.liveSlot s = some i → (∀ w, Mem.err s w ≤ 1) → Bale.verifyCheck s (Bale.rd s i) = 0 →
          t.bale.taken = some i ∧ t.fld Reg.PWR_BOOT_RESULT = 0 ∧ t.fld Reg.PWR_BOOT_SOURCE = 1) ∧
        (s.pwr.stage = 0 → t.fld Reg.PWR_BOOT_MS = ms % 65536 ∧ t.pwr.image = none ∧ t.fld Reg.PWR_LAST_CAUSE = s.pwr.cause % 8)))

/-- R371, R374 to R390: node time advances with the stamps, PTP messages reach the slots that follow their domain, port and transport, a
slot qualifies a master, measures OFFSET and the path delay and answers its peer; the messages it sends join the queues of its port, and an
event message takes its stamp as it begins to leave; SEL, SNAP, RESTEP, the queue of transmit stamps, the step, the loss of a domain, FREE
and the wrap of TSC do what the rules say. The host's accesses act where they are served (R41, R319). -/
def Obligations.TimekeeperFollowsItsDomains : Prop :=
  (∀ (s : State) (at_ sel : Nat), s.served = false → exec .restep s = .next s ∧ exec (.snap at_) s = .next s ∧ exec (.selWrite sel) s = .next s ∧
    exec .tkpTsqTsRead s = .next s) ∧
  ∀ s : State,
    let within (t : State) : Prop := t.stalls = s.stalls ∧ t.mem = s.mem ∧ t.cmd = s.cmd ∧ State.pagesKept [0, 1, 3, 5, 9, 13] s t
    let busy (p : Nat) : Prop := (Nsw.port s p).now ≠ none
    let idle (p : Nat) : Prop := (Nsw.port s p).now = none ∧ (Nsw.port s p).queued = []
    let leaving (t : State) (p : Nat) (b : EgBody) : Prop := ∃ f, (Nsw.port t p).now = some f ∧ f.body = b ∧ f.queue = 7
    let waiting (t : State) (p q : Nat) (b : EgBody) : Prop := ∃ f ∈ (Nsw.port t p).queued, f.body = b ∧ f.queue = q
    (s.served = true →
      (exec .restep s = .next (if 2 ≤ s.tkpState then { s with tkp := { s.tkp with restep := true } } else s)) ∧
      (∀ at_, ∃ t, exec (.snap at_) s = .next t ∧ within t ∧ t.tkp = { s.tkp with node := max s.tkp.node at_ } ∧
        let n := if s.running then s.frameNo else s.tkp.mark
        t.fld Reg.TKP_SNAP_TSC = (if s.tkp.node < at_ then Tkp.nsOf at_ % 2 ^ 32 else s.fld Reg.TKP_NS_TSC) ∧
        t.fld Reg.TKP_SNAP_HI = (if s.tkp.node < at_ then Tkp.nsOf at_ / 2 ^ 32 % 2 ^ 32 else s.fld Reg.TKP_WRAP_HI_HI) ∧
        t.fld Reg.TKP_SNAP_EPOCH = s.fld Reg.TKP_STAT_EPOCH ∧ t.fld Reg.TKP_SNAP_FRAME = n % 2 ^ 32 ∧
        t.fld Reg.TKP_SNAP_FHI_FRAME_HI = n / 2 ^ 32 % 2 ^ 32) ∧
      (∀ sel, ∃ t, exec (.selWrite sel) s = .next t ∧ within t ∧ t.fld Reg.TKP_CTL_SEL = sel % 2 ∧
        (s.tkpState = 0 → State.onlyRegs [Reg.TKP_CTL_SEL] s t) ∧ (s.tkpState ≠ 0 → t.fld Reg.TKP_STAT_SEL_LIVE = sel % 2) ∧
        (s.tkpState = 1 → Tkp.valid s (sel % 2) = true → t.tkpState = 2 ∧ t.flag Reg.TKP_STAT_STEPPED = true ∧
          t.tkp.node = Tkp.rootOf (Tkp.nsOf s.tkp.node + (Tkp.slot s (sel % 2)).samples.headD 0) ∧ t.tkp.notBefore = t.tkp.node + 2457600 ∧
          t.fld Reg.TKP_STAT_EPOCH = (s.fld Reg.TKP_STAT_EPOCH + 1) % 4)) ∧
      (∃ t, exec .tkpTsqTsRead s = .next t ∧ within t ∧ t.out = s.out ++ [.readData 0x10050070 ((s.tkp.tsq.headD (0, 0)).1)] ∧
        t.tkp = { s.tkp with tsq := s.tkp.tsq.drop 1 } ∧ t.reg 0x050074 = (s.tkp.tsq.headD (0, 0)).2 ∧
        (s.tkp.tsq ≠ [] → t.fld Reg.TKP_TSQ_STAT_LEVEL = (s.tkp.tsq.length - 1) % 128))) ∧
    (∀ d, d < 2 → Tkp.valid s d = true → ∃ t, exec (.domainLoss d) s = .next t ∧ within t ∧ t.fld (Reg.TKP_DOM_DSTATE d) = 1 ∧
      (s.tkpState = 2 → s.fld Reg.TKP_STAT_SEL_LIVE = d → s.flag Reg.TKP_CTL_AUTO = false → t.tkpState = 3)) ∧
    (∀ d, 2 ≤ d ∨ Tkp.valid s d = false → exec (.domainLoss d) s = .next s) ∧
    (let due := s.tkpState = 1 ∧ s.fld Reg.TKP_CFG_FREE_S ≠ 0 ∧ Tkp.valid s (s.fld Reg.TKP_STAT_SEL_LIVE) = false;
      (¬ due → exec .freeTimeout s = .next s) ∧
      (due → ∃ t, exec .freeTimeout s = .next t ∧ within t ∧ t.tkpState = 4 ∧ t.flag Reg.TKP_STAT_STEPPED = true ∧
        t.fld Reg.TKP_STAT_EPOCH = (s.fld Reg.TKP_STAT_EPOCH + 1) % 4 ∧ t.tkp = { s.tkp with notBefore := s.tkp.node + 2457600 })) ∧
    (∃ t, exec .tscWrap s = .next t ∧ within t ∧ s.tkp.node < t.tkp.node ∧ t.fld Reg.TKP_NS_TSC = 0 ∧
      (Pll.running s = true → t.vecBit 0x030000 76 = true) ∧ Tkp.nsOf t.tkp.node / 2 ^ 32 = Tkp.nsOf s.tkp.node / 2 ^ 32 + 1 ∧
      t.fld Reg.TKP_WRAP_HI_HI = (Tkp.nsOf s.tkp.node / 2 ^ 32 + 1) % 2 ^ 32) ∧
    (∀ at_ d, let t0 := Tkp.advance s at_
      let x := Tkp.slot s d
      let p2p := Tkp.p2p s d
      let port := s.fld (Reg.TKP_DOM_PORT d)
      let body : EgBody := .ptp d (if p2p then 2 else 1) x.nextSeq (s.fld (Reg.TKP_DOM_DNUM d)) none
      let sent (t3 : Option Nat) : TkpSlot := { x with req := some { seq := x.nextSeq, t3 := t3 }, nextSeq := (x.nextSeq + 1) % 65536 }
      let sends := d < 2 ∧ s.flag (Reg.TKP_DOM_EN d) = true ∧ Nsw.live s port = true ∧ (p2p = true ∨ 2 ≤ s.fld (Reg.TKP_DOM_DSTATE d))
      (¬ sends → exec (.ptpDelayReqSend at_ d) s = .next t0) ∧
      (sends → idle port → ∃ t, exec (.ptpDelayReqSend at_ d) s = .next t ∧ within t ∧ Tkp.slot t d = sent (some (Tkp.nsOf t0.tkp.node)) ∧
        leaving t port body ∧ (t.tkp.tsq.length = min 64 (s.tkp.tsq.length + 1) ∨ 64 < s.tkp.tsq.length)) ∧
      (sends → busy port → 2 ≤ Egress.freeOwn s port 7 → ∃ t, exec (.ptpDelayReqSend at_ d) s = .next t ∧ within t ∧
        Tkp.slot t d = sent none ∧ waiting t port 7 body ∧ t.tkp.tsq = s.tkp.tsq)) ∧
    (∀ p reply src seq m log log2 origin corr c o t2, Tkp.slotsFor s p = [] →
      ∀ i ∈ [Instr.ptpAnnounce p m log, .ptpSync p src seq log2 origin corr, .ptpFollowUp p src seq o corr,
        .ptpDelayResp p src seq o corr, .ptpPdelayResp p seq t2 corr, .ptpPdelayRespFollowUp p seq o c],
      exec i s = .next (Tkp.advance s p.at_) ∧
      exec (.ptpPdelayReq p reply seq) s = .next (Tkp.advance (Tkp.advance s p.at_) reply)) ∧
    (∀ p d, Tkp.slotsFor s p = [d] →
      let x := Tkp.slot s d
      let now := Tkp.nsOf p.at_
      let asym : Int := (BitVec.ofNat 16 (s.fld (Reg.TKP_ASYM_ASYM (s.fld (Reg.TKP_DOM_PORT d))))).toInt
      let offset (o : Int) : Nat := (Tkp.sat32 (o + x.asym + s.fld (Reg.TKP_DOM_MPD d))).toNat
      let measured (v : Int) (t : State) : Prop := within t ∧ Tkp.slot t d = { x with req := none, asym := asym } ∧
        t.fld (Reg.TKP_DOM_MPD d) = min (v.fdiv 2).toNat (2 ^ 32 - 1)
      (∀ m log, x.masters = [] → ∃ t, exec (.ptpAnnounce p m log) s = .next t ∧ within t ∧
        Tkp.slot t d = { x with masters := [{ m with last := now, prev := none }] } ∧
        t.fld (Reg.TKP_DOM_DSTATE d) = s.fld (Reg.TKP_DOM_DSTATE d)) ∧
      (∀ m o log, x.masters = [o] → o.source = m.source → now - o.last ≤ 4 * Tkp.interval log → s.fld (Reg.TKP_DOM_DSTATE d) = 1 →
        ∃ t, exec (.ptpAnnounce p m log) s = .next t ∧ within t ∧ t.fld (Reg.TKP_DOM_DSTATE d) = 2 ∧
          (Tkp.slot t d).chosen = some m.source ∧ (Tkp.slot t d).masters = [{ m with last := now, prev := some o.last }] ∧
          t.fld (Reg.TKP_DOM_GM_LO d) = m.gm % 2 ^ 32 ∧ t.fld (Reg.TKP_DOM_GM_HI d) = m.gm / 2 ^ 32 % 2 ^ 32 ∧
          t.fld (Reg.TKP_DOM_STEPS_RM d) = m.steps % 256) ∧
      (∀ src seq log origin corr, Tkp.accepts s d src = false →
        exec (.ptpSync p src seq log origin corr) s = .next (Tkp.advance s p.at_)) ∧
      (∀ src seq log origin corr, Tkp.accepts s d src = true → log < -7 ∨ 1 < log →
        ∃ t, exec (.ptpSync p src seq log origin corr) s = .next t ∧ within t ∧ t.fld (Reg.TKP_DOM_DSTATE d) = 1) ∧
      (∀ src seq log corr, Tkp.accepts s d src = true → -7 ≤ log → log ≤ 1 →
        let counted (t : State) : Prop := within t ∧
          t.fld (Reg.TKP_DOM_SYNC_CNT d) = min (s.fld (Reg.TKP_DOM_SYNC_CNT d) + 1) (2 ^ 32 - 1)
        (∃ t, exec (.ptpSync p src seq log none corr) s = .next t ∧ counted t ∧
          Tkp.slot t d = { x with pending := some { seq := seq, t2 := now, corr := corr } }) ∧
        ∀ t1, ∃ t, exec (.ptpSync p src seq log (some t1) corr) s = .next t ∧ counted t ∧ (Tkp.slot t d).pending = none ∧
          (s.tkpState ≠ 1 → s.tkpState ≠ 4 → t.fld (Reg.TKP_DOM_OFFSET d) = offset (t1 + corr - now))) ∧
      (∀ src seq origin corr r, x.pending = some r →
        (Tkp.accepts s d src = true → r.seq = seq → ∃ t, exec (.ptpFollowUp p src seq origin corr) s = .next t ∧ within t ∧
          (Tkp.slot t d).pending = none ∧
          (s.tkpState ≠ 1 → s.tkpState ≠ 4 → t.fld (Reg.TKP_DOM_OFFSET d) = offset (origin + corr + r.corr - r.t2))) ∧
        (Tkp.accepts s d src = false ∨ r.seq ≠ seq →
          exec (.ptpFollowUp p src seq origin corr) s = .next (Tkp.advance s p.at_))) ∧
      (∀ src seq t4 corr r t1 t2 t3, x.req = some r → r.t3 = some t3 → x.last = some (t1, t2) → Tkp.accepts s d src = true → r.seq = seq →
        Tkp.p2p s d = false → ∃ t, exec (.ptpDelayResp p src seq t4 corr) s = .next t ∧ measured ((t2 - t1) + (t4 - corr - t3)) t) ∧
      (∀ reply seq, Tkp.p2p s d = true → idle p.port → ∃ t, exec (.ptpPdelayReq p reply seq) s = .next t ∧ within t ∧
        t.tkp.node = max (max s.tkp.node p.at_) reply ∧ leaving t p.port (.ptp d 3 seq p.dom (some now)) ∧
        waiting t p.port (s.fld Reg.NSW_SRC_PCP) (.ptp d 10 seq p.dom (some (Tkp.nsOf t.tkp.node)))) ∧
      (∀ seq r t3, Tkp.p2p s d = true → x.req = some r → r.seq = seq → r.t3 = some t3 →
        (∀ t2 corr, ∃ t, exec (.ptpPdelayResp p seq (some t2) corr) s = .next t ∧ within t ∧
          Tkp.slot t d = { x with req := some { r with resp := some (t2 - corr, now) } }) ∧
        (∀ corr, ∃ t, exec (.ptpPdelayResp p seq none corr) s = .next t ∧ measured ((now : Int) - t3 - corr) t) ∧
        ∀ t2 t4 u3 corr, r.resp = some (t2, t4) → ∃ t, exec (.ptpPdelayRespFollowUp p seq u3 corr) s = .next t ∧
          measured (((t4 : Int) - t3) - (u3 + corr - t2)) t))

/-- R24 to R31, R79, R130, R177 to R181, R204, R214, R217, R250 to R254, R281, R362, R377 to R379: a boundary that may be struck numbers the
frame and puts every stall at rest, a waiting RESTEP takes its place; the compute window starts the stalls with code, the state cut reads the
mirrored copies, bus close stops the stalls that run and reports them, and sends the copy; what they issued lands; the pages of a taken commit
are written; STRM_EN tests the buffers. The host's accesses act where they are served (R41, R319). -/
def Obligations.FramesFollowTheirStages : Prop :=
  (∀ (s : State) (en : Bool), s.served = false → exec .phClr s = .next s ∧ exec (.strmEnWrite en) s = .next s) ∧
  ∀ s : State,
    let stopped (t : State) : Prop := t.running = false ∧ t.tkp.restep = false ∧
      t.tkpState = (if Tkp.valid s (s.fld Reg.TKP_STAT_SEL_LIVE) then 2 else 1) ∧ t.stalls = s.stalls ∧ t.mem = s.mem ∧
      t.cmd = s.cmd
    let struck (k : Nat) (t : State) : Prop := t.running = true ∧ t.phase = .s ∧ t.frameNo = k % 2 ^ 64 ∧
      (∀ i, (t.stall i).status = .idle) ∧ (s.bale.taken = none → t.cmd.taken = none)
    (∀ k, Frame.may s k = false → exec (.frameBoundary k) s = .next s) ∧
    (∀ k, Frame.may s k = true → s.tkp.restep = true → ∃ t, exec (.frameBoundary k) s = .next t ∧ stopped t) ∧
    (∀ k, Frame.may s k = true → s.tkp.restep = false → ∃ t, exec (.frameBoundary k) s = .next t ∧ struck k t) ∧
    (∀ m, s.tkpState < 2 → exec (.idleMark m) s = .next s) ∧
    (∀ m, 2 ≤ s.tkpState → ∃ u, u.tkp.mark = m ∧ u.tkp.node = max s.tkp.node (m * 819200) ∧ u.stalls = s.stalls ∧ u.mem = s.mem ∧ u.cmd = s.cmd ∧
      u.fld Reg.TKP_BND_TSC = u.fld Reg.TKP_NS_TSC ∧ State.pagesKept [1, 3, 5] s u ∧
      (s.flag Reg.TOP_BALE_LIVE_VALID = true → exec (.idleMark m) s = .next u) ∧
      (s.flag Reg.TOP_BALE_LIVE_VALID = false →
        (s.tkp.restep = true → ∃ t, exec (.idleMark m) s = .next t ∧ stopped t) ∧
        (s.tkp.restep = false → s.bale.taken = none → exec (.idleMark m) s = .next u) ∧
        (∀ i, s.tkp.restep = false → s.bale.taken = some i → let k := m * Swap.rate s i / (3000 * Swap.n s i)
          (Frame.may u k = false → exec (.idleMark m) s = .next u) ∧
          (Frame.may u k = true → ∃ t, exec (.idleMark m) s = .next t ∧ struck k t)))) ∧
    (s.running = false ∨ s.phase ≠ .s → exec .computeWindowOpen s = .next s) ∧
    (s.running = true → s.phase = .s → ∃ t, exec .computeWindowOpen s = .next t ∧
      t = { s with phase := .c, stalls := t.stalls, mem := { s.mem with bus := t.mem.bus } } ∧
      (∀ i, t.stall i = if i < s.variant.stalls ∧ (s.stall i).code = true then
        { code := true, prog := (s.stall i).prog, progErr := (s.stall i).progErr, status := .running, cyc := s.windowOpen } else s.stall i) ∧
      ∀ p, p ∈ t.mem.bus ↔ p ∈ s.mem.bus ∧ ¬ (s.parity * 4096 ≤ p.1 ∧ p.1 < s.parity * 4096 + 4096)) ∧
    (let due := s.running = true ∧ s.phase = .c ∧ s.mem.cutDone = false;
      let bs := (Mir.copy s s.parity).2
      (¬ due → exec .stateCut s = .next s) ∧
      (due → Twn.feeds s = false → exec .stateCut s = .next { s with mem := { s.mem with cutDone := true } }) ∧
      (due → Twn.feeds s = true → s.mem.err = [] → exec .stateCut s = .next { s with
        mem := { s.mem with cutDone := true }
        twn := { s.twn with mirFrame := s.frameNo, mirBytes := bs, mirLast := some (Mir.crc bs, false, false) } })) ∧
    (∀ ok, s.running = false ∨ s.phase = .none ∨ s.phase = .d → exec (.busClose ok) s = .next s) ∧
    (∀ ok, s.running = true → s.phase = .s ∨ s.phase = .c → ∃ t, exec (.busClose ok) s = .next t ∧ t.phase = .d ∧
      ∀ i, i < s.variant.stalls → (s.stall i).code = true → (s.stall i).status ≠ .waitf → (s.stall i).status ≠ .exception →
        (t.stall i).status = .overrun ∧ t.vecBit 0x000050 i = true ∧ (Pll.running s = true → t.vecBit 0x030000 (44 + i / 8) = true) ∧
        (Fc.cls s (12 + i / 8) ≠ Fc.reset → t.flag (Reg.STL_SCHED_OVR i) = true)) ∧
    (∀ ok, s.running = true → s.phase = .s ∨ s.phase = .c → Stl.overrunning s = [] → s.cmd.run = [] → s.bale.taken = none → Twn.feeds s = true →
      s.mem.cutDone = true → s.twn.mirFrame = s.frameNo → Tth.heldBlocks s < 64 → ∃ t, exec (.busClose ok) s = .next t ∧
      t.fld Reg.TOP_MIRROR_STAT_UNCLEAN =
        min (s.fld Reg.TOP_MIRROR_STAT_UNCLEAN + if s.mem.unclean then 1 else 0) Reg.TOP_MIRROR_STAT_UNCLEAN.max ∧
      .tether s.frameNo (.mirror s.twn.mirBytes ((s.twn.mirLast.map fun x => x.1).getD 0) s.mem.unclean (s.twn.faults.contains s.frameNo))
        ∈ t.out) ∧
    (∀ units, s.running = false ∨ s.phase ≠ .d → exec (.storesLand units) s = .next s) ∧
    (∀ units, s.running = true → s.phase = .d → ∃ t, exec (.storesLand units) s = .next t ∧ (∀ a, t.byte a = s.byte a) ∧
      (∀ i, (t.stall i).stores = []) ∧
      t.mem.adds = 0 ∧ (s.mem.err = [] → ∀ i, t.stall i = { s.stall i with stores := [] })) ∧
    (s.running = false ∨ s.graph.inDone = true → exec .captureWindowClose s = .next s) ∧
    (s.running = true → s.graph.inDone = false → ∃ t, exec .captureWindowClose s = .next t ∧ t.graph.inDone = true ∧
      t.frameNo = s.frameNo ∧ (s.mem.err = [] → t.stalls = s.stalls ∧ t.cmd = s.cmd)) ∧
    (s.cmd.taken = none → exec .stallPageWrite s = .next s) ∧
    (∀ x, s.cmd.taken = some x →
      let cells := x.pages.flatMap fun p => p.2.zipIdx.map fun b => (Bale.addr 0 (p.1 / 64) (4096 * (p.1 % 64)) + b.2, b.1)
      (∀ c ∈ cells, Mem.err s (Mem.wordOf c.1) = 0) → ∃ t, exec .stallPageWrite s = .next t ∧
        t = { s with mem := { s.mem with bytes := t.mem.bytes, err := t.mem.err, shared := t.mem.shared } } ∧
        (∀ a, t.byte a = Mem.lastByte cells a (s.byte a)) ∧ ∀ w, Mem.err t w = Mem.err s w) ∧
    (s.served = true → exec .phClr s = .next { s with graph := { s.graph with phClr := true } }) ∧
    (s.served = true → ∃ t, exec (.strmEnWrite false) s = .next t ∧
      State.onlyRegs [Reg.NSW_CTL_STRM_EN, Reg.NSW_RXBUF_CLASH, Reg.SAP_PBUF_CLASH, Reg.SFB_SBUF_CLASH] s t ∧
      t.flag Reg.NSW_CTL_STRM_EN = false ∧ t.flag Reg.NSW_RXBUF_CLASH = false ∧ t.flag Reg.SAP_PBUF_CLASH = false ∧
      t.flag Reg.SFB_SBUF_CLASH = false) ∧
    (s.served = true → s.flag Reg.NSW_CTL_STRM_EN = true → ∃ t, exec (.strmEnWrite true) s = .next t ∧ State.onlyRegs [Reg.NSW_CTL_STRM_EN] s t ∧
      t.flag Reg.NSW_CTL_STRM_EN = true) ∧
    (s.served = true → s.flag Reg.NSW_CTL_STRM_EN = false → ∃ t, exec (.strmEnWrite true) s = .next t ∧ t.flag Reg.NSW_CTL_STRM_EN = true ∧
      t.stalls = s.stalls ∧ t.mem = s.mem ∧ t.cmd = s.cmd ∧ State.pagesKept [1, 3, 6, 7, 9] s t ∧
      t.flag Reg.NSW_RXBUF_CLASH = (s.flag Reg.NSW_RXBUF_CLASH || Buf.clash s (Buf.rx s) []) ∧
      t.flag Reg.SAP_PBUF_CLASH = (s.flag Reg.SAP_PBUF_CLASH || Buf.clash s (Buf.port s) [Buf.rx s]) ∧
      t.flag Reg.SFB_SBUF_CLASH = (s.flag Reg.SFB_SBUF_CLASH || Buf.clash s (Buf.sense s) [Buf.rx s, Buf.port s]))

/-- R306 to R312, R537 to R539: the parameter writer stages a page whose value the save area does not hold; the digest unit publishes a
changed record, compares it with the peer's and announces it. -/
def Obligations.ConfigurationIsSavedAndPublished : Prop :=
  (∀ (s : State) (page : Nat) (r : Nat → Nat), Bale.liveRd s = some r →
    let rest (root : Nat) := s.pwr.area.filter fun x => !(x.page == page && x.root == root && x.staged)
    let held (root : Nat) (v : List Byte) (t : State) : Prop := t.stalls = s.stalls ∧ State.pagesKept [1, 3, 4, 14] s t ∧
      ∃ x ∈ t.pwr.area, x.page = page ∧ x.root = root ∧ x.bytes = v
    (∀ swap, s.saveWarned = true → exec (.pageStage page swap) s = .next s) ∧
    (page ∉ Page.all s → exec (.pageStage page false) s = .next s) ∧
    (Save.holds s (Save.root s) (Page.boot s r page) page (Page.shadow s page) true = true → exec (.pageStage page false) s = .next s) ∧
    (s.saveWarned = false → page ∈ Page.all s → (rest (Save.root s)).length < 311 →
      Save.holds s (Save.root s) (Page.boot s r page) page (Page.shadow s page) true = false →
      ∃ t, exec (.pageStage page false) s = .next t ∧ held (Save.root s) (Page.shadow s page) t) ∧
    (s.bale.mark = none → exec (.pageStage page true) s = .next s) ∧
    (∀ i, s.bale.mark = some i → page ∉ Swap.backlog s i → exec (.pageStage page true) s = .next s) ∧
    (∀ i, s.bale.mark = some i → s.saveWarned = false → page ∈ Swap.backlog s i → (rest (Sparse.get s.bale.roots i 0)).length < 311 →
      ∃ t, exec (.pageStage page true) s = .next t ∧ held (Sparse.get s.bale.roots i 0) (Swap.value s i page) t)) ∧
  (∀ s : State,
    let within (t : State) : Prop := t.stalls = s.stalls ∧ t.mem = s.mem ∧ t.cmd = s.cmd
    let stale := s.flag Reg.TOP_RCD_FLAGS_STALE
    let dst := s.fld Reg.TOP_ANN_DST_GROUP
    let port := s.fld Reg.TOP_ANN_CTL_PORT
    let announced (t : State) : Prop := within t ∧ State.pagesKept [1, 3, 5, 6] s t ∧ t.nsw.annSeq = (s.nsw.annSeq + 1) % 2 ^ 32 ∧
      Egress.queues (s.fld Reg.NSW_SRC_ANN_PORTS) (s.fld Reg.NSW_SRC_PCP)
        (Nsw.cpHead s (Nsw.groupMac dst) (some (Nsw.cpIp s dst (some (port, port))))) (.announce (Rcd.payload s)) s t
    (s.rcd.half = true ∨ (s.rcd.built = true ∧ stale = false) → exec .rcdPublish s = .next s) ∧
    (s.rcd.half = false → s.rcd.built = false ∨ stale = true → ∃ t, exec .rcdPublish s = .next t ∧ within t ∧ State.pagesKept [0, 1, 3] s t ∧
      t.flag Reg.TOP_RCD_FLAGS_STALE = false ∧ t.reg64 0x000400 = s.rcd.gen % 2 ^ 64 ∧ t.reg64 0x000408 = s.rcd.k % 2 ^ 64 ∧
      t.rcd.built = true ∧ t.rcd.onchg = true ∧ t.rcd.leaves = Rcd.tree s ∧ t.rcd.own.head? = some (s.rcd.k, Rcd.root (Rcd.tree s)) ∧
      t.pwr.persist.gen = s.rcd.gen ∧ t.pwr.persist.root = Rcd.root (Rcd.tree s) ∧
      (Pll.running s = true → t.vecBit 0x030000 53 = true) ∧
      (s.fld Reg.TWN_ST_LINK ≠ 0 →
        .tether s.frameNo (.rcd s.rcd.gen s.rcd.k (Rcd.root (Rcd.tree s)) (Save.root s)) ∈ t.out.drop s.out.length)) ∧
    (s.role = 0 ∨ Rcd.common s = none → exec .rcdCompare s = .next s) ∧
    (∀ a b, s.role ≠ 0 → Rcd.common s = some (a, b) →
      (a = b → ∃ t, exec .rcdCompare s = .next t ∧ State.onlyRegs [Reg.TOP_RCD_FLAGS_PEER_MATCH] s t ∧
        t.flag Reg.TOP_RCD_FLAGS_PEER_MATCH = true) ∧
      (a ≠ b → ∃ t, exec .rcdCompare s = .next t ∧ t.stalls = s.stalls ∧ t.flag Reg.TOP_RCD_FLAGS_PEER_MATCH = false ∧
        (Pll.running s = true → t.vecBit 0x030000 54 = true) ∧
        (s.running = true → s.role = 2 ∨ s.role = 4 → t.twn.roleAt = some (s.frameNo + 1, 3)))) ∧
    (s.rcd.built = false ∨ s.fld Reg.TOP_ANN_CTL_PERIOD = 0 ∨ s.fld Reg.NSW_SRC_IPV4 = 0 → exec .announcePeriodic s = .next s) ∧
    (s.rcd.built = true → s.fld Reg.TOP_ANN_CTL_PERIOD ≠ 0 → s.fld Reg.NSW_SRC_IPV4 ≠ 0 → ∃ t, exec .announcePeriodic s = .next t ∧
      announced t ∧ t.rcd = s.rcd) ∧
    (s.rcd.onchg = false ∨ s.flag Reg.TOP_ANN_CTL_ONCHG = false → exec .announceOnChange s = .next s) ∧
    (s.rcd.onchg = true → s.flag Reg.TOP_ANN_CTL_ONCHG = true → s.fld Reg.NSW_SRC_IPV4 ≠ 0 → ∃ t, exec .announceOnChange s = .next t ∧
      announced t ∧ t.rcd = { s.rcd with onchg := false }))

/-- R58, R345 to R354, R359 to R371, R382, R387: the switch follows its links and paths, filters, checks for duplicates, forwards around a
ring and delivers what it receives, sends what its queues hold and answers queries; the stream engine takes the packets that match a stream
and launches those that are complete, in the order of their launch. -/
def Obligations.NetworkFramesAreSwitched : Prop :=
  ∀ s : State,
    let within (t : State) : Prop := t.stalls = s.stalls ∧ t.mem = s.mem ∧ t.cmd = s.cmd ∧ State.pagesKept [1, 3, 5, 6] s t
    let pcp := s.fld Reg.NSW_SRC_PCP
    (∀ p at_ lost f, Nsw.live s p = false → exec (.networkFrameReceived p at_ lost f) s = .next s) ∧
    (∀ p at_ lost (f : NetFrame), Nsw.live s p = true →
      let q := p / 2
      let tag := if f.tags = 1 then some f.vid else none
      let good := lost = false ∧ f.fcsOk = true ∧ f.len ≤ (if Nsw.mode s q = 0 then 1522 else 1528)
      (¬ good → ∃ t, exec (.networkFrameReceived p at_ lost f) s = .next t ∧ within t ∧ t.nsw = s.nsw ∧
        State.counts (Reg.NSW_PCNT_RX_ERR p) s t ∧ (lost = true → t.flag (Reg.CLK_XFLAG_OVERRUN (3 + p)) = true)) ∧
      (good → ∃ t, exec (.networkFrameReceived p at_ lost f) s = .next t ∧ within t ∧ State.counts (Reg.NSW_PCNT_RX_FRAMES p) s t ∧
        (1 < f.tags → t.nsw = s.nsw ∧ State.counts (Reg.NSW_PCNT_RX_FILT p) s t) ∧
        (f.tags ≤ 1 → Nsw.mode s q = 0 →
          (∀ a, f.body = .audio a → (Nsw.findStream s a tag).isSome = true →
            t.nsw = { s.nsw with engine := s.nsw.engine ++ [(a, tag, at_)] }) ∧
          (∀ a, f.body = .audio a → Nsw.findStream s a tag = none → t.nsw = s.nsw ∧ State.counts (Reg.NSW_PCNT_RX_FILT p) s t) ∧
          (f.body = .other ∨ (∃ a, f.body = .arp a ∧ (s.fld Reg.NSW_SRC_IPV4 = 0 ∨ a ≠ s.fld Reg.NSW_SRC_IPV4)) →
            t.nsw = s.nsw ∧ State.counts (Reg.NSW_PCNT_RX_FILT p) s t) ∧
          (f.body = .ptp ∨ f.body = .igmp ∨ f.body = .supervision ∨ f.body = .arp (s.fld Reg.NSW_SRC_IPV4) ∧ s.fld Reg.NSW_SRC_IPV4 ≠ 0 →
            t.nsw = s.nsw ∧ t.fld (Reg.NSW_PCNT_RX_FILT p) = s.fld (Reg.NSW_PCNT_RX_FILT p))) ∧
        (∀ seqNo lanB, f.tags ≤ 1 → Nsw.mode s q ≠ 0 → f.red = some (seqNo, lanB) →
          (Nsw.mode s q = 1 → lanB ≠ (p % 2 == 1) → State.counts (Reg.NSW_PCNT_RED_WRONG_LAN (2 * q)) s t) ∧
          (s.nsw.dup.contains (q, f.src, seqNo) = true → f.body ≠ .ptp → State.counts (Reg.NSW_PCNT_RED_DUP (2 * q)) s t ∧
            t.nsw.engine = s.nsw.engine ∧ t.nsw.dup = s.nsw.dup) ∧
          (s.nsw.dup.contains (q, f.src, seqNo) = false → s.fld (Reg.NSW_RED_NODES q) < 512 →
            t.nsw.dup = s.nsw.dup ++ [(q, f.src, seqNo)] ∧ t.fld (Reg.NSW_RED_NODES q) = s.fld (Reg.NSW_RED_NODES q) + 1) ∧
          (s.nsw.dup.contains (q, f.src, seqNo) = false → Nsw.mode s q = 2 → f.src ≠ Nsw.mac s → f.dst ≠ Nsw.mac s →
            let o := 2 * q + (1 - p % 2)
            Egress.held s o = [] → ∃ g ∈ Egress.held t o, g.body = .hsr f ∧ g.red = some seqNo ∧
              g.queue = if f.tags = 1 then f.pcp else s.fld (Reg.NSW_PORT_DEF_PCP p))))) ∧
    (s.nsw.engine = [] → exec .streamPacketReceived s = .next s) ∧
    (∀ p tag l rest, s.nsw.engine = (p, tag, l) :: rest →
      (Nsw.findStream s p tag = none → exec .streamPacketReceived s = .next { s with nsw := { s.nsw with engine := rest } }) ∧
      (∀ i, Nsw.findStream s p tag = some i → ∃ t, exec .streamPacketReceived s = .next t ∧ t.nsw.engine = rest ∧
        (Nsw.malformed s i p = true → within t ∧ State.counts (Reg.NSW_SI_STAT_BAD_PKT i) s t) ∧
        (Nsw.malformed s i p = false → s.mem.err = [] → State.counts (Reg.NSW_SI_STAT_RX_PKT i) s t ∧ (Nsw.rec t i).seq = some p.seq ∧
          (Nsw.placing s = false → within t) ∧
          (∀ x, (Nsw.rec s i).seq = some x → (x + 1) % (if p.aaf then 256 else 65536) ≠ p.seq →
            State.counts (Reg.NSW_SI_STAT_SEQ_GAP i) s t) ∧
          (Nsw.placing s = true → ∀ n ch, let c := Nsw.firstCount s i p l + n
            n < p.payload.length / (Nsw.siN s i * Nsw.bytes (s.fld (Reg.NSW_SI_FMT i))) → Nsw.isLate s c l = false →
            Nsw.isEarly s c l = false → ch ∈ Nsw.own s i → s.fld (Reg.NSW_SI_FIRST i) + ch < Nsw.served s →
            Sparse.get t.nsw.marks (Nsw.markKey s c.toNat (s.fld (Reg.NSW_SI_FIRST i) + ch)) 0 = 1)))) ∧
    (∀ q src seqNo, let e := (q, src, seqNo)
      (s.nsw.dup.contains e = false → exec (.duplicateEntryExpiry q src seqNo) s = .next s) ∧
      (s.nsw.dup.contains e = true → ∃ t, exec (.duplicateEntryExpiry q src seqNo) s = .next t ∧ (q < 2 → within t) ∧
        t.nsw = { s.nsw with dup := s.nsw.dup.erase e } ∧
        t.fld (Reg.NSW_RED_NODES q) = ((s.nsw.dup.erase e).filter fun x => x.1 = q).length % 2 ^ (Reg.NSW_RED_NODES q).wid)) ∧
    (∀ q, s.variant.ports ≤ 2 * q ∨ Nsw.mode s q = 0 → exec (.supervisionFrameSend q) s = .next s) ∧
    (∀ q, 2 * q < s.variant.ports → Nsw.mode s q ≠ 0 → ∃ t, exec (.supervisionFrameSend q) s = .next t ∧ within t ∧
      Egress.queues (3 * 4 ^ q) pcp (Nsw.cpHead s 0x01154E000100 none) .supervision s t ∧
      ((∀ p, p / 2 = q → (Nsw.port s p).now ≠ none ∨ (Nsw.port s p).queued = []) →
        Sparse.get t.nsw.pairSeq q 0 = (Sparse.get s.nsw.pairSeq q 0 + 1) % 65536)) ∧
    (∀ p at_, s.variant.ports ≤ p → exec (.pathTimeout p) s = .next s ∧ exec (.egressFrameSent at_ p) s = .next s) ∧
    (∀ p b f l r, s.variant.ports ≤ p ∨ Nsw.inReset s p = true → exec (.linkChange p b f l r) s = .next s) ∧
    (∀ p, p < s.variant.ports → ∃ t, exec (.pathTimeout p) s = .next t ∧ within t ∧ (Nsw.port t p).seen = false ∧
      let f := if p % 2 = 0 then Reg.NSW_RED_PATH_A (p / 2) else Reg.NSW_RED_PATH_B (p / 2)
      t.flag f = false ∧ (s.flag f = true → Pll.running s = true → t.vecBit 0x030000 (84 + p / 2) = true)) ∧
    (∀ p b f l r, p < s.variant.ports → Nsw.inReset s p = false → ∃ t, exec (.linkChange p b f l r) s = .next t ∧ within t ∧
      let up := s.flag (Reg.NSW_PORT_EN p) && b && (!s.flag (Reg.NSW_PORT_FEC p) || f) && !l && !r
      t.flag (Reg.NSW_PORT_LINK p) = up ∧ t.flag (Reg.NSW_PORT_LOC_FAULT p) = l ∧ t.flag (Reg.NSW_PORT_REM_FAULT p) = r ∧
      t.flag (Reg.NSW_PORT_FEC_LOCK p) = (f && s.flag (Reg.NSW_PORT_FEC p)) ∧
      (s.flag (Reg.NSW_PORT_LINK p) ≠ up → (Pll.running s = true → t.vecBit 0x030000 (80 + p) = true) ∧
        ((Nsw.port s p).now = none → (Nsw.port t p).now = if up then (Egress.next (Nsw.port s p).queued).map fun x => x.1 else none))) ∧
    (∀ p at_, s.flag (Reg.NSW_PORT_EN p) = false ∨ (Nsw.port s p).now = none → exec (.egressFrameSent at_ p) s = .next s) ∧
    (∀ p at_ f, p < s.variant.ports → s.flag (Reg.NSW_PORT_EN p) = true → (Nsw.port s p).now = some f →
      ∃ t, exec (.egressFrameSent at_ p) s = .next t ∧ within t ∧
      .frame p f.red f.head f.body ∈ t.out.drop s.out.length ∧ State.counts (Reg.NSW_PCNT_TX_FRAMES p) s t ∧
      t.tkp.node = max s.tkp.node at_ ∧
      let begun := if s.flag (Reg.NSW_PORT_LINK p) then Egress.next (Nsw.port s p).queued else none
      (Nsw.port t p).now = begun.map (fun x => x.1) ∧
      (∀ g rest d typ seqNo dom x, begun = some (g, rest) → g.body = .ptp d typ seqNo dom x → typ ≤ 3 → s.tkp.tsq.length < 64 →
        t.tkp.tsq.length = s.tkp.tsq.length + 1)) ∧
    (∀ p g, Nsw.live s p = false ∨ s.fld Reg.NSW_SRC_IPV4 = 0 → exec (.igmpQuery p g) s = .next s) ∧
    (∀ p g x, Nsw.live s p = true → s.fld Reg.NSW_SRC_IPV4 ≠ 0 → (Nsw.groupsJoined s).filter (fun y => g.getD y = y) = [x] →
      ∃ t, exec (.igmpQuery p g) s = .next t ∧ within t ∧
      Egress.queues (2 ^ p) pcp (Nsw.cpHead s (Nsw.groupMac 0xE0000016) (some (Nsw.cpIp s 0xE0000016 none))) (.igmpReport x) s t) ∧
    (∀ p a b, Nsw.live s p = false ∨ s.fld Reg.NSW_SRC_IPV4 = 0 ∨ a ≠ s.fld Reg.NSW_SRC_IPV4 → exec (.arpRequest p a b) s = .next s) ∧
    (∀ p b, Nsw.live s p = true → s.fld Reg.NSW_SRC_IPV4 ≠ 0 → ∃ t, exec (.arpRequest p (s.fld Reg.NSW_SRC_IPV4) b) s = .next t ∧ within t ∧
      Egress.queues (2 ^ p) pcp (Nsw.cpHead s b none) (.arpReply b) s t) ∧
    (∀ i, let due := s.nsw.tx.find? fun p => p.stream = i ∧ !p.short
      let first (p : TxPkt) := s.nsw.tx.filter fun x => !x.short && TxPkt.before x p
      (due = none → exec (.streamPacketLaunch i) s = .next s) ∧
      (∀ p, due = some p → first p = [p] → s.running = false ∨ s.flag Reg.NSW_CTL_STRM_EN = false →
        exec (.streamPacketLaunch i) s = .next { s with nsw := { s.nsw with tx := s.nsw.tx.erase p } }) ∧
      (∀ p a, due = some p → first p = [p, a] ∨ first p = [a, p] → TxPkt.before p a = false →
        exec (.streamPacketLaunch i) s = .next (Nsw.launch (Nsw.launch s a) p)) ∧
      (∀ p, due = some p → i < 128 → first p = [p] → s.running = true → s.flag Reg.NSW_CTL_STRM_EN = true → (TxPkt.frame s p).2 ≤ 2048 →
        ∃ t, exec (.streamPacketLaunch i) s = .next t ∧ within t ∧ t.nsw.tx = s.nsw.tx.erase p ∧
          State.counts (Reg.NSW_SO_STAT_TX_PKT i) s t ∧ t.fld (Reg.NSW_SO_STAT_SEQ i) = TxPkt.seq p % 65536 ∧
          Egress.queues p.ports 7 (TxPkt.head s p) (TxPkt.frame s p).1 s t))

/-- R58, R395 to R410, R413, R414, R466, Tables 13-1 to 13-3: a receiving serial port checks its clock, gives its samples a count and stores
them, a transmitting one sends the outlet samples of its count in its enabled slots; an AES3 receiver locks on two Z preambles 192 frames
apart, counts parity errors and loses its lock; an AES3 transmitter sends the samples of its count. -/
def Obligations.PortsReceiveAndTransmit : Prop :=
  ∀ (s : State) (p at_ : Nat),
    let within (t : State) : Prop := t.stalls = s.stalls ∧ t.mem = s.mem ∧ t.cmd = s.cmd ∧ State.pagesKept [1, 3, 7, 8] s t
    let x := Port.rec s p
    let fired (e : Nat) (t : State) : Prop := Pll.running s = true → t.vecBit 0x030000 e = true
    let slave := s.flag (Reg.SAP_CFG_SLAVE p)
    let ok := s.flag (Reg.SAP_ST_CLK_OK p)
    (∀ n lost ws, Sap.on s p false = false → exec (.sapFrameReceive p at_ n lost ws) s = .next s) ∧
    (∀ n ws, Sap.on s p false = true → ∃ t, exec (.sapFrameReceive p at_ n true ws) s = .next t ∧
      t.flag (Reg.CLK_XFLAG_OVERRUN (27 + p)) = true) ∧
    (∀ n ws, Sap.on s p false = true → slave = true → n ≠ Sap.slots s p * Sap.sw s p →
      ∃ t, exec (.sapFrameReceive p at_ n false ws) s = .next t ∧
        t.fld (Reg.SAP_CNT_FRM_ERR p) = min (s.fld (Reg.SAP_CNT_FRM_ERR p) + 1) 255 ∧
        (x.bad = 0 → t.flag (Reg.SAP_ST_CLK_OK p) = ok) ∧
        (x.bad ≠ 0 → t.flag (Reg.SAP_ST_CLK_OK p) = false ∧ (ok = true → fired (96 + p) t ∧
          t.fld (Reg.SAP_CNT_LOSS p) = min (s.fld (Reg.SAP_CNT_LOSS p) + 1) 255))) ∧
    (∀ n ws, Sap.on s p false = true → ok = true → s.rate ≠ 0 → slave = false ∨ n = Sap.slots s p * Sap.sw s p → s.mem.err = [] →
      let wl := Sap.wl s p
      let xs := (List.range (Sap.slots s p)).map fun i => if (Sap.mask s p at_).testBit i then Sap.toP24 wl (ws.getD i 0) else 0
      let r := if slave then Port.assignRx s at_ x.count else (Port.nearest s at_ (-61440), 0, false)
      ∃ t, exec (.sapFrameReceive p at_ n false ws) s = .next t ∧ t.stalls = s.stalls ∧ t.cmd = s.cmd ∧ State.pagesKept [7] s t ∧
        Port.rec t p = { x with bad := 0, count := some r.1, prev := xs } ∧
        t.fld (Reg.SAP_CNT_SLIP p) = min (s.fld (Reg.SAP_CNT_SLIP p) + r.2.1) 65535 ∧
        (Port.placing s = true → Sparse.get t.sap.marks (1024 * p + r.1 % Port.depth s) 0 = 2 ^ 32 + Sap.mask s p at_)) ∧
    (∀ n, Sap.on s p true = false ∨ s.rate = 0 → exec (.sapFrameTransmit p at_ n) s = .next s) ∧
    (∀ n, Sap.on s p true = true → s.rate ≠ 0 → slave = false → s.flag Reg.FC_STAT_MUTE = false → x.mute = 0 → ok = true → s.running = true →
      s.fld (Reg.SAP_ST_STATE p) = 3 →
      let c := Port.nearest s at_ 86016
      let row := Port.row s c
      let open_ (i : Nat) := (Sap.mask s p at_).testBit i && !(s.flag (Reg.SAP_CFG_ROLE_GATE p) && !row.owner)
      let word (i : Nat) := Sap.fromP24 (Sap.wl s p) (Arith.sat 24 (Sparse.get row.vals (32 * p + i) 0)) * 2 ^ (Sap.sw s p - Sap.wl s p)
      ∃ t, exec (.sapFrameTransmit p at_ n) s = .next t ∧ within t ∧ Port.rec t p = { x with bad := 0, count := some c } ∧
        t.fld (Reg.SAP_ST_STATE p) = 3 ∧ t.out = s.out ++ [.sap p c ((List.range (Sap.slots s p)).map fun i =>
          if (s.fld Reg.FC_STAT_SAFE).testBit 1 then some 0 else if open_ i then some (word i)
          else if s.flag (Reg.SAP_CFG_HIZ p) then none else some 0)]) ∧
    (let due := p < s.variant.saps ∧ s.flag (Reg.SAP_CFG_EN p) = true ∧ slave = true;
      (¬ due → exec (.sapClockLoss p) s = .next s ∧ exec (.sapClockPresent p) s = .next s) ∧
      (due → ok = false → exec (.sapClockLoss p) s = .next s) ∧ (due → ok = true ∨ x.bad ≠ 0 → exec (.sapClockPresent p) s = .next s) ∧
      (due → ok = true → ∃ t, exec (.sapClockLoss p) s = .next t ∧ within t ∧ t.flag (Reg.SAP_ST_CLK_OK p) = false ∧
        Port.rec t p = { x with count := none, bad := 0 } ∧ fired (96 + p) t ∧
        t.fld (Reg.SAP_CNT_LOSS p) = min (s.fld (Reg.SAP_CNT_LOSS p) + 1) 255) ∧
      (due → ok = false → x.bad = 0 → ∃ t, exec (.sapClockPresent p) s = .next t ∧ within t ∧ t.flag (Reg.SAP_ST_CLK_OK p) = true ∧
        Port.rec t p = { x with count := none, bad := 0 } ∧ fired (96 + p) t ∧
        t.fld (Reg.SAP_CNT_LOSS p) = s.fld (Reg.SAP_CNT_LOSS p))) ∧
    (let lock := s.fld (Reg.AES_ST_LOCK p);
      let on := p < s.variant.aess ∧ s.flag (Reg.AES_CFG_RX_EN p) = true
      (s.variant.aess ≤ p → exec (.aesNosig p) s = .next s) ∧
      (p < s.variant.aess → ∃ t, exec (.aesNosig p) s = .next t ∧ within t ∧ t.fld (Reg.AES_ST_LOCK p) = 0 ∧
        t.flag (Reg.AES_ST_RATE_ERR p) = false ∧ (lock ≠ 0 → fired (112 + p) t)) ∧
      (¬ on ∨ lock ≠ 0 → exec (.aesSeek p) s = .next s) ∧
      (on → lock = 0 → ∃ t, exec (.aesSeek p) s = .next t ∧ within t ∧ t.fld (Reg.AES_ST_LOCK p) = 1 ∧
        fired (112 + p) t) ∧
      (∀ lost a b rate, ¬ on ∨ lock = 0 → exec (.aesFrameReceive p at_ lost a b rate) s = .next s) ∧
      (∀ a b rate, on → lock ≠ 0 → ∃ t, exec (.aesFrameReceive p at_ true a b rate) s = .next t ∧ within t ∧ t.sap = s.sap ∧
        t.flag (Reg.CLK_XFLAG_OVERRUN (59 + p)) = true) ∧
      (∀ a b rate, on → lock = 1 →
        (Aes.good a b = false ∨ rate = false → ∃ t, exec (.aesFrameReceive p at_ false a b rate) s = .next t ∧ within t ∧
          t.fld (Reg.AES_ST_LOCK p) = 1 ∧ (Aes.rec t p).seek = none ∧ t.flag (Reg.AES_ST_RATE_ERR p) = !rate) ∧
        (Aes.good a b = true → rate = true → a.pre = 3 → (Aes.rec s p).seek ≠ some 191 →
          ∃ t, exec (.aesFrameReceive p at_ false a b rate) s = .next t ∧ within t ∧ t.fld (Reg.AES_ST_LOCK p) = 1 ∧
            (Aes.rec t p).seek = some 0) ∧
        (Aes.good a b = true → rate = true → a.pre = 3 → (Aes.rec s p).seek = some 191 →
          ∃ t, exec (.aesFrameReceive p at_ false a b rate) s = .next t ∧ t.fld (Reg.AES_ST_LOCK p) = 2 ∧
            t.flag (Reg.AES_ST_RATE_ERR p) = false ∧ fired (112 + p) t)) ∧
      (∀ a b rate, on → lock = 2 →
        (rate = false → ∃ t, exec (.aesFrameReceive p at_ false a b rate) s = .next t ∧ within t ∧ t.fld (Reg.AES_ST_LOCK p) = 1 ∧
          t.flag (Reg.AES_ST_RATE_ERR p) = true ∧ fired (112 + p) t) ∧
        (Aes.good a b = true → rate = true → ∃ t, exec (.aesFrameReceive p at_ false a b rate) s = .next t ∧ t.fld (Reg.AES_ST_LOCK p) = 2 ∧
          t.fld (Reg.AES_CNT0_PAR_ERR p) =
            min (s.fld (Reg.AES_CNT0_PAR_ERR p) + ((if a.parity then 0 else 1) + if b.parity then 0 else 1)) 65535)) ∧
      (s.variant.aess ≤ p ∨ s.flag (Reg.AES_CFG_TX_EN p) = false ∨ s.rate = 0 → exec (.aesFrameTransmit p at_) s = .next s) ∧
      (p < s.variant.aess → s.flag (Reg.AES_CFG_TX_EN p) = true → s.rate ≠ 0 → s.flag (Reg.AES_CFG_TX_SLAVE p) = false →
        s.flag (Reg.AES_CFG_ROLE_GATE p) = false → s.running = true → s.flag Reg.FC_STAT_MUTE = false → (Port.rec s (24 + p)).mute = 0 →
        s.fld (Reg.AES_ST_TXSTATE p) = 3 → ∃ t, exec (.aesFrameTransmit p at_) s = .next t ∧ within t ∧ t.fld (Reg.AES_ST_TXSTATE p) = 3 ∧
          let c := Port.nearest s at_ 86016
          let audio (u : Nat) := (Arith.sat 24 (Sparse.get (Port.row s c).vals (512 + 2 * p + u) 0) % 2 ^ 24).toNat
          let status (u : Nat) := Aes.cBit (s.flag (Reg.AES_CFG_AUTOCRC p)) (Aes.rec t p).txcs u (c % 192)
          (c % 192 = 0 → (Aes.rec t p).txcs = (List.range 12).map fun w => s.reg (0x080C00 + 0x40 * p + 4 * w)) ∧
          t.out = s.out ++ if (s.fld Reg.FC_STAT_SAFE).testBit 1 then []
            else [.aes p c (c % 192 == 0) (Aes.subframe (audio 0) false (status 0)) (Aes.subframe (audio 1) false (status 1))]))

/-- R418, R419, R421, R424 to R429, R431 to R433, R439 to R448, R456, R457, Tables 15-2 and 15-3: the drive stage starts and stops, its
channels trip, latch, retry and play their carrier periods; the sense bank runs and stops, its inputs gap and flow, its channels form samples
whose comparators ask for trips and whose rail values go to the drive stage. -/
def Obligations.DriveAndSenseFollowTheirChannels : Prop :=
  ∀ s : State,
    let within (t : State) : Prop := t.stalls = s.stalls ∧ t.mem = s.mem ∧ t.cmd = s.cmd
    let chans := s.variant.drvCh
    let trips (n : Nat) (t : State) : Prop := State.counts (Reg.DRV_CHST_TRIPS n) s t
    let fired (e : Nat) (t : State) : Prop := Pll.running s = true → t.vecBit 0x030000 e = true
    (s.served = false → ∀ w v en, exec (.drvUnlatch w v) s = .next s ∧ exec (.drvCtlEnWrite en) s = .next s ∧
      exec (.sfbCtlEnWrite en) s = .next s) ∧
    (∀ w (v : Word), s.served = true → ∃ t, exec (.drvUnlatch w v) s = .next t ∧ within t ∧ State.pagesKept [10] s t ∧ ∀ n, n < chans →
      if n / 32 = w ∧ v.toNat.testBit (n % 32) = true ∧ Drv.st s n = 5 then
        Drv.st t n = 0 ∧ Drv.chan t n = { Drv.chan s n with trips := [] } ∧ t.vecBit 0x0A3000 n = false
      else Drv.st t n = Drv.st s n ∧ Drv.chan t n = Drv.chan s n) ∧
    (∀ en, chans = 0 → exec (.drvCtlEnWrite en) s = .next s) ∧
    (s.served = true → 0 < chans → s.flag Reg.CLK_GATE_MOD_EN = true → 2 ≤ s.tkpState → s.drv.dead = false → ∃ t, exec (.drvCtlEnWrite true) s = .next t ∧
      State.onlyRegs [Reg.DRV_CTL_EN, Reg.DRV_ST_RUN] s t ∧ t.flag Reg.DRV_CTL_EN = true ∧ t.flag Reg.DRV_ST_RUN = true) ∧
    (s.served = true → 0 < chans → (∃ n, n < chans ∧ Drv.active s n = true) → ∃ t, exec (.drvCtlEnWrite false) s = .next t ∧
      State.onlyRegs [Reg.DRV_CTL_EN] s t ∧ t.flag Reg.DRV_CTL_EN = false) ∧
    (s.served = true → 0 < chans → (∀ n, n < chans → Drv.active s n = false) → ∃ t, exec (.drvCtlEnWrite false) s = .next t ∧ within t ∧
      t.flag Reg.DRV_CTL_EN = false ∧ t.flag Reg.DRV_ST_RUN = false ∧ t.flag Reg.TWN_ST_OWN = false) ∧
    (∀ n at_, let may := n < chans ∧ s.flag (Reg.DRV_CHST_REQ n) = true ∧ Drv.active s n = true ∧
        (s.role = 0 ∨ s.flag Reg.TWN_ST_OWN = true)
      (¬ may → exec (.trip n at_) s = .next s) ∧
      (may → ∃ t, exec (.trip n at_) s = .next t ∧ within t ∧ State.pagesKept [1, 3, 10] s t ∧ trips n t ∧
        fired (128 + n) t ∧ Drv.st t n = (if Drv.latches s n at_ then 5 else 4) ∧
        t.vecBit 0x0A3000 n = Drv.latches s n at_ ∧ (∀ m, m ≠ n → Drv.chan t m = Drv.chan s m) ∧
        Drv.chan t n = { Drv.chan s n with
          trips := (at_ :: (Drv.chan s n).trips).take 15, hold := at_ + s.fld (Reg.DRV_CH_HOLDOFF n) * 2457600, held := false })) ∧
    (∀ n, chans ≤ n ∨ Drv.st s n ≠ 4 → exec (.holdoffExpiry n) s = .next s) ∧
    (∀ n, n < chans → Drv.st s n = 4 → ∃ t, exec (.holdoffExpiry n) s = .next t ∧ within t ∧ State.pagesKept [10] s t ∧
      Drv.chan t n = { Drv.chan s n with held := true } ∧ Drv.st t n = if s.flag (Reg.DRV_CHST_REQ n) then 4 else 0) ∧
    (∀ n, chans ≤ n ∨ Drv.senseBad s n = false → exec (.senseLoss n) s = .next s) ∧
    (∀ n, n < chans → Drv.senseBad s n = true → ∃ t, exec (.senseLoss n) s = .next t ∧ State.onlyRegs [Reg.DRV_CHST_SLOST n] s t ∧
      t.flag (Reg.DRV_CHST_SLOST n) = true) ∧
    (∀ c i, chans = 0 → exec (.carrierPeriod c i) s = .next s) ∧
    (∀ c i, 0 < chans → Drv.wanted s = true → s.drv.save = none → s.flag Reg.FC_STAT_MUTE = false → s.twn.drop = none →
      (∀ n, n < chans → s.flag (Reg.DRV_CHST_SLOST n) = false) →
      ∃ t, exec (.carrierPeriod c i) s = .next t ∧ within t ∧ State.pagesKept [10] s t ∧ t.flag Reg.DRV_ST_RUN = true ∧
        t.flag Reg.DRV_ST_MUTE_FC = false ∧
        (∀ n, n < chans → 4 ≤ Drv.st s n → Drv.st s n ≤ 6 → Drv.st t n = Drv.st s n ∧ Drv.chan t n = Drv.chan s n) ∧
        (∀ n, n < chans → Drv.st s n = 0 → Drv.mayRun s n = true → s.flag (Reg.DRV_CHST_REQ n) = false →
          Drv.st t n = 1 ∧ (Drv.chan t n).cm = 1) ∧
        ∀ n, n < chans → Drv.st s n = 2 → Drv.mayRun s n = true → s.flag (Reg.DRV_CH_FFEN n) = false → s.flag (Reg.DRV_CH_SAGEN n) = false →
          (Drv.chan s n).cause = 5 → (Drv.chan s n).len ≤ (Drv.chan s n).m → s.flag (Reg.DRV_CH_MUTE n) = false →
          let m := Drv.modulate (Drv.t2 s) (Drv.lim s) (Drv.value s n c i) 65536 (2 ^ 23 * (Drv.chan s n).gm / 2 ^ 23) (Drv.chan s n).e
          Drv.st t n = 2 ∧ (Drv.chan t n).e = m.2.2.1 ∧ ∃ legs, t.out = s.out ++ [.drv c i legs] ∧ (n, m.1, m.2.1) ∈ legs) ∧
    (∀ en, s.variant.snsIn = 0 → exec (.sfbCtlEnWrite en) s = .next s) ∧
    (∀ en, s.served = true → 0 < s.variant.snsIn → let run := en && s.flag Reg.CLK_GATE_SNS_EN
      ∃ t, exec (.sfbCtlEnWrite en) s = .next t ∧ within t ∧ State.pagesKept [1, 3, 9, 10] s t ∧ t.flag Reg.SFB_CTL_EN = en ∧
        t.flag Reg.SFB_ST_RUN = run ∧
        (s.flag Reg.SFB_ST_RUN = true → run = false → ∀ i, i < s.variant.snsIn → s.flag (Reg.SFB_CH_EN i) = true →
          t.fld (Reg.SFB_CHST_STATE i) = 3 ∧ t.flag (Reg.SFB_CHST_FVALID i) = false ∧ t.flag (Reg.SFB_CHST_RVALID i) = false) ∧
        (s.flag Reg.SFB_ST_RUN = false → run = true → t.sfb.flows = [] ∧ ∀ i, i < s.variant.snsIn → s.flag (Reg.SFB_CH_EN i) = true →
          t.fld (Reg.SFB_CHST_STATE i) = if s.flag Reg.SFB_ST_CLK_OK then 1 else 3)) ∧
    (∀ n full, s.variant.snsIn ≤ n ∨ s.flag Reg.SFB_ST_RUN = false → exec (.gapBegin n full) s = .next (Drv.sense s)) ∧
    (∀ n, n < s.variant.snsIn → s.flag Reg.SFB_ST_RUN = true → ∃ t, exec (.gapBegin n true) s = .next t ∧ within t ∧
      State.pagesKept [1, 3, 9, 10] s t ∧ t.flag (Reg.CLK_XFLAG_OVERRUN (67 + n / 8)) = true ∧ Sfb.flows t n = false) ∧
    (∀ n at_, s.variant.snsIn ≤ n ∨ s.flag Reg.SFB_ST_RUN = false ∨ Sfb.flows s n = true →
      exec (.gapEnd n at_) s = .next (Drv.sense s)) ∧
    (∀ n, n < s.variant.snsIn → s.flag Reg.SFB_ST_RUN = true → Sfb.flows s n = true → ∃ t, exec (.gapBegin n false) s = .next t ∧ within t ∧
      State.pagesKept [1, 3, 9, 10] s t ∧ Sfb.flows t n = false ∧ State.counts Reg.SFB_CNT_GAPS s t ∧
      ∀ i ∈ Sfb.readers s n, t.flag (Reg.SFB_CHST_FVALID i) = false ∧ t.flag (Reg.SFB_CHST_RVALID i) = false ∧
        t.fld (Reg.SFB_CHST_STATE i) = if s.fld (Reg.SFB_CHST_STATE i) = 2 then 1 else s.fld (Reg.SFB_CHST_STATE i)) ∧
    (∀ n at_, n < s.variant.snsIn → s.flag Reg.SFB_ST_RUN = true → Sfb.flows s n = false → ∃ t, exec (.gapEnd n at_) s = .next t ∧ within t ∧
      State.pagesKept [1, 3, 9, 10] s t ∧ Sfb.flows t n = true ∧ ∀ i ∈ Sfb.readers s n, (Sfb.chan t i).cs = Sfb.firstCount s at_ ∧
        (Sfb.chan t i).main = {} ∧ (Sfb.chan t i).src = s.fld (Reg.SFB_CH_SRC i)) ∧
    (∀ c bits, s.running = false ∨ s.flag Reg.SFB_SBUF_CLASH = true → ∃ t, exec (.mainSample c bits) s = .next t ∧ within t ∧
      State.pagesKept [1, 3, 9] s t) ∧
    (∀ c bits, s.running = true → s.flag Reg.SFB_SBUF_CLASH = false → s.rate ≠ 0 → s.mem.err = [] → ∃ t,
      exec (.mainSample c bits) s = .next t ∧ t.stalls = s.stalls ∧ t.cmd = s.cmd ∧ State.pagesKept [1, 3, 9] s t ∧
      ∀ i, i < s.variant.snsIn → Sparse.get t.sfb.written (128 * (c % Sfb.depth s) + i) 0 = 1 ∧
        (s.fld (Reg.SFB_CHST_STATE i) = 3 → t.bytesAt (Sfb.place s c i) 4 = [0, 0, 0, 0x80]) ∧
        (s.fld (Reg.SFB_CHST_STATE i) = 0 → t.bytesAt (Sfb.place s c i) 4 = [0, 0, 0, 0])) ∧
    (∀ i at_ bits, s.variant.snsIn ≤ i ∨ s.flag Reg.SFB_ST_RUN = false →
      exec (.fastSample i at_ bits) s = .next s ∧ exec (.railValue i bits) s = .next s) ∧
    (∀ i at_ (bits : List Bool), i < s.variant.snsIn → s.flag Reg.SFB_ST_RUN = true →
      s.fld (Reg.SFB_CHST_STATE i) = 1 ∨ s.fld (Reg.SFB_CHST_STATE i) = 2 → Sfb.flows s (Sfb.chan s i).src = true → bits.length = 8 →
      let x := Sfb.chan s i
      let f := Cic.step 3 x.fast bits
      let live := (s.reg (0x091004 + 0x10 * i), s.reg (0x091008 + 0x10 * i), s.reg (0x09100C + 0x10 * i))
      let renewed := Frame.boundary s s.frameNo ≤ at_ - 800
      let w := if renewed then live else x.oldW.getD live
      let a := x.cmpA.step w.1.toNat (decide (2 ≤ x.fastN)) f.2
      let b := x.cmpB.step w.2.1.toNat (decide (2 ≤ x.fastN)) f.2
      ∃ t, exec (.fastSample i at_ bits) s = .next t ∧ within t ∧ State.pagesKept [1, 3, 9, 10] s t ∧
        Sfb.chan t i = { x with fast := f.1, fastN := min 2 (x.fastN + 1), cmpA := a.1, cmpB := b.1, oldW := if renewed then none else x.oldW } ∧
        t.flag (Reg.SFB_CHST_FVALID i) = decide (2 ≤ x.fastN) ∧ t.flag (Reg.SFB_CHST_QA i) = a.2 ∧ t.flag (Reg.SFB_CHST_QB i) = b.2 ∧
        (a.2 = true → s.flag (Reg.SFB_CHST_QA i) = false → t.vecBit 0x092200 i = true ∧ fired 120 t) ∧
        (b.2 = true → s.flag (Reg.SFB_CHST_QB i) = false → t.vecBit 0x092210 i = true ∧ fired 121 t) ∧
        ∀ n, n < chans → t.flag (Reg.DRV_CHST_REQ n) = Sfb.request t n) ∧
    (∀ i (bits : List Bool), i < s.variant.snsIn → s.flag Reg.SFB_ST_RUN = true →
      s.fld (Reg.SFB_CHST_STATE i) = 1 ∨ s.fld (Reg.SFB_CHST_STATE i) = 2 → Sfb.flows s (Sfb.chan s i).src = true → bits.length = 64 →
      let x := Sfb.chan s i
      let r := Cic.step 4 x.rail bits
      ∃ t, exec (.railValue i bits) s = .next t ∧ within t ∧ State.pagesKept [9, 10] s t ∧
        Sfb.chan t i = { x with rail := r.1, railN := min 3 (x.railN + 1) } ∧ t.flag (Reg.SFB_CHST_RVALID i) = decide (3 ≤ x.railN) ∧
        (t.fld (Reg.SFB_CHST_RAIL i) : Int) = Arith.sat 24 (Arith.conv r.2 1) % 2 ^ 24)

/-- R490, R491, R493 to R499, R501, R503, R504, R507, R515, R517: on a device with the twin unit ownership is requested, taken and dropped,
the peer's pair qualifies, the heartbeat is judged, lanes lock, the link goes DOWN and trains, HELLO is sent, a follower leaves its role, and
an automatic resync starts; on a device without it nothing of this happens. -/
def Obligations.OwnershipAndTheLinkFollowTheirRules : Prop :=
  (∀ (s : State) (en : Bool) (at_ l : Nat), s.variant.tether = false → exec (.ownEnWrite en) s = .next s ∧ exec (.twnCtlEnWrite en) s = .next s ∧
    exec (.peerOwnChange at_ en (!en)) s = .next s ∧ exec (.ownershipAssert at_) s = .next s ∧ exec .ownAmbig s = .next s ∧
    exec .heartbeatToggle s = .next s ∧ exec (.hbEdge en) s = .next s ∧ exec (.laneLock l en) s = .next s) ∧
  ∀ s : State, s.variant.tether = true →
    let own := s.flag Reg.TWN_ST_OWN
    let link := s.fld Reg.TWN_ST_LINK
    let next := s.frameNo + 1
    let follows := s.role = 2 ∨ s.role = 4
    let alive := Sparse.get s.clk.odd 11 0 = 0
    let noted (e : Nat) (t : State) : Prop := Pll.running s = true → t.vecBit 0x030000 e = true
    let downs (i : Instr) : Prop := link ≠ 0 → ∃ t, exec i s = .next t ∧ t.fld Reg.TWN_ST_LINK = 0 ∧ t.twn.resync = none ∧
      (Fc.cls s 70 ≠ Fc.reset → t.twn.held = [] ∧ t.twn.wait = [] ∧ t.twn.txSeq = 0 ∧ t.twn.rxNext = 0 ∧ noted 66 t ∧
        (link = 2 → State.counts Reg.TWN_CNT1_DOWNS s t) ∧ (s.twn.wasUp = true → (t.fcSrc 70).pair = 2) ∧
        (follows → s.running = true → t.twn.roleAt = some (next, 3)) ∧
        (s.flag Reg.TWN_CTL_EN = true → s.pwr.warm = false → .tetherDown ∈ t.out));
    (s.served = false → ∀ en, exec (.ownEnWrite en) s = .next s ∧ exec (.twnCtlEnWrite en) s = .next s) ∧
    (s.served = true → ∃ t, exec (.ownEnWrite true) s = .next t ∧ State.onlyRegs [Reg.TWN_CTL_OWN_EN] s t ∧ t.flag Reg.TWN_CTL_OWN_EN = true) ∧
    (s.served = true → own = false → ∃ t, exec (.ownEnWrite false) s = .next t ∧ State.onlyRegs [Reg.TWN_CTL_OWN_EN] s t ∧
      t.flag Reg.TWN_CTL_OWN_EN = false) ∧
    (s.served = true → own = true → s.flag Reg.DRV_ST_RUN = true → ∃ t, exec (.ownEnWrite false) s = .next t ∧
      t = { s with regs := t.regs, twn := { s.twn with drop := some (s.twn.drop.getD 2) } } ∧ State.keptBut [Reg.TWN_CTL_OWN_EN] s t ∧
      t.flag Reg.TWN_CTL_OWN_EN = false) ∧
    (s.served = true → own = true → s.flag Reg.DRV_ST_RUN = false → s.twn.drop = none → ∃ t, exec (.ownEnWrite false) s = .next t ∧
      t.flag Reg.TWN_ST_OWN = false ∧ t.fld Reg.TWN_TAKE_DROP = 2 ∧ .own false ∈ t.out ∧ noted 65 t ∧ t.stalls = s.stalls ∧
      t.mem = s.mem ∧ t.twn = { s.twn with drop := none, lastDrop := 2, blind := !Twn.peerOwns s
                                           qual := if Twn.peerFree s then some s.tkp.node else none }) ∧
    (∀ d, Cmd.starts s 0x40 d → own = true → s.flag Reg.TWN_ST_PEER_ELIG = true → s.flag Reg.DRV_ST_RUN = true →
      ∃ t, exec .twinHandover s = .next t ∧ Cmd.popped s 0x40 t ∧ t.twn.drop = some (s.twn.drop.getD 1) ∧
        ∃ r ∈ t.cmd.run, r.d = d ∧ r.wait = .handover) ∧
    (∀ at_, Twn.mayAssert s at_ = false → exec (.ownershipAssert at_) s = .next s) ∧
    (∀ at_, Twn.mayAssert s at_ = true → ∃ t, exec (.ownershipAssert at_) s = .next t ∧ t.flag Reg.TWN_ST_OWN = true ∧
      t.flag Reg.TWN_ST_COLD = false ∧ noted 65 t ∧ State.counts Reg.TWN_CNT1_TAKES s t ∧ t.flag Reg.TWN_TAKE_VALID = true ∧
      t.fld Reg.TWN_TAKE_FROM = s.role ∧ (∀ q, s.twn.qual = some q → t.fld Reg.TWN_TAKE_GAP = min ((at_ - q) / 4) 0xFFF) ∧
      t.twn.blind = false ∧ .own true ∈ t.out ∧
      (s.role = 2 ∨ s.role = 3 ∨ s.role = 4 → let k := Frame.after s (at_ + 2458)
        t.twn.takeAt = some k ∧ (link ≠ 0 → .tether k (.role 0 1) ∈ t.out)) ∧
      (s.role = 3 ∨ s.role = 4 → t.flag Reg.TWN_ST_WARM = true)) ∧
    (∀ at_, Cmd.waiting s .handover = [] → exec (.handoverJwaitExpiry at_) s = .next s) ∧
    (∀ at_, Cmd.waiting s .handover ≠ [] → exec (.handoverJwaitExpiry at_) s = exec (.ownershipAssert at_) s) ∧
    (∀ at_ p n, s.flag Reg.TWN_ST_PEER_P = p → s.flag Reg.TWN_ST_PEER_N = n → exec (.peerOwnChange at_ p n) s = .next s) ∧
    (∀ at_ p n, s.flag Reg.TWN_ST_PEER_P ≠ p ∨ s.flag Reg.TWN_ST_PEER_N ≠ n → Twn.shown s → s.twn.ambig = false →
      ∃ t, exec (.peerOwnChange at_ p n) s = .next t ∧ t.flag Reg.TWN_ST_PEER_P = p ∧ t.flag Reg.TWN_ST_PEER_N = n ∧
        t.twn.qual = (if !p && n && Twn.clocked s then some at_ else none) ∧ (s.running = true → t.mem = s.mem ∧ t.stalls = s.stalls) ∧
        (p = true → n = false → t.flag Reg.TWN_ST_COLD = false ∧ t.twn.blind = false ∧ (own = true → t.flag Reg.TWN_ST_CONFLICT = true) ∧
          (own = false → s.role = 1 → s.twn.roleAt = none → s.running = true →
            t.twn.roleAt = some (Frame.after s (at_ + 2458), Twn.afterActive s)))) ∧
    (Twn.shown s → alive → s.flag Reg.TWN_ST_PEER_P = s.flag Reg.TWN_ST_PEER_N → ∃ t, exec .ownAmbig s = .next t ∧ t.twn.ambig = true ∧
      (t.fcSrc 72).pair = 2) ∧
    (¬ alive ∨ s.flag Reg.TWN_ST_PEER_P ≠ s.flag Reg.TWN_ST_PEER_N → exec .ownAmbig s = .next s) ∧
    (alive → s.flag Reg.TWN_CTL_EN = true → s.saveWarned = false → exec .heartbeatToggle s =
      .next { s with out := s.out ++ [.heartbeat (!s.twn.hbo)], twn := { s.twn with hbo := !s.twn.hbo } }) ∧
    (¬ alive ∨ s.flag Reg.TWN_CTL_EN = false ∨ s.saveWarned = true → exec .heartbeatToggle s = .next s) ∧
    (¬ alive → ∀ w, exec (.hbEdge w) s = .next s) ∧
    (∀ w, alive → let n := if w then s.twn.hbEdges + 1 else 1;
      (n < 4 ∨ s.flag Reg.TWN_ST_HB_OK = true → exec (.hbEdge w) s = .next { s with twn := { s.twn with hbEdges := min n 4 } }) ∧
      (4 ≤ n → s.flag Reg.TWN_ST_HB_OK = false → Twn.shown s → ∃ t, exec (.hbEdge w) s = .next t ∧ t.flag Reg.TWN_ST_HB_OK = true ∧
        noted 68 t ∧ t.twn.wasHb = (s.twn.wasHb || s.flag Reg.TWN_CTL_EN) ∧ (t.fcSrc 73).pair = 1)) ∧
    (¬ alive ∨ s.flag Reg.TWN_ST_HB_OK = false → exec .hbLoss s = .next { s with twn := { s.twn with hbEdges := 0 } }) ∧
    (alive → s.flag Reg.TWN_ST_HB_OK = true → Twn.shown s → ∃ t, exec .hbLoss s = .next t ∧ t.flag Reg.TWN_ST_HB_OK = false ∧
      t.twn.hbEdges = 0 ∧ noted 68 t ∧ (t.fcSrc 73).pair = if s.twn.wasHb then 2 else 1) ∧
    (∀ l, let m := s.twn.lanes ||| 2 ^ l
      let t0 : State := { s with twn := { s.twn with lanes := m } };
      (s.flag Reg.TWN_CTL_EN = false ∨ link ≠ 0 ∨ m ≠ 255 ∨ ¬ alive → exec (.laneLock l true) s = .next t0) ∧
      (s.flag Reg.TWN_CTL_EN = true → link = 0 → m = 255 → alive → ∃ t, exec (.laneLock l true) s = .next t ∧
        t.fld Reg.TWN_ST_LINK = 1 ∧ noted 66 t ∧ t.twn = t0.twn) ∧
      downs (.laneLock l false) ∧
      (link = 0 → exec (.laneLock l false) s = .next { s with twn := { s.twn with lanes := s.twn.lanes - (s.twn.lanes &&& 2 ^ l) } })) ∧
    (∀ i : Instr, i = .downBlock ∨ i = .helloTimeout ∨ i = .alignMissing → downs i ∧ (link = 0 → exec i s = .next s)) ∧
    (∀ en, s.flag Reg.TWN_CTL_EN = en → exec (.twnCtlEnWrite en) s = .next s) ∧
    (s.served = true → s.flag Reg.TWN_CTL_EN = false → Fc.cls s 70 ≠ Fc.reset → ∃ t, exec (.twnCtlEnWrite true) s = .next t ∧
      t.flag Reg.TWN_CTL_EN = true ∧ t.twn.wasUp = false ∧ t.twn.wasHb = s.flag Reg.TWN_ST_HB_OK ∧
      t.fld Reg.TWN_ST_LINK = if link = 0 ∧ s.twn.lanes = 255 ∧ alive then 1 else link) ∧
    (s.served = true → s.flag Reg.TWN_CTL_EN = true → ∃ t, exec (.twnCtlEnWrite false) s = .next t ∧ t.flag Reg.TWN_CTL_EN = false ∧
      t.fld Reg.TWN_ST_LINK = 0 ∧ (s.running = false → t.role = 0) ∧
      (s.running = true → s.role ≠ 0 → Fc.cls s 70 ≠ Fc.reset → t.twn.roleAt = some (next, 0))) ∧
    (link = 0 → s.twn.lanes ≠ 255 ∨ s.flag Reg.TWN_CTL_EN = false ∨ ¬ alive → exec .helloSend s = .next s) ∧
    (link = 0 → s.twn.lanes = 255 → s.flag Reg.TWN_CTL_EN = true → alive → ∃ t, exec .helloSend s = .next t ∧
      t.fld Reg.TWN_ST_LINK = 1 ∧ noted 66 t ∧ t.twn.txSeq = (s.twn.txSeq + 1) % 2 ^ 32 ∧
      t.twn.helloSeq = some (s.twn.helloSeq.getD s.twn.txSeq)) ∧
    (link ≠ 0 → ∃ t, exec .helloSend s = .next t ∧ t = { s with out := s.out ++ [.tether s.frameNo (.hello (Twn.hello s))], twn := t.twn } ∧
      t.twn.txSeq = (s.twn.txSeq + 1) % 2 ^ 32 ∧ t.twn.held.length = s.twn.held.length + 1 ∧
      t.twn.helloSeq = if link = 1 ∧ s.twn.helloSeq = none then some s.twn.txSeq else s.twn.helloSeq) ∧
    (s.running = false ∨ s.phase ≠ .s ∨ ¬ follows ∨ s.twn.fwdDone = true → exec .inputForwardTimeout s = .next s) ∧
    (s.running = true → s.phase = .s → follows → s.twn.fwdDone = false → s.mem.err = [] → ∃ t, exec .inputForwardTimeout s = .next t ∧
      t.role = 3 ∧ t.flag Reg.TWN_ST_HAYSYNC = false ∧ noted 64 t ∧ t.twn.resync = none ∧ t.twn.roleAt = none) ∧
    (let waits := follows ∧ ∃ r ∈ s.cmd.run, r.d.peer = true ∧ ((∃ ws, r.wait = .commit none ws) ∨ ∃ i, r.wait = .swap i none);
      (¬ waits → exec .takeTimeout s = .next s) ∧
      (waits → s.running = true → exec .takeTimeout s = .next { s with twn := { s.twn with roleAt := some (next, 3) } })) ∧
    ∀ at_, let due := s.role = 1 ∧ s.flag Reg.TWN_CTL_AUTO_RESYNC = true ∧ link = 2 ∧ s.fld Reg.TWN_ST_PEER_ROLE = 3 ∧
        Twn.sameBale s = true ∧ (∃ p, s.twn.peer = some p ∧ p.root = Twn.ownRoot s) ∧ s.twn.resync = none ∧
        ∀ t, s.twn.lastAuto = some t → t + 245760000 * s.fld Reg.TWN_CFG_RESYNC ≤ at_
      let r := Frame.after s (at_ + 12288);
      (¬ due → exec (.autoResyncStart at_) s = .next s) ∧
      (due → ∃ t, exec (.autoResyncStart at_) s = .next t ∧ t.twn.resync = some { r := some r, cmd := false, prep := false, began := s.frameNo } ∧
        t.twn.lastAuto = some at_ ∧ t.out = s.out ++ [.tether r (.role 1 1)] ∧ State.keptBut [Reg.TWN_ST_RESYNC] s t ∧
        t.flag Reg.TWN_ST_RESYNC = true)

/-- R500 to R503, R505 to R511, R516 to R518, R303, R310: the header of a tether block counts, acknowledges, asks again and takes the link
up or down; the message of a clean block has the effect its kind gives it. -/
def Obligations.TetherMessagesTakeEffect : Prop :=
  ∀ (h : TthHdr) (s : State), s.variant.tether = true →
    let link := s.fld Reg.TWN_ST_LINK
    let u := Twn.heard h s
    let k := s.frameNo
    let fresh := Twn.intact h = true ∧ h.known = true ∧ h.seq = s.twn.rxNext ∧ s.twn.wait = [] ∧ s.twn.rxCount + 1 < 16;
    (link = 0 → s.twn.lanes ≠ 255 ∨ s.flag Reg.TWN_CTL_EN = false ∨ Sparse.get s.clk.odd 11 0 ≠ 0 → exec (.nopMessage h) s = .next s) ∧
    (link ≠ 0 → Twn.intact h = false → (∀ l ∈ h.lost, l < 8) → Fc.cls s 71 ≠ Fc.reset → ∃ t, exec (.nopMessage h) s = .next t ∧
      (∀ l ∈ h.lost, t.flag (Reg.CLK_XFLAG_OVERRUN (11 + l)) = true) ∧
      (s.twn.crcRun < 3 → State.counts Reg.TWN_CNT0_CRC_ERR s t ∧ t.twn.crcRun = s.twn.crcRun + 1 ∧ t.fld Reg.TWN_ST_LINK = link ∧
        t.twn.naks = (s.twn.rxNext :: s.twn.naks).take 64) ∧ (3 ≤ s.twn.crcRun → t.fld Reg.TWN_ST_LINK = 0)) ∧
    (∀ b, fresh → link = 2 → h.nak = none → s.twn.held = [b] → h.ack = (b.seq + b.n) % 2 ^ 32 →
      exec (.nopMessage h) s = .next { u with twn := { u.twn with held := [] } }) ∧
    (∀ b, fresh → link = 2 → h.nak = some b.seq → s.twn.held = [b] → b.n = 1 → b.resent = [] → h.ack = b.seq → b.seq < 2 ^ 31 - 1 →
      ∃ t, exec (.nopMessage h) s = .next t ∧ t.out = s.out ++ [.tether b.frame b.body] ∧ State.counts Reg.TWN_CNT0_RESENT s t ∧
        State.keptBut [Reg.TWN_CNT0_RESENT] s t ∧ t.twn = { u.twn with held := [{ b with resent := [b.seq] }] }) ∧
    (∀ q, fresh → link = 1 → h.nak = none → s.twn.held = [] → s.twn.helloIn = true → s.twn.helloSeq = some q → q < h.ack →
      ∃ t, exec (.nopMessage h) s = .next t ∧ t.fld Reg.TWN_ST_LINK = 2 ∧ t.twn.wasUp = true ∧ (Pll.running s = true → t.vecBit 0x030000 66 = true)) ∧
    (fresh → link = 2 → h.nak = none → s.twn.held = [] → exec (.nopMessage { h with known := false }) s = .next (u.incCnt Reg.TWN_CNT0_CRC_ERR)) ∧
    (Twn.clean h s →
      exec (.nopMessage h) s = .next u ∧
      (∀ m : Hello, Twn.shown s → ∃ t, exec (.hello h m) s = .next t ∧ t.twn.peer = some m ∧ t.fld Reg.TWN_ST_PEER_ROLE = m.role % 8 ∧
        t.flag Reg.TWN_ST_PEER_ELIG = m.elig ∧ t.reg64 0x0D0028 = m.cap % 2 ^ 64 ∧
        (t.fcSrc 74).pair = (if m.cap = s.variant.cap then 1 else 2) ∧
        (m.role = 1 → ∀ r ∈ t.cmd.run, r.wait ≠ .handover) ∧
        (s.running = true → s.twn.roleAt = none → (s.role = 0 → s.flag Reg.TWN_CTL_EN = true → m.cap = s.variant.cap →
            (m.role = 1 → t.twn.roleAt = some (k + 1, 3)) ∧
            (m.role ≠ 1 → s.flag Reg.TWN_ST_OWN = true ∨ (m.own = false ∧ s.flag Reg.TWN_ST_SENIOR = true) →
              t.twn.roleAt = some (k + 1, 1))) ∧
          (s.role = 2 ∨ s.role = 4 → m.baleRoot ≠ Twn.ownBaleRoot s → t.twn.roleAt = some (k + 1, 3)))) ∧
      (∀ used words, h.frame ≠ k ∨ s.running = false ∨ s.role = 1 ∨ s.twn.fwdDone = true →
        exec (.inputMessage h used words) s = .next u) ∧
      (∀ i x, h.frame = k → s.running = true → s.role ≠ 1 → s.twn.fwdDone = false → s.mem.err = [] → i < 1536 * s.frameN →
        s.twn.fwdGot.length + 1 < 1536 * s.frameN → ∃ t, exec (.inputMessage h false [(i, x)]) s = .next t ∧
          t = { u with mem := { s.mem with bytes := t.mem.bytes, shared := t.mem.shared }, twn := { u.twn with fwdGot := (s.twn.fwdGot ++ [i]).eraseDups } } ∧
          t.bytesAt (Graph.image s true (i % 1536) (i / 1536)) 4 = Arith.bytes 4 (Arith.word x).toNat) ∧
      (∀ bytes mir unclean uf, (s.role = 1 → exec (.mirrorMessage h bytes mir unclean uf) s = .next u) ∧
        (s.role ≠ 1 → s.twn.mirFrame ≠ h.frame → exec (.mirrorMessage h bytes mir unclean uf) s = .next { u with twn := { u.twn with
            mirFrame := h.frame, mirBytes := bytes, mirLast := if h.last then some (mir, unclean, uf) else none } }) ∧
        (s.role ≠ 1 → s.twn.mirFrame = h.frame → exec (.mirrorMessage h bytes mir unclean uf) s = .next { u with twn := { u.twn with
            mirBytes := s.twn.mirBytes ++ bytes, mirLast := if h.last then some (mir, unclean, uf) else s.twn.mirLast } })) ∧
      (∀ d : TwnDigest, s.twn.own = [] → exec (.digestMessage h d) s =
        .next { u with twn := { u.twn with theirs := ((h.frame, d) :: s.twn.theirs).take 8 } }) ∧
      (∀ d x : TwnDigest, s.twn.own = [(h.frame, x)] → s.twn.theirs = [] →
        let same := x.out = d.out ∧ x.bus = d.bus ∧ x.mir = d.mir
        let out := x.ovr || x.exempt || d.ovr || d.exempt;
        (out = true ∨ same → exec (.digestMessage h d) s = .next u) ∧
        (out = false → ¬ same → Twn.haysync s = false → ∃ t, exec (.digestMessage h d) s = .next t ∧ t.twn = u.twn ∧
          t.fld Reg.TWN_MM_FRAME_FRAME = h.frame % 2 ^ 32 ∧ t.flag Reg.TWN_MM_VALID = true ∧
          t.flag Reg.TWN_MM_OUT = decide (x.out ≠ d.out) ∧ t.flag Reg.TWN_MM_BUS = decide (x.bus ≠ d.bus) ∧
          t.flag Reg.TWN_MM_MIR = decide (x.mir ≠ d.mir) ∧ t.flag Reg.TWN_MM_PRE = true ∧
          (Pll.running s = true → t.vecBit 0x030000 67 = true) ∧
          t.fld Reg.TWN_MM_ATTR = if (x.ufD || x.ufD1) && !(d.ufD || d.ufD1) then 1
            else if (d.ufD || d.ufD1) && !(x.ufD || x.ufD1) then 2 else 0)) ∧
      (∀ n words data, let d : Desc := { ticket := n, words := words, peer := true, data := data }
        exec (.cmdMessage h n words data) s = .next (if s.role = 2 ∨ s.role = 4 then 
          { u with cmd := (if Cmd.isLong d.op then { s.cmd with long := s.cmd.long ++ [d] } else { s.cmd with short := s.cmd.short ++ [d] }) }
          else u)) ∧
      (∀ n st re, s.cmd.run = [] → s.cmd.short = [] → s.cmd.long = [] → exec (.cmdack h n st re) s = .next u) ∧
      (∀ n st re r, s.cmd.run = [r] → r.sent = true → r.d.peer = false → r.d.ticket = n →
        ((∀ a b c, r.wait ≠ .ack a b c) → exec (.cmdack h n st re) s =
          .next { u with cmd := { s.cmd with run := [{ r with answer := some (st, re) }] } }) ∧
        ((∃ a b c, r.wait = .ack a b c) → ∃ t, exec (.cmdack h n st re) s = .next t ∧ t.cmd.run = [] ∧ t.twn = u.twn)) ∧
      (∀ sw n, ¬ (s.role = 2 ∨ s.role = 4) ∨ h.frame ≠ k + 1 ∨ s.saveWarned = true → exec (.take h sw n) s = .next u) ∧
      (∀ r i n, s.role = 2 ∨ s.role = 4 → h.frame = k + 1 → s.saveWarned = false → s.cmd.run = [r] → r.d.peer = true →
        (r.wait = .swap i none → Bale.st s i = 4 → ∃ t, exec (.take h true n) s = .next t ∧ t.bale.taken = some i ∧
          t.cmd.run = [{ r with wait := .swap i (some ((Swap.number s i (k + 1)).getD (k + 1))) }]) ∧
        (∀ ws, r.wait = .commit none ws → r.d.ticket ≤ n → s.cmd.writes = [] → s.cmd.taken = none →
          (Save.backlog s (some (Commit.snapshot s (k + 1) ws)) true).length ≤ 12 → Commit.tooMany s ws = false →
          ∃ t, exec (.take h false n) s = .next t ∧ t.cmd.taken = some (Commit.snapshot s (k + 1) ws) ∧
            t.cmd.run = [{ r with wait := .commit (some (k + 1)) ws }] ∧ t.flag Reg.GRAPH_COMMIT_TAKEN = true)) ∧
      (∀ arg role, let noted (t : State) := State.keptBut [Reg.TWN_ST_RESYNC] s t ∧
          t.mem = s.mem ∧ t.cmd = s.cmd
        ∃ t, exec (.roleMessage h arg role) s = .next t ∧ (s.running = true → noted t ∧
          (arg = 0 → s.role = 1 → s.flag Reg.TWN_ST_OWN = false → t.twn.roleAt = some (h.frame, Twn.afterActive s)) ∧
          (arg = 1 → s.role = 3 ∨ s.role = 4 → t.flag Reg.TWN_ST_RESYNC = true ∧ t.twn.resync =
            some { r := some h.frame, cmd := !(Cmd.waiting s .resync).isEmpty, prep := false, began := k }) ∧
          (1 < arg → role = 1 → s.role = 2 ∨ s.role = 4 → t.twn.roleAt = some (h.frame, 3)))) ∧
      (∀ l : List DrvRecord, (s.flag Reg.TWN_ST_OWN = true → exec (.drvrec h l) s = .next u) ∧
        (s.flag Reg.TWN_ST_OWN = false → exec (.drvrec h l) s = .next { u with twn := { u.twn with
            drvFrame := h.frame
            drvRec := if h.last = true ∧ l.length ≤ 32 ∧ s.twn.drvFrame = h.frame then s.twn.drvRec ++ l else l } })) ∧
      (∀ units rows, exec (.refreshMessage h units rows) s = .next (if s.role = 1 then u else
        { u with twn := { u.twn with units := s.twn.units ++ units, rows := s.twn.rows ++ rows } })) ∧
      (∀ l, s.twn.resync ≠ none → exec (.syncMessage h 2 (.gateA l)) s = .next { u with twn := { u.twn with gaNotes := s.twn.gaNotes ++ l } } ∧
        exec (.syncMessage h 2 (.outlet l)) s = .next { u with twn := { u.twn with ocNotes := s.twn.ocNotes ++ l } }) ∧
      (∀ l ps, s.twn.resync = none → s.role = 3 ∨ s.role = 4 → exec (.syncMessage h 1 (.pages ps)) s = .next u ∧
        ∃ t, exec (.syncMessage h 0 (.leaves l)) s = .next t ∧ t.out = s.out ++ [.tether k (.sync 0 (.leaves (Twn.leaves s)))] ∧
          t.twn.resync = some { r := none, cmd := !(Cmd.waiting s .resync).isEmpty, prep := true, began := k } ∧
          t.flag Reg.TWN_ST_RESYNC = true) ∧
      (∀ l, s.twn.resync = none → s.role = 1 → ∃ t, exec (.syncMessage h 0 (.leaves l)) s = .next t ∧ t.flag Reg.TWN_ST_RESYNC = true ∧
        t.twn.resync = some { r := if Twn.sameRoot s then some (k + 2) else none, cmd := !(Cmd.waiting s .resync).isEmpty
                              prep := !Twn.sameRoot s, began := k } ∧
        t.out = s.out ++ [if Twn.sameRoot s then .tether (k + 2) (.role 1 1) else .tether k (.sync 1 (.pages (Twn.differing s l)))]) ∧
      (∀ l, s.twn.resync ≠ none → s.role = 3 ∨ s.role = 4 → ∃ t, exec (.syncMessage h 1 (.pages l)) s = .next t ∧
        t.flag Reg.GRAPH_COMMIT_PENDING = true ∧ ∃ r ∈ t.cmd.run, r.d.ticket = 65536 ∧ r.d.peer = true ∧ ∃ ws, r.wait = .commit none ws) ∧
      (∀ slot off bytes, slot < 2 → h.last = false → 1 < Bale.st s slot ∨ bytes = [] → exec (.baleMessage h slot off bytes) s = .next u) ∧
      (∀ slot off (bytes : List Byte), slot < 2 → h.last = false → Bale.st s slot ≤ 1 → bytes ≠ [] → s.mem.err = [] →
        let cells := bytes.zipIdx.map fun b => (Bale.base slot + off + b.2, b.1)
        ∃ t, exec (.baleMessage h slot off bytes) s = .next t ∧ Bale.st t slot = 1 ∧ t.twn = u.twn ∧
          ∀ x, x < 0x9040000 ∨ 0x9041000 ≤ x → t.byte x = Mem.lastByte cells x (s.byte x)) ∧
      (∀ gen b root baleRoot, s.twn.resync = none → exec (.rcdMessage h gen b root baleRoot) s = .next { u with
          rcd := { s.rcd with peer := ((gen, b, root, baleRoot) :: s.rcd.peer).take 16 }
          twn := { u.twn with peer := s.twn.peer.map fun p => { p with gen := gen, k := b, root := root, baleRoot := baleRoot } } }))

/-- R569 and IEEE 1149.1 as log entry 30 presumes it: TRST_N low resets the test logic; a rising edge of TCK moves the controller and captures
or shifts, the IDCODE register holding the IDCODE of the variant; a falling edge updates or shows the bit next to TDO, and while the lock
fuse is set only IDCODE and BYPASS act. -/
def Obligations.DebugPortFollowsTheTestAccessPort : Prop :=
  ∀ (s : State) (tms tdi : Bool),
    (∀ r, exec (.debugPortTck true r tms tdi) s = .next { s with dbg := { s.dbg with tap := 0, ir := 0 } }) ∧
    (∃ t, exec (.debugPortTck false true tms tdi) s = .next t ∧ t = { s with dbg := t.dbg, free := t.free } ∧
      t.dbg.tap = Dbg.next s.dbg.tap tms ∧ t.dbg.ir = s.dbg.ir ∧ t.dbg.bsr = s.dbg.bsr ∧
      (s.dbg.tap = 4 ∨ s.dbg.tap = 11 → t.dbg.shift = s.dbg.shift.drop 1 ++ [tdi]) ∧
      (s.dbg.tap = 3 → s.dbg.ir = 0 → t.dbg.shift.length = 32 ∧ Dbg.number t.dbg.shift = Dbg.idcode s.variant) ∧
      (s.dbg.tap = 3 → s.dbg.ir ≠ 0 → s.pwr.lock = true ∨ s.dbg.ir = 1 → t.dbg.shift = [false])) ∧
    ∃ t, exec (.debugPortTck false false tms tdi) s = .next t ∧ t = { s with dbg := t.dbg, out := t.out } ∧ t.dbg.tap = s.dbg.tap ∧
      (s.dbg.tap = 4 ∨ s.dbg.tap = 11 → t.out = s.out ++ [.tdo (s.dbg.shift.headD false)] ∧ t.dbg = s.dbg) ∧
      (s.dbg.tap = 15 → t.dbg.ir = Dbg.code s.dbg.shift) ∧ (s.dbg.tap = 8 → s.pwr.lock = true → t = s)
end

