-- ==== Sys2Proof/Laws/Sparse.lean ====
section
/-! SUPPORT. The laws of sparse maps: reading after writing, and that every operation keeps the canonical form. -/

namespace Sys2Proof

variable {α : Type}

theorem Sparse.look_insert_same (m : Sparse α) (k : Nat) (v : α) : Sparse.look (Sparse.insert m k v) k = some v := by
  induction m with
  | nil => simp [Sparse.insert, Sparse.look]
  | cons p m ih =>
    obtain ⟨a, w⟩ := p
    simp only [Sparse.insert]
    split
    · simp [Sparse.look]
    · split
      · simp [Sparse.look]
      · simp [Sparse.look, *]

theorem Sparse.look_insert_other (m : Sparse α) (k j : Nat) (v : α) (h : j ≠ k) :
    Sparse.look (Sparse.insert m k v) j = Sparse.look m j := by
  induction m with
  | nil => simp [Sparse.insert, Sparse.look, h]
  | cons p m ih =>
    obtain ⟨a, w⟩ := p
    simp only [Sparse.insert]
    split
    · simp [Sparse.look, h]
    · split
      · next h1 h2 => subst h2; simp [Sparse.look, h]
      · simp [Sparse.look, ih]

theorem Sparse.look_erase_other (m : Sparse α) (k j : Nat) (h : j ≠ k) : Sparse.look (Sparse.erase m k) j = Sparse.look m j := by
  induction m with
  | nil => rfl
  | cons p m ih =>
    obtain ⟨a, w⟩ := p
    simp only [Sparse.erase]
    split
    · next h1 => subst h1; simp [Sparse.look, h, ih]
    · simp [Sparse.look, ih]

theorem Sparse.look_above (m : Sparse α) (k : Nat) (h : Sparse.above k m = true) : ∀ j, j ≤ k → Sparse.look m j = none := by
  induction m with
  | nil => intros; rfl
  | cons p m ih =>
    obtain ⟨a, w⟩ := p
    intro j hj
    simp only [Sparse.above, List.all_cons, Bool.and_eq_true, decide_eq_true_eq] at h
    have : j ≠ a := by omega
    simp only [Sparse.look, this, if_false]
    exact ih (by simpa [Sparse.above] using h.2) j hj

theorem Sparse.above_insert (m : Sparse α) (a k : Nat) (v : α) (h : Sparse.above a m = true) (hk : a < k) :
    Sparse.above a (Sparse.insert m k v) = true := by
  induction m with
  | nil => simp [Sparse.insert, Sparse.above, hk]
  | cons p m ih =>
    obtain ⟨b, w⟩ := p
    simp only [Sparse.above, List.all_cons, Bool.and_eq_true, decide_eq_true_eq] at h
    simp only [Sparse.insert]
    split
    · simp only [Sparse.above, List.all_cons, Bool.and_eq_true, decide_eq_true_eq]; exact ⟨hk, h⟩
    · split
      · simp only [Sparse.above, List.all_cons, Bool.and_eq_true, decide_eq_true_eq]; exact ⟨hk, h.2⟩
      · have := ih (by simpa [Sparse.above] using h.2)
        simp only [Sparse.above, List.all_cons, Bool.and_eq_true, decide_eq_true_eq] at this ⊢
        exact ⟨h.1, this⟩

theorem Sparse.above_erase (m : Sparse α) (a k : Nat) (h : Sparse.above a m = true) : Sparse.above a (Sparse.erase m k) = true := by
  induction m with
  | nil => rfl
  | cons p m ih =>
    obtain ⟨b, w⟩ := p
    simp only [Sparse.above, List.all_cons, Bool.and_eq_true, decide_eq_true_eq] at h
    simp only [Sparse.erase]
    split
    · exact ih (by simpa [Sparse.above] using h.2)
    · have := ih (by simpa [Sparse.above] using h.2)
      simp only [Sparse.above, List.all_cons, Bool.and_eq_true, decide_eq_true_eq] at this ⊢
      exact ⟨h.1, this⟩

theorem Sparse.above_trans (m : Sparse α) (a b : Nat) (hab : a ≤ b) (h : Sparse.above b m = true) : Sparse.above a m = true := by
  simp only [Sparse.above, List.all_eq_true, decide_eq_true_eq] at h ⊢
  intro x hx
  have := h x hx
  omega

theorem Sparse.wf_insert [DecidableEq α] (d : Nat → α) (m : Sparse α) (k : Nat) (v : α) (hv : v ≠ d k) (h : Sparse.wf d m = true) :
    Sparse.wf d (Sparse.insert m k v) = true := by
  induction m with
  | nil => simp [Sparse.insert, Sparse.wf, Sparse.above, hv]
  | cons p m ih =>
    obtain ⟨a, w⟩ := p
    simp only [Sparse.wf, Bool.and_eq_true, decide_eq_true_eq] at h
    simp only [Sparse.insert]
    split
    · next hk =>
      simp only [Sparse.wf, Bool.and_eq_true, decide_eq_true_eq]
      refine ⟨⟨?_, hv⟩, h⟩
      simp only [Sparse.above, List.all_cons, Bool.and_eq_true, decide_eq_true_eq]
      exact ⟨hk, Sparse.above_trans m k a (by omega) h.1.1⟩
    · split
      · next h1 h2 => subst h2; simp only [Sparse.wf, Bool.and_eq_true, decide_eq_true_eq]; exact ⟨⟨h.1.1, hv⟩, h.2⟩
      · simp only [Sparse.wf, Bool.and_eq_true, decide_eq_true_eq]
        exact ⟨⟨Sparse.above_insert m a k v h.1.1 (by omega), h.1.2⟩, ih h.2⟩

theorem Sparse.wf_erase [DecidableEq α] (d : Nat → α) (m : Sparse α) (k : Nat) (h : Sparse.wf d m = true) : Sparse.wf d (Sparse.erase m k) = true := by
  induction m with
  | nil => rfl
  | cons p m ih =>
    obtain ⟨a, w⟩ := p
    simp only [Sparse.wf, Bool.and_eq_true, decide_eq_true_eq] at h
    simp only [Sparse.erase]
    split
    · exact ih h.2
    · simp only [Sparse.wf, Bool.and_eq_true, decide_eq_true_eq]
      exact ⟨⟨Sparse.above_erase m a k h.1.1, h.1.2⟩, ih h.2⟩

/-- A write keeps the canonical form. -/
theorem Sparse.wf_put [DecidableEq α] (d : Nat → α) (m : Sparse α) (k : Nat) (v : α) (h : Sparse.wf d m = true) :
    Sparse.wf d (Sparse.put m k (d k) v) = true := by
  unfold Sparse.put
  split
  · exact Sparse.wf_erase d m k h
  · next hv => exact Sparse.wf_insert d m k v hv h

theorem Sparse.look_erase_same (m : Sparse α) (k : Nat) : Sparse.look (Sparse.erase m k) k = none := by
  induction m with
  | nil => rfl
  | cons p m ih =>
    obtain ⟨a, w⟩ := p
    simp only [Sparse.erase]
    split
    · exact ih
    · next hk => simp only [Sparse.look, hk, if_false]; exact ih

/-- A read after a write of the same key gives the value written. -/
theorem Sparse.get_put_same [DecidableEq α] (m : Sparse α) (k : Nat) (d v : α) : Sparse.get (Sparse.put m k d v) k d = v := by
  unfold Sparse.put Sparse.get
  split
  · next hv => rw [Sparse.look_erase_same m k, hv]; rfl
  · rw [Sparse.look_insert_same]; rfl

/-- A write leaves every other key alone. -/
theorem Sparse.get_put_other [DecidableEq α] (m : Sparse α) (k j : Nat) (d e v : α) (h : j ≠ k) :
    Sparse.get (Sparse.put m k d v) j e = Sparse.get m j e := by
  unfold Sparse.put Sparse.get
  split
  · rw [Sparse.look_erase_other m k j h]
  · rw [Sparse.look_insert_other m k j v h]

theorem Sparse.above_filterMap (m : Sparse α) (f : Nat × α → Option (Nat × α)) (hf : ∀ p q, f p = some q → q.1 = p.1) (a : Nat)
    (h : Sparse.above a m = true) : Sparse.above a (m.filterMap f) = true := by
  simp only [Sparse.above, List.all_eq_true, decide_eq_true_eq, List.mem_filterMap] at h ⊢
  rintro x ⟨y, hy, hxy⟩
  rw [hf y x hxy]
  exact h y hy

/-- Dropping entries, and giving others a value that is not the default, keeps the canonical form. -/
theorem Sparse.wf_filterMap [DecidableEq α] (d : Nat → α) (m : Sparse α) (f : Nat × α → Option (Nat × α))
    (hf : ∀ p q, f p = some q → q.1 = p.1 ∧ q.2 ≠ d q.1) (h : Sparse.wf d m = true) : Sparse.wf d (m.filterMap f) = true := by
  induction m with
  | nil => rfl
  | cons p m ih =>
    obtain ⟨a, w⟩ := p
    simp only [Sparse.wf, Bool.and_eq_true, decide_eq_true_eq] at h
    simp only [List.filterMap_cons]
    split
    · exact ih h.2
    · next b hb =>
      obtain ⟨h1, h2⟩ := hf _ _ hb
      obtain ⟨b1, b2⟩ := b
      simp only at h1 h2
      subst h1
      simp only [Sparse.wf, Bool.and_eq_true, decide_eq_true_eq]
      exact ⟨⟨Sparse.above_filterMap m f (fun p q hq => (hf p q hq).1) _ h.1.1, h2⟩, ih h.2⟩

/-- Dropping entries keeps the canonical form. -/
theorem Sparse.wf_filter [DecidableEq α] (d : Nat → α) (m : Sparse α) (f : Nat × α → Bool) (h : Sparse.wf d m = true) :
    Sparse.wf d (m.filter f) = true := by
  induction m with
  | nil => rfl
  | cons p m ih =>
    obtain ⟨a, w⟩ := p
    simp only [Sparse.wf, Bool.and_eq_true, decide_eq_true_eq] at h
    have hab : ∀ g : Nat × α → Bool, Sparse.above a (m.filter g) = true := by
      intro g
      have := h.1.1
      simp only [Sparse.above, List.all_eq_true, decide_eq_true_eq, List.mem_filter] at this ⊢
      exact fun x hx => this x hx.1
    simp only [List.filter_cons]
    split
    · simp only [Sparse.wf, Bool.and_eq_true, decide_eq_true_eq]
      exact ⟨⟨hab f, h.1.2⟩, ih h.2⟩
    · exact ih h.2

end Sys2Proof
end

