-- ==== Sys2Proof/Laws/Keeps.lean ====
section
/-! SUPPORT. `State.Keeps` for the primitive updates: a register, a byte, a draw, something sent. Every other operation of the model is
built of these, so its own lemma follows from theirs. -/

namespace Sys2Proof.Machine

variable {z s : State}

theorem State.Keeps.refl (s : State) : State.Keeps s s := ⟨rfl, rfl, List.prefix_refl _, Nat.le_refl _, id⟩

theorem State.Keeps.trans {r : State} (h : State.Keeps z s) (k : State.Keeps s r) : State.Keeps z r :=
  ⟨k.variant.trans h.variant, k.pending.trans h.pending, h.out.trans k.out, Nat.le_trans h.free k.free, fun w => k.wf (h.wf w)⟩

/-- An update that touches none of the registers, the memory bytes, the queue, the variant and the trace. -/
theorem State.Keeps.same (e : State) {t : State} (h1 : t.variant = e.variant) (h2 : t.pending = e.pending) (h3 : t.out = e.out)
    (h4 : t.free = e.free) (h5 : t.regs = e.regs) (h6 : t.shadow = e.shadow) (h7 : t.mem.bytes = e.mem.bytes)
    (h8 : t.mem.err = e.mem.err) (h : State.Keeps z e) : State.Keeps z t := by
  refine ⟨h1.trans h.variant, h2.trans h.pending, h3 ▸ h.out, h4 ▸ h.free, fun w => ?_⟩
  have := h.wf w
  unfold State.wf Memory.wf at this ⊢
  rw [h5, h6, h7, h8]
  exact this

/-- The same with numbers drawn from the free values. -/
theorem State.Keeps.drawn (e : State) (n : Nat) {t : State} (h1 : t.variant = e.variant) (h2 : t.pending = e.pending)
    (h3 : t.out = e.out) (h4 : t.free = e.free + n) (h5 : t.regs = e.regs) (h6 : t.shadow = e.shadow)
    (h7 : t.mem.bytes = e.mem.bytes) (h8 : t.mem.err = e.mem.err) (h : State.Keeps z e) : State.Keeps z t := by
  refine ⟨h1.trans h.variant, h2.trans h.pending, h3 ▸ h.out, h4 ▸ Nat.le_trans h.free (Nat.le_add_right _ _), fun w => ?_⟩
  have := h.wf w
  unfold State.wf Memory.wf at this ⊢
  rw [h5, h6, h7, h8]
  exact this

/-- The same for an update written out field by field. -/
theorem State.Keeps.mk_same {v rg sh hl la fc ck ev sl me ho ou fr ph mt tk ns sa sf dr gr cm ba rc tw pw db pe} (e : State)
    (h1 : v = e.variant) (h2 : pe = e.pending) (h3 : ou = e.out) (h4 : fr = e.free) (h5 : rg = e.regs) (h6 : sh = e.shadow)
    (h7 : MemState.bytes me = e.mem.bytes) (h8 : me.err = e.mem.err) (h : State.Keeps z e) :
    State.Keeps z (State.mk v rg sh hl la fc ck ev sl me ho ou fr ph mt tk ns sa sf dr gr cm ba rc tw pw db pe) :=
  State.Keeps.same e h1 h2 h3 h4 h5 h6 h7 h8 h

theorem State.Keeps.cut {p q : Prop} (f : p → q) (h : p) : q := f h

theorem State.Keeps.ite {c : Prop} [Decidable c] {a b : State} (ha : c → State.Keeps z a) (hb : ¬c → State.Keeps z b) :
    State.Keeps z (if c then a else b) := by
  split
  · exact ha ‹_›
  · exact hb ‹_›

theorem State.Keeps.ite1 {α : Type} {c : Prop} [Decidable c] {a b : State × α} (ha : c → State.Keeps z a.1) (hb : ¬c → State.Keeps z b.1) :
    State.Keeps z (if c then a else b).1 := by
  split
  · exact ha ‹_›
  · exact hb ‹_›

theorem State.Leads.ite {c : Prop} [Decidable c] {a b : Host.Outcome State Fault Refusal} (ha : c → State.Leads z a)
    (hb : ¬c → State.Leads z b) : State.Leads z (if c then a else b) := by
  split
  · exact ha ‹_›
  · exact hb ‹_›

theorem State.Leads.next {t : State} (h : State.Keeps z t) : State.Leads z (.next t) := by
  exact ⟨fun r hr => by cases hr; exact h⟩

theorem State.setReg_keeps (off : Nat) (w : Word) (h : State.Keeps z s) : State.Keeps z (s.setReg off w) := by
  refine ⟨h.variant, h.pending, h.out, h.free, fun k => ?_⟩
  have := h.wf k
  simp only [State.wf, Bool.and_eq_true, State.setReg] at this ⊢
  exact ⟨⟨⟨Sparse.wf_put Reg.reset _ _ _ this.1.1.1, this.1.1.2⟩, this.1.2⟩, this.2⟩

theorem State.setShReg_keeps (off : Nat) (w : Word) (h : State.Keeps z s) : State.Keeps z (s.setShReg off w) := by
  refine ⟨h.variant, h.pending, h.out, h.free, fun k => ?_⟩
  have := h.wf k
  simp only [State.wf, Bool.and_eq_true, State.setShReg] at this ⊢
  exact ⟨⟨⟨this.1.1.1, Sparse.wf_put Reg.reset _ _ _ this.1.1.2⟩, this.1.2⟩, this.2⟩

theorem State.setByte_keeps (a : Nat) (b : Byte) (h : State.Keeps z s) : State.Keeps z (s.setByte a b) := by
  refine ⟨h.variant, h.pending, h.out, h.free, fun k => ?_⟩
  have := h.wf k
  simp only [State.wf, Memory.wf, Bool.and_eq_true, State.setByte] at this ⊢
  exact ⟨⟨this.1.1, Sparse.wf_put (fun _ => 0) _ _ _ this.1.2⟩, this.2⟩

theorem Mem.setErr_keeps (w m : Nat) (h : State.Keeps z s) : State.Keeps z (Mem.setErr s w m) := by
  refine ⟨h.variant, h.pending, h.out, h.free, fun k => ?_⟩
  have := h.wf k
  simp only [State.wf, Memory.wf, Bool.and_eq_true, Mem.setErr] at this ⊢
  exact ⟨this.1, Sparse.wf_put (fun _ => 0) _ _ _ this.2⟩

/-- Bytes or error marks changed. -/
theorem State.Keeps.bytes (e : State) {t : State} (h1 : t.variant = e.variant) (h2 : t.pending = e.pending) (h3 : t.out = e.out)
    (h4 : t.free = e.free) (h5 : t.regs = e.regs) (h6 : t.shadow = e.shadow)
    (h7 : Memory.wf e.mem = true → Memory.wf t.mem = true)
    (h8 : Sparse.wf (fun _ => 0) e.mem.err = true → Sparse.wf (fun _ => 0) t.mem.err = true) (h : State.Keeps z e) : State.Keeps z t := by
  refine ⟨h1.trans h.variant, h2.trans h.pending, h3 ▸ h.out, h4 ▸ h.free, fun w => ?_⟩
  have := h.wf w
  simp only [State.wf, Bool.and_eq_true] at this ⊢
  rw [h5, h6]
  exact ⟨⟨this.1.1, h7 this.1.2⟩, h8 this.2⟩

/-- A shadow taken from another state. -/
theorem State.withShadow_keeps (e b : State) (h : State.Keeps z e) (hb : State.Keeps z b) : State.Keeps z (e.withShadow b) := by
  refine ⟨h.variant, h.pending, h.out, h.free, fun w => ?_⟩
  have h1 := h.wf w
  have h2 := hb.wf w
  simp only [State.wf, Bool.and_eq_true, State.withShadow] at h1 h2 ⊢
  exact ⟨⟨⟨h1.1.1.1, h2.1.1.2⟩, h1.1.2⟩, h1.2⟩

theorem State.send_keeps (e : Emit) (h : State.Keeps z s) : State.Keeps z (s.send e) :=
  ⟨h.variant, h.pending, h.out.trans (List.prefix_append _ _), h.free, h.wf⟩

theorem State.drew_keeps (h : State.Keeps z s) : State.Keeps z s.drew :=
  ⟨h.variant, h.pending, h.out, Nat.le_succ_of_le h.free, h.wf⟩

theorem State.foldl_keeps {α : Type} (l : List α) (f : State → α → State) (hf : ∀ t x, State.Keeps z t → State.Keeps z (f t x)) :
    ∀ s, State.Keeps z s → State.Keeps z (l.foldl f s) := by
  induction l with
  | nil => intro s h; exact h
  | cons a l ih => intro s h; exact ih _ (hf _ _ h)

theorem State.foldl1_keeps {α β : Type} (l : List α) (f : State × β → α → State × β)
    (hf : ∀ p x, State.Keeps z p.1 → State.Keeps z (f p x).1) : ∀ e, State.Keeps z e.1 → State.Keeps z (l.foldl f e).1 := by
  induction l with
  | nil => intro e h; exact h
  | cons a l ih => intro e h; exact ih _ (hf _ _ h)

theorem State.each_keeps {α : Type} (l : List α) (f : State → α → State) (hf : ∀ t x, State.Keeps z t → State.Keeps z (f t x))
    (h : State.Keeps z s) : State.Keeps z (s.each l f) := State.foldl_keeps l f hf s h

theorem State.when_keeps (b : Bool) (f : State → State) (hf : ∀ t, State.Keeps z t → State.Keeps z (f t)) (h : State.Keeps z s) :
    State.Keeps z (s.when b f) := by
  unfold State.when
  split
  · exact hf _ h
  · exact h

end Sys2Proof.Machine
end

