-- ==== Sys2Proof/Laws/KeepsCore.lean ====
section
/-! SUPPORT. `State.Keeps` for the register helpers, events, tether, command tickets, resets, the fault collector, memory: each operation keeps the variant, the queue, what has been sent,
the count of free values and the canonical forms. -/

namespace Sys2Proof.Machine

section Ops

theorem State.setFld_keeps {z₀ : State} (s : State) (f : Fld) (v : Nat) (h_s : State.Keeps z₀ s) :
    State.Keeps z₀ (State.setFld s f v) := by
  unfold State.setFld
  repeat' first | with_reducible assumption | with_reducible apply State.setReg_keeps

theorem State.setFlag_keeps {z₀ : State} (s : State) (f : Fld) (b : Bool) (h_s : State.Keeps z₀ s) :
    State.Keeps z₀ (State.setFlag s f b) := by
  unfold State.setFlag
  repeat' first
    | with_reducible assumption | (intro) | with_reducible apply State.setFld_keeps | with_reducible apply State.Keeps.ite
    | split

theorem State.addCnt_keeps {z₀ : State} (s : State) (f : Fld) (n : Nat) (h_s : State.Keeps z₀ s) :
    State.Keeps z₀ (State.addCnt s f n) := by
  unfold State.addCnt
  repeat' first | with_reducible assumption | with_reducible apply State.setFld_keeps

theorem State.incCnt_keeps {z₀ : State} (s : State) (f : Fld) (h_s : State.Keeps z₀ s) :
    State.Keeps z₀ (State.incCnt s f) := by
  unfold State.incCnt
  repeat' first | with_reducible assumption | with_reducible apply State.addCnt_keeps

theorem State.incWrap_keeps {z₀ : State} (s : State) (f : Fld) (h_s : State.Keeps z₀ s) :
    State.Keeps z₀ (State.incWrap s f) := by
  unfold State.incWrap
  repeat' first | with_reducible assumption | with_reducible apply State.setFld_keeps

theorem State.setVecBit_keeps {z₀ : State} (s : State) (base n : Nat) (b : Bool) (h_s : State.Keeps z₀ s) :
    State.Keeps z₀ (State.setVecBit s base n b) := by
  unfold State.setVecBit
  repeat' first | with_reducible assumption | with_reducible apply State.setFlag_keeps

theorem State.setReg64_keeps {z₀ : State} (s : State) (off v : Nat) (h_s : State.Keeps z₀ s) :
    State.Keeps z₀ (State.setReg64 s off v) := by
  unfold State.setReg64
  repeat' first | with_reducible assumption | with_reducible apply State.setReg_keeps

theorem State.bar_keeps {z₀ : State} (s : State) (f : State → State) (h_s : State.Keeps z₀ s) (h_f : ∀ x0, State.Keeps z₀ x0 →
    State.Keeps z₀ (f x0)) :
    State.Keeps z₀ (State.bar s f) := by
  unfold State.bar
  repeat' first | with_reducible assumption | (intro) | with_reducible apply h_f | with_reducible apply State.when_keeps

theorem State.hostOut_keeps {z₀ : State} (s : State) (e : Emit) (h_s : State.Keeps z₀ s) :
    State.Keeps z₀ (State.hostOut s e) := by
  unfold State.hostOut
  repeat' first
    | with_reducible assumption | (intro) | with_reducible apply State.send_keeps
    | with_reducible apply State.incCnt_keeps | with_reducible apply State.Keeps.ite | split

end Ops

section Evu

theorem Evu.setVec_keeps {z₀ : State} (s : State) (v : Nat) (x : EvuVec) (h_s : State.Keeps z₀ s) :
    State.Keeps z₀ (Evu.setVec s v x) := by
  unfold Evu.setVec
  repeat' first
    | with_reducible assumption
    | (extract_lets +onlyGivenNames x; refine State.Keeps.cut (p := State.Keeps z₀ x) ?_ ?_;
        (focus (intro hx; clear_value x)); rotate_left; subst x)
    | (extract_lets +onlyGivenNames x; clear_value x)
    | (with_reducible refine State.Keeps.mk_same _ rfl rfl rfl rfl rfl rfl rfl rfl ?_)

theorem Evu.setPba_keeps {z₀ : State} (s : State) (v : Nat) (b : Bool) (h_s : State.Keeps z₀ s) :
    State.Keeps z₀ (Evu.setPba s v b) := by
  unfold Evu.setPba
  repeat' first
    | with_reducible assumption | (intro)
    | (extract_lets +onlyGivenNames x; refine State.Keeps.cut (p := State.Keeps z₀ x) ?_ ?_;
        (focus (intro hx; clear_value x)); rotate_left; subst x)
    | (extract_lets +onlyGivenNames x; clear_value x) | with_reducible apply State.Keeps.ite | split
    | (with_reducible refine State.Keeps.mk_same _ rfl rfl rfl rfl rfl rfl rfl rfl ?_)

theorem Evu.sendReq_keeps {z₀ : State} (s : State) (v : Nat) (h_s : State.Keeps z₀ s) :
    State.Keeps z₀ (Evu.sendReq s v) := by
  unfold Evu.sendReq
  repeat' first
    | with_reducible assumption | (intro)
    | (extract_lets +onlyGivenNames x; refine State.Keeps.cut (p := State.Keeps z₀ x) ?_ ?_;
        (focus (intro hx; clear_value x)); rotate_left; subst x)
    | (extract_lets +onlyGivenNames x; clear_value x) | with_reducible apply Evu.setPba_keeps
    | with_reducible apply State.hostOut_keeps | with_reducible apply State.incCnt_keeps
    | with_reducible apply Evu.setVec_keeps | with_reducible apply State.Keeps.ite | split

theorem Evu.request_keeps {z₀ : State} (s : State) (v : Nat) (h_s : State.Keeps z₀ s) :
    State.Keeps z₀ (Evu.request s v) := by
  unfold Evu.request
  repeat' first
    | with_reducible assumption | (intro)
    | (extract_lets +onlyGivenNames x; refine State.Keeps.cut (p := State.Keeps z₀ x) ?_ ?_;
        (focus (intro hx; clear_value x)); rotate_left; subst x)
    | (extract_lets +onlyGivenNames x; clear_value x) | with_reducible apply Evu.setVec_keeps
    | with_reducible apply Evu.sendReq_keeps | with_reducible apply State.Keeps.ite | split
    | (with_reducible refine State.Keeps.mk_same _ rfl rfl rfl rfl rfl rfl rfl rfl ?_)

theorem Evu.eval_keeps {z₀ : State} (s : State) (again : Bool) (h_s : State.Keeps z₀ s) :
    State.Keeps z₀ (Evu.eval s again) := by
  unfold Evu.eval
  repeat' first
    | with_reducible assumption | (intro)
    | (extract_lets +onlyGivenNames x; refine State.Keeps.cut (p := State.Keeps z₀ x) ?_ ?_;
        (focus (intro hx; clear_value x)); rotate_left; subst x)
    | (extract_lets +onlyGivenNames x; clear_value x) | with_reducible apply State.setReg_keeps
    | with_reducible apply State.each_keeps | with_reducible apply Evu.request_keeps
    | with_reducible apply State.Keeps.ite | split

theorem State.fire_keeps {z₀ : State} (s : State) (e : Nat) (h_s : State.Keeps z₀ s) :
    State.Keeps z₀ (State.fire s e) := by
  unfold State.fire
  repeat' first
    | with_reducible assumption | (intro) | with_reducible apply Evu.eval_keeps
    | with_reducible apply State.setVecBit_keeps | with_reducible apply State.Keeps.ite | split

theorem State.setFire_keeps {z₀ : State} (s : State) (f : Fld) (e : Nat) (h_s : State.Keeps z₀ s) :
    State.Keeps z₀ (State.setFire s f e) := by
  unfold State.setFire
  repeat' first
    | with_reducible assumption | (intro) | with_reducible apply State.setFlag_keeps
    | with_reducible apply State.fire_keeps | with_reducible apply State.Keeps.ite | split

end Evu

section Tether

theorem Tth.emit_keeps {z₀ : State} (s : State) (frame : Nat) (b : TthBody) (h_s : State.Keeps z₀ s) :
    State.Keeps z₀ (Tth.emit s frame b) := by
  unfold Tth.emit
  repeat' first
    | with_reducible assumption
    | (extract_lets +onlyGivenNames x; refine State.Keeps.cut (p := State.Keeps z₀ x) ?_ ?_;
        (focus (intro hx; clear_value x)); rotate_left; subst x)
    | (extract_lets +onlyGivenNames x; clear_value x) | with_reducible apply State.send_keeps | split
    | (with_reducible refine State.Keeps.mk_same _ rfl rfl rfl rfl rfl rfl rfl rfl ?_)

theorem Tth.send_keeps {z₀ : State} (s : State) (frame : Nat) (b : TthBody) (h_s : State.Keeps z₀ s) :
    State.Keeps z₀ (Tth.send s frame b) := by
  unfold Tth.send
  repeat' first
    | with_reducible assumption | (intro)
    | (extract_lets +onlyGivenNames x; refine State.Keeps.cut (p := State.Keeps z₀ x) ?_ ?_;
        (focus (intro hx; clear_value x)); rotate_left; subst x)
    | (extract_lets +onlyGivenNames x; clear_value x) | with_reducible apply Tth.emit_keeps
    | with_reducible apply State.Keeps.ite | split
    | (with_reducible refine State.Keeps.mk_same _ rfl rfl rfl rfl rfl rfl rfl rfl ?_)

theorem Tth.flush_keeps {z₀ : State} (s : State) (h_s : State.Keeps z₀ s) :
    State.Keeps z₀ (Tth.flush s) := by
  unfold Tth.flush
  repeat' first
    | with_reducible assumption | (intro)
    | (extract_lets +onlyGivenNames x; refine State.Keeps.cut (p := State.Keeps z₀ x) ?_ ?_;
        (focus (intro hx; clear_value x)); rotate_left; subst x)
    | (extract_lets +onlyGivenNames x; refine State.Keeps.cut (p := State.Keeps z₀ x.1) ?_ ?_;
        (focus (intro hx; clear_value x)); rotate_left; subst x)
    | (extract_lets +onlyGivenNames x; clear_value x) | with_reducible apply Tth.send_keeps
    | with_reducible apply State.send_keeps | with_reducible apply State.foldl_keeps
    | with_reducible apply State.foldl1_keeps | split
    | (with_reducible refine State.Keeps.mk_same _ rfl rfl rfl rfl rfl rfl rfl rfl ?_)

theorem Tth.acked_keeps {z₀ : State} (s : State) (ack : Nat) (h_s : State.Keeps z₀ s) :
    State.Keeps z₀ (Tth.acked s ack) := by
  unfold Tth.acked
  repeat' first
    | with_reducible assumption | (intro)
    | (extract_lets +onlyGivenNames x; refine State.Keeps.cut (p := State.Keeps z₀ x) ?_ ?_;
        (focus (intro hx; clear_value x)); rotate_left; subst x)
    | (extract_lets +onlyGivenNames x; clear_value x) | with_reducible apply Tth.flush_keeps
    | (with_reducible refine State.Keeps.mk_same _ rfl rfl rfl rfl rfl rfl rfl rfl ?_)

theorem Tth.naked_keeps {z₀ : State} (s : State) (q : Nat) (h_s : State.Keeps z₀ s) :
    State.Keeps z₀ (Tth.naked s q) := by
  unfold Tth.naked
  repeat' first
    | with_reducible assumption | (intro)
    | (extract_lets +onlyGivenNames x; refine State.Keeps.cut (p := State.Keeps z₀ x) ?_ ?_;
        (focus (intro hx; clear_value x)); rotate_left; subst x)
    | (extract_lets +onlyGivenNames x; refine State.Keeps.cut (p := State.Keeps z₀ x.1) ?_ ?_;
        (focus (intro hx; clear_value x)); rotate_left; subst x)
    | (extract_lets +onlyGivenNames x; clear_value x) | with_reducible apply State.send_keeps
    | with_reducible apply State.incCnt_keeps | with_reducible apply State.Keeps.ite | split
    | (with_reducible refine State.Keeps.mk_same _ rfl rfl rfl rfl rfl rfl rfl rfl ?_)

end Tether

section Cmd

theorem Cmd.adjust_keeps {z₀ : State} (s : State) (src where_ : Nat) (h_s : State.Keeps z₀ s) :
    State.Keeps z₀ (Cmd.adjust s src where_) := by
  unfold Cmd.adjust
  repeat' first
    | with_reducible assumption | with_reducible apply State.incCnt_keeps | with_reducible apply State.setFld_keeps

theorem Cmd.adjusts_keeps {z₀ : State} (s : State) (n ticket : Nat) (h_s : State.Keeps z₀ s) :
    State.Keeps z₀ (Cmd.adjusts s n ticket) := by
  unfold Cmd.adjusts
  repeat' first
    | with_reducible assumption | (intro) | with_reducible apply State.each_keeps | with_reducible apply Cmd.adjust_keeps

theorem Cmd.show_keeps {z₀ : State} (s : State) (h_s : State.Keeps z₀ s) :
    State.Keeps z₀ (Cmd.show s) := by
  unfold Cmd.show
  repeat' first | with_reducible assumption | with_reducible apply State.setFld_keeps

theorem Saddle.put_keeps {z₀ : State} (s : State) (off : Nat) (bs : List Byte) (h_s : State.Keeps z₀ s) :
    State.Keeps z₀ (Saddle.put s off bs) := by
  refine State.Keeps.bytes s rfl rfl rfl rfl rfl rfl ?_ (fun w => Sparse.wf_filter _ _ _ w) h_s
  intro h
  unfold Saddle.put Memory.wf at *
  show Sparse.wf (fun _ => 0) (List.foldl _ _ _) = true
  revert h
  generalize s.mem.bytes = m
  generalize bs.zipIdx = l
  induction l generalizing m with
  | nil => exact id
  | cons a l ih => exact fun h => ih _ (Sparse.wf_put (fun _ => 0) _ _ _ h)

theorem Cmd.showFull_keeps {z₀ : State} (s : State) (h_s : State.Keeps z₀ s) :
    State.Keeps z₀ (Cmd.showFull s) := by
  unfold Cmd.showFull
  repeat' first
    | with_reducible assumption | (intro)
    | (extract_lets +onlyGivenNames x; refine State.Keeps.cut (p := State.Keeps z₀ x) ?_ ?_;
        (focus (intro hx; clear_value x)); rotate_left; subst x)
    | (extract_lets +onlyGivenNames x; clear_value x) | with_reducible apply State.setFire_keeps
    | with_reducible apply State.setFlag_keeps | with_reducible apply State.Keeps.ite | split

theorem Cmd.closeTicket_keeps {z₀ : State} (s : State) (t : Nat) (h_s : State.Keeps z₀ s) :
    State.Keeps z₀ (Cmd.closeTicket s t) := by
  unfold Cmd.closeTicket
  repeat' first
    | with_reducible assumption | (intro)
    | (extract_lets +onlyGivenNames x; refine State.Keeps.cut (p := State.Keeps z₀ x) ?_ ?_;
        (focus (intro hx; clear_value x)); rotate_left; subst x)
    | (extract_lets +onlyGivenNames x; refine State.Keeps.cut (p := State.Keeps z₀ x.1) ?_ ?_;
        (focus (intro hx; clear_value x)); rotate_left; subst x)
    | (extract_lets +onlyGivenNames x; clear_value x) | with_reducible apply Cmd.show_keeps
    | (with_reducible refine State.Keeps.mk_same _ rfl rfl rfl rfl rfl rfl rfl rfl ?_)

theorem Cmd.copyOne_keeps {z₀ : State} (s : State) (t : Nat) (h_s : State.Keeps z₀ s) :
    State.Keeps z₀ (Cmd.copyOne s t) := by
  unfold Cmd.copyOne
  repeat' first
    | with_reducible assumption | (intro)
    | (extract_lets +onlyGivenNames x; refine State.Keeps.cut (p := State.Keeps z₀ x) ?_ ?_;
        (focus (intro hx; clear_value x)); rotate_left; subst x)
    | (extract_lets +onlyGivenNames x; clear_value x) | with_reducible apply State.hostOut_keeps
    | with_reducible apply State.setFld_keeps | with_reducible apply Cmd.closeTicket_keeps
    | with_reducible apply State.fire_keeps | with_reducible apply State.Keeps.ite | split

theorem Cmd.copyRing_keeps {z₀ : State} : ∀ (n : Nat) (s : State), State.Keeps z₀ s → State.Keeps z₀ (Cmd.copyRing n s)
  | 0, _, h => h
  | n + 1, s, h => by
    unfold Cmd.copyRing
    split
    · exact h
    · split
      · exact Cmd.copyRing_keeps n _ (Cmd.copyOne_keeps _ _ (State.Keeps.mk_same s rfl rfl rfl rfl rfl rfl rfl rfl h))
      · exact h

theorem Cmd.serveRing_keeps {z₀ : State} (s : State) (h_s : State.Keeps z₀ s) :
    State.Keeps z₀ (Cmd.serveRing s) := by
  unfold Cmd.serveRing
  repeat' first
    | with_reducible assumption | with_reducible apply Cmd.showFull_keeps | with_reducible apply Cmd.copyRing_keeps

theorem Cmd.writeRecord_keeps {z₀ : State} (s : State) (t : Nat) (ws : List Word) (ring : Bool) (h_s : State.Keeps z₀ s) :
    State.Keeps z₀ (Cmd.writeRecord s t ws ring) := by
  unfold Cmd.writeRecord
  repeat' first
    | with_reducible assumption | (intro)
    | (extract_lets +onlyGivenNames x; refine State.Keeps.cut (p := State.Keeps z₀ x) ?_ ?_;
        (focus (intro hx; clear_value x)); rotate_left; subst x)
    | (extract_lets +onlyGivenNames x; refine State.Keeps.cut (p := State.Keeps z₀ x.1) ?_ ?_;
        (focus (intro hx; clear_value x)); rotate_left; subst x)
    | (extract_lets +onlyGivenNames x; clear_value x) | with_reducible apply State.each_keeps
    | with_reducible apply State.setReg_keeps | with_reducible apply Saddle.put_keeps
    | with_reducible apply Cmd.serveRing_keeps | with_reducible apply Cmd.closeTicket_keeps
    | with_reducible apply State.Keeps.ite | with_reducible apply State.Keeps.ite1 | split
    | (with_reducible refine State.Keeps.mk_same _ rfl rfl rfl rfl rfl rfl rfl rfl ?_)

theorem Cmd.dropRun_keeps {z₀ : State} (s : State) (r : Run) (h_s : State.Keeps z₀ s) :
    State.Keeps z₀ (Cmd.dropRun s r) := by
  unfold Cmd.dropRun
  repeat' first
    | with_reducible assumption | (intro)
    | (extract_lets +onlyGivenNames x; refine State.Keeps.cut (p := State.Keeps z₀ x) ?_ ?_;
        (focus (intro hx; clear_value x)); rotate_left; subst x)
    | (extract_lets +onlyGivenNames x; clear_value x)
    | (with_reducible refine State.Keeps.mk_same _ rfl rfl rfl rfl rfl rfl rfl rfl ?_)

theorem Cmd.post_keeps {z₀ : State} (s : State) (r : Run) (status reason : Nat) (res : List Nat) (h_s : State.Keeps z₀ s) :
    State.Keeps z₀ (Cmd.post s r status reason res) := by
  unfold Cmd.post
  repeat' first
    | with_reducible assumption | (intro)
    | (extract_lets +onlyGivenNames x; refine State.Keeps.cut (p := State.Keeps z₀ x) ?_ ?_;
        (focus (intro hx; clear_value x)); rotate_left; subst x)
    | (extract_lets +onlyGivenNames x; clear_value x) | with_reducible apply Cmd.dropRun_keeps
    | with_reducible apply Tth.send_keeps | with_reducible apply State.send_keeps
    | with_reducible apply Cmd.writeRecord_keeps | with_reducible apply State.Keeps.ite | split

theorem Cmd.keepRun_keeps {z₀ : State} (s : State) (r : Run) (h_s : State.Keeps z₀ s) :
    State.Keeps z₀ (Cmd.keepRun s r) := by
  unfold Cmd.keepRun
  repeat' first
    | with_reducible assumption | (intro)
    | (extract_lets +onlyGivenNames x; refine State.Keeps.cut (p := State.Keeps z₀ x) ?_ ?_;
        (focus (intro hx; clear_value x)); rotate_left; subst x)
    | (extract_lets +onlyGivenNames x; clear_value x) | with_reducible apply State.Keeps.ite | split
    | (with_reducible refine State.Keeps.mk_same _ rfl rfl rfl rfl rfl rfl rfl rfl ?_)

theorem Cmd.finish_keeps {z₀ : State} (s : State) (r : Run) (status reason : Nat) (res : List Nat) (h_s : State.Keeps z₀ s) :
    State.Keeps z₀ (Cmd.finish s r status reason res) := by
  unfold Cmd.finish
  repeat' first
    | with_reducible assumption | (intro)
    | (extract_lets +onlyGivenNames x; refine State.Keeps.cut (p := State.Keeps z₀ x) ?_ ?_;
        (focus (intro hx; clear_value x)); rotate_left; subst x)
    | (extract_lets +onlyGivenNames x; clear_value x) | with_reducible apply Cmd.keepRun_keeps
    | with_reducible apply Cmd.post_keeps | with_reducible apply State.Keeps.ite | split
    | (with_reducible refine State.Keeps.mk_same _ rfl rfl rfl rfl rfl rfl rfl rfl ?_)

theorem Cmd.releaseAcks_keeps {z₀ : State} (s : State) (h_s : State.Keeps z₀ s) :
    State.Keeps z₀ (Cmd.releaseAcks s) := by
  unfold Cmd.releaseAcks
  repeat' first
    | with_reducible assumption | (intro)
    | (extract_lets +onlyGivenNames x; refine State.Keeps.cut (p := State.Keeps z₀ x) ?_ ?_;
        (focus (intro hx; clear_value x)); rotate_left; subst x)
    | (extract_lets +onlyGivenNames x; refine State.Keeps.cut (p := State.Keeps z₀ x.1) ?_ ?_;
        (focus (intro hx; clear_value x)); rotate_left; subst x)
    | (extract_lets +onlyGivenNames x; clear_value x) | with_reducible apply State.each_keeps
    | with_reducible apply Cmd.post_keeps | with_reducible apply Cmd.keepRun_keeps | with_reducible apply State.Keeps.ite
    | split | (with_reducible refine State.Keeps.mk_same _ rfl rfl rfl rfl rfl rfl rfl rfl ?_)

theorem Cmd.pop_keeps {z₀ : State} (s : State) (long : Bool) (h_s : State.Keeps z₀ s) :
    State.Keeps z₀ (Cmd.pop s long) := by
  unfold Cmd.pop
  repeat' first
    | with_reducible assumption | (intro)
    | (extract_lets +onlyGivenNames x; refine State.Keeps.cut (p := State.Keeps z₀ x) ?_ ?_;
        (focus (intro hx; clear_value x)); rotate_left; subst x)
    | (extract_lets +onlyGivenNames x; clear_value x) | with_reducible apply State.Keeps.ite | split
    | (with_reducible refine State.Keeps.mk_same _ rfl rfl rfl rfl rfl rfl rfl rfl ?_)

theorem Cmd.start_keeps {z₀ : State} (s : State) (op : Nat) (body : State → Run → State) (h_s : State.Keeps z₀ s) (h_body : ∀ x0
    x1, State.Keeps z₀ x0 → State.Keeps z₀ (body x0 x1)) :
    State.Keeps z₀ (Cmd.start s op body) := by
  unfold Cmd.start
  repeat' first
    | with_reducible assumption | (intro)
    | (extract_lets +onlyGivenNames x; refine State.Keeps.cut (p := State.Keeps z₀ x) ?_ ?_;
        (focus (intro hx; clear_value x)); rotate_left; subst x)
    | (extract_lets +onlyGivenNames x; refine State.Keeps.cut (p := State.Keeps z₀ x.1) ?_ ?_;
        (focus (intro hx; clear_value x)); rotate_left; subst x)
    | (extract_lets +onlyGivenNames x; clear_value x) | with_reducible apply h_body | with_reducible apply Cmd.pop_keeps
    | with_reducible apply Cmd.post_keeps | with_reducible apply State.Keeps.ite | split
    | (with_reducible refine State.Keeps.mk_same _ rfl rfl rfl rfl rfl rfl rfl rfl ?_)

theorem Cmd.noteAdj_keeps {z₀ : State} (s : State) (r : Run) (n : Nat) (h_s : State.Keeps z₀ s) :
    State.Keeps z₀ (Cmd.noteAdj s r n).1 := by
  unfold Cmd.noteAdj
  repeat' first
    | with_reducible assumption
    | (extract_lets +onlyGivenNames x; refine State.Keeps.cut (p := State.Keeps z₀ x) ?_ ?_;
        (focus (intro hx; clear_value x)); rotate_left; subst x)
    | (extract_lets +onlyGivenNames x; clear_value x) | with_reducible apply Cmd.adjusts_keeps
    | with_reducible apply State.Keeps.ite1 | (with_reducible refine State.Keeps.mk_same _ rfl rfl rfl rfl rfl rfl rfl rfl ?_)

theorem Cmd.stage_keeps {z₀ : State} (s : State) (i : Nat) (w : Word) (h_s : State.Keeps z₀ s) :
    State.Keeps z₀ (Cmd.stage s i w) := by
  unfold Cmd.stage
  repeat' first
    | with_reducible assumption
    | (extract_lets +onlyGivenNames x; refine State.Keeps.cut (p := State.Keeps z₀ x) ?_ ?_;
        (focus (intro hx; clear_value x)); rotate_left; subst x)
    | (extract_lets +onlyGivenNames x; clear_value x)
    | (with_reducible refine State.Keeps.mk_same _ rfl rfl rfl rfl rfl rfl rfl rfl ?_)

theorem Cmd.submit_keeps {z₀ : State} (s : State) (h_s : State.Keeps z₀ s) :
    State.Keeps z₀ (Cmd.submit s) := by
  unfold Cmd.submit
  repeat' first
    | with_reducible assumption | (intro)
    | (extract_lets +onlyGivenNames x; refine State.Keeps.cut (p := State.Keeps z₀ x) ?_ ?_;
        (focus (intro hx; clear_value x)); rotate_left; subst x)
    | (extract_lets +onlyGivenNames x) | with_reducible apply State.setFlag_keeps | with_reducible apply State.incCnt_keeps
    | with_reducible apply State.setFld_keeps | with_reducible apply Cmd.show_keeps | with_reducible apply Tth.send_keeps
    | with_reducible apply State.send_keeps | with_reducible apply State.fire_keeps | with_reducible apply State.Keeps.ite
    | split | (with_reducible refine State.Keeps.mk_same _ rfl rfl rfl rfl rfl rfl rfl rfl ?_)

theorem Cmd.halt_keeps {z₀ : State} (s : State) (h_s : State.Keeps z₀ s) :
    State.Keeps z₀ (Cmd.halt s) := by
  unfold Cmd.halt
  repeat' first
    | with_reducible assumption | (intro)
    | (extract_lets +onlyGivenNames x; refine State.Keeps.cut (p := State.Keeps z₀ x) ?_ ?_;
        (focus (intro hx; clear_value x)); rotate_left; subst x)
    | (extract_lets +onlyGivenNames x; refine State.Keeps.cut (p := State.Keeps z₀ x.1) ?_ ?_;
        (focus (intro hx; clear_value x)); rotate_left; subst x)
    | (extract_lets +onlyGivenNames x; clear_value x) | with_reducible apply State.Keeps.ite | split
    | (with_reducible refine State.Keeps.mk_same _ rfl rfl rfl rfl rfl rfl rfl rfl ?_)

theorem Cmd.abortAll_keeps {z₀ : State} (s : State) (h_s : State.Keeps z₀ s) :
    State.Keeps z₀ (Cmd.abortAll s) := by
  unfold Cmd.abortAll
  repeat' first
    | with_reducible assumption | (intro)
    | (extract_lets +onlyGivenNames x; refine State.Keeps.cut (p := State.Keeps z₀ x) ?_ ?_;
        (focus (intro hx; clear_value x)); rotate_left; subst x)
    | (extract_lets +onlyGivenNames x; refine State.Keeps.cut (p := State.Keeps z₀ x.1) ?_ ?_;
        (focus (intro hx; clear_value x)); rotate_left; subst x)
    | (extract_lets +onlyGivenNames x; clear_value x) | with_reducible apply Cmd.writeRecord_keeps
    | with_reducible apply State.setFire_keeps | with_reducible apply State.each_keeps
    | with_reducible apply State.Keeps.ite | with_reducible apply State.Keeps.ite1 | split
    | (with_reducible refine State.Keeps.mk_same _ rfl rfl rfl rfl rfl rfl rfl rfl ?_)

end Cmd

section Dir

theorem Dir.update_keeps {z₀ : State} (s : State) (h_s : State.Keeps z₀ s) :
    State.Keeps z₀ (Dir.update s) := by
  unfold Dir.update
  repeat' first
    | with_reducible assumption | (intro)
    | (extract_lets +onlyGivenNames x; refine State.Keeps.cut (p := State.Keeps z₀ x) ?_ ?_;
        (focus (intro hx; clear_value x)); rotate_left; subst x)
    | (extract_lets +onlyGivenNames x; clear_value x) | with_reducible apply Saddle.put_keeps
    | with_reducible apply State.Keeps.ite | split

theorem Bale.setState_keeps {z₀ : State} (s : State) (i st : Nat) (h_s : State.Keeps z₀ s) :
    State.Keeps z₀ (Bale.setState s i st) := by
  unfold Bale.setState
  repeat' first
    | with_reducible assumption | (intro)
    | (extract_lets +onlyGivenNames x; refine State.Keeps.cut (p := State.Keeps z₀ x) ?_ ?_;
        (focus (intro hx; clear_value x)); rotate_left; subst x)
    | (extract_lets +onlyGivenNames x; clear_value x) | with_reducible apply State.setFld_keeps
    | with_reducible apply State.setReg_keeps | with_reducible apply Dir.update_keeps
    | with_reducible apply State.fire_keeps | with_reducible apply State.setReg64_keeps
    | with_reducible apply State.setFlag_keeps | with_reducible apply State.Keeps.ite | split

theorem Bale.setMark_keeps {z₀ : State} (s : State) (m : Option Nat) (h_s : State.Keeps z₀ s) :
    State.Keeps z₀ (Bale.setMark s m) := by
  unfold Bale.setMark
  repeat' first
    | with_reducible assumption | (intro)
    | (extract_lets +onlyGivenNames x; refine State.Keeps.cut (p := State.Keeps z₀ x) ?_ ?_;
        (focus (intro hx; clear_value x)); rotate_left; subst x)
    | (extract_lets +onlyGivenNames x; clear_value x) | with_reducible apply Dir.update_keeps
    | with_reducible apply State.Keeps.ite | split
    | (with_reducible refine State.Keeps.mk_same _ rfl rfl rfl rfl rfl rfl rfl rfl ?_)

theorem Dir.restore_keeps {z₀ : State} (s : State) (h_s : State.Keeps z₀ s) :
    State.Keeps z₀ (Dir.restore s) := by
  unfold Dir.restore
  repeat' first
    | with_reducible assumption | (intro)
    | (extract_lets +onlyGivenNames x; refine State.Keeps.cut (p := State.Keeps z₀ x) ?_ ?_;
        (focus (intro hx; clear_value x)); rotate_left; subst x)
    | (extract_lets +onlyGivenNames x; clear_value x) | with_reducible apply State.setFld_keeps
    | with_reducible apply State.Keeps.ite | split

end Dir

section Reset

theorem State.resetRegs_keeps {z₀ : State} (s : State) (lo hi : Nat) (keep : Nat → Nat) (h_s : State.Keeps z₀ s) :
    State.Keeps z₀ (State.resetRegs s lo hi keep) := by
  refine ⟨h_s.variant, h_s.pending, h_s.out, h_s.free, fun k => ?_⟩
  have := h_s.wf k
  simp only [State.wf, Bool.and_eq_true, State.resetRegs] at this ⊢
  refine ⟨⟨⟨?_, this.1.1.2⟩, this.1.2⟩, this.2⟩
  have hw := this.1.1.1
  clear this
  revert hw
  generalize s.regs = m
  intro hw
  induction m with
  | nil => rfl
  | cons p m ih =>
    simp only [Sparse.wf, Bool.and_eq_true, decide_eq_true_eq] at hw
    have hf : ∀ p q : Nat × Word, (if p.1 < lo ∨ hi ≤ p.1 then some p
        else if Reg.blend (Reg.reset p.1) p.2 (keep p.1) = Reg.reset p.1 then none
          else some (p.1, Reg.blend (Reg.reset p.1) p.2 (keep p.1))) = some q → q.1 = p.1 := by
      intro p q hq
      split at hq
      · cases hq; rfl
      · split at hq
        · cases hq
        · cases hq; rfl
    rw [List.filterMap_cons]
    split
    · exact ih hw.2
    · next b hb =>
      simp only [Sparse.wf, Bool.and_eq_true, decide_eq_true_eq]
      have h1 := hf _ _ hb
      refine ⟨⟨h1 ▸ Sparse.above_filterMap m _ hf _ hw.1.1, ?_⟩, ih hw.2⟩
      split at hb
      · cases hb; exact hw.1.2
      · split at hb
        · cases hb
        · cases hb; assumption

theorem State.fires_keeps {z₀ : State} (s : State) (es : List Nat) (h_s : State.Keeps z₀ s) :
    State.Keeps z₀ (State.fires s es) := by
  unfold State.fires
  repeat' first
    | with_reducible assumption | (intro) | with_reducible apply State.each_keeps | with_reducible apply State.fire_keeps

theorem Clk.discard_keeps {z₀ : State} (s : State) (n k : Nat) (h_s : State.Keeps z₀ s) :
    State.Keeps z₀ (Clk.discard s n k) := by
  unfold Clk.discard
  repeat' first
    | with_reducible assumption | (intro) | with_reducible apply State.addCnt_keeps | with_reducible apply State.Keeps.ite
    | split

theorem Clk.hold_keeps {z₀ : State} (s : State) (n : Nat) (held : Bool) (h_s : State.Keeps z₀ s) :
    State.Keeps z₀ (Clk.hold s n held) := by
  unfold Clk.hold
  repeat' first
    | with_reducible assumption | (intro)
    | (extract_lets +onlyGivenNames x; refine State.Keeps.cut (p := State.Keeps z₀ x) ?_ ?_;
        (focus (intro hx; clear_value x)); rotate_left; subst x)
    | (extract_lets +onlyGivenNames x; clear_value x) | with_reducible apply State.setFlag_keeps
    | with_reducible apply State.Keeps.ite | split
    | (with_reducible refine State.Keeps.mk_same _ rfl rfl rfl rfl rfl rfl rfl rfl ?_)

theorem Clk.drop_keeps {z₀ : State} (s : State) (n : Nat) (h_s : State.Keeps z₀ s) :
    State.Keeps z₀ (Clk.drop s n) := by
  unfold Clk.drop
  repeat' first
    | with_reducible assumption | (intro)
    | (extract_lets +onlyGivenNames x; refine State.Keeps.cut (p := State.Keeps z₀ x) ?_ ?_;
        (focus (intro hx; clear_value x)); rotate_left; subst x)
    | (extract_lets +onlyGivenNames x; clear_value x) | with_reducible apply Clk.discard_keeps
    | with_reducible apply State.drew_keeps | with_reducible apply State.Keeps.ite | split
    | (with_reducible refine State.Keeps.mk_same _ rfl rfl rfl rfl rfl rfl rfl rfl ?_)

theorem Clk.shut_keeps {z₀ : State} (s : State) (n : Nat) (h_s : State.Keeps z₀ s) :
    State.Keeps z₀ (Clk.shut s n) := by
  unfold Clk.shut
  repeat' first
    | with_reducible assumption | (intro) | with_reducible apply Clk.hold_keeps | with_reducible apply Clk.drop_keeps
    | with_reducible apply State.Keeps.ite | split

theorem Clk.reopen_keeps {z₀ : State} (s : State) (n : Nat) (h_s : State.Keeps z₀ s) :
    State.Keeps z₀ (Clk.reopen s n) := by
  unfold Clk.reopen
  repeat' first
    | with_reducible assumption | (intro)
    | (extract_lets +onlyGivenNames x; refine State.Keeps.cut (p := State.Keeps z₀ x) ?_ ?_;
        (focus (intro hx; clear_value x)); rotate_left; subst x)
    | (extract_lets +onlyGivenNames x; clear_value x) | with_reducible apply Clk.hold_keeps
    | with_reducible apply Clk.discard_keeps | with_reducible apply State.drew_keeps
    | with_reducible apply State.Keeps.ite | split

theorem Clk.overrun_keeps {z₀ : State} (s : State) (n : Nat) (h_s : State.Keeps z₀ s) :
    State.Keeps z₀ (Clk.overrun s n) := by
  unfold Clk.overrun
  repeat' first
    | with_reducible assumption | (intro) | with_reducible apply State.setFire_keeps | with_reducible apply State.Keeps.ite

theorem Stl.resetRegs_keeps {z₀ : State} (s : State) (i : Nat) (warm : Bool) (h_s : State.Keeps z₀ s) :
    State.Keeps z₀ (Stl.resetRegs s i warm) := by
  unfold Stl.resetRegs
  repeat' first
    | with_reducible assumption | (intro) | with_reducible apply State.resetRegs_keeps
    | with_reducible apply State.Keeps.ite | split

theorem Stl.reset_keeps {z₀ : State} (warm : Bool) (s : State) (i : Nat) (h_s : State.Keeps z₀ s) :
    State.Keeps z₀ (Stl.reset warm s i) := by
  unfold Stl.reset
  repeat' first
    | with_reducible assumption | (intro)
    | (extract_lets +onlyGivenNames x; refine State.Keeps.cut (p := State.Keeps z₀ x) ?_ ?_;
        (focus (intro hx; clear_value x)); rotate_left; subst x)
    | (extract_lets +onlyGivenNames x; refine State.Keeps.cut (p := State.Keeps z₀ x.1) ?_ ?_;
        (focus (intro hx; clear_value x)); rotate_left; subst x)
    | (extract_lets +onlyGivenNames x; clear_value x) | with_reducible apply Stl.resetRegs_keeps
    | with_reducible apply State.resetRegs_keeps | with_reducible apply State.Keeps.ite | split
    | (with_reducible refine State.Keeps.mk_same _ rfl rfl rfl rfl rfl rfl rfl rfl ?_)

theorem Barn.reset_keeps {z₀ : State} (s : State) (b : Nat) (warm : Bool) (h_s : State.Keeps z₀ s) :
    State.Keeps z₀ (Barn.reset s b warm) := by
  unfold Barn.reset
  repeat' first
    | with_reducible assumption | (intro) | with_reducible apply State.each_keeps | with_reducible apply Stl.reset_keeps

theorem Nsw.portReset_keeps {z₀ : State} (s : State) (p : Nat) (h_s : State.Keeps z₀ s) :
    State.Keeps z₀ (Nsw.portReset s p) := by
  unfold Nsw.portReset
  repeat' first
    | with_reducible assumption | (intro)
    | (extract_lets +onlyGivenNames x; refine State.Keeps.cut (p := State.Keeps z₀ x) ?_ ?_;
        (focus (intro hx; clear_value x)); rotate_left; subst x)
    | (extract_lets +onlyGivenNames x; clear_value x) | with_reducible apply State.setFlag_keeps
    | with_reducible apply State.resetRegs_keeps | with_reducible apply State.fires_keeps
    | with_reducible apply State.Keeps.ite | split
    | (with_reducible refine State.Keeps.mk_same _ rfl rfl rfl rfl rfl rfl rfl rfl ?_)

theorem Nsw.reset_keeps {z₀ : State} (s : State) (h_s : State.Keeps z₀ s) :
    State.Keeps z₀ (Nsw.reset s) := by
  unfold Nsw.reset
  repeat' first
    | with_reducible assumption | (intro)
    | (extract_lets +onlyGivenNames x; refine State.Keeps.cut (p := State.Keeps z₀ x) ?_ ?_;
        (focus (intro hx; clear_value x)); rotate_left; subst x)
    | (extract_lets +onlyGivenNames x; clear_value x) | with_reducible apply State.each_keeps
    | with_reducible apply Nsw.portReset_keeps | with_reducible apply State.resetRegs_keeps | split
    | (with_reducible refine State.Keeps.mk_same _ rfl rfl rfl rfl rfl rfl rfl rfl ?_)

theorem Port.clear_keeps {z₀ : State} (s : State) (lo hi : Nat) (h_s : State.Keeps z₀ s) :
    State.Keeps z₀ (Port.clear s lo hi) := by
  unfold Port.clear
  repeat' first
    | with_reducible assumption | (intro)
    | (extract_lets +onlyGivenNames x; refine State.Keeps.cut (p := State.Keeps z₀ x) ?_ ?_;
        (focus (intro hx; clear_value x)); rotate_left; subst x)
    | (extract_lets +onlyGivenNames x; refine State.Keeps.cut (p := State.Keeps z₀ x.1) ?_ ?_;
        (focus (intro hx; clear_value x)); rotate_left; subst x)
    | (extract_lets +onlyGivenNames x; clear_value x) | split
    | (with_reducible refine State.Keeps.mk_same _ rfl rfl rfl rfl rfl rfl rfl rfl ?_)

theorem Sap.reset_keeps {z₀ : State} (s : State) (h_s : State.Keeps z₀ s) :
    State.Keeps z₀ (Sap.reset s) := by
  unfold Sap.reset
  repeat' first
    | with_reducible assumption | (intro)
    | (extract_lets +onlyGivenNames x; refine State.Keeps.cut (p := State.Keeps z₀ x) ?_ ?_;
        (focus (intro hx; clear_value x)); rotate_left; subst x)
    | (extract_lets +onlyGivenNames x; clear_value x) | with_reducible apply Port.clear_keeps
    | with_reducible apply State.resetRegs_keeps | with_reducible apply State.fires_keeps
    | with_reducible apply State.Keeps.ite | split

theorem Aes.reset_keeps {z₀ : State} (s : State) (h_s : State.Keeps z₀ s) :
    State.Keeps z₀ (Aes.reset s) := by
  unfold Aes.reset
  repeat' first
    | with_reducible assumption | (intro)
    | (extract_lets +onlyGivenNames x; refine State.Keeps.cut (p := State.Keeps z₀ x) ?_ ?_;
        (focus (intro hx; clear_value x)); rotate_left; subst x)
    | (extract_lets +onlyGivenNames x; clear_value x) | with_reducible apply Port.clear_keeps
    | with_reducible apply State.resetRegs_keeps | with_reducible apply State.fires_keeps | split
    | (with_reducible refine State.Keeps.mk_same _ rfl rfl rfl rfl rfl rfl rfl rfl ?_)

theorem Sfb.showDriving_keeps {z₀ : State} (s : State) (h_s : State.Keeps z₀ s) :
    State.Keeps z₀ (Sfb.showDriving s) := by
  unfold Sfb.showDriving
  repeat' first
    | with_reducible assumption
    | (extract_lets +onlyGivenNames x; refine State.Keeps.cut (p := State.Keeps z₀ x) ?_ ?_;
        (focus (intro hx; clear_value x)); rotate_left; subst x)
    | (extract_lets +onlyGivenNames x; clear_value x) | with_reducible apply State.setFlag_keeps | split

theorem Sfb.reset_keeps {z₀ : State} (s : State) (h_s : State.Keeps z₀ s) :
    State.Keeps z₀ (Sfb.reset s) := by
  unfold Sfb.reset
  repeat' first
    | with_reducible assumption
    | (extract_lets +onlyGivenNames x; refine State.Keeps.cut (p := State.Keeps z₀ x) ?_ ?_;
        (focus (intro hx; clear_value x)); rotate_left; subst x)
    | (extract_lets +onlyGivenNames x; clear_value x) | with_reducible apply State.setFlag_keeps
    | with_reducible apply State.resetRegs_keeps | split
    | (with_reducible refine State.Keeps.mk_same _ rfl rfl rfl rfl rfl rfl rfl rfl ?_)

theorem Drv.enter_keeps {z₀ : State} (s : State) (n st : Nat) (h_s : State.Keeps z₀ s) :
    State.Keeps z₀ (Drv.enter s n st) := by
  unfold Drv.enter
  repeat' first
    | with_reducible assumption | (intro)
    | (extract_lets +onlyGivenNames x; refine State.Keeps.cut (p := State.Keeps z₀ x) ?_ ?_;
        (focus (intro hx; clear_value x)); rotate_left; subst x)
    | (extract_lets +onlyGivenNames x; clear_value x) | with_reducible apply State.setFld_keeps
    | with_reducible apply State.setVecBit_keeps | split

theorem Drv.reset_keeps {z₀ : State} (s : State) (warm : Bool) (h_s : State.Keeps z₀ s) :
    State.Keeps z₀ (Drv.reset s warm) := by
  unfold Drv.reset
  repeat' first
    | with_reducible assumption | (intro)
    | (extract_lets +onlyGivenNames x; refine State.Keeps.cut (p := State.Keeps z₀ x) ?_ ?_;
        (focus (intro hx; clear_value x)); rotate_left; subst x)
    | (extract_lets +onlyGivenNames x; clear_value x) | with_reducible apply State.setFlag_keeps
    | with_reducible apply State.each_keeps | with_reducible apply Drv.enter_keeps
    | with_reducible apply State.resetRegs_keeps | with_reducible apply State.Keeps.ite | split
    | (with_reducible refine State.Keeps.mk_same _ rfl rfl rfl rfl rfl rfl rfl rfl ?_)

theorem Twn.qualify_keeps {z₀ : State} (s : State) (h_s : State.Keeps z₀ s) :
    State.Keeps z₀ (Twn.qualify s) := by
  unfold Twn.qualify
  repeat' first
    | with_reducible assumption | (intro)
    | (extract_lets +onlyGivenNames x; refine State.Keeps.cut (p := State.Keeps z₀ x) ?_ ?_;
        (focus (intro hx; clear_value x)); rotate_left; subst x)
    | (extract_lets +onlyGivenNames x; clear_value x) | with_reducible apply State.Keeps.ite | split
    | (with_reducible refine State.Keeps.mk_same _ rfl rfl rfl rfl rfl rfl rfl rfl ?_)

theorem Twn.dropNow_keeps {z₀ : State} (s : State) (code : Nat) (h_s : State.Keeps z₀ s) :
    State.Keeps z₀ (Twn.dropNow s code) := by
  unfold Twn.dropNow
  repeat' first
    | with_reducible assumption | (intro)
    | (extract_lets +onlyGivenNames x; refine State.Keeps.cut (p := State.Keeps z₀ x) ?_ ?_;
        (focus (intro hx; clear_value x)); rotate_left; subst x)
    | (extract_lets +onlyGivenNames x; clear_value x) | with_reducible apply State.setFlag_keeps
    | with_reducible apply Sfb.showDriving_keeps | with_reducible apply State.setFld_keeps
    | with_reducible apply State.fire_keeps | with_reducible apply State.send_keeps | with_reducible apply State.Keeps.ite
    | split | (with_reducible refine State.Keeps.mk_same _ rfl rfl rfl rfl rfl rfl rfl rfl ?_)

theorem Twn.request_keeps {z₀ : State} (s : State) (code : Nat) (h_s : State.Keeps z₀ s) :
    State.Keeps z₀ (Twn.request s code) := by
  unfold Twn.request
  repeat' first
    | with_reducible assumption | (intro)
    | (extract_lets +onlyGivenNames x; refine State.Keeps.cut (p := State.Keeps z₀ x) ?_ ?_;
        (focus (intro hx; clear_value x)); rotate_left; subst x)
    | (extract_lets +onlyGivenNames x; clear_value x) | with_reducible apply Twn.dropNow_keeps
    | with_reducible apply State.Keeps.ite | split
    | (with_reducible refine State.Keeps.mk_same _ rfl rfl rfl rfl rfl rfl rfl rfl ?_)

theorem Twn.carrier_keeps {z₀ : State} (s : State) (at_ : Nat) (h_s : State.Keeps z₀ s) :
    State.Keeps z₀ (Twn.carrier s at_) := by
  unfold Twn.carrier
  repeat' first
    | with_reducible assumption | (intro)
    | (extract_lets +onlyGivenNames x; refine State.Keeps.cut (p := State.Keeps z₀ x) ?_ ?_;
        (focus (intro hx; clear_value x)); rotate_left; subst x)
    | (extract_lets +onlyGivenNames x; refine State.Keeps.cut (p := State.Keeps z₀ x.1) ?_ ?_;
        (focus (intro hx; clear_value x)); rotate_left; subst x)
    | (extract_lets +onlyGivenNames x; clear_value x) | with_reducible apply Twn.dropNow_keeps | split
    | (with_reducible refine State.Keeps.mk_same _ rfl rfl rfl rfl rfl rfl rfl rfl ?_)

theorem Tth.down_keeps {z₀ : State} (s : State) (h_s : State.Keeps z₀ s) :
    State.Keeps z₀ (Tth.down s) := by
  unfold Tth.down
  repeat' first
    | with_reducible assumption | (intro)
    | (extract_lets +onlyGivenNames x; refine State.Keeps.cut (p := State.Keeps z₀ x) ?_ ?_;
        (focus (intro hx; clear_value x)); rotate_left; subst x)
    | (extract_lets +onlyGivenNames x; clear_value x) | with_reducible apply State.setFld_keeps
    | with_reducible apply State.incCnt_keeps | with_reducible apply State.send_keeps
    | with_reducible apply Cmd.releaseAcks_keeps | with_reducible apply State.fire_keeps
    | with_reducible apply State.Keeps.ite | split
    | (with_reducible refine State.Keeps.mk_same _ rfl rfl rfl rfl rfl rfl rfl rfl ?_)

theorem Twn.reset_keeps {z₀ : State} (s : State) (h_s : State.Keeps z₀ s) :
    State.Keeps z₀ (Twn.reset s) := by
  unfold Twn.reset
  repeat' first
    | with_reducible assumption | (intro)
    | (extract_lets +onlyGivenNames x; refine State.Keeps.cut (p := State.Keeps z₀ x) ?_ ?_;
        (focus (intro hx; clear_value x)); rotate_left; subst x)
    | (extract_lets +onlyGivenNames x; clear_value x) | with_reducible apply Tth.down_keeps
    | with_reducible apply Twn.dropNow_keeps | with_reducible apply State.resetRegs_keeps
    | with_reducible apply State.setFlag_keeps | with_reducible apply State.fires_keeps
    | with_reducible apply State.Keeps.ite | split
    | (with_reducible refine State.Keeps.mk_same _ rfl rfl rfl rfl rfl rfl rfl rfl ?_)

theorem Evu.reset_keeps {z₀ : State} (s : State) (h_s : State.Keeps z₀ s) :
    State.Keeps z₀ (Evu.reset s) := by
  unfold Evu.reset
  repeat' first
    | with_reducible assumption
    | (extract_lets +onlyGivenNames x; refine State.Keeps.cut (p := State.Keeps z₀ x) ?_ ?_;
        (focus (intro hx; clear_value x)); rotate_left; subst x)
    | (extract_lets +onlyGivenNames x; clear_value x) | with_reducible apply Evu.eval_keeps
    | with_reducible apply Clk.drop_keeps | with_reducible apply State.setReg_keeps
    | (with_reducible refine State.Keeps.mk_same _ rfl rfl rfl rfl rfl rfl rfl rfl ?_)

theorem Cmd.reset_keeps {z₀ : State} (s : State) (h_s : State.Keeps z₀ s) :
    State.Keeps z₀ (Cmd.reset s) := by
  unfold Cmd.reset
  repeat' first
    | with_reducible assumption | (intro)
    | (extract_lets +onlyGivenNames x; refine State.Keeps.cut (p := State.Keeps z₀ x) ?_ ?_;
        (focus (intro hx; clear_value x)); rotate_left; subst x)
    | (extract_lets +onlyGivenNames x; clear_value x) | with_reducible apply Cmd.halt_keeps
    | with_reducible apply Dir.update_keeps | with_reducible apply State.setFlag_keeps
    | with_reducible apply State.Keeps.ite | split

theorem Rcd.reset_keeps {z₀ : State} (s : State) (h_s : State.Keeps z₀ s) :
    State.Keeps z₀ (Rcd.reset s) := by
  unfold Rcd.reset
  repeat' first
    | with_reducible assumption
    | (extract_lets +onlyGivenNames x; refine State.Keeps.cut (p := State.Keeps z₀ x) ?_ ?_;
        (focus (intro hx; clear_value x)); rotate_left; subst x)
    | (extract_lets +onlyGivenNames x; clear_value x) | with_reducible apply State.setFlag_keeps
    | (with_reducible refine State.Keeps.mk_same _ rfl rfl rfl rfl rfl rfl rfl rfl ?_)

theorem Graph.reset_keeps {z₀ : State} (s : State) (h_s : State.Keeps z₀ s) :
    State.Keeps z₀ (Graph.reset s) := by
  unfold Graph.reset
  repeat' first
    | with_reducible assumption
    | (extract_lets +onlyGivenNames x; refine State.Keeps.cut (p := State.Keeps z₀ x) ?_ ?_;
        (focus (intro hx; clear_value x)); rotate_left; subst x)
    | (extract_lets +onlyGivenNames x; clear_value x)
    | (with_reducible refine State.Keeps.mk_same _ rfl rfl rfl rfl rfl rfl rfl rfl ?_)

theorem State.shifted_keeps {z₀ : State} (s : State) (node : Nat) (h_s : State.Keeps z₀ s) :
    State.Keeps z₀ (State.shifted s node) := by
  unfold State.shifted
  repeat' first
    | with_reducible assumption | (intro)
    | (extract_lets +onlyGivenNames x; refine State.Keeps.cut (p := State.Keeps z₀ x) ?_ ?_;
        (focus (intro hx; clear_value x)); rotate_left; subst x)
    | (extract_lets +onlyGivenNames x; refine State.Keeps.cut (p := State.Keeps z₀ x.1) ?_ ?_;
        (focus (intro hx; clear_value x)); rotate_left; subst x)
    | (extract_lets +onlyGivenNames x; clear_value x) | with_reducible apply State.foldl_keeps
    | with_reducible apply State.foldl1_keeps | split
    | (with_reducible refine State.Keeps.mk_same _ rfl rfl rfl rfl rfl rfl rfl rfl ?_)

theorem Tkp.reset_keeps {z₀ : State} (s : State) (warm : Bool) (h_s : State.Keeps z₀ s) :
    State.Keeps z₀ (Tkp.reset s warm) := by
  unfold Tkp.reset
  repeat' first
    | with_reducible assumption | (intro)
    | (extract_lets +onlyGivenNames x; refine State.Keeps.cut (p := State.Keeps z₀ x) ?_ ?_;
        (focus (intro hx; clear_value x)); rotate_left; subst x)
    | (extract_lets +onlyGivenNames x; clear_value x) | with_reducible apply State.shifted_keeps
    | with_reducible apply State.resetRegs_keeps | with_reducible apply Twn.request_keeps
    | with_reducible apply State.setReg_keeps | with_reducible apply State.setFlag_keeps
    | with_reducible apply State.fires_keeps | with_reducible apply State.Keeps.ite | split
    | (with_reducible refine State.Keeps.mk_same _ rfl rfl rfl rfl rfl rfl rfl rfl ?_)

theorem State.enterReset_keeps {z₀ : State} (s : State) (t : ResetTarget) (h_s : State.Keeps z₀ s) :
    State.Keeps z₀ (State.enterReset s t) := by
  unfold State.enterReset
  repeat' first
    | with_reducible assumption | (intro)
    | (extract_lets +onlyGivenNames x; refine State.Keeps.cut (p := State.Keeps z₀ x) ?_ ?_;
        (focus (intro hx; clear_value x)); rotate_left; subst x)
    | (extract_lets +onlyGivenNames x; refine State.Keeps.cut (p := State.Keeps z₀ x.1) ?_ ?_;
        (focus (intro hx; clear_value x)); rotate_left; subst x)
    | (extract_lets +onlyGivenNames x; clear_value x) | with_reducible apply Barn.reset_keeps
    | with_reducible apply Nsw.reset_keeps | with_reducible apply Nsw.portReset_keeps
    | with_reducible apply Aes.reset_keeps | with_reducible apply Sap.reset_keeps | with_reducible apply Sfb.reset_keeps
    | with_reducible apply Twn.reset_keeps | with_reducible apply Graph.reset_keeps | with_reducible apply Evu.reset_keeps
    | with_reducible apply Cmd.reset_keeps | with_reducible apply Rcd.reset_keeps | with_reducible apply State.each_keeps
    | with_reducible apply Clk.shut_keeps | with_reducible apply State.Keeps.ite | split
    | (with_reducible refine State.Keeps.mk_same _ rfl rfl rfl rfl rfl rfl rfl rfl ?_)

theorem State.blockReset_keeps {z₀ : State} (s : State) (t : ResetTarget) (h_s : State.Keeps z₀ s) :
    State.Keeps z₀ (State.blockReset s t) := by
  unfold State.blockReset
  repeat' first | with_reducible assumption | with_reducible apply State.enterReset_keeps

theorem Twn.unitFault_keeps {z₀ : State} (s : State) (f : Nat) (h_s : State.Keeps z₀ s) :
    State.Keeps z₀ (Twn.unitFault s f) := by
  unfold Twn.unitFault
  repeat' first
    | with_reducible assumption | (intro)
    | (extract_lets +onlyGivenNames x; refine State.Keeps.cut (p := State.Keeps z₀ x) ?_ ?_;
        (focus (intro hx; clear_value x)); rotate_left; subst x)
    | (extract_lets +onlyGivenNames x; clear_value x) | with_reducible apply State.Keeps.ite | split
    | (with_reducible refine State.Keeps.mk_same _ rfl rfl rfl rfl rfl rfl rfl rfl ?_)

theorem State.safeChanged_keeps {z₀ : State} (s : State) (old : Nat) (h_s : State.Keeps z₀ s) :
    State.Keeps z₀ (State.safeChanged s old) := by
  unfold State.safeChanged
  repeat' first
    | with_reducible assumption | (intro)
    | (extract_lets +onlyGivenNames x; refine State.Keeps.cut (p := State.Keeps z₀ x) ?_ ?_;
        (focus (intro hx; clear_value x)); rotate_left; subst x)
    | (extract_lets +onlyGivenNames x; clear_value x) | with_reducible apply State.each_keeps
    | with_reducible apply Drv.enter_keeps | with_reducible apply State.setFld_keeps
    | with_reducible apply Twn.dropNow_keeps | with_reducible apply State.Keeps.ite
    | with_reducible apply State.Keeps.ite1 | split

end Reset

section Fc

theorem State.setFcSrc_keeps {z₀ : State} (s : State) (n : Nat) (x : FcSource) (h_s : State.Keeps z₀ s) :
    State.Keeps z₀ (State.setFcSrc s n x) := by
  unfold State.setFcSrc
  repeat' first
    | with_reducible assumption
    | (extract_lets +onlyGivenNames x; refine State.Keeps.cut (p := State.Keeps z₀ x) ?_ ?_;
        (focus (intro hx; clear_value x)); rotate_left; subst x)
    | (extract_lets +onlyGivenNames x; clear_value x)
    | (with_reducible refine State.Keeps.mk_same _ rfl rfl rfl rfl rfl rfl rfl rfl ?_)

theorem Fc.show_keeps {z₀ : State} (s : State) (n : Nat) (h_s : State.Keeps z₀ s) :
    State.Keeps z₀ (Fc.show s n) := by
  unfold Fc.show
  repeat' first
    | with_reducible assumption | (intro)
    | (extract_lets +onlyGivenNames x; refine State.Keeps.cut (p := State.Keeps z₀ x) ?_ ?_;
        (focus (intro hx; clear_value x)); rotate_left; subst x)
    | (extract_lets +onlyGivenNames x; clear_value x) | with_reducible apply State.setVecBit_keeps
    | with_reducible apply State.setFlag_keeps | with_reducible apply State.setFld_keeps
    | with_reducible apply State.safeChanged_keeps | with_reducible apply State.Keeps.ite | split

theorem Fc.drain_keeps {z₀ : State} (s : State) (h_s : State.Keeps z₀ s) :
    State.Keeps z₀ (Fc.drain s) := by
  unfold Fc.drain
  repeat' first
    | with_reducible assumption | (intro)
    | (extract_lets +onlyGivenNames x; refine State.Keeps.cut (p := State.Keeps z₀ x) ?_ ?_;
        (focus (intro hx; clear_value x)); rotate_left; subst x)
    | (extract_lets +onlyGivenNames x; clear_value x) | with_reducible apply State.each_keeps
    | with_reducible apply State.fire_keeps | with_reducible apply State.foldl_keeps
    | with_reducible apply State.foldl1_keeps
    | (with_reducible refine State.Keeps.mk_same _ rfl rfl rfl rfl rfl rfl rfl rfl ?_)

theorem Fc.advance_keeps {z₀ : State} (a : Nat) : ∀ (n : Nat) (s : State), State.Keeps z₀ s → State.Keeps z₀ (Fc.advance a n s)
  | 0, _, h => h
  | n + 1, s, h => by
    have k (x : PulseXing) : State.Keeps z₀ { s with clk := { s.clk with x84 := x } } :=
      State.Keeps.mk_same s rfl rfl rfl rfl rfl rfl rfl rfl h
    unfold Fc.advance
    split
    · split
      · exact Fc.advance_keeps a n _ (State.each_keeps _ _ (fun t x => State.fire_keeps t x) (k _))
      · exact h
    · split
      · exact k _
      · exact h
    · exact h

theorem Fc.launch_keeps {z₀ : State} (s : State) (aon : Option Nat) (evs : List Nat) (h_s : State.Keeps z₀ s) :
    State.Keeps z₀ (Fc.launch s aon evs) := by
  unfold Fc.launch
  repeat' first
    | with_reducible assumption | (intro)
    | (extract_lets +onlyGivenNames x; refine State.Keeps.cut (p := State.Keeps z₀ x) ?_ ?_;
        (focus (intro hx; clear_value x)); rotate_left; subst x)
    | (extract_lets +onlyGivenNames x; refine State.Keeps.cut (p := State.Keeps z₀ x.1) ?_ ?_;
        (focus (intro hx; clear_value x)); rotate_left; subst x)
    | (extract_lets +onlyGivenNames x; clear_value x) | with_reducible apply Clk.discard_keeps
    | with_reducible apply Fc.drain_keeps | with_reducible apply State.fire_keeps | with_reducible apply Fc.advance_keeps
    | with_reducible apply Clk.overrun_keeps | with_reducible apply State.each_keeps
    | with_reducible apply State.Keeps.ite | split
    | (with_reducible refine State.Keeps.mk_same _ rfl rfl rfl rfl rfl rfl rfl rfl ?_)

theorem Fc.configured_keeps {z₀ : State} (s : State) (h_s : State.Keeps z₀ s) : State.Keeps z₀ (Fc.configured s) := by
  unfold Fc.configured
  repeat' first
    | with_reducible assumption | (intro)
    | (extract_lets +onlyGivenNames x; refine State.Keeps.cut (p := State.Keeps z₀ x) ?_ ?_;
        (focus (intro hx; clear_value x)); rotate_left; subst x)
    | with_reducible apply State.setFire_keeps | with_reducible apply State.setFlag_keeps | with_reducible apply State.drew_keeps
    | with_reducible apply State.Keeps.ite | split
    | (with_reducible refine State.Keeps.mk_same _ rfl rfl rfl rfl rfl rfl rfl rfl ?_)

theorem Fc.record_keeps {z₀ : State} (s : State) (l : FcLeave) (frame : Nat) (h_s : State.Keeps z₀ s) :
    State.Keeps z₀ (Fc.record s l frame) := by
  unfold Fc.record
  repeat' first
    | with_reducible assumption | with_reducible apply State.setFlag_keeps | with_reducible apply State.setFld_keeps

theorem Fc.maskedHit_keeps {z₀ : State} (s : State) (l : FcLeave) (h_s : State.Keeps z₀ s) :
    State.Keeps z₀ (Fc.maskedHit s l) := by
  unfold Fc.maskedHit
  repeat' first
    | with_reducible assumption | (intro)
    | (extract_lets +onlyGivenNames x; refine State.Keeps.cut (p := State.Keeps z₀ x) ?_ ?_;
        (focus (intro hx; clear_value x)); rotate_left; subst x)
    | (extract_lets +onlyGivenNames x; clear_value x) | with_reducible apply State.setFcSrc_keeps
    | with_reducible apply State.setVecBit_keeps | with_reducible apply State.incCnt_keeps
    | with_reducible apply State.Keeps.ite | split
    | (with_reducible refine State.Keeps.mk_same _ rfl rfl rfl rfl rfl rfl rfl rfl ?_)

theorem Fc.resetReaction_keeps {z₀ : State} (s : State) (n : Nat) (h_s : State.Keeps z₀ s) :
    State.Keeps z₀ (Fc.resetReaction s n) := by
  unfold Fc.resetReaction
  repeat' first
    | with_reducible assumption | (intro)
    | (extract_lets +onlyGivenNames x; refine State.Keeps.cut (p := State.Keeps z₀ x) ?_ ?_;
        (focus (intro hx; clear_value x)); rotate_left; subst x)
    | (extract_lets +onlyGivenNames x; refine State.Keeps.cut (p := State.Keeps z₀ x.1) ?_ ?_;
        (focus (intro hx; clear_value x)); rotate_left; subst x)
    | (extract_lets +onlyGivenNames x; clear_value x) | with_reducible apply State.setFld_keeps
    | with_reducible apply State.blockReset_keeps | with_reducible apply State.Keeps.ite | split
    | (with_reducible refine State.Keeps.mk_same _ rfl rfl rfl rfl rfl rfl rfl rfl ?_)

theorem Fc.leaves_keeps {z₀ : State} (s : State) (frame : Nat) (l : FcLeave) (h_s : State.Keeps z₀ s) :
    State.Keeps z₀ (Fc.leaves s frame l) := by
  unfold Fc.leaves
  repeat' first
    | with_reducible assumption | (intro)
    | (extract_lets +onlyGivenNames x; refine State.Keeps.cut (p := State.Keeps z₀ x) ?_ ?_;
        (focus (intro hx; clear_value x)); rotate_left; subst x)
    | (extract_lets +onlyGivenNames x; clear_value x) | with_reducible apply State.setFcSrc_keeps
    | with_reducible apply State.setVecBit_keeps | with_reducible apply Fc.show_keeps
    | with_reducible apply Fc.resetReaction_keeps | with_reducible apply State.when_keeps
    | with_reducible apply Twn.unitFault_keeps | with_reducible apply State.incCnt_keeps
    | with_reducible apply State.Keeps.ite | split
    | (with_reducible refine State.Keeps.mk_same _ rfl rfl rfl rfl rfl rfl rfl rfl ?_)

theorem Fc.leaveAll_keeps {z₀ : State} (s : State) (aon : Option Nat) (frame : Nat) (ls : List FcLeave) (h_s : State.Keeps z₀ s) :
    State.Keeps z₀ (Fc.leaveAll s aon frame ls) := by
  unfold Fc.leaveAll
  repeat' first
    | with_reducible assumption | (intro)
    | (extract_lets +onlyGivenNames x; refine State.Keeps.cut (p := State.Keeps z₀ x) ?_ ?_;
        (focus (intro hx; clear_value x)); rotate_left; subst x)
    | (extract_lets +onlyGivenNames x; refine State.Keeps.cut (p := State.Keeps z₀ x.1) ?_ ?_;
        (focus (intro hx; clear_value x)); rotate_left; subst x)
    | (extract_lets +onlyGivenNames x; clear_value x) | with_reducible apply State.each_keeps
    | with_reducible apply Fc.maskedHit_keeps | with_reducible apply Fc.record_keeps
    | with_reducible apply State.when_keeps | with_reducible apply State.setFlag_keeps
    | with_reducible apply Fc.leaves_keeps | with_reducible apply Fc.launch_keeps | with_reducible apply State.Keeps.ite
    | split | (with_reducible refine State.Keeps.mk_same _ rfl rfl rfl rfl rfl rfl rfl rfl ?_)

theorem Fc.settle_keeps {z₀ : State} (s : State) (n : Nat) (h_s : State.Keeps z₀ s) :
    State.Keeps z₀ (Fc.settle s n) := by
  unfold Fc.settle
  repeat' first
    | with_reducible assumption | (intro)
    | (extract_lets +onlyGivenNames x; refine State.Keeps.cut (p := State.Keeps z₀ x) ?_ ?_;
        (focus (intro hx; clear_value x)); rotate_left; subst x)
    | (extract_lets +onlyGivenNames x; refine State.Keeps.cut (p := State.Keeps z₀ x.1) ?_ ?_;
        (focus (intro hx; clear_value x)); rotate_left; subst x)
    | (extract_lets +onlyGivenNames x; clear_value x) | with_reducible apply State.setVecBit_keeps
    | with_reducible apply Fc.show_keeps | with_reducible apply State.setFcSrc_keeps
    | with_reducible apply State.Keeps.ite | split
    | (with_reducible refine State.Keeps.mk_same _ rfl rfl rfl rfl rfl rfl rfl rfl ?_)

theorem Fc.settleAll_keeps {z₀ : State} (s : State) (aon : Option Nat) (ns : List Nat) (h_s : State.Keeps z₀ s) :
    State.Keeps z₀ (Fc.settleAll s aon ns) := by
  unfold Fc.settleAll
  repeat' first
    | with_reducible assumption | (intro)
    | (extract_lets +onlyGivenNames x; refine State.Keeps.cut (p := State.Keeps z₀ x) ?_ ?_;
        (focus (intro hx; clear_value x)); rotate_left; subst x)
    | (extract_lets +onlyGivenNames x; clear_value x) | with_reducible apply State.each_keeps
    | with_reducible apply Fc.settle_keeps | with_reducible apply Fc.launch_keeps | with_reducible apply State.Keeps.ite
    | split

theorem Fc.arrive_keeps {z₀ : State} (s : State) (c : FcChange) (h_s : State.Keeps z₀ s) :
    State.Keeps z₀ (Fc.arrive s c).1 := by
  unfold Fc.arrive
  repeat' first
    | with_reducible assumption | (intro)
    | (extract_lets +onlyGivenNames x; refine State.Keeps.cut (p := State.Keeps z₀ x) ?_ ?_;
        (focus (intro hx; clear_value x)); rotate_left; subst x)
    | (extract_lets +onlyGivenNames x; clear_value x) | with_reducible apply Fc.show_keeps
    | with_reducible apply State.drew_keeps | with_reducible apply State.setFcSrc_keeps
    | with_reducible apply State.Keeps.ite | with_reducible apply State.Keeps.ite1 | split
    | (with_reducible refine State.Keeps.mk_same _ rfl rfl rfl rfl rfl rfl rfl rfl ?_)

theorem Fc.arriveAll_keeps {z₀ : State} (s : State) (cs : List FcChange) (h_s : State.Keeps z₀ s) :
    State.Keeps z₀ (Fc.arriveAll s cs).1 := by
  unfold Fc.arriveAll
  generalize ([] : List FcLeave) = e
  induction cs generalizing s e with
  | nil => exact h_s
  | cons c cs ih => exact ih _ (Fc.arrive_keeps _ _ h_s) _

theorem Fc.edge_keeps {z₀ : State} (s : State) (aon : Option Nat) (frame : Nat) (cs : List FcChange) (h_s : State.Keeps z₀ s) :
    State.Keeps z₀ (Fc.edge s aon frame cs) := by
  unfold Fc.edge
  repeat' first
    | with_reducible assumption | (intro)
    | (extract_lets +onlyGivenNames x; refine State.Keeps.cut (p := State.Keeps z₀ x) ?_ ?_;
        (focus (intro hx; clear_value x)); rotate_left; subst x)
    | (extract_lets +onlyGivenNames x; refine State.Keeps.cut (p := State.Keeps z₀ x.1) ?_ ?_;
        (focus (intro hx; clear_value x)); rotate_left; subst x)
    | (extract_lets +onlyGivenNames x; clear_value x) | with_reducible apply Fc.arriveAll_keeps
    | with_reducible apply Fc.advance_keeps | with_reducible apply Fc.settleAll_keeps
    | with_reducible apply Fc.leaveAll_keeps | with_reducible apply State.Keeps.ite
    | with_reducible apply State.Keeps.ite1 | split
    | (with_reducible refine State.Keeps.mk_same _ rfl rfl rfl rfl rfl rfl rfl rfl ?_)

theorem State.faultEvent_keeps {z₀ : State} (s : State) (n : Nat) (h_s : State.Keeps z₀ s) :
    State.Keeps z₀ (State.faultEvent s n) := by
  unfold State.faultEvent
  repeat' first
    | with_reducible assumption | (intro) | with_reducible apply Fc.edge_keeps | with_reducible apply State.Keeps.ite
    | split

theorem State.faultLevel_keeps {z₀ : State} (s : State) (n : Nat) (b : Bool) (h_s : State.Keeps z₀ s) :
    State.Keeps z₀ (State.faultLevel s n b) := by
  unfold State.faultLevel
  repeat' first
    | with_reducible assumption | (intro)
    | (extract_lets +onlyGivenNames x; refine State.Keeps.cut (p := State.Keeps z₀ x) ?_ ?_;
        (focus (intro hx; clear_value x)); rotate_left; subst x)
    | (extract_lets +onlyGivenNames x; clear_value x) | with_reducible apply Fc.edge_keeps
    | with_reducible apply State.Keeps.ite | split

theorem Fc.release_keeps {z₀ : State} (s : State) (scope src : Nat) (h_s : State.Keeps z₀ s) :
    State.Keeps z₀ (Fc.release s scope src).1 := by
  unfold Fc.release
  repeat' first
    | with_reducible assumption | (intro)
    | (extract_lets +onlyGivenNames x; refine State.Keeps.cut (p := State.Keeps z₀ x) ?_ ?_;
        (focus (intro hx; clear_value x)); rotate_left; subst x)
    | (extract_lets +onlyGivenNames x; clear_value x) | with_reducible apply State.each_keeps
    | with_reducible apply State.setVecBit_keeps | with_reducible apply Fc.show_keeps
    | with_reducible apply State.setFlag_keeps | with_reducible apply State.setFcSrc_keeps
    | with_reducible apply State.Keeps.ite | with_reducible apply State.Keeps.ite1 | split
    | (with_reducible refine State.Keeps.mk_same _ rfl rfl rfl rfl rfl rfl rfl rfl ?_)

theorem execFaultPairChange_keeps {z₀ : State} (aon : Nat) (strobe : Bool) (changes : List FcChange) (s : State) (h_s :
    State.Keeps z₀ s) :
    State.Leads z₀ (execFaultPairChange aon strobe changes s) := by
  unfold execFaultPairChange
  repeat' first
    | with_reducible assumption | with_reducible apply State.Leads.next | with_reducible apply State.Leads.ite | (intro)
    | (extract_lets +onlyGivenNames x; refine State.Keeps.cut (p := State.Keeps z₀ x) ?_ ?_;
        (focus (intro hx; clear_value x)); rotate_left; subst x)
    | (extract_lets +onlyGivenNames x; clear_value x) | with_reducible apply State.setFld_keeps
    | with_reducible apply Fc.edge_keeps | with_reducible apply State.Keeps.ite | split

theorem execRailDisagree_keeps {z₀ : State} (aon : Nat) (strobe : Bool) (n : Nat) (s : State) (h_s : State.Keeps z₀ s) :
    State.Leads z₀ (execRailDisagree aon strobe n s) := by
  unfold execRailDisagree
  repeat' first
    | with_reducible assumption | with_reducible apply State.Leads.next | with_reducible apply State.Leads.ite | (intro)
    | (extract_lets +onlyGivenNames x; refine State.Keeps.cut (p := State.Keeps z₀ x) ?_ ?_;
        (focus (intro hx; clear_value x)); rotate_left; subst x)
    | (extract_lets +onlyGivenNames x; clear_value x) | with_reducible apply Fc.leaveAll_keeps
    | with_reducible apply State.setFld_keeps | with_reducible apply State.Keeps.ite | split

theorem execConsequenceWindowClose_keeps {z₀ : State} (aon : Nat) (strobe : Bool) (n : Nat) (s : State) (h_s : State.Keeps z₀ s) :
    State.Leads z₀ (execConsequenceWindowClose aon strobe n s) := by
  unfold execConsequenceWindowClose
  repeat' first
    | with_reducible assumption | with_reducible apply State.Leads.next | with_reducible apply State.Leads.ite | (intro)
    | (extract_lets +onlyGivenNames x; refine State.Keeps.cut (p := State.Keeps z₀ x) ?_ ?_;
        (focus (intro hx; clear_value x)); rotate_left; subst x)
    | (extract_lets +onlyGivenNames x; refine State.Keeps.cut (p := State.Keeps z₀ x.1) ?_ ?_;
        (focus (intro hx; clear_value x)); rotate_left; subst x)
    | (extract_lets +onlyGivenNames x; clear_value x) | with_reducible apply State.setFld_keeps
    | with_reducible apply Fc.leaveAll_keeps | with_reducible apply State.Keeps.ite | split
    | (with_reducible refine State.Keeps.mk_same _ rfl rfl rfl rfl rfl rfl rfl rfl ?_)

theorem execMuteAutoRelease_keeps {z₀ : State} (n : Nat) (s : State) (h_s : State.Keeps z₀ s) :
    State.Leads z₀ (execMuteAutoRelease n s) := by
  unfold execMuteAutoRelease
  repeat' first
    | with_reducible assumption | with_reducible apply State.Leads.next | with_reducible apply State.Leads.ite | (intro)
    | (extract_lets +onlyGivenNames x; refine State.Keeps.cut (p := State.Keeps z₀ x) ?_ ?_;
        (focus (intro hx; clear_value x)); rotate_left; subst x)
    | (extract_lets +onlyGivenNames x; clear_value x) | with_reducible apply Fc.show_keeps
    | with_reducible apply State.setFcSrc_keeps | with_reducible apply State.Keeps.ite | split
    | (with_reducible refine State.Keeps.mk_same _ rfl rfl rfl rfl rfl rfl rfl rfl ?_)

theorem Fc.resume_keeps {z₀ : State} (s : State) (aon : Nat) (strobe : Bool) (h_s : State.Keeps z₀ s) :
    State.Keeps z₀ (Fc.resume s aon strobe) := by
  unfold Fc.resume
  repeat' first
    | with_reducible assumption | (intro)
    | (extract_lets +onlyGivenNames x; refine State.Keeps.cut (p := State.Keeps z₀ x) ?_ ?_;
        (focus (intro hx; clear_value x)); rotate_left; subst x)
    | (extract_lets +onlyGivenNames x; clear_value x) | with_reducible apply State.setFld_keeps
    | with_reducible apply Fc.leaveAll_keeps | with_reducible apply Fc.settleAll_keeps
    | with_reducible apply State.Keeps.ite | split

end Fc

section Mem

theorem State.setBytes_keeps {z₀ : State} (s : State) (a : Nat) (bs : List Byte) (h_s : State.Keeps z₀ s) :
    State.Keeps z₀ (State.setBytes s a bs) := by
  unfold State.setBytes
  repeat' first
    | with_reducible assumption | (intro) | with_reducible apply State.each_keeps
    | with_reducible apply State.setByte_keeps

theorem Mem.ue_keeps {z₀ : State} (s : State) (src w : Nat) (h_s : State.Keeps z₀ s) :
    State.Keeps z₀ (Mem.ue s src w) := by
  unfold Mem.ue
  repeat' first
    | with_reducible assumption | (intro) | with_reducible apply State.setFlag_keeps
    | with_reducible apply State.setFire_keeps | with_reducible apply State.setFld_keeps
    | with_reducible apply State.faultEvent_keeps | with_reducible apply State.Keeps.ite | split

theorem Mem.ce_keeps {z₀ : State} (s : State) (w : Nat) (h_s : State.Keeps z₀ s) :
    State.Keeps z₀ (Mem.ce s w) := by
  unfold Mem.ce
  repeat' first
    | with_reducible assumption | (intro) | with_reducible apply State.incCnt_keeps | with_reducible apply State.Keeps.ite
    | split

theorem Mem.meet_keeps {z₀ : State} (src : Nat) (s : State) (w : Nat) (h_s : State.Keeps z₀ s) :
    State.Keeps z₀ (Mem.meet src s w) := by
  unfold Mem.meet
  repeat' first
    | with_reducible assumption
    | (extract_lets +onlyGivenNames x; refine State.Keeps.cut (p := State.Keeps z₀ x) ?_ ?_;
        (focus (intro hx; clear_value x)); rotate_left; subst x)
    | (extract_lets +onlyGivenNames x; refine State.Keeps.cut (p := State.Keeps z₀ x.1) ?_ ?_;
        (focus (intro hx; clear_value x)); rotate_left; subst x)
    | (extract_lets +onlyGivenNames x; clear_value x) | with_reducible apply Mem.ce_keeps
    | with_reducible apply Mem.ue_keeps | split
    | (with_reducible refine State.Keeps.mk_same _ rfl rfl rfl rfl rfl rfl rfl rfl ?_)

theorem Mem.readNote_keeps {z₀ : State} (s : State) (src : Nat) (as : List Nat) (h_s : State.Keeps z₀ s) :
    State.Keeps z₀ (Mem.readNote s src as) := by
  unfold Mem.readNote
  repeat' first
    | with_reducible assumption | (intro) | with_reducible apply State.each_keeps | with_reducible apply Mem.meet_keeps

theorem Mem.merge_keeps {z₀ : State} (src : Nat) (as : List Nat) (s : State) (w : Nat) (h_s : State.Keeps z₀ s) :
    State.Keeps z₀ (Mem.merge src as s w) := by
  unfold Mem.merge
  repeat' first
    | with_reducible assumption | (intro)
    | (extract_lets +onlyGivenNames x; refine State.Keeps.cut (p := State.Keeps z₀ x) ?_ ?_;
        (focus (intro hx; clear_value x)); rotate_left; subst x)
    | (extract_lets +onlyGivenNames x; refine State.Keeps.cut (p := State.Keeps z₀ x.1) ?_ ?_;
        (focus (intro hx; clear_value x)); rotate_left; subst x)
    | (extract_lets +onlyGivenNames x; clear_value x) | with_reducible apply Mem.setErr_keeps
    | with_reducible apply Mem.ce_keeps | with_reducible apply Mem.ue_keeps | with_reducible apply State.Keeps.ite
    | split | (with_reducible refine State.Keeps.mk_same _ rfl rfl rfl rfl rfl rfl rfl rfl ?_)

theorem Mem.forget_keeps {z₀ : State} (s : State) (as : List Nat) (h_s : State.Keeps z₀ s) :
    State.Keeps z₀ (Mem.forget s as) := by
  unfold Mem.forget
  repeat' first
    | with_reducible assumption | (intro)
    | (extract_lets +onlyGivenNames x; refine State.Keeps.cut (p := State.Keeps z₀ x) ?_ ?_;
        (focus (intro hx; clear_value x)); rotate_left; subst x)
    | (extract_lets +onlyGivenNames x) | (with_reducible refine State.Keeps.mk_same _ rfl rfl rfl rfl rfl rfl rfl rfl ?_)

theorem Mem.write_keeps {z₀ : State} (s : State) (src : Nat) (cells : List (Nat × Byte)) (h_s : State.Keeps z₀ s) :
    State.Keeps z₀ (Mem.write s src cells) := by
  unfold Mem.write
  repeat' first
    | with_reducible assumption | (intro)
    | (extract_lets +onlyGivenNames x; refine State.Keeps.cut (p := State.Keeps z₀ x) ?_ ?_;
        (focus (intro hx; clear_value x)); rotate_left; subst x)
    | (extract_lets +onlyGivenNames x; refine State.Keeps.cut (p := State.Keeps z₀ x.1) ?_ ?_;
        (focus (intro hx; clear_value x)); rotate_left; subst x)
    | (extract_lets +onlyGivenNames x; clear_value x) | with_reducible apply State.each_keeps
    | with_reducible apply Mem.merge_keeps | with_reducible apply State.setByte_keeps
    | with_reducible apply Mem.forget_keeps | with_reducible apply State.Keeps.ite | with_reducible apply State.Keeps.ite1
    | split

theorem Mem.noteRange_keeps {z₀ : State} (s : State) (src a n : Nat) (h_s : State.Keeps z₀ s) :
    State.Keeps z₀ (Mem.noteRange s src a n) := by
  unfold Mem.noteRange
  repeat' first
    | with_reducible assumption | (intro) | with_reducible apply State.each_keeps | with_reducible apply Mem.meet_keeps

theorem Mem.take_keeps {z₀ : State} (s : State) (src a n : Nat) (h_s : State.Keeps z₀ s) :
    State.Keeps z₀ (Mem.take s src a n).1 := by
  unfold Mem.take
  repeat' first
    | with_reducible assumption | (intro) | with_reducible apply Mem.noteRange_keeps
    | with_reducible apply State.Keeps.ite1

theorem Dir.noteRead_keeps {z₀ : State} (s : State) (h_s : State.Keeps z₀ s) :
    State.Keeps z₀ (Dir.noteRead s) := by
  unfold Dir.noteRead
  repeat' first | with_reducible assumption | with_reducible apply Mem.noteRange_keeps

theorem Mem.put_keeps {z₀ : State} (s : State) (src a : Nat) (bs : List Byte) (h_s : State.Keeps z₀ s) :
    State.Keeps z₀ (Mem.put s src a bs) := by
  unfold Mem.put
  repeat' first
    | with_reducible assumption | (intro)
    | (extract_lets +onlyGivenNames x; refine State.Keeps.cut (p := State.Keeps z₀ x) ?_ ?_;
        (focus (intro hx; clear_value x)); rotate_left; subst x)
    | (extract_lets +onlyGivenNames x) | with_reducible apply State.each_keeps | with_reducible apply Mem.setErr_keeps
    | with_reducible apply Mem.merge_keeps | with_reducible apply State.setBytes_keeps
    | with_reducible apply State.Keeps.ite | split
    | (with_reducible refine State.Keeps.mk_same _ rfl rfl rfl rfl rfl rfl rfl rfl ?_)

theorem Mem.sharedBytes_keeps {z₀ : State} (s : State) (i rel after a n : Nat) (h_s : State.Keeps z₀ s) :
    State.Keeps z₀ (Mem.sharedBytes s i rel after a n).1 := by
  unfold Mem.sharedBytes
  repeat' first
    | with_reducible assumption | (intro) | with_reducible apply State.drew_keeps | with_reducible apply State.Keeps.ite
    | with_reducible apply State.Keeps.ite1 | split

theorem Mem.storeShared_keeps {z₀ : State} (s : State) (i stamp rel a : Nat) (bs : List Byte) (h_s : State.Keeps z₀ s) :
    State.Keeps z₀ (Mem.storeShared s i stamp rel a bs) := by
  unfold Mem.storeShared
  extract_lets n fight x before e m t
  refine State.setBytes_keeps _ _ _ ?_
  have he : State.Keeps z₀ e := State.Keeps.ite (fun _ => State.drew_keeps h_s) (fun _ => h_s)
  have hb : e.mem.bytes = s.mem.bytes ∧ e.mem.err = s.mem.err := by
    unfold e
    split <;> exact ⟨rfl, rfl⟩
  clear_value e
  exact State.Keeps.same e rfl rfl rfl rfl rfl rfl hb.1.symm hb.2.symm he

end Mem

section Bale

theorem Bale.noteRead_keeps {z₀ : State} (s : State) (i len : Nat) (h_s : State.Keeps z₀ s) :
    State.Keeps z₀ (Bale.noteRead s i len) := by
  unfold Bale.noteRead
  repeat' first
    | with_reducible assumption | (intro) | with_reducible apply State.each_keeps | with_reducible apply Mem.meet_keeps

end Bale

end Sys2Proof.Machine
end

