-- ==== Sys2Proof/Laws/KeepsPort.lean ====
section
/-! SUPPORT. `State.Keeps` for stall faults, bales, the timekeeper, the network, registers and pages, host commands, roles, digests, serial and AES ports: each operation keeps the variant, the queue, what has been sent,
the count of free values and the canonical forms. -/

namespace Sys2Proof.Machine

section Flags

theorem State.setStall_keeps {z₀ : State} (s : State) (i : Nat) (x : Stall) (h_s : State.Keeps z₀ s) :
    State.Keeps z₀ (State.setStall s i x) := by
  unfold State.setStall
  repeat' first
    | with_reducible assumption
    | (extract_lets +onlyGivenNames x; refine State.Keeps.cut (p := State.Keeps z₀ x) ?_ ?_;
        (focus (intro hx; clear_value x)); rotate_left; subst x)
    | (extract_lets +onlyGivenNames x; clear_value x)
    | (with_reducible refine State.Keeps.mk_same _ rfl rfl rfl rfl rfl rfl rfl rfl ?_)

theorem State.onRf_keeps {z₀ : State} (s : State) (i : Nat) (f : RegFile → RegFile) (h_s : State.Keeps z₀ s) :
    State.Keeps z₀ (State.onRf s i f) := by
  unfold State.onRf
  repeat' first
    | with_reducible assumption
    | (extract_lets +onlyGivenNames x; refine State.Keeps.cut (p := State.Keeps z₀ x) ?_ ?_;
        (focus (intro hx; clear_value x)); rotate_left; subst x)
    | (extract_lets +onlyGivenNames x; clear_value x) | with_reducible apply State.setStall_keeps | split
    | (with_reducible refine State.Keeps.mk_same _ rfl rfl rfl rfl rfl rfl rfl rfl ?_)

theorem Stl.xsat_keeps {z₀ : State} (s : State) (i : Nat) (h_s : State.Keeps z₀ s) :
    State.Keeps z₀ (Stl.xsat s i) := by
  unfold Stl.xsat
  repeat' first
    | with_reducible assumption
    | (extract_lets +onlyGivenNames x; refine State.Keeps.cut (p := State.Keeps z₀ x) ?_ ?_;
        (focus (intro hx; clear_value x)); rotate_left; subst x)
    | (extract_lets +onlyGivenNames x; clear_value x) | with_reducible apply State.setFlag_keeps
    | with_reducible apply State.setStall_keeps | split
    | (with_reducible refine State.Keeps.mk_same _ rfl rfl rfl rfl rfl rfl rfl rfl ?_)

theorem Stl.xlost_keeps {z₀ : State} (s : State) (i : Nat) (h_s : State.Keeps z₀ s) :
    State.Keeps z₀ (Stl.xlost s i) := by
  unfold Stl.xlost
  repeat' first
    | with_reducible assumption
    | (extract_lets +onlyGivenNames x; refine State.Keeps.cut (p := State.Keeps z₀ x) ?_ ?_;
        (focus (intro hx; clear_value x)); rotate_left; subst x)
    | (extract_lets +onlyGivenNames x; clear_value x) | with_reducible apply State.setFire_keeps
    | with_reducible apply State.setStall_keeps | split
    | (with_reducible refine State.Keeps.mk_same _ rfl rfl rfl rfl rfl rfl rfl rfl ?_)

theorem Stl.vsat_keeps {z₀ : State} (s : State) (i : Nat) (h_s : State.Keeps z₀ s) :
    State.Keeps z₀ (Stl.vsat s i) := by
  unfold Stl.vsat
  repeat' first
    | with_reducible assumption
    | (extract_lets +onlyGivenNames x; refine State.Keeps.cut (p := State.Keeps z₀ x) ?_ ?_;
        (focus (intro hx; clear_value x)); rotate_left; subst x)
    | (extract_lets +onlyGivenNames x; clear_value x) | with_reducible apply State.setFlag_keeps
    | with_reducible apply State.setStall_keeps | split
    | (with_reducible refine State.Keeps.mk_same _ rfl rfl rfl rfl rfl rfl rfl rfl ?_)

theorem Stl.countFrame_keeps {z₀ : State} (s : State) (i : Nat) (h_s : State.Keeps z₀ s) :
    State.Keeps z₀ (Stl.countFrame s i) := by
  unfold Stl.countFrame
  repeat' first
    | with_reducible assumption | (intro)
    | (extract_lets +onlyGivenNames x; refine State.Keeps.cut (p := State.Keeps z₀ x) ?_ ?_;
        (focus (intro hx; clear_value x)); rotate_left; subst x)
    | (extract_lets +onlyGivenNames x; clear_value x) | with_reducible apply State.when_keeps
    | with_reducible apply State.incCnt_keeps | split

theorem Stl.syndrome_keeps {z₀ : State} (i xreg : Nat) (s1 : State) (c : Checker) (h_s1 : State.Keeps z₀ s1) :
    State.Keeps z₀ (Stl.syndrome i xreg s1 c) := by
  unfold Stl.syndrome
  repeat' first
    | with_reducible assumption | (intro)
    | (extract_lets +onlyGivenNames x; refine State.Keeps.cut (p := State.Keeps z₀ x) ?_ ?_;
        (focus (intro hx; clear_value x)); rotate_left; subst x)
    | (extract_lets +onlyGivenNames x; clear_value x) | with_reducible apply State.setFlag_keeps
    | with_reducible apply State.incCnt_keeps | with_reducible apply State.setFld_keeps
    | with_reducible apply State.Keeps.ite | split

theorem Stl.residue_keeps {z₀ : State} (s : State) (i xreg : Nat) (ms : List Checker) (h_s : State.Keeps z₀ s) :
    State.Keeps z₀ (Stl.residue s i xreg ms) := by
  unfold Stl.residue
  repeat' first
    | with_reducible assumption | (intro) | with_reducible apply State.setFire_keeps
    | with_reducible apply Stl.syndrome_keeps | with_reducible apply State.each_keeps
    | with_reducible apply State.faultEvent_keeps | with_reducible apply State.Keeps.ite | split

theorem Stl.check_keeps {z₀ : State} (s : State) (i xreg : Nat) (cs : List Checker) (h_s : State.Keeps z₀ s) :
    State.Keeps z₀ (Stl.check s i xreg cs) := by
  unfold Stl.check
  repeat' first
    | with_reducible assumption | (intro)
    | (extract_lets +onlyGivenNames x; refine State.Keeps.cut (p := State.Keeps z₀ x) ?_ ?_;
        (focus (intro hx; clear_value x)); rotate_left; subst x)
    | (extract_lets +onlyGivenNames x; refine State.Keeps.cut (p := State.Keeps z₀ x.1) ?_ ?_;
        (focus (intro hx; clear_value x)); rotate_left; subst x)
    | (extract_lets +onlyGivenNames x; clear_value x) | with_reducible apply State.setFlag_keeps
    | with_reducible apply Stl.residue_keeps | with_reducible apply State.Keeps.ite | split

theorem Stl.span_keeps {z₀ : State} (s : State) (i v : Nat) (h_s : State.Keeps z₀ s) :
    State.Keeps z₀ (Stl.span s i v) := by
  unfold Stl.span
  repeat' first
    | with_reducible assumption
    | (extract_lets +onlyGivenNames x; refine State.Keeps.cut (p := State.Keeps z₀ x) ?_ ?_;
        (focus (intro hx; clear_value x)); rotate_left; subst x)
    | (extract_lets +onlyGivenNames x; clear_value x) | with_reducible apply State.setFld_keeps | split

theorem Stl.excReport_keeps {z₀ : State} (s : State) (i : Nat) (h_s : State.Keeps z₀ s) :
    State.Keeps z₀ (Stl.excReport s i) := by
  unfold Stl.excReport
  repeat' first
    | with_reducible assumption | with_reducible apply State.fire_keeps | with_reducible apply State.faultEvent_keeps

theorem Stl.except_keeps {z₀ : State} (s : State) (i cyc cause : Nat) (h_s : State.Keeps z₀ s) :
    State.Keeps z₀ (Stl.except s i cyc cause) := by
  unfold Stl.except
  repeat' first
    | with_reducible assumption | (intro)
    | (extract_lets +onlyGivenNames x; refine State.Keeps.cut (p := State.Keeps z₀ x) ?_ ?_;
        (focus (intro hx; clear_value x)); rotate_left; subst x)
    | (extract_lets +onlyGivenNames x; clear_value x) | with_reducible apply State.setStall_keeps
    | with_reducible apply Stl.span_keeps | with_reducible apply State.setFlag_keeps
    | with_reducible apply Stl.excReport_keeps | with_reducible apply State.incCnt_keeps
    | with_reducible apply State.setFld_keeps | with_reducible apply State.Keeps.ite | split
    | (with_reducible refine State.Keeps.mk_same _ rfl rfl rfl rfl rfl rfl rfl rfl ?_)

theorem Stl.addrFault_keeps {z₀ : State} (s : State) (i space : Nat) (slot1 : Bool) (ea : Nat) (h_s : State.Keeps z₀ s) :
    State.Keeps z₀ (Stl.addrFault s i space slot1 ea) := by
  unfold Stl.addrFault
  repeat' first
    | with_reducible assumption | (intro) | with_reducible apply Stl.excReport_keeps
    | with_reducible apply State.setFlag_keeps | with_reducible apply State.setFld_keeps
    | with_reducible apply State.Keeps.ite | split

theorem Stl.breach_keeps {z₀ : State} (s : State) (i : Nat) (h_s : State.Keeps z₀ s) :
    State.Keeps z₀ (Stl.breach s i) := by
  unfold Stl.breach
  repeat' first
    | with_reducible assumption | (intro)
    | (extract_lets +onlyGivenNames x; refine State.Keeps.cut (p := State.Keeps z₀ x) ?_ ?_;
        (focus (intro hx; clear_value x)); rotate_left; subst x)
    | (extract_lets +onlyGivenNames x) | with_reducible apply State.setFire_keeps | with_reducible apply State.incCnt_keeps
    | with_reducible apply State.when_keeps | with_reducible apply State.faultEvent_keeps | split
    | (with_reducible refine State.Keeps.mk_same _ rfl rfl rfl rfl rfl rfl rfl rfl ?_)

theorem Stl.fetch_keeps {z₀ : State} (c : OpCtx) (s : State) (h_s : State.Keeps z₀ s) :
    State.Keeps z₀ (Stl.fetch c s) := by
  unfold Stl.fetch
  repeat' first
    | with_reducible assumption | (intro)
    | (extract_lets +onlyGivenNames x; refine State.Keeps.cut (p := State.Keeps z₀ x) ?_ ?_;
        (focus (intro hx; clear_value x)); rotate_left; subst x)
    | (extract_lets +onlyGivenNames x; clear_value x) | with_reducible apply Stl.except_keeps
    | with_reducible apply State.incCnt_keeps | with_reducible apply State.setStall_keeps
    | with_reducible apply State.Keeps.ite | split
    | (with_reducible refine State.Keeps.mk_same _ rfl rfl rfl rfl rfl rfl rfl rfl ?_)

theorem Stl.complete_keeps {z₀ : State} (s : State) (i : Nat) (h_s : State.Keeps z₀ s) :
    State.Keeps z₀ (Stl.complete s i) := by
  unfold Stl.complete
  repeat' first
    | with_reducible assumption | (intro)
    | (extract_lets +onlyGivenNames x; refine State.Keeps.cut (p := State.Keeps z₀ x) ?_ ?_;
        (focus (intro hx; clear_value x)); rotate_left; subst x)
    | (extract_lets +onlyGivenNames x; clear_value x) | with_reducible apply State.setStall_keeps
    | with_reducible apply Stl.span_keeps | with_reducible apply State.Keeps.ite | split

theorem Stl.op_keeps {z₀ : State} (c : OpCtx) (governed held : Bool) (body : State → State) (s : State) (h_body : ∀ x0,
    State.Keeps z₀ x0 → State.Keeps z₀ (body x0)) (h_s : State.Keeps z₀ s) :
    State.Keeps z₀ (Stl.op c governed held body s) := by
  unfold Stl.op
  repeat' first
    | with_reducible assumption | (intro)
    | (extract_lets +onlyGivenNames x; refine State.Keeps.cut (p := State.Keeps z₀ x) ?_ ?_;
        (focus (intro hx; clear_value x)); rotate_left; subst x)
    | (extract_lets +onlyGivenNames x; clear_value x) | with_reducible apply h_body | with_reducible apply Stl.fetch_keeps
    | with_reducible apply Stl.complete_keeps | with_reducible apply State.Keeps.ite | split

end Flags

section BaleCheck

theorem Cmd.slot_keeps {z₀ : State} (s : State) (r : Run) (h_s : State.Keeps z₀ s) :
    State.Keeps z₀ (Cmd.slot s r).1 := by
  unfold Cmd.slot
  repeat' first
    | with_reducible assumption
    | (extract_lets +onlyGivenNames x; refine State.Keeps.cut (p := State.Keeps z₀ x) ?_ ?_;
        (focus (intro hx; clear_value x)); rotate_left; subst x)
    | (extract_lets +onlyGivenNames x; refine State.Keeps.cut (p := State.Keeps z₀ x.1) ?_ ?_;
        (focus (intro hx; clear_value x)); rotate_left; subst x)
    | (extract_lets +onlyGivenNames x; clear_value x) | with_reducible apply Cmd.noteAdj_keeps
    | with_reducible apply State.Keeps.ite1 | split

theorem Bale.finish_keeps {z₀ : State} (s : State) (r : Run) (slot reason : Nat) (h_s : State.Keeps z₀ s) :
    State.Keeps z₀ (Bale.finish s r slot reason) := by
  unfold Bale.finish
  repeat' first
    | with_reducible assumption | (intro)
    | (extract_lets +onlyGivenNames x; refine State.Keeps.cut (p := State.Keeps z₀ x) ?_ ?_;
        (focus (intro hx; clear_value x)); rotate_left; subst x)
    | (extract_lets +onlyGivenNames x; clear_value x) | with_reducible apply State.setFld_keeps
    | with_reducible apply Cmd.finish_keeps | with_reducible apply State.Keeps.ite | split

theorem Bale.show_keeps {z₀ : State} (s : State) (slot : Nat) (r : Nat → Nat) (h_s : State.Keeps z₀ s) :
    State.Keeps z₀ (Bale.show s slot r) := by
  unfold Bale.show
  repeat' first
    | with_reducible assumption | with_reducible apply State.setReg_keeps | with_reducible apply State.setReg64_keeps
    | with_reducible apply State.setFld_keeps

theorem Bale.load_keeps {z₀ : State} (s : State) (run : Run) (h_s : State.Keeps z₀ s) :
    State.Keeps z₀ (Bale.load s run) := by
  unfold Bale.load
  repeat' first
    | with_reducible assumption | (intro)
    | (extract_lets +onlyGivenNames x; refine State.Keeps.cut (p := State.Keeps z₀ x) ?_ ?_;
        (focus (intro hx; clear_value x)); rotate_left; subst x)
    | (extract_lets +onlyGivenNames x; refine State.Keeps.cut (p := State.Keeps z₀ x.1) ?_ ?_;
        (focus (intro hx; clear_value x)); rotate_left; subst x)
    | (extract_lets +onlyGivenNames x; clear_value x) | with_reducible apply Cmd.slot_keeps
    | with_reducible apply Bale.finish_keeps | with_reducible apply Bale.setState_keeps
    | with_reducible apply Tth.send_keeps | with_reducible apply State.send_keeps
    | with_reducible apply Bale.noteRead_keeps | with_reducible apply Bale.show_keeps
    | with_reducible apply State.Keeps.ite | with_reducible apply State.Keeps.ite1 | split
    | (with_reducible refine State.Keeps.mk_same _ rfl rfl rfl rfl rfl rfl rfl rfl ?_)

theorem execLoadBale_keeps {z₀ : State} (s : State) (h_s : State.Keeps z₀ s) :
    State.Leads z₀ (execLoadBale s) := by
  unfold execLoadBale
  repeat' first
    | with_reducible assumption | with_reducible apply State.Leads.next | with_reducible apply State.Leads.ite | (intro)
    | with_reducible apply Cmd.start_keeps | with_reducible apply Bale.load_keeps | with_reducible apply State.Keeps.ite
    | split

theorem Bale.showSigned_keeps {z₀ : State} (s : State) (i : Nat) (rd : Nat → Nat) (h_s : State.Keeps z₀ s) :
    State.Keeps z₀ (Bale.showSigned s i rd) := by
  unfold Bale.showSigned
  repeat' first
    | with_reducible assumption | (intro)
    | (extract_lets +onlyGivenNames x; refine State.Keeps.cut (p := State.Keeps z₀ x) ?_ ?_;
        (focus (intro hx; clear_value x)); rotate_left; subst x)
    | (extract_lets +onlyGivenNames x; clear_value x) | with_reducible apply State.setFlag_keeps
    | with_reducible apply State.setFld_keeps | with_reducible apply State.Keeps.ite | split

theorem Bale.verified_keeps {z₀ : State} (s : State) (i : Nat) (rd : Nat → Nat) (h_s : State.Keeps z₀ s) :
    State.Keeps z₀ (Bale.verified s i rd) := by
  unfold Bale.verified
  repeat' first
    | with_reducible assumption
    | (extract_lets +onlyGivenNames x; refine State.Keeps.cut (p := State.Keeps z₀ x) ?_ ?_;
        (focus (intro hx; clear_value x)); rotate_left; subst x)
    | (extract_lets +onlyGivenNames x; clear_value x) | with_reducible apply Bale.showSigned_keeps | split
    | (with_reducible refine State.Keeps.mk_same _ rfl rfl rfl rfl rfl rfl rfl rfl ?_)

theorem Bale.verify_keeps {z₀ : State} (s : State) (run : Run) (h_s : State.Keeps z₀ s) :
    State.Keeps z₀ (Bale.verify s run) := by
  unfold Bale.verify
  repeat' first
    | with_reducible assumption | (intro)
    | (extract_lets +onlyGivenNames x; refine State.Keeps.cut (p := State.Keeps z₀ x) ?_ ?_;
        (focus (intro hx; clear_value x)); rotate_left; subst x)
    | (extract_lets +onlyGivenNames x; refine State.Keeps.cut (p := State.Keeps z₀ x.1) ?_ ?_;
        (focus (intro hx; clear_value x)); rotate_left; subst x)
    | (extract_lets +onlyGivenNames x; clear_value x) | with_reducible apply Cmd.slot_keeps
    | with_reducible apply Bale.finish_keeps | with_reducible apply Bale.noteRead_keeps
    | with_reducible apply State.when_keeps | with_reducible apply Bale.showSigned_keeps
    | with_reducible apply Bale.setState_keeps | with_reducible apply Bale.verified_keeps
    | with_reducible apply State.Keeps.ite | with_reducible apply State.Keeps.ite1 | split

theorem execVerifyBale_keeps {z₀ : State} (s : State) (h_s : State.Keeps z₀ s) :
    State.Leads z₀ (execVerifyBale s) := by
  unfold execVerifyBale
  repeat' first
    | with_reducible assumption | with_reducible apply State.Leads.next | with_reducible apply State.Leads.ite
    | with_reducible apply Cmd.start_keeps | with_reducible apply Bale.verify_keeps

theorem Bale.supersede_keeps {z₀ : State} (s : State) (j : Nat) (h_s : State.Keeps z₀ s) :
    State.Keeps z₀ (Bale.supersede s j) := by
  unfold Bale.supersede
  repeat' first
    | with_reducible assumption | (intro)
    | (extract_lets +onlyGivenNames x; refine State.Keeps.cut (p := State.Keeps z₀ x) ?_ ?_;
        (focus (intro hx; clear_value x)); rotate_left; subst x)
    | (extract_lets +onlyGivenNames x; refine State.Keeps.cut (p := State.Keeps z₀ x.1) ?_ ?_;
        (focus (intro hx; clear_value x)); rotate_left; subst x)
    | (extract_lets +onlyGivenNames x; clear_value x) | with_reducible apply State.each_keeps
    | with_reducible apply Cmd.finish_keeps | with_reducible apply Bale.setMark_keeps
    | with_reducible apply State.Keeps.ite | split
    | (with_reducible refine State.Keeps.mk_same _ rfl rfl rfl rfl rfl rfl rfl rfl ?_)

theorem Bale.demote_keeps {z₀ : State} (s : State) (j : Nat) (h_s : State.Keeps z₀ s) :
    State.Keeps z₀ (Bale.demote s j) := by
  unfold Bale.demote
  repeat' first
    | with_reducible assumption | (intro) | with_reducible apply Bale.setState_keeps
    | with_reducible apply Bale.supersede_keeps | with_reducible apply State.Keeps.ite | split

theorem Bale.arm_keeps {z₀ : State} (s : State) (run : Run) (h_s : State.Keeps z₀ s) :
    State.Keeps z₀ (Bale.arm s run) := by
  unfold Bale.arm
  repeat' first
    | with_reducible assumption | (intro)
    | (extract_lets +onlyGivenNames x; refine State.Keeps.cut (p := State.Keeps z₀ x) ?_ ?_;
        (focus (intro hx; clear_value x)); rotate_left; subst x)
    | (extract_lets +onlyGivenNames x; refine State.Keeps.cut (p := State.Keeps z₀ x.1) ?_ ?_;
        (focus (intro hx; clear_value x)); rotate_left; subst x)
    | (extract_lets +onlyGivenNames x; clear_value x) | with_reducible apply Cmd.slot_keeps
    | with_reducible apply Bale.finish_keeps | with_reducible apply Bale.demote_keeps
    | with_reducible apply Bale.noteRead_keeps | with_reducible apply Cmd.keepRun_keeps
    | with_reducible apply State.Keeps.ite | with_reducible apply State.Keeps.ite1 | split
    | (with_reducible refine State.Keeps.mk_same _ rfl rfl rfl rfl rfl rfl rfl rfl ?_)

theorem execArmBale_keeps {z₀ : State} (s : State) (h_s : State.Keeps z₀ s) :
    State.Leads z₀ (execArmBale s) := by
  unfold execArmBale
  repeat' first
    | with_reducible assumption | with_reducible apply State.Leads.next | with_reducible apply State.Leads.ite
    | with_reducible apply Cmd.start_keeps | with_reducible apply Bale.arm_keeps

theorem Mem.zeroWhere_keeps {z₀ : State} (s : State) (p : Nat → Bool) (h_s : State.Keeps z₀ s) :
    State.Keeps z₀ (Mem.zeroWhere s p) := by
  unfold Mem.zeroWhere
  extract_lets q s1
  have h1 : State.Keeps z₀ s1 := by
    refine State.each_keeps _ _ (fun t e h => ?_) h_s
    refine State.Keeps.ite (fun _ => Mem.setErr_keeps _ _ h) (fun _ => ?_)
    exact State.Keeps.ite (fun _ => Mem.merge_keeps _ _ _ _ h) (fun _ => h)
  clear_value s1
  exact State.Keeps.bytes s1 rfl rfl rfl rfl rfl rfl (fun w => Sparse.wf_filter _ _ _ w) id h1

theorem Stl.writeBank_keeps {z₀ : State} (s : State) (i bank : Nat) (img : List Nat) (h_s : State.Keeps z₀ s) :
    State.Keeps z₀ (Stl.writeBank s i bank img) := by
  unfold Stl.writeBank
  repeat' first
    | with_reducible assumption | (intro)
    | (extract_lets +onlyGivenNames x; refine State.Keeps.cut (p := State.Keeps z₀ x) ?_ ?_;
        (focus (intro hx; clear_value x)); rotate_left; subst x)
    | (extract_lets +onlyGivenNames x; refine State.Keeps.cut (p := State.Keeps z₀ x.1) ?_ ?_;
        (focus (intro hx; clear_value x)); rotate_left; subst x)
    | (extract_lets +onlyGivenNames x; clear_value x) | with_reducible apply State.setStall_keeps
    | with_reducible apply State.foldl_keeps | with_reducible apply State.foldl1_keeps | split
    | (with_reducible refine State.Keeps.mk_same _ rfl rfl rfl rfl rfl rfl rfl rfl ?_)

theorem Bale.armWrites_keeps {z₀ : State} (s : State) (r : Nat → Nat) (l : Option (Nat → Nat)) (h_s : State.Keeps z₀ s) :
    State.Keeps z₀ (Bale.armWrites s r l) := by
  unfold Bale.armWrites
  repeat' first
    | with_reducible assumption | (intro)
    | (extract_lets +onlyGivenNames x; refine State.Keeps.cut (p := State.Keeps z₀ x) ?_ ?_;
        (focus (intro hx; clear_value x)); rotate_left; subst x)
    | (extract_lets +onlyGivenNames x; refine State.Keeps.cut (p := State.Keeps z₀ x.1) ?_ ?_;
        (focus (intro hx; clear_value x)); rotate_left; subst x)
    | (extract_lets +onlyGivenNames x; clear_value x) | with_reducible apply State.each_keeps
    | with_reducible apply Stl.writeBank_keeps | with_reducible apply Mem.zeroWhere_keeps
    | with_reducible apply Mem.write_keeps | with_reducible apply State.Keeps.ite | with_reducible apply State.Keeps.ite1
    | split | (with_reducible refine State.Keeps.mk_same _ rfl rfl rfl rfl rfl rfl rfl rfl ?_)

end BaleCheck

section Tkp

theorem Tkp.setSlot_keeps {z₀ : State} (s : State) (d : Nat) (x : TkpSlot) (h_s : State.Keeps z₀ s) :
    State.Keeps z₀ (Tkp.setSlot s d x) := by
  unfold Tkp.setSlot
  repeat' first
    | with_reducible assumption | (intro)
    | (extract_lets +onlyGivenNames x; refine State.Keeps.cut (p := State.Keeps z₀ x) ?_ ?_;
        (focus (intro hx; clear_value x)); rotate_left; subst x)
    | (extract_lets +onlyGivenNames x; clear_value x) | with_reducible apply State.Keeps.ite | split
    | (with_reducible refine State.Keeps.mk_same _ rfl rfl rfl rfl rfl rfl rfl rfl ?_)

theorem Tkp.enter_keeps {z₀ : State} (s : State) (st : Nat) (h_s : State.Keeps z₀ s) :
    State.Keeps z₀ (Tkp.enter s st) := by
  unfold Tkp.enter
  repeat' first
    | with_reducible assumption | (intro) | with_reducible apply State.setFld_keeps
    | with_reducible apply State.fire_keeps | with_reducible apply State.Keeps.ite | split

theorem Tkp.enterDom_keeps {z₀ : State} (s : State) (d st : Nat) (h_s : State.Keeps z₀ s) :
    State.Keeps z₀ (Tkp.enterDom s d st) := by
  unfold Tkp.enterDom
  repeat' first
    | with_reducible assumption | (intro) | with_reducible apply State.setFld_keeps
    | with_reducible apply State.fire_keeps | with_reducible apply State.Keeps.ite | split

theorem Tkp.select_keeps {z₀ : State} (s : State) (d : Nat) (h_s : State.Keeps z₀ s) :
    State.Keeps z₀ (Tkp.select s d) := by
  unfold Tkp.select
  repeat' first
    | with_reducible assumption | (intro) | with_reducible apply State.setFld_keeps
    | with_reducible apply State.fire_keeps | with_reducible apply State.Keeps.ite | split

theorem Tkp.showTime_keeps {z₀ : State} (s : State) (h_s : State.Keeps z₀ s) :
    State.Keeps z₀ (Tkp.showTime s) := by
  unfold Tkp.showTime
  repeat' first | with_reducible assumption | with_reducible apply State.setFld_keeps

theorem Tkp.advance_keeps {z₀ : State} (s : State) (root : Nat) (h_s : State.Keeps z₀ s) :
    State.Keeps z₀ (Tkp.advance s root) := by
  unfold Tkp.advance
  repeat' first
    | with_reducible assumption | (intro)
    | (extract_lets +onlyGivenNames x; refine State.Keeps.cut (p := State.Keeps z₀ x) ?_ ?_;
        (focus (intro hx; clear_value x)); rotate_left; subst x)
    | (extract_lets +onlyGivenNames x; clear_value x) | with_reducible apply Tkp.showTime_keeps
    | with_reducible apply State.when_keeps | with_reducible apply State.fire_keeps | with_reducible apply State.Keeps.ite
    | split | (with_reducible refine State.Keeps.mk_same _ rfl rfl rfl rfl rfl rfl rfl rfl ?_)

theorem Tkp.steer_keeps {z₀ : State} (s : State) (v : Int) (h_s : State.Keeps z₀ s) :
    State.Keeps z₀ (Tkp.steer s v) := by
  unfold Tkp.steer
  repeat' first | with_reducible assumption | with_reducible apply State.setReg_keeps

theorem Tkp.setRun_keeps {z₀ : State} (s : State) (b : Bool) (h_s : State.Keeps z₀ s) :
    State.Keeps z₀ (Tkp.setRun s b) := by
  unfold Tkp.setRun
  repeat' first
    | with_reducible assumption | (intro)
    | (extract_lets +onlyGivenNames x; refine State.Keeps.cut (p := State.Keeps z₀ x) ?_ ?_;
        (focus (intro hx; clear_value x)); rotate_left; subst x)
    | (extract_lets +onlyGivenNames x; clear_value x) | with_reducible apply State.setFlag_keeps
    | with_reducible apply Twn.request_keeps | with_reducible apply State.fire_keeps
    | with_reducible apply State.Keeps.ite | split

theorem Tkp.offFar_keeps {z₀ : State} (s : State) (h_s : State.Keeps z₀ s) :
    State.Keeps z₀ (Tkp.offFar s) := by
  unfold Tkp.offFar
  repeat' first | with_reducible assumption | with_reducible apply State.setFlag_keeps

theorem Tkp.moved_keeps {z₀ : State} (by_ : Int) (s : State) (d : Nat) (h_s : State.Keeps z₀ s) :
    State.Keeps z₀ (Tkp.moved by_ s d) := by
  unfold Tkp.moved
  repeat' first
    | with_reducible assumption | (intro)
    | (extract_lets +onlyGivenNames x; refine State.Keeps.cut (p := State.Keeps z₀ x) ?_ ?_;
        (focus (intro hx; clear_value x)); rotate_left; subst x)
    | (extract_lets +onlyGivenNames x; refine State.Keeps.cut (p := State.Keeps z₀ x.1) ?_ ?_;
        (focus (intro hx; clear_value x)); rotate_left; subst x)
    | (extract_lets +onlyGivenNames x; clear_value x) | with_reducible apply Tkp.setSlot_keeps
    | with_reducible apply State.setFld_keeps | split
    | (with_reducible refine State.Keeps.mk_same _ rfl rfl rfl rfl rfl rfl rfl rfl ?_)

theorem Tkp.step_keeps {z₀ : State} (s : State) (h_s : State.Keeps z₀ s) :
    State.Keeps z₀ (Tkp.step s) := by
  unfold Tkp.step
  repeat' first
    | with_reducible assumption | (intro)
    | (extract_lets +onlyGivenNames x; refine State.Keeps.cut (p := State.Keeps z₀ x) ?_ ?_;
        (focus (intro hx; clear_value x)); rotate_left; subst x)
    | (extract_lets +onlyGivenNames x; clear_value x) | with_reducible apply Tkp.showTime_keeps
    | with_reducible apply State.shifted_keeps | with_reducible apply Tkp.moved_keeps
    | with_reducible apply State.setFlag_keeps | with_reducible apply Tkp.enter_keeps
    | with_reducible apply Tkp.steer_keeps | with_reducible apply State.incWrap_keeps
    | with_reducible apply State.foldl_keeps | with_reducible apply State.foldl1_keeps | split
    | (with_reducible refine State.Keeps.mk_same _ rfl rfl rfl rfl rfl rfl rfl rfl ?_)

theorem Tkp.enterWait_keeps {z₀ : State} (s : State) (h_s : State.Keeps z₀ s) :
    State.Keeps z₀ (Tkp.enterWait s) := by
  unfold Tkp.enterWait
  repeat' first
    | with_reducible assumption
    | (extract_lets +onlyGivenNames x; refine State.Keeps.cut (p := State.Keeps z₀ x) ?_ ?_;
        (focus (intro hx; clear_value x)); rotate_left; subst x)
    | (extract_lets +onlyGivenNames x; clear_value x) | with_reducible apply Tkp.setRun_keeps
    | with_reducible apply State.setFlag_keeps | with_reducible apply Tkp.enter_keeps
    | with_reducible apply Tkp.steer_keeps | split
    | (with_reducible refine State.Keeps.mk_same _ rfl rfl rfl rfl rfl rfl rfl rfl ?_)

theorem Tkp.autoSelect_keeps {z₀ : State} (s : State) (h_s : State.Keeps z₀ s) :
    State.Keeps z₀ (Tkp.autoSelect s) := by
  unfold Tkp.autoSelect
  repeat' first
    | with_reducible assumption | (intro)
    | (extract_lets +onlyGivenNames x; refine State.Keeps.cut (p := State.Keeps z₀ x) ?_ ?_;
        (focus (intro hx; clear_value x)); rotate_left; subst x)
    | (extract_lets +onlyGivenNames x; clear_value x) | with_reducible apply Tkp.select_keeps
    | with_reducible apply State.Keeps.ite | split

theorem Tkp.follow_keeps {z₀ : State} (s : State) (h_s : State.Keeps z₀ s) :
    State.Keeps z₀ (Tkp.follow s) := by
  unfold Tkp.follow
  repeat' first
    | with_reducible assumption | (intro)
    | (extract_lets +onlyGivenNames x; refine State.Keeps.cut (p := State.Keeps z₀ x) ?_ ?_;
        (focus (intro hx; clear_value x)); rotate_left; subst x)
    | (extract_lets +onlyGivenNames x; refine State.Keeps.cut (p := State.Keeps z₀ x.1) ?_ ?_;
        (focus (intro hx; clear_value x)); rotate_left; subst x)
    | (extract_lets +onlyGivenNames x; clear_value x) | with_reducible apply Tkp.step_keeps
    | with_reducible apply Tkp.enter_keeps | with_reducible apply State.setFlag_keeps
    | with_reducible apply Tkp.enterWait_keeps | with_reducible apply State.Keeps.ite | split
    | (with_reducible refine State.Keeps.mk_same _ rfl rfl rfl rfl rfl rfl rfl rfl ?_)

theorem Tkp.restepped_keeps {z₀ : State} (s : State) (h_s : State.Keeps z₀ s) :
    State.Keeps z₀ (Tkp.restepped s) := by
  unfold Tkp.restepped
  repeat' first
    | with_reducible assumption | with_reducible apply Tkp.offFar_keeps | with_reducible apply Tkp.follow_keeps
    | with_reducible apply Tkp.enterWait_keeps

theorem Tkp.marked_keeps {z₀ : State} (s : State) (root : Nat) (h_s : State.Keeps z₀ s) :
    State.Keeps z₀ (Tkp.marked s root) := by
  unfold Tkp.marked
  repeat' first
    | with_reducible assumption
    | (extract_lets +onlyGivenNames x; refine State.Keeps.cut (p := State.Keeps z₀ x) ?_ ?_;
        (focus (intro hx; clear_value x)); rotate_left; subst x)
    | (extract_lets +onlyGivenNames x; clear_value x) | with_reducible apply Tkp.advance_keeps
    | with_reducible apply State.setFld_keeps | split

theorem Tkp.eval_keeps {z₀ : State} (leftValid : Bool) (s : State) (h_s : State.Keeps z₀ s) :
    State.Keeps z₀ (Tkp.eval leftValid s) := by
  unfold Tkp.eval
  repeat' first
    | with_reducible assumption | (intro)
    | (extract_lets +onlyGivenNames x; refine State.Keeps.cut (p := State.Keeps z₀ x) ?_ ?_;
        (focus (intro hx; clear_value x)); rotate_left; subst x)
    | (extract_lets +onlyGivenNames x; clear_value x) | with_reducible apply Tkp.autoSelect_keeps
    | with_reducible apply Tkp.offFar_keeps | with_reducible apply Tkp.follow_keeps | with_reducible apply State.Keeps.ite
    | split

theorem Tkp.dom_keeps {z₀ : State} (s : State) (d st : Nat) (h_s : State.Keeps z₀ s) :
    State.Keeps z₀ (Tkp.dom s d st) := by
  unfold Tkp.dom
  repeat' first
    | with_reducible assumption
    | (extract_lets +onlyGivenNames x; refine State.Keeps.cut (p := State.Keeps z₀ x) ?_ ?_;
        (focus (intro hx; clear_value x)); rotate_left; subst x)
    | (extract_lets +onlyGivenNames x; refine State.Keeps.cut (p := State.Keeps z₀ x.1) ?_ ?_;
        (focus (intro hx; clear_value x)); rotate_left; subst x)
    | (extract_lets +onlyGivenNames x; clear_value x) | with_reducible apply Tkp.eval_keeps
    | with_reducible apply Tkp.enterDom_keeps | with_reducible apply Tkp.setSlot_keeps | split
    | (with_reducible refine State.Keeps.mk_same _ rfl rfl rfl rfl rfl rfl rfl rfl ?_)

theorem Tkp.enWritten_keeps {z₀ : State} (s : State) (d : Nat) (h_s : State.Keeps z₀ s) :
    State.Keeps z₀ (Tkp.enWritten s d) := by
  unfold Tkp.enWritten
  repeat' first
    | with_reducible assumption | (intro) | with_reducible apply Tkp.dom_keeps | with_reducible apply State.Keeps.ite
    | split

theorem Tkp.showMaster_keeps {z₀ : State} (s : State) (d : Nat) (m : ForeignMaster) (h_s : State.Keeps z₀ s) :
    State.Keeps z₀ (Tkp.showMaster s d m) := by
  unfold Tkp.showMaster
  repeat' first | with_reducible assumption | with_reducible apply State.setFld_keeps

theorem Tkp.announce_keeps {z₀ : State} (at_ : Nat) (m : ForeignMaster) (log : Int) (s : State) (d : Nat) (h_s : State.Keeps z₀
    s) :
    State.Keeps z₀ (Tkp.announce at_ m log s d) := by
  unfold Tkp.announce
  repeat' first
    | with_reducible assumption | (intro)
    | (extract_lets +onlyGivenNames x; refine State.Keeps.cut (p := State.Keeps z₀ x) ?_ ?_;
        (focus (intro hx; clear_value x)); rotate_left; subst x)
    | (extract_lets +onlyGivenNames x; refine State.Keeps.cut (p := State.Keeps z₀ x.1) ?_ ?_;
        (focus (intro hx; clear_value x)); rotate_left; subst x)
    | (extract_lets +onlyGivenNames x; clear_value x) | with_reducible apply Tkp.setSlot_keeps
    | with_reducible apply Tkp.showMaster_keeps | with_reducible apply Tkp.dom_keeps
    | with_reducible apply State.Keeps.ite | split
    | (with_reducible refine State.Keeps.mk_same _ rfl rfl rfl rfl rfl rfl rfl rfl ?_)

theorem execPtpAnnounce_keeps {z₀ : State} (p : PtpIn) (m : ForeignMaster) (log : Int) (s : State) (h_s : State.Keeps z₀ s) :
    State.Leads z₀ (execPtpAnnounce p m log s) := by
  unfold execPtpAnnounce
  repeat' first
    | with_reducible assumption | with_reducible apply State.Leads.next | with_reducible apply State.Leads.ite | (intro)
    | (extract_lets +onlyGivenNames x; refine State.Keeps.cut (p := State.Keeps z₀ x) ?_ ?_;
        (focus (intro hx; clear_value x)); rotate_left; subst x)
    | (extract_lets +onlyGivenNames x; clear_value x) | with_reducible apply Tkp.advance_keeps
    | with_reducible apply State.each_keeps | with_reducible apply Tkp.announce_keeps | split

theorem Tkp.servo_keeps {z₀ : State} (s : State) (d : Nat) (h_s : State.Keeps z₀ s) :
    State.Keeps z₀ (Tkp.servo s d) := by
  unfold Tkp.servo
  repeat' first
    | with_reducible assumption | (intro)
    | (extract_lets +onlyGivenNames x; refine State.Keeps.cut (p := State.Keeps z₀ x) ?_ ?_;
        (focus (intro hx; clear_value x)); rotate_left; subst x)
    | (extract_lets +onlyGivenNames x; clear_value x) | with_reducible apply Tkp.offFar_keeps
    | with_reducible apply Tkp.steer_keeps | with_reducible apply State.drew_keeps
    | with_reducible apply State.setFlag_keeps | with_reducible apply State.Keeps.ite | split

theorem Tkp.sample_keeps {z₀ : State} (s : State) (d : Nat) (t1 : Int) (t2 : Nat) (h_s : State.Keeps z₀ s) :
    State.Keeps z₀ (Tkp.sample s d t1 t2) := by
  unfold Tkp.sample
  repeat' first
    | with_reducible assumption | (intro)
    | (extract_lets +onlyGivenNames x; refine State.Keeps.cut (p := State.Keeps z₀ x) ?_ ?_;
        (focus (intro hx; clear_value x)); rotate_left; subst x)
    | (extract_lets +onlyGivenNames x; refine State.Keeps.cut (p := State.Keeps z₀ x.1) ?_ ?_;
        (focus (intro hx; clear_value x)); rotate_left; subst x)
    | (extract_lets +onlyGivenNames x; clear_value x) | with_reducible apply State.setFld_keeps
    | with_reducible apply Tkp.setSlot_keeps | with_reducible apply Tkp.dom_keeps | with_reducible apply Tkp.servo_keeps
    | with_reducible apply Tkp.eval_keeps | with_reducible apply State.drew_keeps | with_reducible apply State.Keeps.ite
    | split | (with_reducible refine State.Keeps.mk_same _ rfl rfl rfl rfl rfl rfl rfl rfl ?_)

theorem Tkp.sync_keeps {z₀ : State} (t2 seq src : Nat) (log : Int) (origin : Option Int) (corr : Int) (s : State) (d : Nat) (h_s
    : State.Keeps z₀ s) :
    State.Keeps z₀ (Tkp.sync t2 seq src log origin corr s d) := by
  unfold Tkp.sync
  repeat' first
    | with_reducible assumption | (intro)
    | (extract_lets +onlyGivenNames x; refine State.Keeps.cut (p := State.Keeps z₀ x) ?_ ?_;
        (focus (intro hx; clear_value x)); rotate_left; subst x)
    | (extract_lets +onlyGivenNames x; refine State.Keeps.cut (p := State.Keeps z₀ x.1) ?_ ?_;
        (focus (intro hx; clear_value x)); rotate_left; subst x)
    | (extract_lets +onlyGivenNames x; clear_value x) | with_reducible apply Tkp.dom_keeps
    | with_reducible apply State.incCnt_keeps | with_reducible apply Tkp.sample_keeps
    | with_reducible apply Tkp.setSlot_keeps | with_reducible apply State.Keeps.ite | split
    | (with_reducible refine State.Keeps.mk_same _ rfl rfl rfl rfl rfl rfl rfl rfl ?_)

theorem execPtpSync_keeps {z₀ : State} (p : PtpIn) (src seq : Nat) (log : Int) (origin : Option Int) (corr : Int) (s : State)
    (h_s : State.Keeps z₀ s) :
    State.Leads z₀ (execPtpSync p src seq log origin corr s) := by
  unfold execPtpSync
  repeat' first
    | with_reducible assumption | with_reducible apply State.Leads.next | with_reducible apply State.Leads.ite | (intro)
    | (extract_lets +onlyGivenNames x; refine State.Keeps.cut (p := State.Keeps z₀ x) ?_ ?_;
        (focus (intro hx; clear_value x)); rotate_left; subst x)
    | (extract_lets +onlyGivenNames x; clear_value x) | with_reducible apply Tkp.advance_keeps
    | with_reducible apply State.each_keeps | with_reducible apply Tkp.sync_keeps | split

theorem Tkp.followUp_keeps {z₀ : State} (seq src : Nat) (origin corr : Int) (s : State) (d : Nat) (h_s : State.Keeps z₀ s) :
    State.Keeps z₀ (Tkp.followUp seq src origin corr s d) := by
  unfold Tkp.followUp
  repeat' first
    | with_reducible assumption | (intro)
    | (extract_lets +onlyGivenNames x; refine State.Keeps.cut (p := State.Keeps z₀ x) ?_ ?_;
        (focus (intro hx; clear_value x)); rotate_left; subst x)
    | (extract_lets +onlyGivenNames x; refine State.Keeps.cut (p := State.Keeps z₀ x.1) ?_ ?_;
        (focus (intro hx; clear_value x)); rotate_left; subst x)
    | (extract_lets +onlyGivenNames x; clear_value x) | with_reducible apply Tkp.sample_keeps
    | with_reducible apply State.Keeps.ite | split
    | (with_reducible refine State.Keeps.mk_same _ rfl rfl rfl rfl rfl rfl rfl rfl ?_)

theorem execPtpFollowUp_keeps {z₀ : State} (p : PtpIn) (src seq : Nat) (origin corr : Int) (s : State) (h_s : State.Keeps z₀ s) :
    State.Leads z₀ (execPtpFollowUp p src seq origin corr s) := by
  unfold execPtpFollowUp
  repeat' first
    | with_reducible assumption | with_reducible apply State.Leads.next | with_reducible apply State.Leads.ite | (intro)
    | (extract_lets +onlyGivenNames x; refine State.Keeps.cut (p := State.Keeps z₀ x) ?_ ?_;
        (focus (intro hx; clear_value x)); rotate_left; subst x)
    | (extract_lets +onlyGivenNames x; clear_value x) | with_reducible apply Tkp.advance_keeps
    | with_reducible apply State.each_keeps | with_reducible apply Tkp.followUp_keeps | split

theorem Tkp.setMpd_keeps {z₀ : State} (s : State) (d : Nat) (v : Int) (h_s : State.Keeps z₀ s) :
    State.Keeps z₀ (Tkp.setMpd s d v) := by
  unfold Tkp.setMpd
  repeat' first
    | with_reducible assumption
    | (extract_lets +onlyGivenNames x; refine State.Keeps.cut (p := State.Keeps z₀ x) ?_ ?_;
        (focus (intro hx; clear_value x)); rotate_left; subst x)
    | (extract_lets +onlyGivenNames x; clear_value x) | with_reducible apply Tkp.setSlot_keeps
    | with_reducible apply State.setFld_keeps | split
    | (with_reducible refine State.Keeps.mk_same _ rfl rfl rfl rfl rfl rfl rfl rfl ?_)

theorem Tkp.delayResp_keeps {z₀ : State} (seq src : Nat) (t4 corr : Int) (s : State) (d : Nat) (h_s : State.Keeps z₀ s) :
    State.Keeps z₀ (Tkp.delayResp seq src t4 corr s d) := by
  unfold Tkp.delayResp
  repeat' first
    | with_reducible assumption | (intro)
    | (extract_lets +onlyGivenNames x; refine State.Keeps.cut (p := State.Keeps z₀ x) ?_ ?_;
        (focus (intro hx; clear_value x)); rotate_left; subst x)
    | (extract_lets +onlyGivenNames x; refine State.Keeps.cut (p := State.Keeps z₀ x.1) ?_ ?_;
        (focus (intro hx; clear_value x)); rotate_left; subst x)
    | (extract_lets +onlyGivenNames x; clear_value x) | with_reducible apply Tkp.setMpd_keeps
    | with_reducible apply State.Keeps.ite | split
    | (with_reducible refine State.Keeps.mk_same _ rfl rfl rfl rfl rfl rfl rfl rfl ?_)

theorem execPtpDelayResp_keeps {z₀ : State} (p : PtpIn) (src seq : Nat) (t4 corr : Int) (s : State) (h_s : State.Keeps z₀ s) :
    State.Leads z₀ (execPtpDelayResp p src seq t4 corr s) := by
  unfold execPtpDelayResp
  repeat' first
    | with_reducible assumption | with_reducible apply State.Leads.next | with_reducible apply State.Leads.ite | (intro)
    | (extract_lets +onlyGivenNames x; refine State.Keeps.cut (p := State.Keeps z₀ x) ?_ ?_;
        (focus (intro hx; clear_value x)); rotate_left; subst x)
    | (extract_lets +onlyGivenNames x; clear_value x) | with_reducible apply Tkp.advance_keeps
    | with_reducible apply State.each_keeps | with_reducible apply Tkp.delayResp_keeps | split

theorem Tkp.setTsq_keeps {z₀ : State} (s : State) (q : List (Word × Word)) (h_s : State.Keeps z₀ s) :
    State.Keeps z₀ (Tkp.setTsq s q) := by
  unfold Tkp.setTsq
  repeat' first
    | with_reducible assumption
    | (extract_lets +onlyGivenNames x; refine State.Keeps.cut (p := State.Keeps z₀ x) ?_ ?_;
        (focus (intro hx; clear_value x)); rotate_left; subst x)
    | (extract_lets +onlyGivenNames x; clear_value x) | with_reducible apply State.setFld_keeps
    | (with_reducible refine State.Keeps.mk_same _ rfl rfl rfl rfl rfl rfl rfl rfl ?_)

theorem Tkp.stampSent_keeps {z₀ : State} (s : State) (seq msgType port slot : Nat) (h_s : State.Keeps z₀ s) :
    State.Keeps z₀ (Tkp.stampSent s seq msgType port slot) := by
  unfold Tkp.stampSent
  repeat' first
    | with_reducible assumption | (intro)
    | (extract_lets +onlyGivenNames x; refine State.Keeps.cut (p := State.Keeps z₀ x) ?_ ?_;
        (focus (intro hx; clear_value x)); rotate_left; subst x)
    | (extract_lets +onlyGivenNames x; clear_value x) | with_reducible apply State.incCnt_keeps
    | with_reducible apply Tkp.setTsq_keeps | with_reducible apply State.fire_keeps
    | with_reducible apply State.setFire_keeps | with_reducible apply State.Keeps.ite
    | with_reducible apply State.Keeps.ite1 | split

theorem Tkp.pdelayResp_keeps {z₀ : State} (t4 seq : Nat) (t2 : Option Int) (corr : Int) (s : State) (d : Nat) (h_s : State.Keeps
    z₀ s) :
    State.Keeps z₀ (Tkp.pdelayResp t4 seq t2 corr s d) := by
  unfold Tkp.pdelayResp
  repeat' first
    | with_reducible assumption | (intro)
    | (extract_lets +onlyGivenNames x; refine State.Keeps.cut (p := State.Keeps z₀ x) ?_ ?_;
        (focus (intro hx; clear_value x)); rotate_left; subst x)
    | (extract_lets +onlyGivenNames x; refine State.Keeps.cut (p := State.Keeps z₀ x.1) ?_ ?_;
        (focus (intro hx; clear_value x)); rotate_left; subst x)
    | (extract_lets +onlyGivenNames x; clear_value x) | with_reducible apply Tkp.setSlot_keeps
    | with_reducible apply Tkp.setMpd_keeps | with_reducible apply State.Keeps.ite | split
    | (with_reducible refine State.Keeps.mk_same _ rfl rfl rfl rfl rfl rfl rfl rfl ?_)

theorem execPtpPdelayResp_keeps {z₀ : State} (p : PtpIn) (seq : Nat) (t2 : Option Int) (corr : Int) (s : State) (h_s :
    State.Keeps z₀ s) :
    State.Leads z₀ (execPtpPdelayResp p seq t2 corr s) := by
  unfold execPtpPdelayResp
  repeat' first
    | with_reducible assumption | with_reducible apply State.Leads.next | with_reducible apply State.Leads.ite | (intro)
    | (extract_lets +onlyGivenNames x; refine State.Keeps.cut (p := State.Keeps z₀ x) ?_ ?_;
        (focus (intro hx; clear_value x)); rotate_left; subst x)
    | (extract_lets +onlyGivenNames x; clear_value x) | with_reducible apply Tkp.advance_keeps
    | with_reducible apply State.each_keeps | with_reducible apply Tkp.pdelayResp_keeps | split

theorem Tkp.pdelayFollow_keeps {z₀ : State} (seq : Nat) (t3 corr : Int) (s : State) (d : Nat) (h_s : State.Keeps z₀ s) :
    State.Keeps z₀ (Tkp.pdelayFollow seq t3 corr s d) := by
  unfold Tkp.pdelayFollow
  repeat' first
    | with_reducible assumption | (intro)
    | (extract_lets +onlyGivenNames x; refine State.Keeps.cut (p := State.Keeps z₀ x) ?_ ?_;
        (focus (intro hx; clear_value x)); rotate_left; subst x)
    | (extract_lets +onlyGivenNames x; refine State.Keeps.cut (p := State.Keeps z₀ x.1) ?_ ?_;
        (focus (intro hx; clear_value x)); rotate_left; subst x)
    | (extract_lets +onlyGivenNames x; clear_value x) | with_reducible apply Tkp.setMpd_keeps
    | with_reducible apply State.Keeps.ite | split
    | (with_reducible refine State.Keeps.mk_same _ rfl rfl rfl rfl rfl rfl rfl rfl ?_)

theorem execPtpPdelayRespFollowUp_keeps {z₀ : State} (p : PtpIn) (seq : Nat) (t3 corr : Int) (s : State) (h_s : State.Keeps z₀
    s) :
    State.Leads z₀ (execPtpPdelayRespFollowUp p seq t3 corr s) := by
  unfold execPtpPdelayRespFollowUp
  repeat' first
    | with_reducible assumption | with_reducible apply State.Leads.next | with_reducible apply State.Leads.ite | (intro)
    | (extract_lets +onlyGivenNames x; refine State.Keeps.cut (p := State.Keeps z₀ x) ?_ ?_;
        (focus (intro hx; clear_value x)); rotate_left; subst x)
    | (extract_lets +onlyGivenNames x; clear_value x) | with_reducible apply Tkp.advance_keeps
    | with_reducible apply State.each_keeps | with_reducible apply Tkp.pdelayFollow_keeps | split

theorem execDomainLoss_keeps {z₀ : State} (slot : Nat) (s : State) (h_s : State.Keeps z₀ s) :
    State.Leads z₀ (execDomainLoss slot s) := by
  unfold execDomainLoss
  repeat' first
    | with_reducible assumption | with_reducible apply State.Leads.next | with_reducible apply State.Leads.ite | (intro)
    | with_reducible apply Tkp.dom_keeps | with_reducible apply State.Keeps.ite | split

theorem execFreeTimeout_keeps {z₀ : State} (s : State) (h_s : State.Keeps z₀ s) :
    State.Leads z₀ (execFreeTimeout s) := by
  unfold execFreeTimeout
  repeat' first
    | with_reducible assumption | with_reducible apply State.Leads.next | with_reducible apply State.Leads.ite | (intro)
    | (extract_lets +onlyGivenNames x; refine State.Keeps.cut (p := State.Keeps z₀ x) ?_ ?_;
        (focus (intro hx; clear_value x)); rotate_left; subst x)
    | (extract_lets +onlyGivenNames x; clear_value x) | with_reducible apply Tkp.enter_keeps
    | with_reducible apply State.setFlag_keeps | with_reducible apply State.incWrap_keeps
    | with_reducible apply State.Keeps.ite | split
    | (with_reducible refine State.Keeps.mk_same _ rfl rfl rfl rfl rfl rfl rfl rfl ?_)

theorem execTscWrap_keeps {z₀ : State} (s : State) (h_s : State.Keeps z₀ s) :
    State.Leads z₀ (execTscWrap s) := by
  unfold execTscWrap
  repeat' first
    | with_reducible assumption | with_reducible apply State.Leads.next | with_reducible apply State.Leads.ite
    | with_reducible apply Tkp.advance_keeps

theorem Bar.restep_keeps {z₀ : State} (s : State) (h_s : State.Keeps z₀ s) :
    State.Keeps z₀ (Bar.restep s) := by
  unfold Bar.restep
  repeat' first
    | with_reducible assumption | (intro)
    | (extract_lets +onlyGivenNames x; refine State.Keeps.cut (p := State.Keeps z₀ x) ?_ ?_;
        (focus (intro hx; clear_value x)); rotate_left; subst x)
    | (extract_lets +onlyGivenNames x; clear_value x) | with_reducible apply State.Keeps.ite | split
    | (with_reducible refine State.Keeps.mk_same _ rfl rfl rfl rfl rfl rfl rfl rfl ?_)

theorem execRestep_keeps {z₀ : State} (s : State) (h_s : State.Keeps z₀ s) :
    State.Leads z₀ (execRestep s) := by
  unfold execRestep
  repeat' first
    | with_reducible assumption | with_reducible apply State.Leads.next | with_reducible apply State.Leads.ite
    | with_reducible apply State.bar_keeps | with_reducible apply Bar.restep_keeps

theorem Bar.snap_keeps {z₀ : State} (at_ : Nat) (s : State) (h_s : State.Keeps z₀ s) :
    State.Keeps z₀ (Bar.snap at_ s) := by
  unfold Bar.snap
  repeat' first
    | with_reducible assumption | (intro)
    | (extract_lets +onlyGivenNames x; refine State.Keeps.cut (p := State.Keeps z₀ x) ?_ ?_;
        (focus (intro hx; clear_value x)); rotate_left; subst x)
    | (extract_lets +onlyGivenNames x; clear_value x) | with_reducible apply Tkp.advance_keeps
    | with_reducible apply State.setFld_keeps | with_reducible apply State.Keeps.ite | split

theorem execSnap_keeps {z₀ : State} (at_ : Nat) (s : State) (h_s : State.Keeps z₀ s) :
    State.Leads z₀ (execSnap at_ s) := by
  unfold execSnap
  repeat' first
    | with_reducible assumption | with_reducible apply State.Leads.next | with_reducible apply State.Leads.ite
    | with_reducible apply State.bar_keeps | with_reducible apply Bar.snap_keeps

theorem Bar.selWrite_keeps {z₀ : State} (sel : Nat) (s : State) (h_s : State.Keeps z₀ s) :
    State.Keeps z₀ (Bar.selWrite sel s) := by
  unfold Bar.selWrite
  repeat' first
    | with_reducible assumption | (intro)
    | (extract_lets +onlyGivenNames x; refine State.Keeps.cut (p := State.Keeps z₀ x) ?_ ?_;
        (focus (intro hx; clear_value x)); rotate_left; subst x)
    | (extract_lets +onlyGivenNames x; clear_value x) | with_reducible apply State.setFld_keeps
    | with_reducible apply Tkp.eval_keeps | with_reducible apply Tkp.select_keeps | with_reducible apply State.Keeps.ite
    | split

theorem execSelWrite_keeps {z₀ : State} (sel : Nat) (s : State) (h_s : State.Keeps z₀ s) :
    State.Leads z₀ (execSelWrite sel s) := by
  unfold execSelWrite
  repeat' first
    | with_reducible assumption | with_reducible apply State.Leads.next | with_reducible apply State.Leads.ite
    | with_reducible apply State.bar_keeps | with_reducible apply Bar.selWrite_keeps

theorem Tkp.popTsq_keeps {z₀ : State} (s : State) (h_s : State.Keeps z₀ s) :
    State.Keeps z₀ (Tkp.popTsq s).1 := by
  unfold Tkp.popTsq
  repeat' first
    | with_reducible assumption
    | (extract_lets +onlyGivenNames x; refine State.Keeps.cut (p := State.Keeps z₀ x) ?_ ?_;
        (focus (intro hx; clear_value x)); rotate_left; subst x)
    | (extract_lets +onlyGivenNames x; refine State.Keeps.cut (p := State.Keeps z₀ x.1) ?_ ?_;
        (focus (intro hx; clear_value x)); rotate_left; subst x)
    | (extract_lets +onlyGivenNames x; clear_value x) | with_reducible apply State.setReg_keeps
    | with_reducible apply Tkp.setTsq_keeps | with_reducible apply State.Keeps.ite1 | split
    | (with_reducible refine State.Keeps.mk_same _ rfl rfl rfl rfl rfl rfl rfl rfl ?_)

theorem Bar.tkpTsqTsRead_keeps {z₀ : State} (s : State) (h_s : State.Keeps z₀ s) :
    State.Keeps z₀ (Bar.tkpTsqTsRead s) := by
  unfold Bar.tkpTsqTsRead
  repeat' first
    | with_reducible assumption
    | (extract_lets +onlyGivenNames x; refine State.Keeps.cut (p := State.Keeps z₀ x) ?_ ?_;
        (focus (intro hx; clear_value x)); rotate_left; subst x)
    | (extract_lets +onlyGivenNames x; refine State.Keeps.cut (p := State.Keeps z₀ x.1) ?_ ?_;
        (focus (intro hx; clear_value x)); rotate_left; subst x)
    | (extract_lets +onlyGivenNames x; clear_value x) | with_reducible apply Tkp.popTsq_keeps
    | with_reducible apply State.send_keeps | split

theorem execTkpTsqTsRead_keeps {z₀ : State} (s : State) (h_s : State.Keeps z₀ s) :
    State.Leads z₀ (execTkpTsqTsRead s) := by
  unfold execTkpTsqTsRead
  repeat' first
    | with_reducible assumption | with_reducible apply State.Leads.next | with_reducible apply State.Leads.ite
    | with_reducible apply State.bar_keeps | with_reducible apply Bar.tkpTsqTsRead_keeps

end Tkp

section Egress

theorem Nsw.setPort_keeps {z₀ : State} (s : State) (p : Nat) (x : EgPort) (h_s : State.Keeps z₀ s) :
    State.Keeps z₀ (Nsw.setPort s p x) := by
  unfold Nsw.setPort
  repeat' first
    | with_reducible assumption
    | (extract_lets +onlyGivenNames x; refine State.Keeps.cut (p := State.Keeps z₀ x) ?_ ?_;
        (focus (intro hx; clear_value x)); rotate_left; subst x)
    | (extract_lets +onlyGivenNames x; clear_value x)
    | (with_reducible refine State.Keeps.mk_same _ rfl rfl rfl rfl rfl rfl rfl rfl ?_)

theorem Nsw.count_keeps {z₀ : State} (s : State) (f : Fld) (h_s : State.Keeps z₀ s) :
    State.Keeps z₀ (Nsw.count s f) := by
  unfold Nsw.count
  repeat' first
    | with_reducible assumption | (intro)
    | (extract_lets +onlyGivenNames x; refine State.Keeps.cut (p := State.Keeps z₀ x) ?_ ?_;
        (focus (intro hx; clear_value x)); rotate_left; subst x)
    | (extract_lets +onlyGivenNames x; clear_value x) | with_reducible apply State.incCnt_keeps
    | with_reducible apply State.when_keeps | with_reducible apply State.fire_keeps | split

theorem Egress.advance_keeps {z₀ : State} (s : State) (ports : List Nat) (h_s : State.Keeps z₀ s) :
    State.Keeps z₀ (Egress.advance s ports) := by
  unfold Egress.advance
  repeat' first
    | with_reducible assumption | (intro)
    | (extract_lets +onlyGivenNames x; refine State.Keeps.cut (p := State.Keeps z₀ x) ?_ ?_;
        (focus (intro hx; clear_value x)); rotate_left; subst x)
    | (extract_lets +onlyGivenNames x; clear_value x) | with_reducible apply State.each_keeps
    | with_reducible apply State.Keeps.ite | split
    | (with_reducible refine State.Keeps.mk_same _ rfl rfl rfl rfl rfl rfl rfl rfl ?_)

theorem Egress.enqueue_keeps {z₀ : State} (s : State) (p q len : Nat) (red : Option Nat) (head : Option EgHead) (body : EgBody)
    (h_s : State.Keeps z₀ s) :
    State.Keeps z₀ (Egress.enqueue s p q len red head body).1 := by
  unfold Egress.enqueue
  repeat' first
    | with_reducible assumption | (intro)
    | (extract_lets +onlyGivenNames x; refine State.Keeps.cut (p := State.Keeps z₀ x) ?_ ?_;
        (focus (intro hx; clear_value x)); rotate_left; subst x)
    | (extract_lets +onlyGivenNames x; clear_value x) | with_reducible apply Nsw.setPort_keeps
    | with_reducible apply Nsw.count_keeps | with_reducible apply State.Keeps.ite | with_reducible apply State.Keeps.ite1
    | split | (with_reducible refine State.Keeps.mk_same _ rfl rfl rfl rfl rfl rfl rfl rfl ?_)

theorem Egress.started_keeps {z₀ : State} (s : State) (p : Nat) (body : EgBody) (h_s : State.Keeps z₀ s) :
    State.Keeps z₀ (Egress.started s p body) := by
  unfold Egress.started
  repeat' first
    | with_reducible assumption | (intro)
    | (extract_lets +onlyGivenNames x; refine State.Keeps.cut (p := State.Keeps z₀ x) ?_ ?_;
        (focus (intro hx; clear_value x)); rotate_left; subst x)
    | (extract_lets +onlyGivenNames x; refine State.Keeps.cut (p := State.Keeps z₀ x.1) ?_ ?_;
        (focus (intro hx; clear_value x)); rotate_left; subst x)
    | (extract_lets +onlyGivenNames x; clear_value x) | with_reducible apply Tkp.stampSent_keeps
    | with_reducible apply Egress.enqueue_keeps | with_reducible apply Egress.advance_keeps
    | with_reducible apply Tkp.setSlot_keeps | with_reducible apply State.Keeps.ite
    | with_reducible apply State.Keeps.ite1 | split
    | (with_reducible refine State.Keeps.mk_same _ rfl rfl rfl rfl rfl rfl rfl rfl ?_)

theorem Egress.kick_keeps {z₀ : State} (s : State) (p : Nat) (h_s : State.Keeps z₀ s) :
    State.Keeps z₀ (Egress.kick s p) := by
  unfold Egress.kick
  repeat' first
    | with_reducible assumption | (intro)
    | (extract_lets +onlyGivenNames x; refine State.Keeps.cut (p := State.Keeps z₀ x) ?_ ?_;
        (focus (intro hx; clear_value x)); rotate_left; subst x)
    | (extract_lets +onlyGivenNames x; refine State.Keeps.cut (p := State.Keeps z₀ x.1) ?_ ?_;
        (focus (intro hx; clear_value x)); rotate_left; subst x)
    | (extract_lets +onlyGivenNames x; clear_value x) | with_reducible apply Egress.started_keeps
    | with_reducible apply Nsw.setPort_keeps | with_reducible apply State.Keeps.ite | split
    | (with_reducible refine State.Keeps.mk_same _ rfl rfl rfl rfl rfl rfl rfl rfl ?_)

theorem Egress.accept_keeps {z₀ : State} (s : State) (p q len : Nat) (red : Option Nat) (head : Option EgHead) (body : EgBody)
    (h_s : State.Keeps z₀ s) :
    State.Keeps z₀ (Egress.accept s p q len red head body).1 := by
  unfold Egress.accept
  repeat' first
    | with_reducible assumption | (intro)
    | (extract_lets +onlyGivenNames x; refine State.Keeps.cut (p := State.Keeps z₀ x) ?_ ?_;
        (focus (intro hx; clear_value x)); rotate_left; subst x)
    | (extract_lets +onlyGivenNames x; refine State.Keeps.cut (p := State.Keeps z₀ x.1) ?_ ?_;
        (focus (intro hx; clear_value x)); rotate_left; subst x)
    | (extract_lets +onlyGivenNames x; clear_value x) | with_reducible apply Egress.enqueue_keeps
    | with_reducible apply Egress.kick_keeps | with_reducible apply State.Keeps.ite
    | with_reducible apply State.Keeps.ite1 | split

theorem Egress.admitRing_keeps {z₀ : State} (s : State) (p q : Nat) (f : NetFrame) (h_s : State.Keeps z₀ s) :
    State.Keeps z₀ (Egress.admitRing s p q f).1 := by
  unfold Egress.admitRing
  repeat' first
    | with_reducible assumption | (intro)
    | (extract_lets +onlyGivenNames x; refine State.Keeps.cut (p := State.Keeps z₀ x) ?_ ?_;
        (focus (intro hx; clear_value x)); rotate_left; subst x)
    | (extract_lets +onlyGivenNames x; refine State.Keeps.cut (p := State.Keeps z₀ x.1) ?_ ?_;
        (focus (intro hx; clear_value x)); rotate_left; subst x)
    | (extract_lets +onlyGivenNames x; clear_value x) | with_reducible apply Egress.accept_keeps
    | with_reducible apply State.Keeps.ite | with_reducible apply State.Keeps.ite1 | split

theorem Egress.sendOn_keeps {z₀ : State} (s : State) (ports : List Nat) (q len : Nat) (head : EgHead) (body : EgBody) (h_s :
    State.Keeps z₀ s) :
    State.Keeps z₀ (Egress.sendOn s ports q len head body).1 := by
  unfold Egress.sendOn
  repeat' first
    | with_reducible assumption | (intro)
    | (extract_lets +onlyGivenNames x; refine State.Keeps.cut (p := State.Keeps z₀ x) ?_ ?_;
        (focus (intro hx; clear_value x)); rotate_left; subst x)
    | (extract_lets +onlyGivenNames x; refine State.Keeps.cut (p := State.Keeps z₀ x.1) ?_ ?_;
        (focus (intro hx; clear_value x)); rotate_left; subst x)
    | (extract_lets +onlyGivenNames x; clear_value x) | with_reducible apply Egress.accept_keeps
    | with_reducible apply Egress.advance_keeps | with_reducible apply State.foldl_keeps
    | with_reducible apply State.foldl1_keeps | with_reducible apply State.Keeps.ite
    | with_reducible apply State.Keeps.ite1 | split

theorem Egress.send_keeps {z₀ : State} (s : State) (mask q len : Nat) (head : EgHead) (body : EgBody) (h_s : State.Keeps z₀ s) :
    State.Keeps z₀ (Egress.send s mask q len head body).1 := by
  unfold Egress.send
  repeat' first
    | with_reducible assumption | with_reducible apply Egress.sendOn_keeps | with_reducible apply State.Keeps.ite1

theorem Egress.sendCp_keeps {z₀ : State} (s : State) (mask len dmac : Nat) (ip : Option IpHead) (body : EgBody) (h_s :
    State.Keeps z₀ s) :
    State.Keeps z₀ (Egress.sendCp s mask len dmac ip body) := by
  unfold Egress.sendCp
  repeat' first | with_reducible assumption | with_reducible apply Egress.send_keeps | with_reducible apply State.send_keeps

theorem Egress.sendPtp_keeps {z₀ : State} (s : State) (d typ seq dom : Nat) (time : Option Nat) (h_s : State.Keeps z₀ s) :
    State.Keeps z₀ (Egress.sendPtp s d typ seq dom time) := by
  unfold Egress.sendPtp
  repeat' first
    | with_reducible assumption | (intro) | with_reducible apply Egress.sendOn_keeps
    | with_reducible apply State.Keeps.ite | with_reducible apply State.Keeps.ite1 | split

theorem Nsw.path_keeps {z₀ : State} (s : State) (p : Nat) (h_s : State.Keeps z₀ s) :
    State.Keeps z₀ (Nsw.path s p) := by
  unfold Nsw.path
  repeat' first
    | with_reducible assumption | (intro)
    | (extract_lets +onlyGivenNames x; refine State.Keeps.cut (p := State.Keeps z₀ x) ?_ ?_;
        (focus (intro hx; clear_value x)); rotate_left; subst x)
    | (extract_lets +onlyGivenNames x; clear_value x) | with_reducible apply State.setFlag_keeps
    | with_reducible apply State.fire_keeps | with_reducible apply State.Keeps.ite | split

theorem Nsw.link_keeps {z₀ : State} (s : State) (p : Nat) (h_s : State.Keeps z₀ s) :
    State.Keeps z₀ (Nsw.link s p) := by
  unfold Nsw.link
  repeat' first
    | with_reducible assumption | (intro)
    | (extract_lets +onlyGivenNames x; refine State.Keeps.cut (p := State.Keeps z₀ x) ?_ ?_;
        (focus (intro hx; clear_value x)); rotate_left; subst x)
    | (extract_lets +onlyGivenNames x; clear_value x) | with_reducible apply State.setFlag_keeps
    | with_reducible apply Egress.kick_keeps | with_reducible apply Nsw.path_keeps | with_reducible apply State.fire_keeps
    | with_reducible apply State.Keeps.ite | split

theorem execLinkChange_keeps {z₀ : State} (port : Nat) (block fec loc rem : Bool) (s : State) (h_s : State.Keeps z₀ s) :
    State.Leads z₀ (execLinkChange port block fec loc rem s) := by
  unfold execLinkChange
  repeat' first
    | with_reducible assumption | with_reducible apply State.Leads.next | with_reducible apply State.Leads.ite | (intro)
    | (extract_lets +onlyGivenNames x; refine State.Keeps.cut (p := State.Keeps z₀ x) ?_ ?_;
        (focus (intro hx; clear_value x)); rotate_left; subst x)
    | (extract_lets +onlyGivenNames x; clear_value x) | with_reducible apply Nsw.setPort_keeps
    | with_reducible apply Nsw.link_keeps | with_reducible apply State.setFlag_keeps
    | with_reducible apply State.Keeps.ite | split
    | (with_reducible refine State.Keeps.mk_same _ rfl rfl rfl rfl rfl rfl rfl rfl ?_)

theorem execPathTimeout_keeps {z₀ : State} (port : Nat) (s : State) (h_s : State.Keeps z₀ s) :
    State.Leads z₀ (execPathTimeout port s) := by
  unfold execPathTimeout
  repeat' first
    | with_reducible assumption | with_reducible apply State.Leads.next | with_reducible apply State.Leads.ite | (intro)
    | (extract_lets +onlyGivenNames x; refine State.Keeps.cut (p := State.Keeps z₀ x) ?_ ?_;
        (focus (intro hx; clear_value x)); rotate_left; subst x)
    | (extract_lets +onlyGivenNames x; clear_value x) | with_reducible apply Nsw.path_keeps
    | with_reducible apply Nsw.setPort_keeps | with_reducible apply State.Keeps.ite | split
    | (with_reducible refine State.Keeps.mk_same _ rfl rfl rfl rfl rfl rfl rfl rfl ?_)

theorem execEgressFrameSent_keeps {z₀ : State} (at_ port : Nat) (s : State) (h_s : State.Keeps z₀ s) :
    State.Leads z₀ (execEgressFrameSent at_ port s) := by
  unfold execEgressFrameSent
  repeat' first
    | with_reducible assumption | with_reducible apply State.Leads.next | with_reducible apply State.Leads.ite | (intro)
    | (extract_lets +onlyGivenNames x; refine State.Keeps.cut (p := State.Keeps z₀ x) ?_ ?_;
        (focus (intro hx; clear_value x)); rotate_left; subst x)
    | (extract_lets +onlyGivenNames x; refine State.Keeps.cut (p := State.Keeps z₀ x.1) ?_ ?_;
        (focus (intro hx; clear_value x)); rotate_left; subst x)
    | (extract_lets +onlyGivenNames x; clear_value x) | with_reducible apply Tkp.advance_keeps
    | with_reducible apply Nsw.setPort_keeps | with_reducible apply Nsw.count_keeps
    | with_reducible apply State.send_keeps | with_reducible apply Egress.kick_keeps
    | with_reducible apply State.Keeps.ite | split
    | (with_reducible refine State.Keeps.mk_same _ rfl rfl rfl rfl rfl rfl rfl rfl ?_)

theorem execSupervisionFrameSend_keeps {z₀ : State} (pair : Nat) (s : State) (h_s : State.Keeps z₀ s) :
    State.Leads z₀ (execSupervisionFrameSend pair s) := by
  unfold execSupervisionFrameSend
  repeat' first
    | with_reducible assumption | with_reducible apply State.Leads.next | with_reducible apply State.Leads.ite | (intro)
    | with_reducible apply Egress.sendCp_keeps | with_reducible apply State.Keeps.ite | split

theorem execDuplicateEntryExpiry_keeps {z₀ : State} (pair src seq : Nat) (s : State) (h_s : State.Keeps z₀ s) :
    State.Leads z₀ (execDuplicateEntryExpiry pair src seq s) := by
  unfold execDuplicateEntryExpiry
  repeat' first
    | with_reducible assumption | with_reducible apply State.Leads.next | with_reducible apply State.Leads.ite | (intro)
    | (extract_lets +onlyGivenNames x; refine State.Keeps.cut (p := State.Keeps z₀ x) ?_ ?_;
        (focus (intro hx; clear_value x)); rotate_left; subst x)
    | (extract_lets +onlyGivenNames x; refine State.Keeps.cut (p := State.Keeps z₀ x.1) ?_ ?_;
        (focus (intro hx; clear_value x)); rotate_left; subst x)
    | (extract_lets +onlyGivenNames x; clear_value x) | with_reducible apply State.setFld_keeps
    | with_reducible apply State.Keeps.ite | with_reducible apply State.Keeps.ite1 | split
    | (with_reducible refine State.Keeps.mk_same _ rfl rfl rfl rfl rfl rfl rfl rfl ?_)

theorem execPtpDelayReqSend_keeps {z₀ : State} (at_ slot : Nat) (s : State) (h_s : State.Keeps z₀ s) :
    State.Leads z₀ (execPtpDelayReqSend at_ slot s) := by
  unfold execPtpDelayReqSend
  repeat' first
    | with_reducible assumption | with_reducible apply State.Leads.next | with_reducible apply State.Leads.ite | (intro)
    | (extract_lets +onlyGivenNames x; refine State.Keeps.cut (p := State.Keeps z₀ x) ?_ ?_;
        (focus (intro hx; clear_value x)); rotate_left; subst x)
    | (extract_lets +onlyGivenNames x; clear_value x) | with_reducible apply Tkp.advance_keeps
    | with_reducible apply Tkp.setSlot_keeps | with_reducible apply Egress.sendPtp_keeps
    | with_reducible apply State.Keeps.ite | split
    | (with_reducible refine State.Keeps.mk_same _ rfl rfl rfl rfl rfl rfl rfl rfl ?_)

theorem Tkp.pdelayReq_keeps {z₀ : State} (t2 seq dom : Nat) (s : State) (d : Nat) (h_s : State.Keeps z₀ s) :
    State.Keeps z₀ (Tkp.pdelayReq t2 seq dom s d) := by
  unfold Tkp.pdelayReq
  repeat' first
    | with_reducible assumption | (intro) | with_reducible apply Egress.sendPtp_keeps
    | with_reducible apply State.Keeps.ite | split

theorem execPtpPdelayReq_keeps {z₀ : State} (p : PtpIn) (reply seq : Nat) (s : State) (h_s : State.Keeps z₀ s) :
    State.Leads z₀ (execPtpPdelayReq p reply seq s) := by
  unfold execPtpPdelayReq
  repeat' first
    | with_reducible assumption | with_reducible apply State.Leads.next | with_reducible apply State.Leads.ite | (intro)
    | (extract_lets +onlyGivenNames x; refine State.Keeps.cut (p := State.Keeps z₀ x) ?_ ?_;
        (focus (intro hx; clear_value x)); rotate_left; subst x)
    | (extract_lets +onlyGivenNames x; clear_value x) | with_reducible apply Tkp.advance_keeps
    | with_reducible apply State.each_keeps | with_reducible apply Tkp.pdelayReq_keeps | split

end Egress

section Nsw

theorem Nsw.redCheck_keeps {z₀ : State} (s : State) (port : Nat) (f : NetFrame) (h_s : State.Keeps z₀ s) :
    State.Keeps z₀ (Nsw.redCheck s port f).state := by
  unfold Nsw.redCheck
  extract_lets q o s1
  split
  · exact h_s
  · next seq lanB _ =>
    extract_lets s2 n s3
    have h1 : State.Keeps z₀ s1 := Nsw.path_keeps _ _ (Nsw.setPort_keeps _ _ _ h_s)
    clear_value s1
    have h2 : State.Keeps z₀ s2 := State.when_keeps _ _ (fun t h => Nsw.count_keeps _ _ h) h1
    clear_value s2
    split
    · split
      · exact h2
      · exact Nsw.count_keeps _ _ h2
    · split
      · exact Nsw.count_keeps _ _ h2
      · exact State.setFld_keeps _ _ _ (State.Keeps.same s2 rfl rfl rfl rfl rfl rfl rfl rfl h2)

theorem Nsw.deliver_keeps {z₀ : State} (s : State) (at_ : Nat) (f : NetFrame) (t : State) (e : Nsw.deliver s at_ f = some t)
    (h_s : State.Keeps z₀ s) : State.Keeps z₀ t := by
  have k : ∀ l, State.Keeps z₀ { s with nsw := { s.nsw with engine := l } } := fun l => State.Keeps.same s rfl rfl rfl rfl rfl
      rfl rfl rfl h_s
  have h (o : Option State) (ho : o = some t) (hk : ∀ u, o = some u → State.Keeps z₀ u) : State.Keeps z₀ t := hk t ho
  refine h _ e ?_
  intro u
  unfold Nsw.deliver
  extract_lets tag
  split
  · split
    · intro e; cases e; exact k _
    · intro e; cases e
  · intro e; cases e; exact h_s
  · intro e; cases e; exact h_s
  · intro e; cases e; exact h_s
  · split
    · intro e; cases e; exact h_s
    · intro e; cases e
  · intro e; cases e

theorem Nsw.receive_keeps {z₀ : State} (s : State) (port at_ : Nat) (f : NetFrame) (h_s : State.Keeps z₀ s) :
    State.Keeps z₀ (Nsw.receive s port at_ f) := by
  unfold Nsw.receive
  extract_lets mode s1 r fwd q other s2
  refine State.Keeps.ite (fun _ => Nsw.count_keeps _ _ h_s) (fun _ => ?_)
  have h1 : State.Keeps z₀ s1 := Nsw.count_keeps _ _ h_s
  clear_value s1
  refine State.Keeps.ite (fun _ => Nsw.count_keeps _ _ h1) (fun _ => ?_)
  have hr : State.Keeps z₀ r.state := by
    unfold r
    split
    · exact h1
    · exact Nsw.redCheck_keeps _ _ _ h1
  clear_value r
  refine State.Keeps.ite (fun _ => hr) (fun _ => ?_)
  have h2 : State.Keeps z₀ s2 := State.when_keeps _ _ (fun t h => Egress.admitRing_keeps _ _ _ _ h) hr
  clear_value s2
  split
  · next t e => exact Nsw.deliver_keeps _ _ _ _ e h2
  · exact State.when_keeps _ _ (fun t h => Nsw.count_keeps _ _ h) h2

theorem Nsw.crossing_keeps {z₀ : State} (s : State) (port : Nat) (lost : Bool) (f : NetFrame) (h_s : State.Keeps z₀ s) :
    State.Keeps z₀ (Nsw.crossing s port lost f).1 := by
  unfold Nsw.crossing
  repeat' first
    | with_reducible assumption | (intro)
    | (extract_lets +onlyGivenNames x; refine State.Keeps.cut (p := State.Keeps z₀ x) ?_ ?_;
        (focus (intro hx; clear_value x)); rotate_left; subst x)
    | (extract_lets +onlyGivenNames x; clear_value x) | with_reducible apply Clk.overrun_keeps
    | with_reducible apply State.Keeps.ite | with_reducible apply State.Keeps.ite1 | split
    | (with_reducible refine State.Keeps.mk_same _ rfl rfl rfl rfl rfl rfl rfl rfl ?_)

theorem execNetworkFrameReceived_keeps {z₀ : State} (port at_ : Nat) (lost : Bool) (f : NetFrame) (s : State) (h_s : State.Keeps
    z₀ s) :
    State.Leads z₀ (execNetworkFrameReceived port at_ lost f s) := by
  unfold execNetworkFrameReceived
  repeat' first
    | with_reducible assumption | with_reducible apply State.Leads.next | with_reducible apply State.Leads.ite | (intro)
    | (extract_lets +onlyGivenNames x; refine State.Keeps.cut (p := State.Keeps z₀ x) ?_ ?_;
        (focus (intro hx; clear_value x)); rotate_left; subst x)
    | (extract_lets +onlyGivenNames x; refine State.Keeps.cut (p := State.Keeps z₀ x.1) ?_ ?_;
        (focus (intro hx; clear_value x)); rotate_left; subst x)
    | (extract_lets +onlyGivenNames x; clear_value x) | with_reducible apply Nsw.crossing_keeps
    | with_reducible apply Nsw.receive_keeps | with_reducible apply State.Keeps.ite
    | with_reducible apply State.Keeps.ite1 | split

theorem Nsw.setRec_keeps {z₀ : State} (s : State) (i : Nat) (x : SiRec) (h_s : State.Keeps z₀ s) :
    State.Keeps z₀ (Nsw.setRec s i x) := by
  unfold Nsw.setRec
  repeat' first
    | with_reducible assumption
    | (extract_lets +onlyGivenNames x; refine State.Keeps.cut (p := State.Keeps z₀ x) ?_ ?_;
        (focus (intro hx; clear_value x)); rotate_left; subst x)
    | (extract_lets +onlyGivenNames x; clear_value x)
    | (with_reducible refine State.Keeps.mk_same _ rfl rfl rfl rfl rfl rfl rfl rfl ?_)

theorem Nsw.writeSample_keeps {z₀ : State} (s : State) (i : Nat) (p : AudioPkt) (c : Nat) (n : Nat) (h_s : State.Keeps z₀ s) :
    State.Keeps z₀ (Nsw.writeSample s i p c n) := by
  unfold Nsw.writeSample
  repeat' first
    | with_reducible assumption | (intro)
    | (extract_lets +onlyGivenNames x; refine State.Keeps.cut (p := State.Keeps z₀ x) ?_ ?_;
        (focus (intro hx; clear_value x)); rotate_left; subst x)
    | (extract_lets +onlyGivenNames x; refine State.Keeps.cut (p := State.Keeps z₀ x.1) ?_ ?_;
        (focus (intro hx; clear_value x)); rotate_left; subst x)
    | (extract_lets +onlyGivenNames x; clear_value x) | with_reducible apply State.each_keeps
    | with_reducible apply Mem.write_keeps | split
    | (with_reducible refine State.Keeps.mk_same _ rfl rfl rfl rfl rfl rfl rfl rfl ?_)

theorem Nsw.placePacket_keeps {z₀ : State} (s : State) (i : Nat) (p : AudioPkt) (l : Nat) (h_s : State.Keeps z₀ s) :
    State.Keeps z₀ (Nsw.placePacket s i p l) := by
  unfold Nsw.placePacket
  repeat' first
    | with_reducible assumption | (intro)
    | (extract_lets +onlyGivenNames x; refine State.Keeps.cut (p := State.Keeps z₀ x) ?_ ?_;
        (focus (intro hx; clear_value x)); rotate_left; subst x)
    | (extract_lets +onlyGivenNames x; clear_value x) | with_reducible apply State.each_keeps
    | with_reducible apply Nsw.writeSample_keeps | with_reducible apply State.when_keeps
    | with_reducible apply Nsw.count_keeps | with_reducible apply State.fire_keeps | with_reducible apply State.Keeps.ite
    | with_reducible apply State.Keeps.ite1 | split

theorem execStreamPacketReceived_keeps {z₀ : State} (s : State) (h_s : State.Keeps z₀ s) :
    State.Leads z₀ (execStreamPacketReceived s) := by
  unfold execStreamPacketReceived
  repeat' first
    | with_reducible assumption | with_reducible apply State.Leads.next | with_reducible apply State.Leads.ite | (intro)
    | (extract_lets +onlyGivenNames x; refine State.Keeps.cut (p := State.Keeps z₀ x) ?_ ?_;
        (focus (intro hx; clear_value x)); rotate_left; subst x)
    | (extract_lets +onlyGivenNames x; refine State.Keeps.cut (p := State.Keeps z₀ x.1) ?_ ?_;
        (focus (intro hx; clear_value x)); rotate_left; subst x)
    | (extract_lets +onlyGivenNames x) | with_reducible apply Nsw.count_keeps | with_reducible apply State.when_keeps
    | with_reducible apply Nsw.setRec_keeps | with_reducible apply Nsw.placePacket_keeps
    | with_reducible apply State.Keeps.ite | split
    | (with_reducible refine State.Keeps.mk_same _ rfl rfl rfl rfl rfl rfl rfl rfl ?_)

theorem Nsw.groups_keeps {z₀ : State} (s : State) (h_s : State.Keeps z₀ s) :
    State.Keeps z₀ (Nsw.groups s) := by
  unfold Nsw.groups
  repeat' first
    | with_reducible assumption | (intro)
    | (extract_lets +onlyGivenNames x; refine State.Keeps.cut (p := State.Keeps z₀ x) ?_ ?_;
        (focus (intro hx; clear_value x)); rotate_left; subst x)
    | (extract_lets +onlyGivenNames x; clear_value x) | with_reducible apply State.setFld_keeps
    | with_reducible apply State.fire_keeps | with_reducible apply State.foldl_keeps
    | with_reducible apply State.foldl1_keeps | with_reducible apply State.Keeps.ite
    | with_reducible apply State.Keeps.ite1 | split

theorem Nsw.enterFadeOut_keeps {z₀ : State} (s : State) (i : Nat) (h_s : State.Keeps z₀ s) :
    State.Keeps z₀ (Nsw.enterFadeOut s i) := by
  unfold Nsw.enterFadeOut
  repeat' first
    | with_reducible assumption
    | (extract_lets +onlyGivenNames x; refine State.Keeps.cut (p := State.Keeps z₀ x) ?_ ?_;
        (focus (intro hx; clear_value x)); rotate_left; subst x)
    | (extract_lets +onlyGivenNames x; clear_value x) | with_reducible apply Nsw.setRec_keeps
    | with_reducible apply Nsw.count_keeps | with_reducible apply State.setFld_keeps
    | with_reducible apply State.fire_keeps | split
    | (with_reducible refine State.Keeps.mk_same _ rfl rfl rfl rfl rfl rfl rfl rfl ?_)

theorem Nsw.setRx_keeps {z₀ : State} (s : State) (i : Nat) (own : List Nat) (x : RxSt) (h_s : State.Keeps z₀ s) :
    State.Keeps z₀ (Nsw.setRx s i own x) := by
  unfold Nsw.setRx
  repeat' first
    | with_reducible assumption
    | (extract_lets +onlyGivenNames x; refine State.Keeps.cut (p := State.Keeps z₀ x) ?_ ?_;
        (focus (intro hx; clear_value x)); rotate_left; subst x)
    | (extract_lets +onlyGivenNames x; clear_value x) | with_reducible apply Nsw.setRec_keeps
    | with_reducible apply State.setFld_keeps
    | (with_reducible refine State.Keeps.mk_same _ rfl rfl rfl rfl rfl rfl rfl rfl ?_)

theorem Nsw.streamPass_keeps {z₀ : State} (k : Nat) (s : State) (i : Nat) (h_s : State.Keeps z₀ s) :
    State.Keeps z₀ (Nsw.streamPass k s i) := by
  unfold Nsw.streamPass
  repeat' first
    | with_reducible assumption | (intro)
    | (extract_lets +onlyGivenNames x; refine State.Keeps.cut (p := State.Keeps z₀ x) ?_ ?_;
        (focus (intro hx; clear_value x)); rotate_left; subst x)
    | (extract_lets +onlyGivenNames x; refine State.Keeps.cut (p := State.Keeps z₀ x.1) ?_ ?_;
        (focus (intro hx; clear_value x)); rotate_left; subst x)
    | (extract_lets +onlyGivenNames x; clear_value x) | with_reducible apply State.each_keeps
    | with_reducible apply Mem.noteRange_keeps | with_reducible apply Nsw.setRx_keeps
    | with_reducible apply Nsw.count_keeps | with_reducible apply State.fire_keeps
    | with_reducible apply State.foldl_keeps | with_reducible apply State.foldl1_keeps
    | with_reducible apply State.Keeps.ite | with_reducible apply State.Keeps.ite1 | split
    | (with_reducible refine State.Keeps.mk_same _ rfl rfl rfl rfl rfl rfl rfl rfl ?_)

theorem Nsw.intake_keeps {z₀ : State} (s : State) (k : Nat) (h_s : State.Keeps z₀ s) :
    State.Keeps z₀ (Nsw.intake s k) := by
  unfold Nsw.intake
  repeat' first
    | with_reducible assumption | (intro)
    | (extract_lets +onlyGivenNames x; refine State.Keeps.cut (p := State.Keeps z₀ x) ?_ ?_;
        (focus (intro hx; clear_value x)); rotate_left; subst x)
    | (extract_lets +onlyGivenNames x; refine State.Keeps.cut (p := State.Keeps z₀ x.1) ?_ ?_;
        (focus (intro hx; clear_value x)); rotate_left; subst x)
    | (extract_lets +onlyGivenNames x; clear_value x) | with_reducible apply State.each_keeps
    | with_reducible apply Nsw.streamPass_keeps | with_reducible apply Nsw.groups_keeps | split
    | (with_reducible refine State.Keeps.mk_same _ rfl rfl rfl rfl rfl rfl rfl rfl ?_)

theorem Nsw.txMuteNext_keeps {z₀ : State} (s : State) (h_s : State.Keeps z₀ s) :
    State.Keeps z₀ (Nsw.txMuteNext s) := by
  unfold Nsw.txMuteNext
  repeat' first
    | with_reducible assumption | (intro)
    | (extract_lets +onlyGivenNames x; refine State.Keeps.cut (p := State.Keeps z₀ x) ?_ ?_;
        (focus (intro hx; clear_value x)); rotate_left; subst x)
    | (extract_lets +onlyGivenNames x; clear_value x) | with_reducible apply State.Keeps.ite | split
    | (with_reducible refine State.Keeps.mk_same _ rfl rfl rfl rfl rfl rfl rfl rfl ?_)

theorem Nsw.txSample_keeps {z₀ : State} (outlet : Nat → Nat → Int) (i c j : Nat) (s : State) (h_s : State.Keeps z₀ s) :
    State.Keeps z₀ (Nsw.txSample outlet i c j s) := by
  unfold Nsw.txSample
  repeat' first
    | with_reducible assumption | (intro)
    | (extract_lets +onlyGivenNames x; refine State.Keeps.cut (p := State.Keeps z₀ x) ?_ ?_;
        (focus (intro hx; clear_value x)); rotate_left; subst x)
    | (extract_lets +onlyGivenNames x; clear_value x) | with_reducible apply State.Keeps.ite | split
    | (with_reducible refine State.Keeps.mk_same _ rfl rfl rfl rfl rfl rfl rfl rfl ?_)

theorem Nsw.txBoundary_keeps {z₀ : State} (s : State) (k : Nat) (outlet : Nat → Nat → Int) (h_s : State.Keeps z₀ s) :
    State.Keeps z₀ (Nsw.txBoundary s k outlet) := by
  unfold Nsw.txBoundary
  repeat' first
    | with_reducible assumption | (intro)
    | (extract_lets +onlyGivenNames x; refine State.Keeps.cut (p := State.Keeps z₀ x) ?_ ?_;
        (focus (intro hx; clear_value x)); rotate_left; subst x)
    | (extract_lets +onlyGivenNames x; clear_value x) | with_reducible apply State.each_keeps
    | with_reducible apply State.setFld_keeps | with_reducible apply Nsw.txMuteNext_keeps
    | with_reducible apply Nsw.txSample_keeps | split

theorem Nsw.launch_keeps {z₀ : State} (s : State) (p : TxPkt) (h_s : State.Keeps z₀ s) :
    State.Keeps z₀ (Nsw.launch s p) := by
  unfold Nsw.launch
  repeat' first
    | with_reducible assumption | (intro)
    | (extract_lets +onlyGivenNames x; refine State.Keeps.cut (p := State.Keeps z₀ x) ?_ ?_;
        (focus (intro hx; clear_value x)); rotate_left; subst x)
    | (extract_lets +onlyGivenNames x; refine State.Keeps.cut (p := State.Keeps z₀ x.1) ?_ ?_;
        (focus (intro hx; clear_value x)); rotate_left; subst x)
    | (extract_lets +onlyGivenNames x; clear_value x) | with_reducible apply Egress.send_keeps
    | with_reducible apply State.send_keeps | with_reducible apply Nsw.count_keeps | with_reducible apply State.each_keeps
    | with_reducible apply State.setFld_keeps | with_reducible apply State.Keeps.ite
    | with_reducible apply State.Keeps.ite1 | split
    | (with_reducible refine State.Keeps.mk_same _ rfl rfl rfl rfl rfl rfl rfl rfl ?_)

theorem execStreamPacketLaunch_keeps {z₀ : State} (stream : Nat) (s : State) (h_s : State.Keeps z₀ s) :
    State.Leads z₀ (execStreamPacketLaunch stream s) := by
  unfold execStreamPacketLaunch
  repeat' first
    | with_reducible assumption | with_reducible apply State.Leads.next | with_reducible apply State.Leads.ite | (intro)
    | (extract_lets +onlyGivenNames x; refine State.Keeps.cut (p := State.Keeps z₀ x) ?_ ?_;
        (focus (intro hx; clear_value x)); rotate_left; subst x)
    | (extract_lets +onlyGivenNames x; refine State.Keeps.cut (p := State.Keeps z₀ x.1) ?_ ?_;
        (focus (intro hx; clear_value x)); rotate_left; subst x)
    | (extract_lets +onlyGivenNames x; clear_value x) | with_reducible apply State.each_keeps
    | with_reducible apply Nsw.launch_keeps | with_reducible apply State.foldl_keeps
    | with_reducible apply State.foldl1_keeps | split
    | (with_reducible refine State.Keeps.mk_same _ rfl rfl rfl rfl rfl rfl rfl rfl ?_)

theorem Nsw.report_keeps {z₀ : State} (mask : Nat) (s : State) (g : Nat) (h_s : State.Keeps z₀ s) :
    State.Keeps z₀ (Nsw.report mask s g) := by
  unfold Nsw.report
  repeat' first | with_reducible assumption | with_reducible apply Egress.sendCp_keeps

theorem execIgmpQuery_keeps {z₀ : State} (port : Nat) (group : Option Nat) (s : State) (h_s : State.Keeps z₀ s) :
    State.Leads z₀ (execIgmpQuery port group s) := by
  unfold execIgmpQuery
  repeat' first
    | with_reducible assumption | with_reducible apply State.Leads.next | with_reducible apply State.Leads.ite | (intro)
    | with_reducible apply State.each_keeps | with_reducible apply Nsw.report_keeps | with_reducible apply State.Keeps.ite
    | split

theorem execArpRequest_keeps {z₀ : State} (port target sender : Nat) (s : State) (h_s : State.Keeps z₀ s) :
    State.Leads z₀ (execArpRequest port target sender s) := by
  unfold execArpRequest
  repeat' first
    | with_reducible assumption | with_reducible apply State.Leads.next | with_reducible apply State.Leads.ite | (intro)
    | with_reducible apply Egress.sendCp_keeps | with_reducible apply State.Keeps.ite | split

theorem Nsw.mute_keeps {z₀ : State} (s : State) (i : Nat) (h_s : State.Keeps z₀ s) :
    State.Keeps z₀ (Nsw.mute s i) := by
  unfold Nsw.mute
  repeat' first
    | with_reducible assumption | (intro)
    | (extract_lets +onlyGivenNames x; refine State.Keeps.cut (p := State.Keeps z₀ x) ?_ ?_;
        (focus (intro hx; clear_value x)); rotate_left; subst x)
    | (extract_lets +onlyGivenNames x; clear_value x) | with_reducible apply Nsw.setRec_keeps
    | with_reducible apply State.setFld_keeps | with_reducible apply State.Keeps.ite | split
    | (with_reducible refine State.Keeps.mk_same _ rfl rfl rfl rfl rfl rfl rfl rfl ?_)

theorem Nsw.clearMarks_keeps {z₀ : State} (s : State) (i : Nat) (h_s : State.Keeps z₀ s) :
    State.Keeps z₀ (Nsw.clearMarks s i) := by
  unfold Nsw.clearMarks
  repeat' first
    | with_reducible assumption | (intro)
    | (extract_lets +onlyGivenNames x; refine State.Keeps.cut (p := State.Keeps z₀ x) ?_ ?_;
        (focus (intro hx; clear_value x)); rotate_left; subst x)
    | (extract_lets +onlyGivenNames x; refine State.Keeps.cut (p := State.Keeps z₀ x.1) ?_ ?_;
        (focus (intro hx; clear_value x)); rotate_left; subst x)
    | (extract_lets +onlyGivenNames x; clear_value x) | split
    | (with_reducible refine State.Keeps.mk_same _ rfl rfl rfl rfl rfl rfl rfl rfl ?_)

theorem Nsw.siCommit_keeps {z₀ : State} (old : State) (s : State) (i : Nat) (h_old : State.Keeps z₀ old) (h_s : State.Keeps z₀
    s) :
    State.Keeps z₀ (Nsw.siCommit old s i) := by
  unfold Nsw.siCommit
  repeat' first
    | with_reducible assumption | (intro)
    | (extract_lets +onlyGivenNames x; refine State.Keeps.cut (p := State.Keeps z₀ x) ?_ ?_;
        (focus (intro hx; clear_value x)); rotate_left; subst x)
    | (extract_lets +onlyGivenNames x; clear_value x) | with_reducible apply Nsw.setRec_keeps
    | with_reducible apply Nsw.mute_keeps | with_reducible apply State.when_keeps
    | with_reducible apply Nsw.clearMarks_keeps | with_reducible apply Nsw.report_keeps
    | with_reducible apply Nsw.enterFadeOut_keeps | with_reducible apply State.setFld_keeps
    | with_reducible apply State.Keeps.ite | split

theorem Nsw.commit_keeps {z₀ : State} (old s : State) (h_old : State.Keeps z₀ old) (h_s : State.Keeps z₀ s) :
    State.Keeps z₀ (Nsw.commit old s) := by
  unfold Nsw.commit
  repeat' first
    | with_reducible assumption | (intro) | with_reducible apply Nsw.groups_keeps | with_reducible apply State.each_keeps
    | with_reducible apply Nsw.siCommit_keeps

theorem Nsw.restart_keeps {z₀ : State} (s : State) (h_s : State.Keeps z₀ s) :
    State.Keeps z₀ (Nsw.restart s) := by
  unfold Nsw.restart
  repeat' first
    | with_reducible assumption | (intro) | with_reducible apply Nsw.groups_keeps | with_reducible apply State.each_keeps
    | with_reducible apply Nsw.mute_keeps

end Nsw

section RegAdj

theorem Reg.shadowWrite_keeps {z₀ : State} (s : State) (off : Nat) (v : Word) (h_s : State.Keeps z₀ s) :
    State.Keeps z₀ (Reg.shadowWrite s off v).1 := by
  unfold Reg.shadowWrite
  repeat' first
    | with_reducible assumption | (intro)
    | (extract_lets +onlyGivenNames x; refine State.Keeps.cut (p := State.Keeps z₀ x) ?_ ?_;
        (focus (intro hx; clear_value x)); rotate_left; subst x)
    | (extract_lets +onlyGivenNames x; refine State.Keeps.cut (p := State.Keeps z₀ x.1) ?_ ?_;
        (focus (intro hx; clear_value x)); rotate_left; subst x)
    | (extract_lets +onlyGivenNames x; clear_value x) | with_reducible apply State.setShReg_keeps
    | with_reducible apply State.Keeps.ite | with_reducible apply State.Keeps.ite1 | split
    | (with_reducible refine State.Keeps.mk_same _ rfl rfl rfl rfl rfl rfl rfl rfl ?_)

theorem Reg.plainWrite_keeps {z₀ : State} (s : State) (off : Nat) (v : Word) (h_s : State.Keeps z₀ s) :
    State.Keeps z₀ (Reg.plainWrite s off v) := by
  unfold Reg.plainWrite
  split
  · exact h_s
  · refine State.Keeps.ite (fun _ => h_s) (fun _ => ?_)
    exact State.each_keeps _ _ (fun t _ => Cmd.adjust_keeps _ _ _) (Reg.shadowWrite_keeps _ _ _ (State.setReg_keeps _ _ h_s))

end RegAdj

section Page

theorem Swap.dlens_keeps {z₀ : State} (s : State) (r : Nat → Nat) (h_s : State.Keeps z₀ s) :
    State.Keeps z₀ (Swap.dlens s r) := by
  unfold Swap.dlens
  repeat' first
    | with_reducible assumption | (intro) | with_reducible apply State.each_keeps
    | with_reducible apply State.setFld_keeps

theorem Swap.page_keeps {z₀ : State} (s : State) (r : Nat → Nat) (keep : Bool) (t : State) (p : Nat) (h_s : State.Keeps z₀ s)
    (h_t : State.Keeps z₀ t) :
    State.Keeps z₀ (Swap.page s r keep t p) := by
  unfold Swap.page
  repeat' first
    | with_reducible assumption | (intro) | with_reducible apply State.each_keeps
    | with_reducible apply State.setShReg_keeps

theorem Save.show_keeps {z₀ : State} (s : State) (h_s : State.Keeps z₀ s) :
    State.Keeps z₀ (Save.show s) := by
  unfold Save.show
  repeat' first
    | with_reducible assumption | (intro)
    | (extract_lets +onlyGivenNames x; refine State.Keeps.cut (p := State.Keeps z₀ x) ?_ ?_;
        (focus (intro hx; clear_value x)); rotate_left; subst x)
    | (extract_lets +onlyGivenNames x; clear_value x) | with_reducible apply State.setFld_keeps | split

theorem Save.settle_keeps {z₀ : State} (s : State) (h_s : State.Keeps z₀ s) :
    State.Keeps z₀ (Save.settle s) := by
  unfold Save.settle
  repeat' first
    | with_reducible assumption | (intro)
    | (extract_lets +onlyGivenNames x; refine State.Keeps.cut (p := State.Keeps z₀ x) ?_ ?_;
        (focus (intro hx; clear_value x)); rotate_left; subst x)
    | (extract_lets +onlyGivenNames x; refine State.Keeps.cut (p := State.Keeps z₀ x.1) ?_ ?_;
        (focus (intro hx; clear_value x)); rotate_left; subst x)
    | (extract_lets +onlyGivenNames x; clear_value x) | with_reducible apply Cmd.finish_keeps
    | with_reducible apply State.Keeps.ite | split
    | (with_reducible refine State.Keeps.mk_same _ rfl rfl rfl rfl rfl rfl rfl rfl ?_)

theorem Save.start_keeps {z₀ : State} (s : State) (r : Run) (h_s : State.Keeps z₀ s) :
    State.Keeps z₀ (Save.start s r) := by
  unfold Save.start
  repeat' first
    | with_reducible assumption
    | (extract_lets +onlyGivenNames x; refine State.Keeps.cut (p := State.Keeps z₀ x) ?_ ?_;
        (focus (intro hx; clear_value x)); rotate_left; subst x)
    | (extract_lets +onlyGivenNames x; clear_value x) | with_reducible apply Save.settle_keeps
    | with_reducible apply Cmd.keepRun_keeps
    | (with_reducible refine State.Keeps.mk_same _ rfl rfl rfl rfl rfl rfl rfl rfl ?_)

theorem execSaveTack_keeps {z₀ : State} (s : State) (h_s : State.Keeps z₀ s) :
    State.Leads z₀ (execSaveTack s) := by
  unfold execSaveTack
  repeat' first
    | with_reducible assumption | with_reducible apply State.Leads.next | with_reducible apply State.Leads.ite
    | with_reducible apply Cmd.start_keeps | with_reducible apply Save.start_keeps

theorem Save.index_keeps {z₀ : State} (s : State) (h_s : State.Keeps z₀ s) :
    State.Keeps z₀ (Save.index s) := by
  unfold Save.index
  repeat' first
    | with_reducible assumption | (intro)
    | (extract_lets +onlyGivenNames x; refine State.Keeps.cut (p := State.Keeps z₀ x) ?_ ?_;
        (focus (intro hx; clear_value x)); rotate_left; subst x)
    | (extract_lets +onlyGivenNames x; clear_value x) | split
    | (with_reducible refine State.Keeps.mk_same _ rfl rfl rfl rfl rfl rfl rfl rfl ?_)

theorem Save.write_keeps {z₀ : State} (s : State) (n root : Nat) (v : List Byte) (h_s : State.Keeps z₀ s) :
    State.Keeps z₀ (Save.write s n root v) := by
  unfold Save.write
  repeat' first
    | with_reducible assumption | (intro)
    | (extract_lets +onlyGivenNames x; refine State.Keeps.cut (p := State.Keeps z₀ x) ?_ ?_;
        (focus (intro hx; clear_value x)); rotate_left; subst x)
    | (extract_lets +onlyGivenNames x; refine State.Keeps.cut (p := State.Keeps z₀ x.1) ?_ ?_;
        (focus (intro hx; clear_value x)); rotate_left; subst x)
    | (extract_lets +onlyGivenNames x; clear_value x) | with_reducible apply State.Keeps.ite | split
    | (with_reducible refine State.Keeps.mk_same _ rfl rfl rfl rfl rfl rfl rfl rfl ?_)

theorem execPageStage_keeps {z₀ : State} (page : Nat) (swap : Bool) (s : State) (h_s : State.Keeps z₀ s) :
    State.Leads z₀ (execPageStage page swap s) := by
  unfold execPageStage
  repeat' first
    | with_reducible assumption | with_reducible apply State.Leads.next | with_reducible apply State.Leads.ite | (intro)
    | (extract_lets +onlyGivenNames x; refine State.Keeps.cut (p := State.Keeps z₀ x) ?_ ?_;
        (focus (intro hx; clear_value x)); rotate_left; subst x)
    | (extract_lets +onlyGivenNames x; refine State.Keeps.cut (p := State.Keeps z₀ x.1) ?_ ?_;
        (focus (intro hx; clear_value x)); rotate_left; subst x)
    | (extract_lets +onlyGivenNames x; clear_value x) | with_reducible apply Save.settle_keeps
    | with_reducible apply Save.show_keeps | with_reducible apply Save.write_keeps | with_reducible apply Save.index_keeps
    | with_reducible apply State.Keeps.ite | split
    | (with_reducible refine State.Keeps.mk_same _ rfl rfl rfl rfl rfl rfl rfl rfl ?_)

end Page

section Param

theorem Bar.cmdSubmit_keeps {z₀ : State} (ws : List Word) (s : State) (h_s : State.Keeps z₀ s) :
    State.Keeps z₀ (Bar.cmdSubmit ws s) := by
  unfold Bar.cmdSubmit
  repeat' first
    | with_reducible assumption | (intro) | with_reducible apply Cmd.submit_keeps | with_reducible apply State.each_keeps
    | with_reducible apply Cmd.stage_keeps

theorem execCmdSubmit_keeps {z₀ : State} (ws : List Word) (s : State) (h_s : State.Keeps z₀ s) :
    State.Leads z₀ (execCmdSubmit ws s) := by
  unfold execCmdSubmit
  repeat' first
    | with_reducible assumption | with_reducible apply State.Leads.next | with_reducible apply State.Leads.ite
    | with_reducible apply State.bar_keeps | with_reducible apply Bar.cmdSubmit_keeps

theorem Param.place_keeps {z₀ : State} (s : State) (o : ParamOps) (ws : List Word) (h_s : State.Keeps z₀ s) :
    State.Keeps z₀ (Param.place s o ws).1 := by
  unfold Param.place
  repeat' first
    | with_reducible assumption | (intro)
    | (extract_lets +onlyGivenNames x; refine State.Keeps.cut (p := State.Keeps z₀ x) ?_ ?_;
        (focus (intro hx; clear_value x)); rotate_left; subst x)
    | (extract_lets +onlyGivenNames x; refine State.Keeps.cut (p := State.Keeps z₀ x.1) ?_ ?_;
        (focus (intro hx; clear_value x)); rotate_left; subst x)
    | (extract_lets +onlyGivenNames x; clear_value x) | with_reducible apply Reg.shadowWrite_keeps
    | with_reducible apply State.foldl_keeps | with_reducible apply State.foldl1_keeps
    | with_reducible apply State.Keeps.ite | with_reducible apply State.Keeps.ite1 | split
    | (with_reducible refine State.Keeps.mk_same _ rfl rfl rfl rfl rfl rfl rfl rfl ?_)

theorem Param.land_keeps {z₀ : State} (s : State) (r : Run) (o : ParamOps) (ws : List Word) (h_s : State.Keeps z₀ s) :
    State.Keeps z₀ (Param.land s r o ws) := by
  unfold Param.land
  repeat' first
    | with_reducible assumption
    | (extract_lets +onlyGivenNames x; refine State.Keeps.cut (p := State.Keeps z₀ x) ?_ ?_;
        (focus (intro hx; clear_value x)); rotate_left; subst x)
    | (extract_lets +onlyGivenNames x; refine State.Keeps.cut (p := State.Keeps z₀ x.1) ?_ ?_;
        (focus (intro hx; clear_value x)); rotate_left; subst x)
    | (extract_lets +onlyGivenNames x; clear_value x) | with_reducible apply Param.place_keeps
    | with_reducible apply Cmd.noteAdj_keeps | with_reducible apply Cmd.finish_keeps | split

theorem Param.write_keeps {z₀ : State} (s : State) (run : Run) (h_s : State.Keeps z₀ s) :
    State.Keeps z₀ (Param.write s run) := by
  unfold Param.write
  repeat' first
    | with_reducible assumption | (intro)
    | (extract_lets +onlyGivenNames x; refine State.Keeps.cut (p := State.Keeps z₀ x) ?_ ?_;
        (focus (intro hx; clear_value x)); rotate_left; subst x)
    | (extract_lets +onlyGivenNames x; refine State.Keeps.cut (p := State.Keeps z₀ x.1) ?_ ?_;
        (focus (intro hx; clear_value x)); rotate_left; subst x)
    | (extract_lets +onlyGivenNames x; clear_value x) | with_reducible apply Cmd.noteAdj_keeps
    | with_reducible apply Cmd.finish_keeps | with_reducible apply Param.land_keeps
    | with_reducible apply State.hostOut_keeps | with_reducible apply Cmd.keepRun_keeps
    | with_reducible apply State.Keeps.ite | with_reducible apply State.Keeps.ite1 | split
    | (with_reducible refine State.Keeps.mk_same _ rfl rfl rfl rfl rfl rfl rfl rfl ?_)

theorem execParamWrite_keeps {z₀ : State} (s : State) (h_s : State.Keeps z₀ s) :
    State.Leads z₀ (execParamWrite s) := by
  unfold execParamWrite
  repeat' first
    | with_reducible assumption | with_reducible apply State.Leads.next | with_reducible apply State.Leads.ite
    | with_reducible apply Cmd.start_keeps | with_reducible apply Param.write_keeps

theorem Param.cancel_keeps {z₀ : State} (s : State) (h_s : State.Keeps z₀ s) :
    State.Keeps z₀ (Param.cancel s) := by
  unfold Param.cancel
  repeat' first
    | with_reducible assumption
    | (extract_lets +onlyGivenNames x; refine State.Keeps.cut (p := State.Keeps z₀ x) ?_ ?_;
        (focus (intro hx; clear_value x)); rotate_left; subst x)
    | (extract_lets +onlyGivenNames x; refine State.Keeps.cut (p := State.Keeps z₀ x.1) ?_ ?_;
        (focus (intro hx; clear_value x)); rotate_left; subst x)
    | (extract_lets +onlyGivenNames x; clear_value x) | with_reducible apply Cmd.finish_keeps | split
    | (with_reducible refine State.Keeps.mk_same _ rfl rfl rfl rfl rfl rfl rfl rfl ?_)

theorem execHostMemoryAccessAnswer_keeps {z₀ : State} (a : HostAnswer) (s : State) (h_s : State.Keeps z₀ s) :
    State.Leads z₀ (execHostMemoryAccessAnswer a s) := by
  unfold execHostMemoryAccessAnswer
  repeat' first
    | with_reducible assumption | with_reducible apply State.Leads.next | with_reducible apply State.Leads.ite | (intro)
    | (extract_lets +onlyGivenNames x; refine State.Keeps.cut (p := State.Keeps z₀ x) ?_ ?_;
        (focus (intro hx; clear_value x)); rotate_left; subst x)
    | (extract_lets +onlyGivenNames x; refine State.Keeps.cut (p := State.Keeps z₀ x.1) ?_ ?_;
        (focus (intro hx; clear_value x)); rotate_left; subst x)
    | (extract_lets +onlyGivenNames x; clear_value x) | with_reducible apply Cmd.showFull_keeps
    | with_reducible apply State.setFlag_keeps | with_reducible apply Param.cancel_keeps
    | with_reducible apply Tth.send_keeps | with_reducible apply State.send_keeps | with_reducible apply Param.land_keeps
    | with_reducible apply State.setFire_keeps | with_reducible apply State.Keeps.ite | split
    | (with_reducible refine State.Keeps.mk_same _ rfl rfl rfl rfl rfl rfl rfl rfl ?_)

theorem Param.read_keeps {z₀ : State} (ok : Bool) (s : State) (run : Run) (h_s : State.Keeps z₀ s) :
    State.Keeps z₀ (Param.read ok s run) := by
  unfold Param.read
  repeat' first
    | with_reducible assumption | (intro)
    | (extract_lets +onlyGivenNames x; refine State.Keeps.cut (p := State.Keeps z₀ x) ?_ ?_;
        (focus (intro hx; clear_value x)); rotate_left; subst x)
    | (extract_lets +onlyGivenNames x; refine State.Keeps.cut (p := State.Keeps z₀ x.1) ?_ ?_;
        (focus (intro hx; clear_value x)); rotate_left; subst x)
    | (extract_lets +onlyGivenNames x; clear_value x) | with_reducible apply Cmd.noteAdj_keeps
    | with_reducible apply Cmd.finish_keeps | with_reducible apply State.hostOut_keeps
    | with_reducible apply State.Keeps.ite | with_reducible apply State.Keeps.ite1 | split
    | (with_reducible refine State.Keeps.mk_same _ rfl rfl rfl rfl rfl rfl rfl rfl ?_)

theorem execParamRead_keeps {z₀ : State} (ok : Bool) (s : State) (h_s : State.Keeps z₀ s) :
    State.Leads z₀ (execParamRead ok s) := by
  unfold execParamRead
  repeat' first
    | with_reducible assumption | with_reducible apply State.Leads.next | with_reducible apply State.Leads.ite
    | with_reducible apply Cmd.start_keeps | with_reducible apply Param.read_keeps

theorem Commit.start_keeps {z₀ : State} (s : State) (run : Run) (h_s : State.Keeps z₀ s) :
    State.Keeps z₀ (Commit.start s run) := by
  unfold Commit.start
  repeat' first
    | with_reducible assumption
    | (extract_lets +onlyGivenNames x; refine State.Keeps.cut (p := State.Keeps z₀ x) ?_ ?_;
        (focus (intro hx; clear_value x)); rotate_left; subst x)
    | (extract_lets +onlyGivenNames x; clear_value x) | with_reducible apply Cmd.keepRun_keeps
    | with_reducible apply State.setFlag_keeps | split
    | (with_reducible refine State.Keeps.mk_same _ rfl rfl rfl rfl rfl rfl rfl rfl ?_)

theorem execParamCommit_keeps {z₀ : State} (s : State) (h_s : State.Keeps z₀ s) :
    State.Leads z₀ (execParamCommit s) := by
  unfold execParamCommit
  repeat' first
    | with_reducible assumption | with_reducible apply State.Leads.next | with_reducible apply State.Leads.ite
    | with_reducible apply Cmd.start_keeps | with_reducible apply Commit.start_keeps

theorem Swap.start_keeps {z₀ : State} (peerOk : Bool) (s : State) (run : Run) (h_s : State.Keeps z₀ s) :
    State.Keeps z₀ (Swap.start peerOk s run) := by
  unfold Swap.start
  repeat' first
    | with_reducible assumption | (intro)
    | (extract_lets +onlyGivenNames x; refine State.Keeps.cut (p := State.Keeps z₀ x) ?_ ?_;
        (focus (intro hx; clear_value x)); rotate_left; subst x)
    | (extract_lets +onlyGivenNames x; refine State.Keeps.cut (p := State.Keeps z₀ x.1) ?_ ?_;
        (focus (intro hx; clear_value x)); rotate_left; subst x)
    | (extract_lets +onlyGivenNames x; clear_value x) | with_reducible apply Cmd.slot_keeps
    | with_reducible apply Cmd.finish_keeps | with_reducible apply Bale.setMark_keeps
    | with_reducible apply Cmd.keepRun_keeps | with_reducible apply State.Keeps.ite
    | with_reducible apply State.Keeps.ite1 | split
    | (with_reducible refine State.Keeps.mk_same _ rfl rfl rfl rfl rfl rfl rfl rfl ?_)

theorem execSwapBale_keeps {z₀ : State} (peerOk : Bool) (s : State) (h_s : State.Keeps z₀ s) :
    State.Leads z₀ (execSwapBale peerOk s) := by
  unfold execSwapBale
  repeat' first
    | with_reducible assumption | with_reducible apply State.Leads.next | with_reducible apply State.Leads.ite
    | with_reducible apply Cmd.start_keeps | with_reducible apply Swap.start_keeps

theorem Meter.take_keeps {z₀ : State} (ok : Bool) (k : Nat) (s : State) (r : Run) (h_s : State.Keeps z₀ s) :
    State.Keeps z₀ (Meter.take ok k s r) := by
  unfold Meter.take
  repeat' first
    | with_reducible assumption | (intro)
    | (extract_lets +onlyGivenNames x; refine State.Keeps.cut (p := State.Keeps z₀ x) ?_ ?_;
        (focus (intro hx; clear_value x)); rotate_left; subst x)
    | (extract_lets +onlyGivenNames x; refine State.Keeps.cut (p := State.Keeps z₀ x.1) ?_ ?_;
        (focus (intro hx; clear_value x)); rotate_left; subst x)
    | (extract_lets +onlyGivenNames x; clear_value x) | with_reducible apply State.hostOut_keeps
    | with_reducible apply Cmd.finish_keeps | with_reducible apply State.Keeps.ite | with_reducible apply State.Keeps.ite1
    | split

theorem Meter.start_keeps {z₀ : State} (ok : Bool) (s : State) (run : Run) (h_s : State.Keeps z₀ s) :
    State.Keeps z₀ (Meter.start ok s run) := by
  unfold Meter.start
  repeat' first
    | with_reducible assumption | (intro)
    | (extract_lets +onlyGivenNames x; refine State.Keeps.cut (p := State.Keeps z₀ x) ?_ ?_;
        (focus (intro hx; clear_value x)); rotate_left; subst x)
    | (extract_lets +onlyGivenNames x; refine State.Keeps.cut (p := State.Keeps z₀ x.1) ?_ ?_;
        (focus (intro hx; clear_value x)); rotate_left; subst x)
    | (extract_lets +onlyGivenNames x; clear_value x) | with_reducible apply Cmd.noteAdj_keeps
    | with_reducible apply Cmd.keepRun_keeps | with_reducible apply Meter.take_keeps
    | with_reducible apply State.Keeps.ite | with_reducible apply State.Keeps.ite1 | split
    | (with_reducible refine State.Keeps.mk_same _ rfl rfl rfl rfl rfl rfl rfl rfl ?_)

theorem execMeterSnapshot_keeps {z₀ : State} (ok : Bool) (s : State) (h_s : State.Keeps z₀ s) :
    State.Leads z₀ (execMeterSnapshot ok s) := by
  unfold execMeterSnapshot
  repeat' first
    | with_reducible assumption | with_reducible apply State.Leads.next | with_reducible apply State.Leads.ite
    | with_reducible apply Cmd.start_keeps | with_reducible apply Meter.start_keeps

theorem Fc.releaseActs_keeps {z₀ : State} (s : State) (r : Run) (scope src : Nat) (h_s : State.Keeps z₀ s) :
    State.Keeps z₀ (Fc.releaseActs s r scope src) := by
  unfold Fc.releaseActs
  repeat' first
    | with_reducible assumption
    | (extract_lets +onlyGivenNames x; refine State.Keeps.cut (p := State.Keeps z₀ x) ?_ ?_;
        (focus (intro hx; clear_value x)); rotate_left; subst x)
    | (extract_lets +onlyGivenNames x; refine State.Keeps.cut (p := State.Keeps z₀ x.1) ?_ ?_;
        (focus (intro hx; clear_value x)); rotate_left; subst x)
    | (extract_lets +onlyGivenNames x; clear_value x) | with_reducible apply Fc.release_keeps
    | with_reducible apply Cmd.finish_keeps | split

theorem Fc.releaseCmd_keeps {z₀ : State} (s : State) (run : Run) (h_s : State.Keeps z₀ s) :
    State.Keeps z₀ (Fc.releaseCmd s run) := by
  unfold Fc.releaseCmd
  repeat' first
    | with_reducible assumption | (intro)
    | (extract_lets +onlyGivenNames x; refine State.Keeps.cut (p := State.Keeps z₀ x) ?_ ?_;
        (focus (intro hx; clear_value x)); rotate_left; subst x)
    | (extract_lets +onlyGivenNames x; refine State.Keeps.cut (p := State.Keeps z₀ x.1) ?_ ?_;
        (focus (intro hx; clear_value x)); rotate_left; subst x)
    | (extract_lets +onlyGivenNames x; clear_value x) | with_reducible apply Cmd.noteAdj_keeps
    | with_reducible apply Cmd.finish_keeps | with_reducible apply Fc.releaseActs_keeps
    | with_reducible apply Cmd.keepRun_keeps | with_reducible apply Clk.overrun_keeps | with_reducible apply State.setFire_keeps
    | with_reducible apply State.Keeps.ite | with_reducible apply State.Keeps.ite1 | split
    | (with_reducible refine State.Keeps.mk_same _ rfl rfl rfl rfl rfl rfl rfl rfl ?_)

theorem Fc.releaseWaiting_keeps {z₀ : State} (s : State) (h_s : State.Keeps z₀ s) :
    State.Keeps z₀ (Fc.releaseWaiting s) := by
  unfold Fc.releaseWaiting
  repeat' first
    | with_reducible assumption | (intro)
    | (extract_lets +onlyGivenNames x; refine State.Keeps.cut (p := State.Keeps z₀ x) ?_ ?_;
        (focus (intro hx; clear_value x)); rotate_left; subst x)
    | (extract_lets +onlyGivenNames x; refine State.Keeps.cut (p := State.Keeps z₀ x.1) ?_ ?_;
        (focus (intro hx; clear_value x)); rotate_left; subst x)
    | (extract_lets +onlyGivenNames x; clear_value x) | with_reducible apply Fc.releaseActs_keeps
    | with_reducible apply Fc.release_keeps | with_reducible apply State.each_keeps | split
    | (with_reducible refine State.Keeps.mk_same _ rfl rfl rfl rfl rfl rfl rfl rfl ?_)

theorem execFcRelease_keeps {z₀ : State} (s : State) (h_s : State.Keeps z₀ s) :
    State.Leads z₀ (execFcRelease s) := by
  unfold execFcRelease
  repeat' first
    | with_reducible assumption | with_reducible apply State.Leads.next | with_reducible apply State.Leads.ite
    | with_reducible apply Cmd.start_keeps | with_reducible apply Fc.releaseCmd_keeps

theorem execUndefinedOpcode_keeps {z₀ : State} (s : State) (h_s : State.Keeps z₀ s) :
    State.Leads z₀ (execUndefinedOpcode s) := by
  unfold execUndefinedOpcode
  repeat' first
    | with_reducible assumption | with_reducible apply State.Leads.next | with_reducible apply State.Leads.ite | (intro)
    | (extract_lets +onlyGivenNames x; refine State.Keeps.cut (p := State.Keeps z₀ x) ?_ ?_;
        (focus (intro hx; clear_value x)); rotate_left; subst x)
    | (extract_lets +onlyGivenNames x; refine State.Keeps.cut (p := State.Keeps z₀ x.1) ?_ ?_;
        (focus (intro hx; clear_value x)); rotate_left; subst x)
    | (extract_lets +onlyGivenNames x; clear_value x) | with_reducible apply Cmd.post_keeps
    | with_reducible apply Cmd.pop_keeps | with_reducible apply State.Keeps.ite | split
    | (with_reducible refine State.Keeps.mk_same _ rfl rfl rfl rfl rfl rfl rfl rfl ?_)

theorem Cmd.headWrite_keeps {z₀ : State} (s : State) (v : Nat) (h_s : State.Keeps z₀ s) :
    State.Keeps z₀ (Cmd.headWrite s v) := by
  unfold Cmd.headWrite
  repeat' first
    | with_reducible assumption | with_reducible apply Cmd.serveRing_keeps | with_reducible apply State.setFld_keeps

theorem execCmdRingHeadWrite_keeps {z₀ : State} (v : Nat) (s : State) (h_s : State.Keeps z₀ s) :
    State.Leads z₀ (execCmdRingHeadWrite v s) := by
  unfold execCmdRingHeadWrite
  repeat' first
    | with_reducible assumption | with_reducible apply State.Leads.next | with_reducible apply State.Leads.ite | (intro)
    | with_reducible apply State.bar_keeps | with_reducible apply Cmd.headWrite_keeps

theorem Cmd.ringEnable_keeps {z₀ : State} (s : State) (h_s : State.Keeps z₀ s) :
    State.Keeps z₀ (Cmd.ringEnable s) := by
  unfold Cmd.ringEnable
  repeat' first
    | with_reducible assumption | with_reducible apply Cmd.serveRing_keeps | with_reducible apply State.setFlag_keeps
    | with_reducible apply State.setFld_keeps

theorem execRingEnable_keeps {z₀ : State} (s : State) (h_s : State.Keeps z₀ s) :
    State.Leads z₀ (execRingEnable s) := by
  unfold execRingEnable
  repeat' first
    | with_reducible assumption | with_reducible apply State.Leads.next | with_reducible apply State.Leads.ite
    | with_reducible apply State.bar_keeps | with_reducible apply Cmd.ringEnable_keeps

theorem Cmd.linkLost_keeps {z₀ : State} (s : State) (h_s : State.Keeps z₀ s) :
    State.Keeps z₀ (Cmd.linkLost s) := by
  unfold Cmd.linkLost
  repeat' first
    | with_reducible assumption | with_reducible apply Param.cancel_keeps | with_reducible apply Cmd.showFull_keeps
    | with_reducible apply State.setFlag_keeps

theorem Evu.linkReset_keeps {z₀ : State} (s : State) (h_s : State.Keeps z₀ s) :
    State.Keeps z₀ (Evu.linkReset s) := by
  unfold Evu.linkReset
  repeat' first
    | with_reducible assumption
    | (extract_lets +onlyGivenNames x; refine State.Keeps.cut (p := State.Keeps z₀ x) ?_ ?_;
        (focus (intro hx; clear_value x)); rotate_left; subst x)
    | (extract_lets +onlyGivenNames x; clear_value x)
    | (with_reducible refine State.Keeps.mk_same _ rfl rfl rfl rfl rfl rfl rfl rfl ?_)

theorem execPerstN_keeps {z₀ : State} (low : Bool) (reqs comps : Nat) (s : State) (h_s : State.Keeps z₀ s) :
    State.Leads z₀ (execPerstN low reqs comps s) := by
  unfold execPerstN
  repeat' first
    | with_reducible assumption | with_reducible apply State.Leads.next | with_reducible apply State.Leads.ite | (intro)
    | (extract_lets +onlyGivenNames x; refine State.Keeps.cut (p := State.Keeps z₀ x) ?_ ?_;
        (focus (intro hx; clear_value x)); rotate_left; subst x)
    | (extract_lets +onlyGivenNames x; clear_value x) | with_reducible apply Clk.discard_keeps
    | with_reducible apply Clk.hold_keeps | with_reducible apply Evu.linkReset_keeps
    | with_reducible apply Cmd.linkLost_keeps | with_reducible apply State.Keeps.ite | split
    | (with_reducible refine State.Keeps.mk_same _ rfl rfl rfl rfl rfl rfl rfl rfl ?_)

theorem execFunctionLevelReset_keeps {z₀ : State} (comps : Nat) (s : State) (h_s : State.Keeps z₀ s) :
    State.Leads z₀ (execFunctionLevelReset comps s) := by
  unfold execFunctionLevelReset
  repeat' first
    | with_reducible assumption | with_reducible apply State.Leads.next | with_reducible apply State.Leads.ite
    | (extract_lets +onlyGivenNames x; refine State.Keeps.cut (p := State.Keeps z₀ x) ?_ ?_;
        (focus (intro hx; clear_value x)); rotate_left; subst x)
    | (extract_lets +onlyGivenNames x; clear_value x) | with_reducible apply Evu.linkReset_keeps
    | with_reducible apply Cmd.linkLost_keeps | with_reducible apply Clk.discard_keeps
    | (with_reducible refine State.Keeps.mk_same _ rfl rfl rfl rfl rfl rfl rfl rfl ?_)

theorem execLinkDown_keeps {z₀ : State} (comps : Nat) (s : State) (h_s : State.Keeps z₀ s) :
    State.Leads z₀ (execLinkDown comps s) := by
  unfold execLinkDown
  repeat' first
    | with_reducible assumption | with_reducible apply State.Leads.next | with_reducible apply State.Leads.ite
    | (extract_lets +onlyGivenNames x; refine State.Keeps.cut (p := State.Keeps z₀ x) ?_ ?_;
        (focus (intro hx; clear_value x)); rotate_left; subst x)
    | (extract_lets +onlyGivenNames x; clear_value x) | with_reducible apply Evu.linkReset_keeps
    | with_reducible apply Cmd.linkLost_keeps | with_reducible apply Clk.discard_keeps
    | (with_reducible refine State.Keeps.mk_same _ rfl rfl rfl rfl rfl rfl rfl rfl ?_)

theorem execBusMasterEnableClear_keeps {z₀ : State} (comps : Nat) (s : State) (h_s : State.Keeps z₀ s) :
    State.Leads z₀ (execBusMasterEnableClear comps s) := by
  unfold execBusMasterEnableClear
  repeat' first
    | with_reducible assumption | with_reducible apply State.Leads.next | with_reducible apply State.Leads.ite
    | with_reducible apply Cmd.linkLost_keeps | with_reducible apply Clk.discard_keeps

theorem Evu.servePba_keeps {z₀ : State} (s : State) (vs : List Nat) (h_s : State.Keeps z₀ s) :
    State.Keeps z₀ (Evu.servePba s vs) := by
  unfold Evu.servePba
  repeat' first
    | with_reducible assumption | (intro) | with_reducible apply State.each_keeps | with_reducible apply Evu.request_keeps
    | with_reducible apply Evu.setPba_keeps | with_reducible apply State.Keeps.ite | split

theorem execMsixEnable_keeps {z₀ : State} (enable funcMask : Bool) (mask : Nat) (s : State) (h_s : State.Keeps z₀ s) :
    State.Leads z₀ (execMsixEnable enable funcMask mask s) := by
  unfold execMsixEnable
  repeat' first
    | with_reducible assumption | with_reducible apply State.Leads.next | with_reducible apply State.Leads.ite | (intro)
    | (extract_lets +onlyGivenNames x; refine State.Keeps.cut (p := State.Keeps z₀ x) ?_ ?_;
        (focus (intro hx; clear_value x)); rotate_left; subst x)
    | (extract_lets +onlyGivenNames x; clear_value x) | with_reducible apply State.each_keeps
    | with_reducible apply Evu.setPba_keeps | with_reducible apply Evu.request_keeps
    | with_reducible apply Evu.servePba_keeps | with_reducible apply State.Keeps.ite | split
    | (with_reducible refine State.Keeps.mk_same _ rfl rfl rfl rfl rfl rfl rfl rfl ?_)

theorem execEvuHoldExpiry_keeps {z₀ : State} (v : Nat) (s : State) (h_s : State.Keeps z₀ s) :
    State.Leads z₀ (execEvuHoldExpiry v s) := by
  unfold execEvuHoldExpiry
  repeat' first
    | with_reducible assumption | with_reducible apply State.Leads.next | with_reducible apply State.Leads.ite | (intro)
    | (extract_lets +onlyGivenNames x; refine State.Keeps.cut (p := State.Keeps z₀ x) ?_ ?_;
        (focus (intro hx; clear_value x)); rotate_left; subst x)
    | (extract_lets +onlyGivenNames x; clear_value x) | with_reducible apply Evu.setVec_keeps
    | with_reducible apply Evu.sendReq_keeps | with_reducible apply State.Keeps.ite | split

theorem execD3hotTransition_keeps {z₀ : State} (enter : Bool) (s : State) (h_s : State.Keeps z₀ s) :
    State.Leads z₀ (execD3hotTransition enter s) := by
  unfold execD3hotTransition
  repeat' first
    | with_reducible assumption | with_reducible apply State.Leads.next | with_reducible apply State.Leads.ite | (intro)
    | (extract_lets +onlyGivenNames x; refine State.Keeps.cut (p := State.Keeps z₀ x) ?_ ?_;
        (focus (intro hx; clear_value x)); rotate_left; subst x)
    | (extract_lets +onlyGivenNames x; clear_value x) | with_reducible apply Cmd.serveRing_keeps
    | with_reducible apply Evu.servePba_keeps | with_reducible apply State.Keeps.ite | split
    | (with_reducible refine State.Keeps.mk_same _ rfl rfl rfl rfl rfl rfl rfl rfl ?_)

end Param

section Role

theorem Twn.endResync_keeps {z₀ : State} (s : State) (why : Nat) (h_s : State.Keeps z₀ s) :
    State.Keeps z₀ (Twn.endResync s why) := by
  unfold Twn.endResync
  repeat' first
    | with_reducible assumption | (intro)
    | (extract_lets +onlyGivenNames x; refine State.Keeps.cut (p := State.Keeps z₀ x) ?_ ?_;
        (focus (intro hx; clear_value x)); rotate_left; subst x)
    | (extract_lets +onlyGivenNames x; clear_value x) | with_reducible apply State.each_keeps
    | with_reducible apply Cmd.finish_keeps | with_reducible apply State.fire_keeps
    | with_reducible apply State.setFlag_keeps | with_reducible apply State.Keeps.ite | split
    | (with_reducible refine State.Keeps.mk_same _ rfl rfl rfl rfl rfl rfl rfl rfl ?_)

theorem Twn.applyRole_keeps {z₀ : State} (s : State) (k r : Nat) (h_s : State.Keeps z₀ s) :
    State.Keeps z₀ (Twn.applyRole s k r) := by
  unfold Twn.applyRole
  repeat' first
    | with_reducible assumption | (intro)
    | (extract_lets +onlyGivenNames x; refine State.Keeps.cut (p := State.Keeps z₀ x) ?_ ?_;
        (focus (intro hx; clear_value x)); rotate_left; subst x)
    | (extract_lets +onlyGivenNames x; clear_value x) | with_reducible apply State.setFld_keeps
    | with_reducible apply State.setFlag_keeps | with_reducible apply State.each_keeps
    | with_reducible apply Cmd.finish_keeps | with_reducible apply State.fire_keeps | with_reducible apply State.Keeps.ite
    | split | (with_reducible refine State.Keeps.mk_same _ rfl rfl rfl rfl rfl rfl rfl rfl ?_)

theorem Twn.setRole_keeps {z₀ : State} (s : State) (k r : Nat) (h_s : State.Keeps z₀ s) :
    State.Keeps z₀ (Twn.setRole s k r) := by
  unfold Twn.setRole
  repeat' first
    | with_reducible assumption | (intro)
    | (extract_lets +onlyGivenNames x; refine State.Keeps.cut (p := State.Keeps z₀ x) ?_ ?_;
        (focus (intro hx; clear_value x)); rotate_left; subst x)
    | (extract_lets +onlyGivenNames x; clear_value x) | with_reducible apply Twn.applyRole_keeps
    | with_reducible apply State.Keeps.ite | split
    | (with_reducible refine State.Keeps.mk_same _ rfl rfl rfl rfl rfl rfl rfl rfl ?_)

theorem Twn.tookRole_keeps {z₀ : State} (s : State) (k : Nat) (h_s : State.Keeps z₀ s) :
    State.Keeps z₀ (Twn.tookRole s k) := by
  unfold Twn.tookRole
  repeat' first
    | with_reducible assumption | (intro) | with_reducible apply Twn.applyRole_keeps
    | with_reducible apply State.Keeps.ite | split

theorem Twn.levels_keeps {z₀ : State} (s : State) (h_s : State.Keeps z₀ s) :
    State.Keeps z₀ (Twn.levels s) := by
  unfold Twn.levels
  repeat' first
    | with_reducible assumption | (intro)
    | (extract_lets +onlyGivenNames x; refine State.Keeps.cut (p := State.Keeps z₀ x) ?_ ?_;
        (focus (intro hx; clear_value x)); rotate_left; subst x)
    | (extract_lets +onlyGivenNames x; clear_value x) | with_reducible apply State.faultLevel_keeps
    | with_reducible apply State.fire_keeps | with_reducible apply State.Keeps.ite | split

theorem Twn.down_keeps {z₀ : State} (s : State) (h_s : State.Keeps z₀ s) :
    State.Keeps z₀ (Twn.down s) := by
  unfold Twn.down
  repeat' first
    | with_reducible assumption | (intro)
    | (extract_lets +onlyGivenNames x; refine State.Keeps.cut (p := State.Keeps z₀ x) ?_ ?_;
        (focus (intro hx; clear_value x)); rotate_left; subst x)
    | (extract_lets +onlyGivenNames x; clear_value x) | with_reducible apply Twn.endResync_keeps
    | with_reducible apply Tth.down_keeps | with_reducible apply Twn.levels_keeps | with_reducible apply Twn.setRole_keeps
    | with_reducible apply State.Keeps.ite | split

theorem Twn.train_keeps {z₀ : State} (s : State) (h_s : State.Keeps z₀ s) :
    State.Keeps z₀ (Twn.train s) := by
  unfold Twn.train
  repeat' first
    | with_reducible assumption | (intro) | with_reducible apply State.setFld_keeps
    | with_reducible apply State.fire_keeps | with_reducible apply State.Keeps.ite | split

theorem Twn.rise_keeps {z₀ : State} (s : State) (ack : Nat) (h_s : State.Keeps z₀ s) :
    State.Keeps z₀ (Twn.rise s ack) := by
  unfold Twn.rise
  repeat' first
    | with_reducible assumption | (intro)
    | (extract_lets +onlyGivenNames x; refine State.Keeps.cut (p := State.Keeps z₀ x) ?_ ?_;
        (focus (intro hx; clear_value x)); rotate_left; subst x)
    | (extract_lets +onlyGivenNames x; clear_value x) | with_reducible apply State.setFld_keeps
    | with_reducible apply Twn.levels_keeps | with_reducible apply State.fire_keeps | with_reducible apply State.Keeps.ite
    | split | (with_reducible refine State.Keeps.mk_same _ rfl rfl rfl rfl rfl rfl rfl rfl ?_)

end Role

section Digest

theorem Rcd.putHash_keeps {z₀ : State} (s : State) (off h : Nat) (h_s : State.Keeps z₀ s) :
    State.Keeps z₀ (Rcd.putHash s off h) := by
  unfold Rcd.putHash
  repeat' first
    | with_reducible assumption | (intro) | with_reducible apply State.each_keeps
    | with_reducible apply State.setReg_keeps

theorem Rcd.show_keeps {z₀ : State} (s : State) (gen k root baleRoot : Nat) (h_s : State.Keeps z₀ s) :
    State.Keeps z₀ (Rcd.show s gen k root baleRoot) := by
  unfold Rcd.show
  repeat' first
    | with_reducible assumption | with_reducible apply Rcd.putHash_keeps | with_reducible apply State.setReg64_keeps

theorem Rcd.changed_keeps {z₀ : State} (s : State) (k : Nat) (h_s : State.Keeps z₀ s) :
    State.Keeps z₀ (Rcd.changed s k) := by
  unfold Rcd.changed
  repeat' first
    | with_reducible assumption
    | (extract_lets +onlyGivenNames x; refine State.Keeps.cut (p := State.Keeps z₀ x) ?_ ?_;
        (focus (intro hx; clear_value x)); rotate_left; subst x)
    | (extract_lets +onlyGivenNames x; clear_value x) | with_reducible apply State.setFlag_keeps
    | (with_reducible refine State.Keeps.mk_same _ rfl rfl rfl rfl rfl rfl rfl rfl ?_)

theorem Rcd.between_keeps {z₀ : State} (s : State) (h_s : State.Keeps z₀ s) :
    State.Keeps z₀ (Rcd.between s) := by
  unfold Rcd.between
  repeat' first
    | with_reducible assumption
    | (extract_lets +onlyGivenNames x; refine State.Keeps.cut (p := State.Keeps z₀ x) ?_ ?_;
        (focus (intro hx; clear_value x)); rotate_left; subst x)
    | (extract_lets +onlyGivenNames x; clear_value x) | with_reducible apply State.setFlag_keeps
    | (with_reducible refine State.Keeps.mk_same _ rfl rfl rfl rfl rfl rfl rfl rfl ?_)

theorem Rcd.boot_keeps {z₀ : State} (boot : Bool) (s : State) (k : Nat) (h_s : State.Keeps z₀ s) :
    State.Keeps z₀ (Rcd.boot boot s k) := by
  unfold Rcd.boot
  repeat' first
    | with_reducible assumption | (intro)
    | (extract_lets +onlyGivenNames x; refine State.Keeps.cut (p := State.Keeps z₀ x) ?_ ?_;
        (focus (intro hx; clear_value x)); rotate_left; subst x)
    | (extract_lets +onlyGivenNames x; clear_value x) | with_reducible apply Rcd.changed_keeps
    | with_reducible apply State.Keeps.ite | split
    | (with_reducible refine State.Keeps.mk_same _ rfl rfl rfl rfl rfl rfl rfl rfl ?_)

theorem execRcdPublish_keeps {z₀ : State} (s : State) (h_s : State.Keeps z₀ s) :
    State.Leads z₀ (execRcdPublish s) := by
  unfold execRcdPublish
  repeat' first
    | with_reducible assumption | with_reducible apply State.Leads.next | with_reducible apply State.Leads.ite | (intro)
    | (extract_lets +onlyGivenNames x; refine State.Keeps.cut (p := State.Keeps z₀ x) ?_ ?_;
        (focus (intro hx; clear_value x)); rotate_left; subst x)
    | (extract_lets +onlyGivenNames x; clear_value x) | with_reducible apply Rcd.show_keeps
    | with_reducible apply Tth.send_keeps | with_reducible apply State.send_keeps | with_reducible apply State.fire_keeps
    | with_reducible apply State.setFlag_keeps | with_reducible apply State.Keeps.ite | split
    | (with_reducible refine State.Keeps.mk_same _ rfl rfl rfl rfl rfl rfl rfl rfl ?_)

theorem execRcdCompare_keeps {z₀ : State} (s : State) (h_s : State.Keeps z₀ s) :
    State.Leads z₀ (execRcdCompare s) := by
  unfold execRcdCompare
  repeat' first
    | with_reducible assumption | with_reducible apply State.Leads.next | with_reducible apply State.Leads.ite | (intro)
    | (extract_lets +onlyGivenNames x; refine State.Keeps.cut (p := State.Keeps z₀ x) ?_ ?_;
        (focus (intro hx; clear_value x)); rotate_left; subst x)
    | (extract_lets +onlyGivenNames x; refine State.Keeps.cut (p := State.Keeps z₀ x.1) ?_ ?_;
        (focus (intro hx; clear_value x)); rotate_left; subst x)
    | (extract_lets +onlyGivenNames x; clear_value x) | with_reducible apply State.setFlag_keeps
    | with_reducible apply Twn.setRole_keeps | with_reducible apply State.fire_keeps
    | with_reducible apply State.Keeps.ite | with_reducible apply State.Keeps.ite1 | split
    | (with_reducible refine State.Keeps.mk_same _ rfl rfl rfl rfl rfl rfl rfl rfl ?_)

theorem Rcd.query_keeps {z₀ : State} (s : State) (run : Run) (h_s : State.Keeps z₀ s) :
    State.Keeps z₀ (Rcd.query s run) := by
  unfold Rcd.query
  repeat' first
    | with_reducible assumption | (intro)
    | (extract_lets +onlyGivenNames x; refine State.Keeps.cut (p := State.Keeps z₀ x) ?_ ?_;
        (focus (intro hx; clear_value x)); rotate_left; subst x)
    | (extract_lets +onlyGivenNames x; refine State.Keeps.cut (p := State.Keeps z₀ x.1) ?_ ?_;
        (focus (intro hx; clear_value x)); rotate_left; subst x)
    | (extract_lets +onlyGivenNames x; clear_value x) | with_reducible apply Cmd.noteAdj_keeps
    | with_reducible apply Cmd.finish_keeps | with_reducible apply State.each_keeps
    | with_reducible apply State.setReg_keeps | with_reducible apply State.Keeps.ite
    | with_reducible apply State.Keeps.ite1 | split

theorem execDigestQuery_keeps {z₀ : State} (s : State) (h_s : State.Keeps z₀ s) :
    State.Leads z₀ (execDigestQuery s) := by
  unfold execDigestQuery
  repeat' first
    | with_reducible assumption | with_reducible apply State.Leads.next | with_reducible apply State.Leads.ite
    | with_reducible apply Cmd.start_keeps | with_reducible apply Rcd.query_keeps

theorem Rcd.announce_keeps {z₀ : State} (s : State) (h_s : State.Keeps z₀ s) :
    State.Keeps z₀ (Rcd.announce s) := by
  unfold Rcd.announce
  repeat' first
    | with_reducible assumption | (intro)
    | (extract_lets +onlyGivenNames x; refine State.Keeps.cut (p := State.Keeps z₀ x) ?_ ?_;
        (focus (intro hx; clear_value x)); rotate_left; subst x)
    | (extract_lets +onlyGivenNames x; clear_value x) | with_reducible apply Egress.sendCp_keeps
    | with_reducible apply State.Keeps.ite | split
    | (with_reducible refine State.Keeps.mk_same _ rfl rfl rfl rfl rfl rfl rfl rfl ?_)

theorem execAnnouncePeriodic_keeps {z₀ : State} (s : State) (h_s : State.Keeps z₀ s) :
    State.Leads z₀ (execAnnouncePeriodic s) := by
  unfold execAnnouncePeriodic
  repeat' first
    | with_reducible assumption | with_reducible apply State.Leads.next | with_reducible apply State.Leads.ite | (intro)
    | with_reducible apply Rcd.announce_keeps | with_reducible apply State.Keeps.ite | split

theorem execAnnounceOnChange_keeps {z₀ : State} (s : State) (h_s : State.Keeps z₀ s) :
    State.Leads z₀ (execAnnounceOnChange s) := by
  unfold execAnnounceOnChange
  repeat' first
    | with_reducible assumption | with_reducible apply State.Leads.next | with_reducible apply State.Leads.ite | (intro)
    | (extract_lets +onlyGivenNames x; refine State.Keeps.cut (p := State.Keeps z₀ x) ?_ ?_;
        (focus (intro hx; clear_value x)); rotate_left; subst x)
    | (extract_lets +onlyGivenNames x; clear_value x) | with_reducible apply Rcd.announce_keeps
    | with_reducible apply State.Keeps.ite | split
    | (with_reducible refine State.Keeps.mk_same _ rfl rfl rfl rfl rfl rfl rfl rfl ?_)

end Digest

section Sap

theorem Port.setRec_keeps {z₀ : State} (s : State) (p : Nat) (x : PortRec) (h_s : State.Keeps z₀ s) :
    State.Keeps z₀ (Port.setRec s p x) := by
  unfold Port.setRec
  repeat' first
    | with_reducible assumption
    | (extract_lets +onlyGivenNames x; refine State.Keeps.cut (p := State.Keeps z₀ x) ?_ ?_;
        (focus (intro hx; clear_value x)); rotate_left; subst x)
    | (extract_lets +onlyGivenNames x; clear_value x)
    | (with_reducible refine State.Keeps.mk_same _ rfl rfl rfl rfl rfl rfl rfl rfl ?_)

theorem Port.store_keeps {z₀ : State} (s : State) (p c mask : Nat) (xs : List Int) (h_s : State.Keeps z₀ s) :
    State.Keeps z₀ (Port.store s p c mask xs) := by
  unfold Port.store
  repeat' first
    | with_reducible assumption | (intro)
    | (extract_lets +onlyGivenNames x; refine State.Keeps.cut (p := State.Keeps z₀ x) ?_ ?_;
        (focus (intro hx; clear_value x)); rotate_left; subst x)
    | (extract_lets +onlyGivenNames x; refine State.Keeps.cut (p := State.Keeps z₀ x.1) ?_ ?_;
        (focus (intro hx; clear_value x)); rotate_left; subst x)
    | (extract_lets +onlyGivenNames x; clear_value x) | with_reducible apply Mem.write_keeps
    | with_reducible apply State.foldl_keeps | with_reducible apply State.foldl1_keeps
    | with_reducible apply State.Keeps.ite | with_reducible apply State.Keeps.ite1 | split
    | (with_reducible refine State.Keeps.mk_same _ rfl rfl rfl rfl rfl rfl rfl rfl ?_)

theorem Port.take_keeps {z₀ : State} (s : State) (p e mask : Nat) (xs : List Int) (h_s : State.Keeps z₀ s) :
    State.Keeps z₀ (Port.take s p e mask xs).1 := by
  unfold Port.take
  repeat' first
    | with_reducible assumption | (intro)
    | (extract_lets +onlyGivenNames x; refine State.Keeps.cut (p := State.Keeps z₀ x) ?_ ?_;
        (focus (intro hx; clear_value x)); rotate_left; subst x)
    | (extract_lets +onlyGivenNames x; refine State.Keeps.cut (p := State.Keeps z₀ x.1) ?_ ?_;
        (focus (intro hx; clear_value x)); rotate_left; subst x)
    | (extract_lets +onlyGivenNames x; clear_value x) | with_reducible apply State.when_keeps
    | with_reducible apply Port.store_keeps | with_reducible apply Port.setRec_keeps
    | with_reducible apply State.Keeps.ite1 | split
    | (with_reducible refine State.Keeps.mk_same _ rfl rfl rfl rfl rfl rfl rfl rfl ?_)

theorem Sap.setClk_keeps {z₀ : State} (s : State) (p : Nat) (b : Bool) (h_s : State.Keeps z₀ s) :
    State.Keeps z₀ (Sap.setClk s p b) := by
  unfold Sap.setClk
  repeat' first
    | with_reducible assumption | (intro)
    | (extract_lets +onlyGivenNames x; refine State.Keeps.cut (p := State.Keeps z₀ x) ?_ ?_;
        (focus (intro hx; clear_value x)); rotate_left; subst x)
    | (extract_lets +onlyGivenNames x; clear_value x) | with_reducible apply Port.setRec_keeps
    | with_reducible apply State.setFlag_keeps | with_reducible apply State.when_keeps
    | with_reducible apply State.incCnt_keeps | with_reducible apply State.fire_keeps
    | with_reducible apply State.Keeps.ite | split
    | (with_reducible refine State.Keeps.mk_same _ rfl rfl rfl rfl rfl rfl rfl rfl ?_)

theorem Sap.checkFrame_keeps {z₀ : State} (s : State) (p bclks : Nat) (h_s : State.Keeps z₀ s) :
    State.Keeps z₀ (Sap.checkFrame s p bclks) := by
  unfold Sap.checkFrame
  repeat' first
    | with_reducible assumption | (intro)
    | (extract_lets +onlyGivenNames x; refine State.Keeps.cut (p := State.Keeps z₀ x) ?_ ?_;
        (focus (intro hx; clear_value x)); rotate_left; subst x)
    | (extract_lets +onlyGivenNames x; clear_value x) | with_reducible apply Port.setRec_keeps
    | with_reducible apply State.incCnt_keeps | with_reducible apply Sap.setClk_keeps
    | with_reducible apply State.Keeps.ite | split
    | (with_reducible refine State.Keeps.mk_same _ rfl rfl rfl rfl rfl rfl rfl rfl ?_)

theorem execSapFrameReceive_keeps {z₀ : State} (port at_ bclks : Nat) (lost : Bool) (words : List Nat) (s : State)
    (h_s : State.Keeps z₀ s) : State.Leads z₀ (execSapFrameReceive port at_ bclks lost words s) := by
  unfold execSapFrameReceive
  refine State.Leads.ite (fun _ => .next h_s) (fun _ => ?_)
  have h0 := Sap.checkFrame_keeps _ port bclks (State.when_keeps lost _ (fun t h => Clk.overrun_keeps t (27 + port) h) h_s)
  generalize Sap.checkFrame _ port bclks = s0 at h0
  show State.Leads z₀ (if _ then _ else _)
  refine State.Leads.ite (fun _ => .next h0) (fun _ => ?_)
  refine State.Leads.ite (fun _ => .next ?_) (fun _ => .next ?_)
  · exact State.setFld_keeps _ _ _ (State.addCnt_keeps _ _ _ (Port.take_keeps _ _ _ _ _ h0))
  · exact Port.setRec_keeps _ _ _ (Port.store_keeps _ _ _ _ _ h0)

theorem execSapClockLoss_keeps {z₀ : State} (port : Nat) (s : State) (h_s : State.Keeps z₀ s) :
    State.Leads z₀ (execSapClockLoss port s) := by
  unfold execSapClockLoss
  repeat' first
    | with_reducible assumption | with_reducible apply State.Leads.next | with_reducible apply State.Leads.ite | (intro)
    | with_reducible apply Sap.setClk_keeps | with_reducible apply State.Keeps.ite | split

theorem execSapClockPresent_keeps {z₀ : State} (port : Nat) (s : State) (h_s : State.Keeps z₀ s) :
    State.Leads z₀ (execSapClockPresent port s) := by
  unfold execSapClockPresent
  repeat' first
    | with_reducible assumption | with_reducible apply State.Leads.next | with_reducible apply State.Leads.ite | (intro)
    | with_reducible apply Sap.setClk_keeps | with_reducible apply State.Keeps.ite | split

theorem Sap.cfgWritten_keeps {z₀ : State} (s : State) (p : Nat) (h_s : State.Keeps z₀ s) :
    State.Keeps z₀ (Sap.cfgWritten s p) := by
  unfold Sap.cfgWritten
  repeat' first
    | with_reducible assumption | (intro)
    | (extract_lets +onlyGivenNames x; refine State.Keeps.cut (p := State.Keeps z₀ x) ?_ ?_;
        (focus (intro hx; clear_value x)); rotate_left; subst x)
    | (extract_lets +onlyGivenNames x; clear_value x) | with_reducible apply State.when_keeps
    | with_reducible apply Sap.setClk_keeps | with_reducible apply Port.setRec_keeps
    | with_reducible apply State.setFld_keeps | with_reducible apply State.Keeps.ite | split

theorem execSapFrameTransmit_keeps {z₀ : State} (port at_ bclks : Nat) (s : State) (h_s : State.Keeps z₀ s) :
    State.Leads z₀ (execSapFrameTransmit port at_ bclks s) := by
  unfold execSapFrameTransmit
  repeat' first
    | with_reducible assumption | with_reducible apply State.Leads.next | with_reducible apply State.Leads.ite | (intro)
    | (extract_lets +onlyGivenNames x; refine State.Keeps.cut (p := State.Keeps z₀ x) ?_ ?_;
        (focus (intro hx; clear_value x)); rotate_left; subst x)
    | (extract_lets +onlyGivenNames x; refine State.Keeps.cut (p := State.Keeps z₀ x.1) ?_ ?_;
        (focus (intro hx; clear_value x)); rotate_left; subst x)
    | (extract_lets +onlyGivenNames x; clear_value x) | with_reducible apply Sap.checkFrame_keeps
    | with_reducible apply Port.setRec_keeps | with_reducible apply State.setFld_keeps
    | with_reducible apply State.when_keeps | with_reducible apply State.send_keeps
    | with_reducible apply State.addCnt_keeps | with_reducible apply State.Keeps.ite
    | with_reducible apply State.Keeps.ite1 | split

theorem Aes.setRec_keeps {z₀ : State} (s : State) (n : Nat) (x : AesRec) (h_s : State.Keeps z₀ s) :
    State.Keeps z₀ (Aes.setRec s n x) := by
  unfold Aes.setRec
  repeat' first
    | with_reducible assumption
    | (extract_lets +onlyGivenNames x; refine State.Keeps.cut (p := State.Keeps z₀ x) ?_ ?_;
        (focus (intro hx; clear_value x)); rotate_left; subst x)
    | (extract_lets +onlyGivenNames x; clear_value x)
    | (with_reducible refine State.Keeps.mk_same _ rfl rfl rfl rfl rfl rfl rfl rfl ?_)

theorem Aes.setLock_keeps {z₀ : State} (s : State) (n l : Nat) (h_s : State.Keeps z₀ s) :
    State.Keeps z₀ (Aes.setLock s n l) := by
  unfold Aes.setLock
  repeat' first
    | with_reducible assumption | (intro)
    | (extract_lets +onlyGivenNames x; refine State.Keeps.cut (p := State.Keeps z₀ x) ?_ ?_;
        (focus (intro hx; clear_value x)); rotate_left; subst x)
    | (extract_lets +onlyGivenNames x; clear_value x) | with_reducible apply Port.setRec_keeps
    | with_reducible apply Aes.setRec_keeps | with_reducible apply State.setFld_keeps
    | with_reducible apply State.fire_keeps | with_reducible apply State.Keeps.ite | split
    | (with_reducible refine State.Keeps.mk_same _ rfl rfl rfl rfl rfl rfl rfl rfl ?_)

theorem execAesNosig_keeps {z₀ : State} (port : Nat) (s : State) (h_s : State.Keeps z₀ s) :
    State.Leads z₀ (execAesNosig port s) := by
  unfold execAesNosig
  repeat' first
    | with_reducible assumption | with_reducible apply State.Leads.next | with_reducible apply State.Leads.ite | (intro)
    | with_reducible apply Aes.setLock_keeps | with_reducible apply State.setFlag_keeps
    | with_reducible apply State.Keeps.ite | split

theorem execAesSeek_keeps {z₀ : State} (port : Nat) (s : State) (h_s : State.Keeps z₀ s) :
    State.Leads z₀ (execAesSeek port s) := by
  unfold execAesSeek
  repeat' first
    | with_reducible assumption | with_reducible apply State.Leads.next | with_reducible apply State.Leads.ite | (intro)
    | with_reducible apply Aes.setLock_keeps | with_reducible apply State.Keeps.ite | split

theorem Aes.cfgWritten_keeps {z₀ : State} (s : State) (n : Nat) (h_s : State.Keeps z₀ s) :
    State.Keeps z₀ (Aes.cfgWritten s n) := by
  unfold Aes.cfgWritten
  repeat' first
    | with_reducible assumption | (intro)
    | (extract_lets +onlyGivenNames x; refine State.Keeps.cut (p := State.Keeps z₀ x) ?_ ?_;
        (focus (intro hx; clear_value x)); rotate_left; subst x)
    | (extract_lets +onlyGivenNames x; clear_value x) | with_reducible apply State.when_keeps
    | with_reducible apply Port.setRec_keeps | with_reducible apply Aes.setLock_keeps
    | with_reducible apply State.setFld_keeps | with_reducible apply State.setFlag_keeps | split

theorem Aes.blockEnd_keeps {z₀ : State} (s : State) (n : Nat) (h_s : State.Keeps z₀ s) :
    State.Keeps z₀ (Aes.blockEnd s n) := by
  unfold Aes.blockEnd
  repeat' first
    | with_reducible assumption | (intro)
    | (extract_lets +onlyGivenNames x; refine State.Keeps.cut (p := State.Keeps z₀ x) ?_ ?_;
        (focus (intro hx; clear_value x)); rotate_left; subst x)
    | (extract_lets +onlyGivenNames x; refine State.Keeps.cut (p := State.Keeps z₀ x.1) ?_ ?_;
        (focus (intro hx; clear_value x)); rotate_left; subst x)
    | (extract_lets +onlyGivenNames x) | with_reducible apply State.incCnt_keeps | with_reducible apply State.setReg_keeps
    | with_reducible apply State.incWrap_keeps | with_reducible apply State.setFlag_keeps
    | with_reducible apply State.foldl_keeps | with_reducible apply State.foldl1_keeps
    | with_reducible apply State.Keeps.ite | with_reducible apply State.Keeps.ite1 | split

theorem Aes.block_keeps {z₀ : State} (s : State) (n : Nat) (z : Bool) (h_s : State.Keeps z₀ s) :
    State.Keeps z₀ (Aes.block s n z) := by
  unfold Aes.block
  repeat' first
    | with_reducible assumption | (intro)
    | (extract_lets +onlyGivenNames x; refine State.Keeps.cut (p := State.Keeps z₀ x) ?_ ?_;
        (focus (intro hx; clear_value x)); rotate_left; subst x)
    | (extract_lets +onlyGivenNames x; refine State.Keeps.cut (p := State.Keeps z₀ x.1) ?_ ?_;
        (focus (intro hx; clear_value x)); rotate_left; subst x)
    | (extract_lets +onlyGivenNames x) | with_reducible apply State.incCnt_keeps | with_reducible apply Aes.setRec_keeps
    | with_reducible apply Aes.blockEnd_keeps | with_reducible apply State.Keeps.ite
    | with_reducible apply State.Keeps.ite1 | split
    | (with_reducible refine State.Keeps.mk_same _ rfl rfl rfl rfl rfl rfl rfl rfl ?_)

theorem Aes.collect_keeps {z₀ : State} (s : State) (n : Nat) (a b : AesSub) (h_s : State.Keeps z₀ s) :
    State.Keeps z₀ (Aes.collect s n a b) := by
  unfold Aes.collect
  repeat' first
    | with_reducible assumption
    | (extract_lets +onlyGivenNames x; refine State.Keeps.cut (p := State.Keeps z₀ x) ?_ ?_;
        (focus (intro hx; clear_value x)); rotate_left; subst x)
    | (extract_lets +onlyGivenNames x; clear_value x) | with_reducible apply Aes.setRec_keeps | split
    | (with_reducible refine State.Keeps.mk_same _ rfl rfl rfl rfl rfl rfl rfl rfl ?_)

theorem Aes.seekFrame_keeps {z₀ : State} (s : State) (n : Nat) (a b : AesSub) (rate : Bool) (h_s : State.Keeps z₀ s) :
    State.Keeps z₀ (Aes.seekFrame s n a b rate) := by
  unfold Aes.seekFrame
  repeat' first
    | with_reducible assumption | (intro)
    | (extract_lets +onlyGivenNames x; refine State.Keeps.cut (p := State.Keeps z₀ x) ?_ ?_;
        (focus (intro hx; clear_value x)); rotate_left; subst x)
    | (extract_lets +onlyGivenNames x; clear_value x) | with_reducible apply State.setFlag_keeps
    | with_reducible apply Aes.setRec_keeps | with_reducible apply Aes.setLock_keeps
    | with_reducible apply State.Keeps.ite | split
    | (with_reducible refine State.Keeps.mk_same _ rfl rfl rfl rfl rfl rfl rfl rfl ?_)

theorem Aes.lockedFrame_keeps {z₀ : State} (s : State) (n e : Nat) (a b : AesSub) (rate : Bool) (h_s : State.Keeps z₀ s) :
    State.Keeps z₀ (Aes.lockedFrame s n e a b rate) := by
  unfold Aes.lockedFrame
  repeat' first
    | with_reducible assumption | (intro)
    | (extract_lets +onlyGivenNames x; refine State.Keeps.cut (p := State.Keeps z₀ x) ?_ ?_;
        (focus (intro hx; clear_value x)); rotate_left; subst x)
    | (extract_lets +onlyGivenNames x; refine State.Keeps.cut (p := State.Keeps z₀ x.1) ?_ ?_;
        (focus (intro hx; clear_value x)); rotate_left; subst x)
    | (extract_lets +onlyGivenNames x; clear_value x) | with_reducible apply Aes.setLock_keeps
    | with_reducible apply Aes.collect_keeps | with_reducible apply Aes.block_keeps
    | with_reducible apply Port.setRec_keeps | with_reducible apply State.addCnt_keeps
    | with_reducible apply Port.take_keeps | with_reducible apply State.setFlag_keeps
    | with_reducible apply State.setFld_keeps | with_reducible apply State.Keeps.ite
    | with_reducible apply State.Keeps.ite1 | split
    | (with_reducible refine State.Keeps.mk_same _ rfl rfl rfl rfl rfl rfl rfl rfl ?_)

theorem execAesFrameReceive_keeps {z₀ : State} (port at_ : Nat) (lost : Bool) (s0 s1 : AesSub) (rate : Bool) (s : State) (h_s :
    State.Keeps z₀ s) :
    State.Leads z₀ (execAesFrameReceive port at_ lost s0 s1 rate s) := by
  unfold execAesFrameReceive
  repeat' first
    | with_reducible assumption | with_reducible apply State.Leads.next | with_reducible apply State.Leads.ite | (intro)
    | (extract_lets +onlyGivenNames x; refine State.Keeps.cut (p := State.Keeps z₀ x) ?_ ?_;
        (focus (intro hx; clear_value x)); rotate_left; subst x)
    | (extract_lets +onlyGivenNames x; clear_value x) | with_reducible apply Clk.overrun_keeps
    | with_reducible apply Aes.seekFrame_keeps | with_reducible apply Aes.lockedFrame_keeps
    | with_reducible apply State.Keeps.ite | split

theorem execAesFrameTransmit_keeps {z₀ : State} (port at_ : Nat) (s : State) (h_s : State.Keeps z₀ s) :
    State.Leads z₀ (execAesFrameTransmit port at_ s) := by
  unfold execAesFrameTransmit
  repeat' first
    | with_reducible assumption | with_reducible apply State.Leads.next | with_reducible apply State.Leads.ite | (intro)
    | (extract_lets +onlyGivenNames x; refine State.Keeps.cut (p := State.Keeps z₀ x) ?_ ?_;
        (focus (intro hx; clear_value x)); rotate_left; subst x)
    | (extract_lets +onlyGivenNames x; refine State.Keeps.cut (p := State.Keeps z₀ x.1) ?_ ?_;
        (focus (intro hx; clear_value x)); rotate_left; subst x)
    | (extract_lets +onlyGivenNames x; clear_value x) | with_reducible apply Port.setRec_keeps
    | with_reducible apply Aes.setRec_keeps | with_reducible apply State.addCnt_keeps
    | with_reducible apply State.send_keeps | with_reducible apply State.setFld_keeps
    | with_reducible apply State.when_keeps | with_reducible apply State.Keeps.ite | with_reducible apply State.Keeps.ite1
    | split | (with_reducible refine State.Keeps.mk_same _ rfl rfl rfl rfl rfl rfl rfl rfl ?_)

theorem Port.pass_keeps {z₀ : State} (k p chans dest : Nat) (valid : Bool) (st : Fld) (s : State) (h_s : State.Keeps z₀ s) :
    State.Keeps z₀ (Port.pass k p chans dest valid st s) := by
  unfold Port.pass
  repeat' first
    | with_reducible assumption | (intro)
    | (extract_lets +onlyGivenNames x; refine State.Keeps.cut (p := State.Keeps z₀ x) ?_ ?_;
        (focus (intro hx; clear_value x)); rotate_left; subst x)
    | (extract_lets +onlyGivenNames x; refine State.Keeps.cut (p := State.Keeps z₀ x.1) ?_ ?_;
        (focus (intro hx; clear_value x)); rotate_left; subst x)
    | (extract_lets +onlyGivenNames x; clear_value x) | with_reducible apply State.each_keeps
    | with_reducible apply Mem.noteRange_keeps | with_reducible apply Port.setRec_keeps
    | with_reducible apply State.setFld_keeps | with_reducible apply State.foldl_keeps
    | with_reducible apply State.foldl1_keeps | with_reducible apply State.Keeps.ite
    | with_reducible apply State.Keeps.ite1 | split
    | (with_reducible refine State.Keeps.mk_same _ rfl rfl rfl rfl rfl rfl rfl rfl ?_)

theorem Port.intake_keeps {z₀ : State} (s : State) (k : Nat) (h_s : State.Keeps z₀ s) :
    State.Keeps z₀ (Port.intake s k) := by
  unfold Port.intake
  repeat' first
    | with_reducible assumption | (intro)
    | (extract_lets +onlyGivenNames x; refine State.Keeps.cut (p := State.Keeps z₀ x) ?_ ?_;
        (focus (intro hx; clear_value x)); rotate_left; subst x)
    | (extract_lets +onlyGivenNames x; refine State.Keeps.cut (p := State.Keeps z₀ x.1) ?_ ?_;
        (focus (intro hx; clear_value x)); rotate_left; subst x)
    | (extract_lets +onlyGivenNames x; clear_value x) | with_reducible apply State.each_keeps
    | with_reducible apply Port.pass_keeps | split
    | (with_reducible refine State.Keeps.mk_same _ rfl rfl rfl rfl rfl rfl rfl rfl ?_)

theorem Port.boundary_keeps {z₀ : State} (old s : State) (k : Nat) (outlet : Nat → Nat → Int) (h_old : State.Keeps z₀ old) (h_s
    : State.Keeps z₀ s) :
    State.Keeps z₀ (Port.boundary old s k outlet) := by
  unfold Port.boundary
  repeat' first
    | with_reducible assumption | (intro)
    | (extract_lets +onlyGivenNames x; refine State.Keeps.cut (p := State.Keeps z₀ x) ?_ ?_;
        (focus (intro hx; clear_value x)); rotate_left; subst x)
    | (extract_lets +onlyGivenNames x; clear_value x) | with_reducible apply State.each_keeps
    | with_reducible apply Port.setRec_keeps | with_reducible apply State.foldl_keeps
    | with_reducible apply State.foldl1_keeps | with_reducible apply State.Keeps.ite | split
    | (with_reducible refine State.Keeps.mk_same _ rfl rfl rfl rfl rfl rfl rfl rfl ?_)

end Sap

end Sys2Proof.Machine
end

