-- ==== Sys2Proof/Laws/KeepsUnit.lean ====
section
/-! SUPPORT. `State.Keeps` for sense filters, drive stage, graph, twin state, commits and swaps, mirroring: each operation keeps the variant, the queue, what has been sent,
the count of free values and the canonical forms. -/

namespace Sys2Proof.Machine

section Sfb

theorem Sfb.setChan_keeps {z₀ : State} (s : State) (i : Nat) (x : SfbChan) (h_s : State.Keeps z₀ s) :
    State.Keeps z₀ (Sfb.setChan s i x) := by
  unfold Sfb.setChan
  repeat' first
    | with_reducible assumption
    | (extract_lets +onlyGivenNames x; refine State.Keeps.cut (p := State.Keeps z₀ x) ?_ ?_;
        (focus (intro hx; clear_value x)); rotate_left; subst x)
    | (extract_lets +onlyGivenNames x; clear_value x)
    | (with_reducible refine State.Keeps.mk_same _ rfl rfl rfl rfl rfl rfl rfl rfl ?_)

theorem Sfb.enter_keeps {z₀ : State} (s : State) (i st : Nat) (h_s : State.Keeps z₀ s) :
    State.Keeps z₀ (Sfb.enter s i st) := by
  unfold Sfb.enter
  repeat' first
    | with_reducible assumption | (intro)
    | (extract_lets +onlyGivenNames x; refine State.Keeps.cut (p := State.Keeps z₀ x) ?_ ?_;
        (focus (intro hx; clear_value x)); rotate_left; subst x)
    | (extract_lets +onlyGivenNames x; clear_value x) | with_reducible apply State.setFld_keeps
    | with_reducible apply State.fire_keeps | with_reducible apply State.Keeps.ite | split

theorem Sfb.quiet_keeps {z₀ : State} (s : State) (i : Nat) (h_s : State.Keeps z₀ s) :
    State.Keeps z₀ (Sfb.quiet s i) := by
  unfold Sfb.quiet
  repeat' first
    | with_reducible assumption
    | (extract_lets +onlyGivenNames x; refine State.Keeps.cut (p := State.Keeps z₀ x) ?_ ?_;
        (focus (intro hx; clear_value x)); rotate_left; subst x)
    | (extract_lets +onlyGivenNames x; clear_value x) | with_reducible apply Sfb.setChan_keeps
    | with_reducible apply State.setFlag_keeps | split
    | (with_reducible refine State.Keeps.mk_same _ rfl rfl rfl rfl rfl rfl rfl rfl ?_)

theorem Sfb.restart_keeps {z₀ : State} (s : State) (i cs : Nat) (h_s : State.Keeps z₀ s) :
    State.Keeps z₀ (Sfb.restart s i cs) := by
  unfold Sfb.restart
  repeat' first
    | with_reducible assumption | (intro)
    | (extract_lets +onlyGivenNames x; refine State.Keeps.cut (p := State.Keeps z₀ x) ?_ ?_;
        (focus (intro hx; clear_value x)); rotate_left; subst x)
    | (extract_lets +onlyGivenNames x; clear_value x) | with_reducible apply Sfb.quiet_keeps
    | with_reducible apply Sfb.setChan_keeps | with_reducible apply State.incCnt_keeps
    | with_reducible apply Sfb.enter_keeps | with_reducible apply State.Keeps.ite | split
    | (with_reducible refine State.Keeps.mk_same _ rfl rfl rfl rfl rfl rfl rfl rfl ?_)

theorem Sfb.evalRun_keeps {z₀ : State} (s : State) (h_s : State.Keeps z₀ s) :
    State.Keeps z₀ (Sfb.evalRun s) := by
  unfold Sfb.evalRun
  repeat' first
    | with_reducible assumption | (intro)
    | (extract_lets +onlyGivenNames x; refine State.Keeps.cut (p := State.Keeps z₀ x) ?_ ?_;
        (focus (intro hx; clear_value x)); rotate_left; subst x)
    | (extract_lets +onlyGivenNames x; clear_value x) | with_reducible apply Sfb.showDriving_keeps
    | with_reducible apply State.setFlag_keeps | with_reducible apply State.each_keeps
    | with_reducible apply Sfb.restart_keeps | with_reducible apply Sfb.enter_keeps | with_reducible apply Sfb.quiet_keeps
    | with_reducible apply State.Keeps.ite | split
    | (with_reducible refine State.Keeps.mk_same _ rfl rfl rfl rfl rfl rfl rfl rfl ?_)

theorem Sfb.setClk_keeps {z₀ : State} (s : State) (b : Bool) (h_s : State.Keeps z₀ s) :
    State.Keeps z₀ (Sfb.setClk s b) := by
  unfold Sfb.setClk
  repeat' first
    | with_reducible assumption | (intro)
    | (extract_lets +onlyGivenNames x; refine State.Keeps.cut (p := State.Keeps z₀ x) ?_ ?_;
        (focus (intro hx; clear_value x)); rotate_left; subst x)
    | (extract_lets +onlyGivenNames x; clear_value x) | with_reducible apply State.setFlag_keeps
    | with_reducible apply State.each_keeps | with_reducible apply Sfb.restart_keeps
    | with_reducible apply Sfb.enter_keeps | with_reducible apply Sfb.quiet_keeps | with_reducible apply State.fire_keeps
    | with_reducible apply State.Keeps.ite | split

theorem Sfb.gapBegin_keeps {z₀ : State} (s : State) (input : Nat) (full : Bool) (h_s : State.Keeps z₀ s) :
    State.Keeps z₀ (Sfb.gapBegin s input full) := by
  unfold Sfb.gapBegin
  repeat' first
    | with_reducible assumption | (intro)
    | (extract_lets +onlyGivenNames x; refine State.Keeps.cut (p := State.Keeps z₀ x) ?_ ?_;
        (focus (intro hx; clear_value x)); rotate_left; subst x)
    | (extract_lets +onlyGivenNames x; clear_value x) | with_reducible apply State.when_keeps
    | with_reducible apply Clk.overrun_keeps | with_reducible apply State.incCnt_keeps
    | with_reducible apply Sfb.quiet_keeps | with_reducible apply Sfb.enter_keeps | with_reducible apply State.each_keeps
    | with_reducible apply State.Keeps.ite | split
    | (with_reducible refine State.Keeps.mk_same _ rfl rfl rfl rfl rfl rfl rfl rfl ?_)

theorem Sfb.gapEnd_keeps {z₀ : State} (s : State) (input at_ : Nat) (h_s : State.Keeps z₀ s) :
    State.Keeps z₀ (Sfb.gapEnd s input at_) := by
  unfold Sfb.gapEnd
  repeat' first
    | with_reducible assumption | (intro)
    | (extract_lets +onlyGivenNames x; refine State.Keeps.cut (p := State.Keeps z₀ x) ?_ ?_;
        (focus (intro hx; clear_value x)); rotate_left; subst x)
    | (extract_lets +onlyGivenNames x; clear_value x) | with_reducible apply State.each_keeps
    | with_reducible apply Sfb.restart_keeps | with_reducible apply State.Keeps.ite | split
    | (with_reducible refine State.Keeps.mk_same _ rfl rfl rfl rfl rfl rfl rfl rfl ?_)

theorem Sfb.write_keeps {z₀ : State} (s : State) (i c : Nat) (mark : Bool) (v : Int) (h_s : State.Keeps z₀ s) :
    State.Keeps z₀ (Sfb.write s i c mark v) := by
  unfold Sfb.write
  repeat' first
    | with_reducible assumption | (intro)
    | (extract_lets +onlyGivenNames x; refine State.Keeps.cut (p := State.Keeps z₀ x) ?_ ?_;
        (focus (intro hx; clear_value x)); rotate_left; subst x)
    | (extract_lets +onlyGivenNames x; refine State.Keeps.cut (p := State.Keeps z₀ x.1) ?_ ?_;
        (focus (intro hx; clear_value x)); rotate_left; subst x)
    | (extract_lets +onlyGivenNames x; clear_value x) | with_reducible apply Mem.write_keeps
    | with_reducible apply State.Keeps.ite | with_reducible apply State.Keeps.ite1 | split
    | (with_reducible refine State.Keeps.mk_same _ rfl rfl rfl rfl rfl rfl rfl rfl ?_)

theorem Sfb.mainSample_keeps {z₀ : State} (c : Nat) (bits : List (Nat × List Bool)) (s : State) (i : Nat) (h_s : State.Keeps z₀
    s) :
    State.Keeps z₀ (Sfb.mainSample c bits s i) := by
  unfold Sfb.mainSample
  repeat' first
    | with_reducible assumption | (intro)
    | (extract_lets +onlyGivenNames x; refine State.Keeps.cut (p := State.Keeps z₀ x) ?_ ?_;
        (focus (intro hx; clear_value x)); rotate_left; subst x)
    | (extract_lets +onlyGivenNames x; refine State.Keeps.cut (p := State.Keeps z₀ x.1) ?_ ?_;
        (focus (intro hx; clear_value x)); rotate_left; subst x)
    | (extract_lets +onlyGivenNames x; clear_value x) | with_reducible apply Sfb.write_keeps
    | with_reducible apply Sfb.enter_keeps | with_reducible apply Sfb.setChan_keeps
    | with_reducible apply Sfb.restart_keeps | with_reducible apply State.Keeps.ite
    | with_reducible apply State.Keeps.ite1 | split
    | (with_reducible refine State.Keeps.mk_same _ rfl rfl rfl rfl rfl rfl rfl rfl ?_)

theorem execMainSample_keeps {z₀ : State} (count : Nat) (bits : List (Nat × List Bool)) (s : State) (h_s : State.Keeps z₀ s) :
    State.Leads z₀ (execMainSample count bits s) := by
  unfold execMainSample
  repeat' first
    | with_reducible assumption | with_reducible apply State.Leads.next | with_reducible apply State.Leads.ite | (intro)
    | with_reducible apply State.each_keeps | with_reducible apply Sfb.mainSample_keeps

theorem Sfb.setQ_keeps {z₀ : State} (s : State) (i : Nat) (f : Fld) (hit e : Nat) (q : Bool) (h_s : State.Keeps z₀ s) :
    State.Keeps z₀ (Sfb.setQ s i f hit e q) := by
  unfold Sfb.setQ
  repeat' first
    | with_reducible assumption | (intro)
    | (extract_lets +onlyGivenNames x; refine State.Keeps.cut (p := State.Keeps z₀ x) ?_ ?_;
        (focus (intro hx; clear_value x)); rotate_left; subst x)
    | (extract_lets +onlyGivenNames x; clear_value x) | with_reducible apply State.setFlag_keeps
    | with_reducible apply State.setVecBit_keeps | with_reducible apply State.fire_keeps
    | with_reducible apply State.Keeps.ite | split

theorem Sfb.renew_keeps {z₀ : State} (s : State) (i from_ : Nat) (h_s : State.Keeps z₀ s) :
    State.Keeps z₀ (Sfb.renew s i from_) := by
  unfold Sfb.renew
  repeat' first
    | with_reducible assumption | (intro)
    | (extract_lets +onlyGivenNames x; refine State.Keeps.cut (p := State.Keeps z₀ x) ?_ ?_;
        (focus (intro hx; clear_value x)); rotate_left; subst x)
    | (extract_lets +onlyGivenNames x; clear_value x) | with_reducible apply Sfb.setChan_keeps
    | with_reducible apply State.Keeps.ite | split
    | (with_reducible refine State.Keeps.mk_same _ rfl rfl rfl rfl rfl rfl rfl rfl ?_)

theorem Sfb.fastSample_keeps {z₀ : State} (s0 : State) (i at_ : Nat) (bits : List Bool) (h_s0 : State.Keeps z₀ s0) :
    State.Keeps z₀ (Sfb.fastSample s0 i at_ bits) := by
  unfold Sfb.fastSample
  repeat' first
    | with_reducible assumption | (intro)
    | (extract_lets +onlyGivenNames x; refine State.Keeps.cut (p := State.Keeps z₀ x) ?_ ?_;
        (focus (intro hx; clear_value x)); rotate_left; subst x)
    | (extract_lets +onlyGivenNames x; refine State.Keeps.cut (p := State.Keeps z₀ x.1) ?_ ?_;
        (focus (intro hx; clear_value x)); rotate_left; subst x)
    | (extract_lets +onlyGivenNames x; clear_value x) | with_reducible apply Sfb.renew_keeps
    | with_reducible apply Sfb.quiet_keeps | with_reducible apply Sfb.setChan_keeps | with_reducible apply Sfb.setQ_keeps
    | with_reducible apply State.setFlag_keeps | with_reducible apply State.Keeps.ite
    | with_reducible apply State.Keeps.ite1 | split
    | (with_reducible refine State.Keeps.mk_same _ rfl rfl rfl rfl rfl rfl rfl rfl ?_)

theorem Sfb.railSample_keeps {z₀ : State} (s : State) (i : Nat) (bits : List Bool) (h_s : State.Keeps z₀ s) :
    State.Keeps z₀ (Sfb.railSample s i bits) := by
  unfold Sfb.railSample
  repeat' first
    | with_reducible assumption | (intro)
    | (extract_lets +onlyGivenNames x; refine State.Keeps.cut (p := State.Keeps z₀ x) ?_ ?_;
        (focus (intro hx; clear_value x)); rotate_left; subst x)
    | (extract_lets +onlyGivenNames x; refine State.Keeps.cut (p := State.Keeps z₀ x.1) ?_ ?_;
        (focus (intro hx; clear_value x)); rotate_left; subst x)
    | (extract_lets +onlyGivenNames x; clear_value x) | with_reducible apply State.setFlag_keeps
    | with_reducible apply Sfb.setChan_keeps | with_reducible apply State.setFld_keeps
    | with_reducible apply State.Keeps.ite | with_reducible apply State.Keeps.ite1 | split
    | (with_reducible refine State.Keeps.mk_same _ rfl rfl rfl rfl rfl rfl rfl rfl ?_)

theorem Sfb.readDone_keeps {z₀ : State} (s : State) (k : Nat) (h_s : State.Keeps z₀ s) :
    State.Keeps z₀ (Sfb.readDone s k) := by
  unfold Sfb.readDone
  repeat' first
    | with_reducible assumption | (intro)
    | (extract_lets +onlyGivenNames x; refine State.Keeps.cut (p := State.Keeps z₀ x) ?_ ?_;
        (focus (intro hx; clear_value x)); rotate_left; subst x)
    | (extract_lets +onlyGivenNames x; refine State.Keeps.cut (p := State.Keeps z₀ x.1) ?_ ?_;
        (focus (intro hx; clear_value x)); rotate_left; subst x)
    | (extract_lets +onlyGivenNames x; clear_value x) | split
    | (with_reducible refine State.Keeps.mk_same _ rfl rfl rfl rfl rfl rfl rfl rfl ?_)

theorem Sfb.realign_keeps {z₀ : State} (s : State) (h_s : State.Keeps z₀ s) :
    State.Keeps z₀ (Sfb.realign s) := by
  unfold Sfb.realign
  repeat' first
    | with_reducible assumption | (intro) | with_reducible apply State.each_keeps | with_reducible apply Sfb.quiet_keeps

theorem Sfb.boundary_keeps {z₀ : State} (old s : State) (k : Nat) (h_old : State.Keeps z₀ old) (h_s : State.Keeps z₀ s) :
    State.Keeps z₀ (Sfb.boundary old s k) := by
  unfold Sfb.boundary
  repeat' first
    | with_reducible assumption | (intro)
    | (extract_lets +onlyGivenNames x; refine State.Keeps.cut (p := State.Keeps z₀ x) ?_ ?_;
        (focus (intro hx; clear_value x)); rotate_left; subst x)
    | (extract_lets +onlyGivenNames x; clear_value x) | with_reducible apply State.each_keeps
    | with_reducible apply Sfb.setChan_keeps | with_reducible apply Sfb.restart_keeps
    | with_reducible apply State.Keeps.ite | split
    | (with_reducible refine State.Keeps.mk_same _ rfl rfl rfl rfl rfl rfl rfl rfl ?_)

end Sfb

section Drv

theorem Drv.setChan_keeps {z₀ : State} (s : State) (n : Nat) (x : DrvChan) (h_s : State.Keeps z₀ s) :
    State.Keeps z₀ (Drv.setChan s n x) := by
  unfold Drv.setChan
  repeat' first
    | with_reducible assumption
    | (extract_lets +onlyGivenNames x; refine State.Keeps.cut (p := State.Keeps z₀ x) ?_ ?_;
        (focus (intro hx; clear_value x)); rotate_left; subst x)
    | (extract_lets +onlyGivenNames x; clear_value x)
    | (with_reducible refine State.Keeps.mk_same _ rfl rfl rfl rfl rfl rfl rfl rfl ?_)

theorem Drv.evalRun_keeps {z₀ : State} (s : State) (h_s : State.Keeps z₀ s) :
    State.Keeps z₀ (Drv.evalRun s) := by
  unfold Drv.evalRun
  repeat' first
    | with_reducible assumption | (intro) | with_reducible apply State.setFlag_keeps
    | with_reducible apply Twn.request_keeps | with_reducible apply State.Keeps.ite | split

theorem Bar.drvCtlEnWrite_keeps {z₀ : State} (en : Bool) (s : State) (h_s : State.Keeps z₀ s) :
    State.Keeps z₀ (Bar.drvCtlEnWrite en s) := by
  unfold Bar.drvCtlEnWrite
  repeat' first
    | with_reducible assumption | (intro) | with_reducible apply Drv.evalRun_keeps
    | with_reducible apply State.setFlag_keeps | with_reducible apply State.Keeps.ite | split

theorem execDrvCtlEnWrite_keeps {z₀ : State} (en : Bool) (s : State) (h_s : State.Keeps z₀ s) :
    State.Leads z₀ (execDrvCtlEnWrite en s) := by
  unfold execDrvCtlEnWrite
  repeat' first
    | with_reducible assumption | with_reducible apply State.Leads.next | with_reducible apply State.Leads.ite
    | with_reducible apply State.bar_keeps | with_reducible apply Bar.drvCtlEnWrite_keeps

theorem Drv.senseEnd_keeps {z₀ : State} (s : State) (h_s : State.Keeps z₀ s) :
    State.Keeps z₀ (Drv.senseEnd s) := by
  unfold Drv.senseEnd
  repeat' first
    | with_reducible assumption | (intro) | with_reducible apply State.each_keeps
    | with_reducible apply State.setFlag_keeps

theorem execSenseLoss_keeps {z₀ : State} (chan : Nat) (s : State) (h_s : State.Keeps z₀ s) :
    State.Leads z₀ (execSenseLoss chan s) := by
  unfold execSenseLoss
  repeat' first
    | with_reducible assumption | with_reducible apply State.Leads.next | with_reducible apply State.Leads.ite | (intro)
    | with_reducible apply State.setFlag_keeps | with_reducible apply State.Keeps.ite | split

theorem Drv.request_keeps {z₀ : State} (s : State) (n : Nat) (h_s : State.Keeps z₀ s) :
    State.Keeps z₀ (Drv.request s n) := by
  unfold Drv.request
  repeat' first
    | with_reducible assumption | (intro)
    | (extract_lets +onlyGivenNames x; refine State.Keeps.cut (p := State.Keeps z₀ x) ?_ ?_;
        (focus (intro hx; clear_value x)); rotate_left; subst x)
    | (extract_lets +onlyGivenNames x; clear_value x) | with_reducible apply State.setFlag_keeps
    | with_reducible apply State.incCnt_keeps | with_reducible apply Drv.enter_keeps
    | with_reducible apply State.Keeps.ite | split

theorem Drv.sense_keeps {z₀ : State} (s : State) (h_s : State.Keeps z₀ s) :
    State.Keeps z₀ (Drv.sense s) := by
  unfold Drv.sense
  repeat' first
    | with_reducible assumption | (intro) | with_reducible apply Drv.senseEnd_keeps
    | with_reducible apply State.each_keeps | with_reducible apply Drv.request_keeps

theorem Bar.sfbCtlEnWrite_keeps {z₀ : State} (en : Bool) (s : State) (h_s : State.Keeps z₀ s) :
    State.Keeps z₀ (Bar.sfbCtlEnWrite en s) := by
  unfold Bar.sfbCtlEnWrite
  repeat' first
    | with_reducible assumption | (intro) | with_reducible apply Drv.sense_keeps | with_reducible apply Sfb.evalRun_keeps
    | with_reducible apply State.setFlag_keeps | with_reducible apply State.Keeps.ite | split

theorem execSfbCtlEnWrite_keeps {z₀ : State} (en : Bool) (s : State) (h_s : State.Keeps z₀ s) :
    State.Leads z₀ (execSfbCtlEnWrite en s) := by
  unfold execSfbCtlEnWrite
  repeat' first
    | with_reducible assumption | with_reducible apply State.Leads.next | with_reducible apply State.Leads.ite
    | with_reducible apply State.bar_keeps | with_reducible apply Bar.sfbCtlEnWrite_keeps

theorem execGapBegin_keeps {z₀ : State} (input : Nat) (full : Bool) (s : State) (h_s : State.Keeps z₀ s) :
    State.Leads z₀ (execGapBegin input full s) := by
  unfold execGapBegin
  repeat' first
    | with_reducible assumption | with_reducible apply State.Leads.next | with_reducible apply State.Leads.ite
    | with_reducible apply Drv.sense_keeps | with_reducible apply Sfb.gapBegin_keeps

theorem execGapEnd_keeps {z₀ : State} (input at_ : Nat) (s : State) (h_s : State.Keeps z₀ s) :
    State.Leads z₀ (execGapEnd input at_ s) := by
  unfold execGapEnd
  repeat' first
    | with_reducible assumption | with_reducible apply State.Leads.next | with_reducible apply State.Leads.ite
    | with_reducible apply Drv.sense_keeps | with_reducible apply Sfb.gapEnd_keeps

theorem execFastSample_keeps {z₀ : State} (chan at_ : Nat) (bits : List Bool) (s : State) (h_s : State.Keeps z₀ s) :
    State.Leads z₀ (execFastSample chan at_ bits s) := by
  unfold execFastSample
  repeat' first
    | with_reducible assumption | with_reducible apply State.Leads.next | with_reducible apply State.Leads.ite | (intro)
    | with_reducible apply Drv.sense_keeps | with_reducible apply Sfb.fastSample_keeps
    | with_reducible apply State.Keeps.ite | split

theorem execRailValue_keeps {z₀ : State} (chan : Nat) (bits : List Bool) (s : State) (h_s : State.Keeps z₀ s) :
    State.Leads z₀ (execRailValue chan bits s) := by
  unfold execRailValue
  repeat' first
    | with_reducible assumption | with_reducible apply State.Leads.next | with_reducible apply State.Leads.ite | (intro)
    | with_reducible apply Drv.senseEnd_keeps | with_reducible apply Sfb.railSample_keeps
    | with_reducible apply State.Keeps.ite | split

theorem Drv.trip_keeps {z₀ : State} (s : State) (n t : Nat) (h_s : State.Keeps z₀ s) :
    State.Keeps z₀ (Drv.trip s n t) := by
  unfold Drv.trip
  repeat' first
    | with_reducible assumption | (intro)
    | (extract_lets +onlyGivenNames x; refine State.Keeps.cut (p := State.Keeps z₀ x) ?_ ?_;
        (focus (intro hx; clear_value x)); rotate_left; subst x)
    | (extract_lets +onlyGivenNames x; clear_value x) | with_reducible apply Drv.setChan_keeps
    | with_reducible apply Drv.enter_keeps | with_reducible apply State.incCnt_keeps
    | with_reducible apply State.fire_keeps | with_reducible apply State.Keeps.ite | split
    | (with_reducible refine State.Keeps.mk_same _ rfl rfl rfl rfl rfl rfl rfl rfl ?_)

theorem execTrip_keeps {z₀ : State} (chan at_ : Nat) (s : State) (h_s : State.Keeps z₀ s) :
    State.Leads z₀ (execTrip chan at_ s) := by
  unfold execTrip
  repeat' first
    | with_reducible assumption | with_reducible apply State.Leads.next | with_reducible apply State.Leads.ite | (intro)
    | with_reducible apply Drv.trip_keeps | with_reducible apply State.Keeps.ite | split

theorem execHoldoffExpiry_keeps {z₀ : State} (chan : Nat) (s : State) (h_s : State.Keeps z₀ s) :
    State.Leads z₀ (execHoldoffExpiry chan s) := by
  unfold execHoldoffExpiry
  repeat' first
    | with_reducible assumption | with_reducible apply State.Leads.next | with_reducible apply State.Leads.ite | (intro)
    | (extract_lets +onlyGivenNames x; refine State.Keeps.cut (p := State.Keeps z₀ x) ?_ ?_;
        (focus (intro hx; clear_value x)); rotate_left; subst x)
    | (extract_lets +onlyGivenNames x; clear_value x) | with_reducible apply Drv.setChan_keeps
    | with_reducible apply Drv.enter_keeps | with_reducible apply State.Keeps.ite | split
    | (with_reducible refine State.Keeps.mk_same _ rfl rfl rfl rfl rfl rfl rfl rfl ?_)

theorem Bar.drvUnlatch_keeps {z₀ : State} (w : Nat) (v : Word) (s : State) (h_s : State.Keeps z₀ s) :
    State.Keeps z₀ (Bar.drvUnlatch w v s) := by
  unfold Bar.drvUnlatch
  repeat' first
    | with_reducible assumption | (intro)
    | (extract_lets +onlyGivenNames x; refine State.Keeps.cut (p := State.Keeps z₀ x) ?_ ?_;
        (focus (intro hx; clear_value x)); rotate_left; subst x)
    | (extract_lets +onlyGivenNames x; clear_value x) | with_reducible apply State.each_keeps
    | with_reducible apply Drv.enter_keeps | with_reducible apply Drv.setChan_keeps
    | (with_reducible refine State.Keeps.mk_same _ rfl rfl rfl rfl rfl rfl rfl rfl ?_)

theorem execDrvUnlatch_keeps {z₀ : State} (w : Nat) (v : Word) (s : State) (h_s : State.Keeps z₀ s) :
    State.Leads z₀ (execDrvUnlatch w v s) := by
  unfold execDrvUnlatch
  repeat' first
    | with_reducible assumption | with_reducible apply State.Leads.next | with_reducible apply State.Leads.ite
    | with_reducible apply State.bar_keeps | with_reducible apply Bar.drvUnlatch_keeps

theorem Drv.transit_keeps {z₀ : State} (s : State) (n : Nat) (h_s : State.Keeps z₀ s) :
    State.Keeps z₀ (Drv.transit s n) := by
  unfold Drv.transit
  repeat' first
    | with_reducible assumption | (intro)
    | (extract_lets +onlyGivenNames x; refine State.Keeps.cut (p := State.Keeps z₀ x) ?_ ?_;
        (focus (intro hx; clear_value x)); rotate_left; subst x)
    | (extract_lets +onlyGivenNames x; refine State.Keeps.cut (p := State.Keeps z₀ x.1) ?_ ?_;
        (focus (intro hx; clear_value x)); rotate_left; subst x)
    | (extract_lets +onlyGivenNames x; clear_value x) | with_reducible apply Drv.enter_keeps
    | with_reducible apply Drv.setChan_keeps | with_reducible apply State.Keeps.ite | split
    | (with_reducible refine State.Keeps.mk_same _ rfl rfl rfl rfl rfl rfl rfl rfl ?_)

theorem Drv.period_keeps {z₀ : State} (c i : Nat) (acc : State × List (Nat × Nat × Nat)) (n : Nat) (h_acc : State.Keeps z₀
    acc.1) :
    State.Keeps z₀ (Drv.period c i acc n).1 := by
  unfold Drv.period
  repeat' first
    | with_reducible assumption | (intro)
    | (extract_lets +onlyGivenNames x; refine State.Keeps.cut (p := State.Keeps z₀ x) ?_ ?_;
        (focus (intro hx; clear_value x)); rotate_left; subst x)
    | (extract_lets +onlyGivenNames x; refine State.Keeps.cut (p := State.Keeps z₀ x.1) ?_ ?_;
        (focus (intro hx; clear_value x)); rotate_left; subst x)
    | (extract_lets +onlyGivenNames x; clear_value x) | with_reducible apply Drv.transit_keeps
    | with_reducible apply Drv.setChan_keeps | with_reducible apply State.when_keeps
    | with_reducible apply State.incCnt_keeps | with_reducible apply State.setFld_keeps
    | with_reducible apply State.Keeps.ite | with_reducible apply State.Keeps.ite1 | split
    | (with_reducible refine State.Keeps.mk_same _ rfl rfl rfl rfl rfl rfl rfl rfl ?_)

theorem Drv.saveStep_keeps {z₀ : State} (s : State) (h_s : State.Keeps z₀ s) :
    State.Keeps z₀ (Drv.saveStep s) := by
  unfold Drv.saveStep
  repeat' first
    | with_reducible assumption | (intro)
    | (extract_lets +onlyGivenNames x; refine State.Keeps.cut (p := State.Keeps z₀ x) ?_ ?_;
        (focus (intro hx; clear_value x)); rotate_left; subst x)
    | (extract_lets +onlyGivenNames x; refine State.Keeps.cut (p := State.Keeps z₀ x.1) ?_ ?_;
        (focus (intro hx; clear_value x)); rotate_left; subst x)
    | (extract_lets +onlyGivenNames x; clear_value x) | with_reducible apply State.each_keeps
    | with_reducible apply Drv.enter_keeps | with_reducible apply State.Keeps.ite | split
    | (with_reducible refine State.Keeps.mk_same _ rfl rfl rfl rfl rfl rfl rfl rfl ?_)

theorem execCarrierPeriod_keeps {z₀ : State} (count i : Nat) (s : State) (h_s : State.Keeps z₀ s) :
    State.Leads z₀ (execCarrierPeriod count i s) := by
  unfold execCarrierPeriod
  refine State.Leads.ite (fun _ => .next h_s) fun _ => ?_
  have h0 := Drv.evalRun_keeps _ (Drv.senseEnd_keeps _ (State.setFlag_keeps _ Reg.DRV_ST_MUTE_FC (s.flag Reg.FC_STAT_MUTE) h_s))
  exact State.Leads.ite (fun _ => .next h0) fun _ => .next (Drv.evalRun_keeps _ (State.when_keeps _ _ (fun t => State.send_keeps
      _)
    (State.foldl1_keeps _ _ (fun p x => Drv.period_keeps _ _ _ _) _ (Drv.saveStep_keeps _ (Twn.carrier_keeps _ _ h0)))))

theorem Drv.saveWarn_keeps {z₀ : State} (s : State) (h_s : State.Keeps z₀ s) :
    State.Keeps z₀ (Drv.saveWarn s) := by
  unfold Drv.saveWarn
  repeat' first
    | with_reducible assumption | (intro)
    | (extract_lets +onlyGivenNames x; refine State.Keeps.cut (p := State.Keeps z₀ x) ?_ ?_;
        (focus (intro hx; clear_value x)); rotate_left; subst x)
    | (extract_lets +onlyGivenNames x; clear_value x) | with_reducible apply State.setFlag_keeps
    | with_reducible apply State.Keeps.ite | split
    | (with_reducible refine State.Keeps.mk_same _ rfl rfl rfl rfl rfl rfl rfl rfl ?_)

theorem Drv.boundary_keeps {z₀ : State} (old s : State) (h_old : State.Keeps z₀ old) (h_s : State.Keeps z₀ s) :
    State.Keeps z₀ (Drv.boundary old s) := by
  unfold Drv.boundary
  repeat' first
    | with_reducible assumption | (intro)
    | (extract_lets +onlyGivenNames x; refine State.Keeps.cut (p := State.Keeps z₀ x) ?_ ?_;
        (focus (intro hx; clear_value x)); rotate_left; subst x)
    | (extract_lets +onlyGivenNames x; clear_value x) | with_reducible apply State.each_keeps
    | with_reducible apply Drv.setChan_keeps
    | (with_reducible refine State.Keeps.mk_same _ rfl rfl rfl rfl rfl rfl rfl rfl ?_)

end Drv

section Graph

theorem Graph.setFades_keeps {z₀ : State} (s : State) (e : FadeKind) (l : Sparse FadeRec) (h_s : State.Keeps z₀ s) :
    State.Keeps z₀ (Graph.setFades s e l) := by
  unfold Graph.setFades
  repeat' first
    | with_reducible assumption
    | (extract_lets +onlyGivenNames x; refine State.Keeps.cut (p := State.Keeps z₀ x) ?_ ?_;
        (focus (intro hx; clear_value x)); rotate_left; subst x)
    | (extract_lets +onlyGivenNames x; refine State.Keeps.cut (p := State.Keeps z₀ x.1) ?_ ?_;
        (focus (intro hx; clear_value x)); rotate_left; subst x)
    | (extract_lets +onlyGivenNames x; clear_value x) | split
    | (with_reducible refine State.Keeps.mk_same _ rfl rfl rfl rfl rfl rfl rfl rfl ?_)

theorem Graph.setFade_keeps {z₀ : State} (s : State) (e : FadeKind) (i : Nat) (x : FadeRec) (h_s : State.Keeps z₀ s) :
    State.Keeps z₀ (Graph.setFade s e i x) := by
  unfold Graph.setFade
  repeat' first | with_reducible assumption | with_reducible apply Graph.setFades_keeps

theorem State.setFlds_keeps {z₀ : State} (s : State) (fs : List Fld) (vs : List Nat) (h_s : State.Keeps z₀ s) :
    State.Keeps z₀ (State.setFlds s fs vs) := by
  unfold State.setFlds
  repeat' first
    | with_reducible assumption | (intro) | with_reducible apply State.each_keeps
    | with_reducible apply State.setFld_keeps

theorem Graph.startFade_keeps {z₀ : State} (s : State) (e : FadeKind) (i : Nat) (new : List Nat) (f c : Nat) (h_s : State.Keeps
    z₀ s) :
    State.Keeps z₀ (Graph.startFade s e i new f c) := by
  unfold Graph.startFade
  repeat' first
    | with_reducible assumption | (intro)
    | (extract_lets +onlyGivenNames x; refine State.Keeps.cut (p := State.Keeps z₀ x) ?_ ?_;
        (focus (intro hx; clear_value x)); rotate_left; subst x)
    | (extract_lets +onlyGivenNames x; clear_value x) | with_reducible apply State.setFlds_keeps
    | with_reducible apply Graph.setFade_keeps | with_reducible apply State.Keeps.ite | split

theorem Graph.commitEntry_keeps {z₀ : State} (e : FadeKind) (w : Nat → Word) (s : State) (i : Nat) (h_s : State.Keeps z₀ s) :
    State.Keeps z₀ (Graph.commitEntry e w s i) := by
  unfold Graph.commitEntry
  repeat' first
    | with_reducible assumption | (intro)
    | (extract_lets +onlyGivenNames x; refine State.Keeps.cut (p := State.Keeps z₀ x) ?_ ?_;
        (focus (intro hx; clear_value x)); rotate_left; subst x)
    | (extract_lets +onlyGivenNames x; refine State.Keeps.cut (p := State.Keeps z₀ x.1) ?_ ?_;
        (focus (intro hx; clear_value x)); rotate_left; subst x)
    | (extract_lets +onlyGivenNames x; clear_value x) | with_reducible apply Graph.setFade_keeps
    | with_reducible apply Graph.startFade_keeps | with_reducible apply State.Keeps.ite
    | with_reducible apply State.Keeps.ite1 | split
    | (with_reducible refine State.Keeps.mk_same _ rfl rfl rfl rfl rfl rfl rfl rfl ?_)

theorem Graph.advanceEntry_keeps {z₀ : State} (e : FadeKind) (n : Nat) (s : State) (i : Nat) (h_s : State.Keeps z₀ s) :
    State.Keeps z₀ (Graph.advanceEntry e n s i) := by
  unfold Graph.advanceEntry
  repeat' first
    | with_reducible assumption | (intro)
    | (extract_lets +onlyGivenNames x; refine State.Keeps.cut (p := State.Keeps z₀ x) ?_ ?_;
        (focus (intro hx; clear_value x)); rotate_left; subst x)
    | (extract_lets +onlyGivenNames x; refine State.Keeps.cut (p := State.Keeps z₀ x.1) ?_ ?_;
        (focus (intro hx; clear_value x)); rotate_left; subst x)
    | (extract_lets +onlyGivenNames x; clear_value x) | with_reducible apply Graph.setFade_keeps
    | with_reducible apply Graph.startFade_keeps | with_reducible apply State.Keeps.ite
    | with_reducible apply State.Keeps.ite1 | split
    | (with_reducible refine State.Keeps.mk_same _ rfl rfl rfl rfl rfl rfl rfl rfl ?_)

theorem Graph.advance_keeps {z₀ : State} (s : State) (e : FadeKind) (done : Bool) (h_s : State.Keeps z₀ s) :
    State.Keeps z₀ (Graph.advance s e done) := by
  unfold Graph.advance
  repeat' first
    | with_reducible assumption | (intro) | with_reducible apply State.each_keeps
    | with_reducible apply Graph.advanceEntry_keeps | with_reducible apply State.Keeps.ite
    | with_reducible apply State.Keeps.ite1 | split

theorem Graph.endFades_keeps {z₀ : State} (s : State) (e : FadeKind) (h_s : State.Keeps z₀ s) :
    State.Keeps z₀ (Graph.endFades s e) := by
  unfold Graph.endFades
  repeat' first
    | with_reducible assumption | (intro)
    | (extract_lets +onlyGivenNames x; refine State.Keeps.cut (p := State.Keeps z₀ x) ?_ ?_;
        (focus (intro hx; clear_value x)); rotate_left; subst x)
    | (extract_lets +onlyGivenNames x; refine State.Keeps.cut (p := State.Keeps z₀ x.1) ?_ ?_;
        (focus (intro hx; clear_value x)); rotate_left; subst x)
    | (extract_lets +onlyGivenNames x; clear_value x) | with_reducible apply State.each_keeps
    | with_reducible apply State.setFlds_keeps | with_reducible apply Graph.setFade_keeps | split
    | (with_reducible refine State.Keeps.mk_same _ rfl rfl rfl rfl rfl rfl rfl rfl ?_)

theorem Graph.showFades_keeps {z₀ : State} (s : State) (h_s : State.Keeps z₀ s) :
    State.Keeps z₀ (Graph.showFades s) := by
  unfold Graph.showFades
  repeat' first
    | with_reducible assumption | (intro)
    | (extract_lets +onlyGivenNames x; refine State.Keeps.cut (p := State.Keeps z₀ x) ?_ ?_;
        (focus (intro hx; clear_value x)); rotate_left; subst x)
    | (extract_lets +onlyGivenNames x; refine State.Keeps.cut (p := State.Keeps z₀ x.1) ?_ ?_;
        (focus (intro hx; clear_value x)); rotate_left; subst x)
    | (extract_lets +onlyGivenNames x; clear_value x) | with_reducible apply State.setFld_keeps | split

theorem Mem.putWord_keeps {z₀ : State} (s : State) (a : Nat) (v : Int) (h_s : State.Keeps z₀ s) :
    State.Keeps z₀ (Mem.putWord s a v) := by
  unfold Mem.putWord
  repeat' first | with_reducible assumption | (intro) | with_reducible apply Mem.write_keeps

theorem Mem.putRow_keeps {z₀ : State} (s : State) (a : Nat) (vs : List Int) (h_s : State.Keeps z₀ s) :
    State.Keeps z₀ (Mem.putRow s a vs) := by
  unfold Mem.putRow
  repeat' first | with_reducible assumption | (intro) | with_reducible apply Mem.put_keeps

theorem Mem.getWord_keeps {z₀ : State} (s : State) (a : Nat) (h_s : State.Keeps z₀ s) :
    State.Keeps z₀ (Mem.getWord s a).1 := by
  unfold Mem.getWord
  repeat' first
    | with_reducible assumption | with_reducible apply Mem.readNote_keeps | with_reducible apply State.Keeps.ite1

theorem Graph.meter_keeps {z₀ : State} (s : State) (m : Nat) (xs : List Int) (w3 : Word) (h_s : State.Keeps z₀ s) :
    State.Keeps z₀ (Graph.meter s m xs w3) := by
  unfold Graph.meter
  repeat' first
    | with_reducible assumption | (intro)
    | (extract_lets +onlyGivenNames x; refine State.Keeps.cut (p := State.Keeps z₀ x) ?_ ?_;
        (focus (intro hx; clear_value x)); rotate_left; subst x)
    | (extract_lets +onlyGivenNames x; clear_value x) | with_reducible apply State.setReg_keeps
    | with_reducible apply State.drew_keeps | with_reducible apply State.foldl_keeps
    | with_reducible apply State.foldl1_keeps | with_reducible apply State.Keeps.ite | split
    | (with_reducible refine State.Keeps.mk_same _ rfl rfl rfl rfl rfl rfl rfl rfl ?_)

theorem Graph.intakeChannel_keeps {z₀ : State} (k : Nat) (acc0 : State × List (List Int)) (c : Nat) (h_acc0 : State.Keeps z₀
    acc0.1) :
    State.Keeps z₀ (Graph.intakeChannel k acc0 c).1 := by
  unfold Graph.intakeChannel
  repeat' first
    | with_reducible assumption | (intro)
    | (extract_lets +onlyGivenNames x; refine State.Keeps.cut (p := State.Keeps z₀ x) ?_ ?_;
        (focus (intro hx; clear_value x)); rotate_left; subst x)
    | (extract_lets +onlyGivenNames x; refine State.Keeps.cut (p := State.Keeps z₀ x.1) ?_ ?_;
        (focus (intro hx; clear_value x)); rotate_left; subst x)
    | (extract_lets +onlyGivenNames x; clear_value x) | with_reducible apply State.each_keeps
    | with_reducible apply Mem.noteRange_keeps | with_reducible apply State.when_keeps
    | with_reducible apply State.setVecBit_keeps | with_reducible apply Graph.meter_keeps
    | with_reducible apply State.foldl_keeps | with_reducible apply State.foldl1_keeps
    | with_reducible apply State.Keeps.ite | with_reducible apply State.Keeps.ite1 | split
    | (with_reducible refine State.Keeps.mk_same _ rfl rfl rfl rfl rfl rfl rfl rfl ?_)

theorem Graph.intakePass_keeps {z₀ : State} (s : State) (k : Nat) (h_s : State.Keeps z₀ s) :
    State.Keeps z₀ (Graph.intakePass s k) := by
  unfold Graph.intakePass
  extract_lets s1 p s2 s3
  have h1 : State.Keeps z₀ s1 := Port.intake_keeps _ _ (Nsw.intake_keeps _ _ h_s)
  clear_value s1
  have hp : State.Keeps z₀ p.1 := State.foldl1_keeps _ _ (fun p c h => Graph.intakeChannel_keeps _ _ _ h) _ h1
  clear_value p
  have h2 : State.Keeps z₀ s2 := State.each_keeps _ _ (fun t j h => Mem.putRow_keeps _ _ _ h) hp
  clear_value s2
  have h3 : State.Keeps z₀ s3 := Sfb.readDone_keeps _ _ h2
  clear_value s3
  exact State.Keeps.same s3 rfl rfl rfl rfl rfl rfl rfl rfl h3

theorem Graph.gateSlot_keeps {z₀ : State} (fwd : Bool) (st : Nat) (s : State) (i : Nat) (h_s : State.Keeps z₀ s) :
    State.Keeps z₀ (Graph.gateSlot fwd st s i) := by
  unfold Graph.gateSlot
  repeat' first
    | with_reducible assumption | (intro)
    | (extract_lets +onlyGivenNames x; refine State.Keeps.cut (p := State.Keeps z₀ x) ?_ ?_;
        (focus (intro hx; clear_value x)); rotate_left; subst x)
    | (extract_lets +onlyGivenNames x; refine State.Keeps.cut (p := State.Keeps z₀ x.1) ?_ ?_;
        (focus (intro hx; clear_value x)); rotate_left; subst x)
    | (extract_lets +onlyGivenNames x) | with_reducible apply State.each_keeps | with_reducible apply Mem.getWord_keeps
    | with_reducible apply Mem.putWord_keeps | with_reducible apply State.Keeps.ite
    | with_reducible apply State.Keeps.ite1 | split

theorem Graph.gateA_keeps {z₀ : State} (s : State) (h_s : State.Keeps z₀ s) :
    State.Keeps z₀ (Graph.gateA s) := by
  unfold Graph.gateA
  repeat' first
    | with_reducible assumption | (intro) | with_reducible apply State.each_keeps
    | with_reducible apply Graph.gateSlot_keeps

theorem Graph.readBuses_keeps {z₀ : State} (s : State) (k : Nat) (h_s : State.Keeps z₀ s) :
    State.Keeps z₀ (Graph.readBuses s k) := by
  unfold Graph.readBuses
  repeat' first
    | with_reducible assumption | (intro)
    | (extract_lets +onlyGivenNames x; refine State.Keeps.cut (p := State.Keeps z₀ x) ?_ ?_;
        (focus (intro hx; clear_value x)); rotate_left; subst x)
    | (extract_lets +onlyGivenNames x; refine State.Keeps.cut (p := State.Keeps z₀ x.1) ?_ ?_;
        (focus (intro hx; clear_value x)); rotate_left; subst x)
    | (extract_lets +onlyGivenNames x) | with_reducible apply State.each_keeps | with_reducible apply State.setVecBit_keeps
    | with_reducible apply Graph.meter_keeps | with_reducible apply State.Keeps.ite
    | with_reducible apply State.Keeps.ite1 | split
    | (with_reducible refine State.Keeps.mk_same _ rfl rfl rfl rfl rfl rfl rfl rfl ?_)

theorem Graph.busImage_keeps {z₀ : State} (s : State) (h_s : State.Keeps z₀ s) :
    State.Keeps z₀ (Graph.busImage s) := by
  unfold Graph.busImage
  repeat' first
    | with_reducible assumption | (intro)
    | (extract_lets +onlyGivenNames x; refine State.Keeps.cut (p := State.Keeps z₀ x) ?_ ?_;
        (focus (intro hx; clear_value x)); rotate_left; subst x)
    | (extract_lets +onlyGivenNames x; clear_value x) | with_reducible apply State.each_keeps
    | with_reducible apply Mem.putRow_keeps | with_reducible apply State.Keeps.ite | split

theorem Graph.gateB_keeps {z₀ : State} (s : State) (src j : Nat) (h_s : State.Keeps z₀ s) :
    State.Keeps z₀ (Graph.gateB s src j).1 := by
  unfold Graph.gateB
  repeat' first
    | with_reducible assumption | (intro)
    | (extract_lets +onlyGivenNames x; refine State.Keeps.cut (p := State.Keeps z₀ x) ?_ ?_;
        (focus (intro hx; clear_value x)); rotate_left; subst x)
    | (extract_lets +onlyGivenNames x; clear_value x) | with_reducible apply Mem.getWord_keeps
    | with_reducible apply State.Keeps.ite | with_reducible apply State.Keeps.ite1 | split

theorem Graph.lineRead_keeps {z₀ : State} (s : State) (l : Nat × Bool) (p : Nat) (h_s : State.Keeps z₀ s) :
    State.Keeps z₀ (Graph.lineRead s l p).1 := by
  unfold Graph.lineRead
  repeat' first
    | with_reducible assumption
    | (extract_lets +onlyGivenNames x; refine State.Keeps.cut (p := State.Keeps z₀ x) ?_ ?_;
        (focus (intro hx; clear_value x)); rotate_left; subst x)
    | (extract_lets +onlyGivenNames x; refine State.Keeps.cut (p := State.Keeps z₀ x.1) ?_ ?_;
        (focus (intro hx; clear_value x)); rotate_left; subst x)
    | (extract_lets +onlyGivenNames x; clear_value x) | with_reducible apply Mem.readNote_keeps
    | with_reducible apply State.Keeps.ite1 | split

theorem Graph.lineWrite_keeps {z₀ : State} (s : State) (l : Nat × Bool) (p : Nat) (g : Int) (h_s : State.Keeps z₀ s) :
    State.Keeps z₀ (Graph.lineWrite s l p g) := by
  unfold Graph.lineWrite
  repeat' first
    | with_reducible assumption | (intro)
    | (extract_lets +onlyGivenNames x; refine State.Keeps.cut (p := State.Keeps z₀ x) ?_ ?_;
        (focus (intro hx; clear_value x)); rotate_left; subst x)
    | (extract_lets +onlyGivenNames x; refine State.Keeps.cut (p := State.Keeps z₀ x.1) ?_ ?_;
        (focus (intro hx; clear_value x)); rotate_left; subst x)
    | (extract_lets +onlyGivenNames x; clear_value x) | with_reducible apply Mem.write_keeps
    | with_reducible apply State.Keeps.ite | with_reducible apply State.Keeps.ite1 | split

theorem Graph.delay_keeps {z₀ : State} (s : State) (c n j : Nat) (x : FadeRec) (g : Int) (h_s : State.Keeps z₀ s) :
    State.Keeps z₀ (Graph.delay s c n j x g).1 := by
  unfold Graph.delay
  repeat' first
    | with_reducible assumption | (intro)
    | (extract_lets +onlyGivenNames x; refine State.Keeps.cut (p := State.Keeps z₀ x) ?_ ?_;
        (focus (intro hx; clear_value x)); rotate_left; subst x)
    | (extract_lets +onlyGivenNames x; refine State.Keeps.cut (p := State.Keeps z₀ x.1) ?_ ?_;
        (focus (intro hx; clear_value x)); rotate_left; subst x)
    | (extract_lets +onlyGivenNames x; clear_value x) | with_reducible apply Graph.lineWrite_keeps
    | with_reducible apply Graph.lineRead_keeps | with_reducible apply State.Keeps.ite
    | with_reducible apply State.Keeps.ite1 | split

theorem Graph.outletChannel_keeps {z₀ : State} (d : Nat) (acc : State × Sparse Int) (c : Nat) (h_acc : State.Keeps z₀ acc.1) :
    State.Keeps z₀ (Graph.outletChannel d acc c).1 := by
  unfold Graph.outletChannel
  repeat' first
    | with_reducible assumption | (intro)
    | (extract_lets +onlyGivenNames x; refine State.Keeps.cut (p := State.Keeps z₀ x) ?_ ?_;
        (focus (intro hx; clear_value x)); rotate_left; subst x)
    | (extract_lets +onlyGivenNames x; refine State.Keeps.cut (p := State.Keeps z₀ x.1) ?_ ?_;
        (focus (intro hx; clear_value x)); rotate_left; subst x)
    | (extract_lets +onlyGivenNames x; clear_value x) | with_reducible apply Graph.gateB_keeps
    | with_reducible apply Graph.delay_keeps | with_reducible apply State.when_keeps
    | with_reducible apply State.setVecBit_keeps | with_reducible apply Graph.meter_keeps
    | with_reducible apply State.foldl_keeps | with_reducible apply State.foldl1_keeps
    | with_reducible apply State.Keeps.ite | with_reducible apply State.Keeps.ite1 | split
    | (with_reducible refine State.Keeps.mk_same _ rfl rfl rfl rfl rfl rfl rfl rfl ?_)

theorem Graph.outletPass_keeps {z₀ : State} (s : State) (d : Nat) (h_s : State.Keeps z₀ s) :
    State.Keeps z₀ (Graph.outletPass s d) := by
  unfold Graph.outletPass
  repeat' first
    | with_reducible assumption | (intro)
    | (extract_lets +onlyGivenNames x; refine State.Keeps.cut (p := State.Keeps z₀ x) ?_ ?_;
        (focus (intro hx; clear_value x)); rotate_left; subst x)
    | (extract_lets +onlyGivenNames x; refine State.Keeps.cut (p := State.Keeps z₀ x.1) ?_ ?_;
        (focus (intro hx; clear_value x)); rotate_left; subst x)
    | (extract_lets +onlyGivenNames x; clear_value x) | with_reducible apply Graph.outletChannel_keeps
    | with_reducible apply State.foldl_keeps | with_reducible apply State.foldl1_keeps | split
    | (with_reducible refine State.Keeps.mk_same _ rfl rfl rfl rfl rfl rfl rfl rfl ?_)

theorem Graph.clearHolds_keeps {z₀ : State} (s : State) (h_s : State.Keeps z₀ s) :
    State.Keeps z₀ (Graph.clearHolds s) := by
  unfold Graph.clearHolds
  repeat' first
    | with_reducible assumption | (intro)
    | (extract_lets +onlyGivenNames x; refine State.Keeps.cut (p := State.Keeps z₀ x) ?_ ?_;
        (focus (intro hx; clear_value x)); rotate_left; subst x)
    | (extract_lets +onlyGivenNames x; clear_value x) | with_reducible apply State.each_keeps
    | with_reducible apply State.setReg_keeps | with_reducible apply State.Keeps.ite | split
    | (with_reducible refine State.Keeps.mk_same _ rfl rfl rfl rfl rfl rfl rfl rfl ?_)

theorem Bar.phClr_keeps {z₀ : State} (s : State) (h_s : State.Keeps z₀ s) :
    State.Keeps z₀ (Bar.phClr s) := by
  unfold Bar.phClr
  repeat' first
    | with_reducible assumption
    | (extract_lets +onlyGivenNames x; refine State.Keeps.cut (p := State.Keeps z₀ x) ?_ ?_;
        (focus (intro hx; clear_value x)); rotate_left; subst x)
    | (extract_lets +onlyGivenNames x; clear_value x)
    | (with_reducible refine State.Keeps.mk_same _ rfl rfl rfl rfl rfl rfl rfl rfl ?_)

theorem execPhClr_keeps {z₀ : State} (s : State) (h_s : State.Keeps z₀ s) :
    State.Leads z₀ (execPhClr s) := by
  unfold execPhClr
  repeat' first
    | with_reducible assumption | with_reducible apply State.Leads.next | with_reducible apply State.Leads.ite
    | with_reducible apply State.bar_keeps | with_reducible apply Bar.phClr_keeps

end Graph

section Twin

theorem Twn.applyRecord_keeps {z₀ : State} (t0 : Nat) (s : State) (p : DrvRecord × Nat) (h_s : State.Keeps z₀ s) :
    State.Keeps z₀ (Twn.applyRecord t0 s p) := by
  unfold Twn.applyRecord
  repeat' first
    | with_reducible assumption | (intro)
    | (extract_lets +onlyGivenNames x; refine State.Keeps.cut (p := State.Keeps z₀ x) ?_ ?_;
        (focus (intro hx; clear_value x)); rotate_left; subst x)
    | (extract_lets +onlyGivenNames x; refine State.Keeps.cut (p := State.Keeps z₀ x.1) ?_ ?_;
        (focus (intro hx; clear_value x)); rotate_left; subst x)
    | (extract_lets +onlyGivenNames x; clear_value x) | with_reducible apply Drv.setChan_keeps
    | with_reducible apply Drv.enter_keeps | split
    | (with_reducible refine State.Keeps.mk_same _ rfl rfl rfl rfl rfl rfl rfl rfl ?_)

theorem Twn.applyRecords_keeps {z₀ : State} (s : State) (at_ : Nat) (h_s : State.Keeps z₀ s) :
    State.Keeps z₀ (Twn.applyRecords s at_) := by
  unfold Twn.applyRecords
  repeat' first
    | with_reducible assumption | (intro)
    | (extract_lets +onlyGivenNames x; refine State.Keeps.cut (p := State.Keeps z₀ x) ?_ ?_;
        (focus (intro hx; clear_value x)); rotate_left; subst x)
    | (extract_lets +onlyGivenNames x; refine State.Keeps.cut (p := State.Keeps z₀ x.1) ?_ ?_;
        (focus (intro hx; clear_value x)); rotate_left; subst x)
    | (extract_lets +onlyGivenNames x; clear_value x) | with_reducible apply State.each_keeps
    | with_reducible apply Twn.applyRecord_keeps | with_reducible apply Drv.trip_keeps | split

theorem Twn.ownRole_keeps {z₀ : State} (s : State) (at_ : Nat) (h_s : State.Keeps z₀ s) :
    State.Keeps z₀ (Twn.ownRole s at_) := by
  unfold Twn.ownRole
  repeat' first
    | with_reducible assumption | (intro)
    | (extract_lets +onlyGivenNames x; refine State.Keeps.cut (p := State.Keeps z₀ x) ?_ ?_;
        (focus (intro hx; clear_value x)); rotate_left; subst x)
    | (extract_lets +onlyGivenNames x; clear_value x) | with_reducible apply State.after_keeps
    | with_reducible apply Tth.send_keeps | with_reducible apply State.send_keeps
    | with_reducible apply State.setFlag_keeps | with_reducible apply State.Keeps.ite | split
    | (with_reducible refine State.Keeps.mk_same _ rfl rfl rfl rfl rfl rfl rfl rfl ?_)

theorem Twn.assert_keeps {z₀ : State} (s : State) (at_ : Nat) (h_s : State.Keeps z₀ s) :
    State.Keeps z₀ (Twn.assert s at_) := by
  unfold Twn.assert
  repeat' first
    | with_reducible assumption | (intro)
    | (extract_lets +onlyGivenNames x; refine State.Keeps.cut (p := State.Keeps z₀ x) ?_ ?_;
        (focus (intro hx; clear_value x)); rotate_left; subst x)
    | (extract_lets +onlyGivenNames x; clear_value x) | with_reducible apply State.setFlag_keeps
    | with_reducible apply Twn.ownRole_keeps | with_reducible apply Twn.applyRecords_keeps
    | with_reducible apply Sfb.showDriving_keeps | with_reducible apply State.send_keeps
    | with_reducible apply State.each_keeps | with_reducible apply Cmd.finish_keeps
    | with_reducible apply State.fire_keeps | with_reducible apply State.incCnt_keeps
    | with_reducible apply State.setFld_keeps | with_reducible apply State.Keeps.ite | split
    | (with_reducible refine State.Keeps.mk_same _ rfl rfl rfl rfl rfl rfl rfl rfl ?_)

theorem execOwnershipAssert_keeps {z₀ : State} (at_ : Nat) (s : State) (h_s : State.Keeps z₀ s) :
    State.Leads z₀ (execOwnershipAssert at_ s) := by
  unfold execOwnershipAssert
  repeat' first
    | with_reducible assumption | with_reducible apply State.Leads.next | with_reducible apply State.Leads.ite
    | with_reducible apply Twn.assert_keeps

theorem execHandoverJwaitExpiry_keeps {z₀ : State} (at_ : Nat) (s : State) (h_s : State.Keeps z₀ s) :
    State.Leads z₀ (execHandoverJwaitExpiry at_ s) := by
  unfold execHandoverJwaitExpiry
  repeat' first
    | with_reducible assumption | with_reducible apply State.Leads.next | with_reducible apply State.Leads.ite | (intro)
    | with_reducible apply Twn.assert_keeps | with_reducible apply State.Keeps.ite | split

theorem Twn.peerAsserts_keeps {z₀ : State} (s : State) (at_ : Nat) (h_s : State.Keeps z₀ s) :
    State.Keeps z₀ (Twn.peerAsserts s at_) := by
  unfold Twn.peerAsserts
  repeat' first
    | with_reducible assumption | (intro)
    | (extract_lets +onlyGivenNames x; refine State.Keeps.cut (p := State.Keeps z₀ x) ?_ ?_;
        (focus (intro hx; clear_value x)); rotate_left; subst x)
    | (extract_lets +onlyGivenNames x; clear_value x) | with_reducible apply State.setFlag_keeps
    | with_reducible apply State.setFire_keeps | with_reducible apply Twn.setRole_keeps
    | with_reducible apply State.after_keeps | with_reducible apply State.Keeps.ite | split
    | (with_reducible refine State.Keeps.mk_same _ rfl rfl rfl rfl rfl rfl rfl rfl ?_)

theorem execPeerOwnChange_keeps {z₀ : State} (at_ : Nat) (p n : Bool) (s : State) (h_s : State.Keeps z₀ s) :
    State.Leads z₀ (execPeerOwnChange at_ p n s) := by
  unfold execPeerOwnChange
  repeat' first
    | with_reducible assumption | with_reducible apply State.Leads.next | with_reducible apply State.Leads.ite | (intro)
    | (extract_lets +onlyGivenNames x; refine State.Keeps.cut (p := State.Keeps z₀ x) ?_ ?_;
        (focus (intro hx; clear_value x)); rotate_left; subst x)
    | (extract_lets +onlyGivenNames x; clear_value x) | with_reducible apply State.setFlag_keeps
    | with_reducible apply Twn.levels_keeps | with_reducible apply Twn.peerAsserts_keeps
    | with_reducible apply State.Keeps.ite | split
    | (with_reducible refine State.Keeps.mk_same _ rfl rfl rfl rfl rfl rfl rfl rfl ?_)

theorem execOwnAmbig_keeps {z₀ : State} (s : State) (h_s : State.Keeps z₀ s) :
    State.Leads z₀ (execOwnAmbig s) := by
  unfold execOwnAmbig
  repeat' first
    | with_reducible assumption | with_reducible apply State.Leads.next | with_reducible apply State.Leads.ite | (intro)
    | (extract_lets +onlyGivenNames x; refine State.Keeps.cut (p := State.Keeps z₀ x) ?_ ?_;
        (focus (intro hx; clear_value x)); rotate_left; subst x)
    | (extract_lets +onlyGivenNames x; clear_value x) | with_reducible apply Twn.levels_keeps
    | with_reducible apply State.Keeps.ite | split
    | (with_reducible refine State.Keeps.mk_same _ rfl rfl rfl rfl rfl rfl rfl rfl ?_)

theorem execHeartbeatToggle_keeps {z₀ : State} (s : State) (h_s : State.Keeps z₀ s) :
    State.Leads z₀ (execHeartbeatToggle s) := by
  unfold execHeartbeatToggle
  repeat' first
    | with_reducible assumption | with_reducible apply State.Leads.next | with_reducible apply State.Leads.ite | (intro)
    | (extract_lets +onlyGivenNames x; refine State.Keeps.cut (p := State.Keeps z₀ x) ?_ ?_;
        (focus (intro hx; clear_value x)); rotate_left; subst x)
    | (extract_lets +onlyGivenNames x; clear_value x) | with_reducible apply State.send_keeps
    | with_reducible apply State.Keeps.ite | split
    | (with_reducible refine State.Keeps.mk_same _ rfl rfl rfl rfl rfl rfl rfl rfl ?_)

theorem execHbEdge_keeps {z₀ : State} (within : Bool) (s : State) (h_s : State.Keeps z₀ s) :
    State.Leads z₀ (execHbEdge within s) := by
  unfold execHbEdge
  repeat' first
    | with_reducible assumption | with_reducible apply State.Leads.next | with_reducible apply State.Leads.ite | (intro)
    | (extract_lets +onlyGivenNames x; refine State.Keeps.cut (p := State.Keeps z₀ x) ?_ ?_;
        (focus (intro hx; clear_value x)); rotate_left; subst x)
    | (extract_lets +onlyGivenNames x; clear_value x) | with_reducible apply State.setFlag_keeps
    | with_reducible apply Twn.levels_keeps | with_reducible apply State.fire_keeps | with_reducible apply State.Keeps.ite
    | split | (with_reducible refine State.Keeps.mk_same _ rfl rfl rfl rfl rfl rfl rfl rfl ?_)

theorem execHbLoss_keeps {z₀ : State} (s : State) (h_s : State.Keeps z₀ s) :
    State.Leads z₀ (execHbLoss s) := by
  unfold execHbLoss
  repeat' first
    | with_reducible assumption | with_reducible apply State.Leads.next | with_reducible apply State.Leads.ite | (intro)
    | (extract_lets +onlyGivenNames x; refine State.Keeps.cut (p := State.Keeps z₀ x) ?_ ?_;
        (focus (intro hx; clear_value x)); rotate_left; subst x)
    | (extract_lets +onlyGivenNames x; clear_value x) | with_reducible apply Twn.levels_keeps
    | with_reducible apply State.setFlag_keeps | with_reducible apply State.fire_keeps
    | with_reducible apply State.Keeps.ite | split
    | (with_reducible refine State.Keeps.mk_same _ rfl rfl rfl rfl rfl rfl rfl rfl ?_)

theorem execLaneLock_keeps {z₀ : State} (lane : Nat) (locked : Bool) (s : State) (h_s : State.Keeps z₀ s) :
    State.Leads z₀ (execLaneLock lane locked s) := by
  unfold execLaneLock
  repeat' first
    | with_reducible assumption | with_reducible apply State.Leads.next | with_reducible apply State.Leads.ite | (intro)
    | (extract_lets +onlyGivenNames x; refine State.Keeps.cut (p := State.Keeps z₀ x) ?_ ?_;
        (focus (intro hx; clear_value x)); rotate_left; subst x)
    | (extract_lets +onlyGivenNames x; clear_value x) | with_reducible apply Twn.train_keeps
    | with_reducible apply Twn.down_keeps | with_reducible apply State.Keeps.ite | split
    | (with_reducible refine State.Keeps.mk_same _ rfl rfl rfl rfl rfl rfl rfl rfl ?_)

theorem execDownBlock_keeps {z₀ : State} (s : State) (h_s : State.Keeps z₀ s) :
    State.Leads z₀ (execDownBlock s) := by
  unfold execDownBlock
  repeat' first
    | with_reducible assumption | with_reducible apply State.Leads.next | with_reducible apply State.Leads.ite
    | with_reducible apply Twn.down_keeps

theorem execHelloTimeout_keeps {z₀ : State} (s : State) (h_s : State.Keeps z₀ s) :
    State.Leads z₀ (execHelloTimeout s) := by
  unfold execHelloTimeout
  repeat' first
    | with_reducible assumption | with_reducible apply State.Leads.next | with_reducible apply State.Leads.ite
    | with_reducible apply Twn.down_keeps

theorem execAlignMissing_keeps {z₀ : State} (s : State) (h_s : State.Keeps z₀ s) :
    State.Leads z₀ (execAlignMissing s) := by
  unfold execAlignMissing
  repeat' first
    | with_reducible assumption | with_reducible apply State.Leads.next | with_reducible apply State.Leads.ite
    | with_reducible apply Twn.down_keeps

theorem Twn.enWritten_keeps {z₀ : State} (s : State) (en : Bool) (h_s : State.Keeps z₀ s) :
    State.Keeps z₀ (Twn.enWritten s en) := by
  unfold Twn.enWritten
  repeat' first
    | with_reducible assumption | (intro)
    | (extract_lets +onlyGivenNames x; refine State.Keeps.cut (p := State.Keeps z₀ x) ?_ ?_;
        (focus (intro hx; clear_value x)); rotate_left; subst x)
    | (extract_lets +onlyGivenNames x; clear_value x) | with_reducible apply State.setFlag_keeps
    | with_reducible apply Twn.train_keeps | with_reducible apply Twn.levels_keeps | with_reducible apply Twn.down_keeps
    | with_reducible apply Twn.setRole_keeps | with_reducible apply State.Keeps.ite | split
    | (with_reducible refine State.Keeps.mk_same _ rfl rfl rfl rfl rfl rfl rfl rfl ?_)

theorem execTwnCtlEnWrite_keeps {z₀ : State} (en : Bool) (s : State) (h_s : State.Keeps z₀ s) :
    State.Leads z₀ (execTwnCtlEnWrite en s) := by
  unfold execTwnCtlEnWrite
  repeat' first
    | with_reducible assumption | with_reducible apply State.Leads.next | with_reducible apply State.Leads.ite | (intro)
    | with_reducible apply State.bar_keeps | with_reducible apply Twn.enWritten_keeps

theorem Twn.ownEnWritten_keeps {z₀ : State} (s : State) (en : Bool) (h_s : State.Keeps z₀ s) :
    State.Keeps z₀ (Twn.ownEnWritten s en) := by
  unfold Twn.ownEnWritten
  repeat' first
    | with_reducible assumption | (intro)
    | (extract_lets +onlyGivenNames x; refine State.Keeps.cut (p := State.Keeps z₀ x) ?_ ?_;
        (focus (intro hx; clear_value x)); rotate_left; subst x)
    | (extract_lets +onlyGivenNames x; clear_value x) | with_reducible apply State.setFlag_keeps
    | with_reducible apply Twn.request_keeps | with_reducible apply State.Keeps.ite | split

theorem execOwnEnWrite_keeps {z₀ : State} (en : Bool) (s : State) (h_s : State.Keeps z₀ s) :
    State.Leads z₀ (execOwnEnWrite en s) := by
  unfold execOwnEnWrite
  repeat' first
    | with_reducible assumption | with_reducible apply State.Leads.next | with_reducible apply State.Leads.ite | (intro)
    | with_reducible apply State.bar_keeps | with_reducible apply Twn.ownEnWritten_keeps

theorem Twn.handover_keeps {z₀ : State} (s : State) (r : Run) (h_s : State.Keeps z₀ s) :
    State.Keeps z₀ (Twn.handover s r) := by
  unfold Twn.handover
  repeat' first
    | with_reducible assumption | (intro)
    | (extract_lets +onlyGivenNames x; refine State.Keeps.cut (p := State.Keeps z₀ x) ?_ ?_;
        (focus (intro hx; clear_value x)); rotate_left; subst x)
    | (extract_lets +onlyGivenNames x; clear_value x) | with_reducible apply Cmd.finish_keeps
    | with_reducible apply Twn.request_keeps | with_reducible apply Cmd.keepRun_keeps
    | with_reducible apply State.Keeps.ite | split
    | (with_reducible refine State.Keeps.mk_same _ rfl rfl rfl rfl rfl rfl rfl rfl ?_)

theorem execTwinHandover_keeps {z₀ : State} (s : State) (h_s : State.Keeps z₀ s) :
    State.Leads z₀ (execTwinHandover s) := by
  unfold execTwinHandover
  repeat' first
    | with_reducible assumption | with_reducible apply State.Leads.next | with_reducible apply State.Leads.ite
    | with_reducible apply Cmd.start_keeps | with_reducible apply Twn.handover_keeps

theorem execHelloSend_keeps {z₀ : State} (s : State) (h_s : State.Keeps z₀ s) :
    State.Leads z₀ (execHelloSend s) := by
  unfold execHelloSend
  repeat' first
    | with_reducible assumption | with_reducible apply State.Leads.next | with_reducible apply State.Leads.ite | (intro)
    | (extract_lets +onlyGivenNames x; refine State.Keeps.cut (p := State.Keeps z₀ x) ?_ ?_;
        (focus (intro hx; clear_value x)); rotate_left; subst x)
    | (extract_lets +onlyGivenNames x; clear_value x) | with_reducible apply Twn.train_keeps
    | with_reducible apply Tth.send_keeps | with_reducible apply State.send_keeps | with_reducible apply State.Keeps.ite
    | split | (with_reducible refine State.Keeps.mk_same _ rfl rfl rfl rfl rfl rfl rfl rfl ?_)

theorem Twn.setResync_keeps {z₀ : State} (s : State) (x : Resync) (h_s : State.Keeps z₀ s) :
    State.Keeps z₀ (Twn.setResync s x) := by
  unfold Twn.setResync
  repeat' first
    | with_reducible assumption
    | (extract_lets +onlyGivenNames x; refine State.Keeps.cut (p := State.Keeps z₀ x) ?_ ?_;
        (focus (intro hx; clear_value x)); rotate_left; subst x)
    | (extract_lets +onlyGivenNames x; clear_value x) | with_reducible apply State.setFlag_keeps
    | (with_reducible refine State.Keeps.mk_same _ rfl rfl rfl rfl rfl rfl rfl rfl ?_)

theorem Twn.nameResync_keeps {z₀ : State} (s : State) (r : Nat) (cmd : Bool) (h_s : State.Keeps z₀ s) :
    State.Keeps z₀ (Twn.nameResync s r cmd) := by
  unfold Twn.nameResync
  repeat' first
    | with_reducible assumption | with_reducible apply Tth.send_keeps | with_reducible apply State.send_keeps
    | with_reducible apply Twn.setResync_keeps

theorem Twn.prepare_keeps {z₀ : State} (s : State) (cmd : Bool) (h_s : State.Keeps z₀ s) :
    State.Keeps z₀ (Twn.prepare s cmd) := by
  unfold Twn.prepare
  repeat' first
    | with_reducible assumption | (intro)
    | (extract_lets +onlyGivenNames x; refine State.Keeps.cut (p := State.Keeps z₀ x) ?_ ?_;
        (focus (intro hx; clear_value x)); rotate_left; subst x)
    | (extract_lets +onlyGivenNames x; clear_value x) | with_reducible apply Tth.send_keeps
    | with_reducible apply State.send_keeps | with_reducible apply Twn.setResync_keeps | split

theorem Twn.resync_keeps {z₀ : State} (s : State) (run : Run) (h_s : State.Keeps z₀ s) :
    State.Keeps z₀ (Twn.resync s run) := by
  unfold Twn.resync
  repeat' first
    | with_reducible assumption | (intro)
    | (extract_lets +onlyGivenNames x; refine State.Keeps.cut (p := State.Keeps z₀ x) ?_ ?_;
        (focus (intro hx; clear_value x)); rotate_left; subst x)
    | (extract_lets +onlyGivenNames x; clear_value x) | with_reducible apply Cmd.finish_keeps
    | with_reducible apply Cmd.keepRun_keeps | with_reducible apply Twn.nameResync_keeps
    | with_reducible apply Twn.prepare_keeps | with_reducible apply State.fire_keeps
    | with_reducible apply State.Keeps.ite | split
    | (with_reducible refine State.Keeps.mk_same _ rfl rfl rfl rfl rfl rfl rfl rfl ?_)

theorem execTwinResync_keeps {z₀ : State} (s : State) (h_s : State.Keeps z₀ s) :
    State.Leads z₀ (execTwinResync s) := by
  unfold execTwinResync
  repeat' first
    | with_reducible assumption | with_reducible apply State.Leads.next | with_reducible apply State.Leads.ite
    | with_reducible apply Cmd.start_keeps | with_reducible apply Twn.resync_keeps

theorem execAutoResyncStart_keeps {z₀ : State} (at_ : Nat) (s : State) (h_s : State.Keeps z₀ s) :
    State.Leads z₀ (execAutoResyncStart at_ s) := by
  unfold execAutoResyncStart
  repeat' first
    | with_reducible assumption | with_reducible apply State.Leads.next | with_reducible apply State.Leads.ite | (intro)
    | (extract_lets +onlyGivenNames x; refine State.Keeps.cut (p := State.Keeps z₀ x) ?_ ?_;
        (focus (intro hx; clear_value x)); rotate_left; subst x)
    | (extract_lets +onlyGivenNames x; clear_value x) | with_reducible apply Twn.nameResync_keeps
    | with_reducible apply State.after_keeps | with_reducible apply State.Keeps.ite | split
    | (with_reducible refine State.Keeps.mk_same _ rfl rfl rfl rfl rfl rfl rfl rfl ?_)

end Twin

section Live

theorem Buf.test_keeps {z₀ : State} (s : State) (h_s : State.Keeps z₀ s) :
    State.Keeps z₀ (Buf.test s) := by
  unfold Buf.test
  repeat' first
    | with_reducible assumption | (intro)
    | (extract_lets +onlyGivenNames x; refine State.Keeps.cut (p := State.Keeps z₀ x) ?_ ?_;
        (focus (intro hx; clear_value x)); rotate_left; subst x)
    | (extract_lets +onlyGivenNames x; clear_value x) | with_reducible apply State.when_keeps
    | with_reducible apply State.setFlag_keeps | split

theorem Buf.clear_keeps {z₀ : State} (s : State) (h_s : State.Keeps z₀ s) :
    State.Keeps z₀ (Buf.clear s) := by
  unfold Buf.clear
  repeat' first | with_reducible assumption | with_reducible apply State.setFlag_keeps

theorem Bale.armDone_keeps {z₀ : State} (s : State) (i : Nat) (h_s : State.Keeps z₀ s) :
    State.Keeps z₀ (Bale.armDone s i) := by
  unfold Bale.armDone
  repeat' first
    | with_reducible assumption | (intro)
    | (extract_lets +onlyGivenNames x; refine State.Keeps.cut (p := State.Keeps z₀ x) ?_ ?_;
        (focus (intro hx; clear_value x)); rotate_left; subst x)
    | (extract_lets +onlyGivenNames x; refine State.Keeps.cut (p := State.Keeps z₀ x.1) ?_ ?_;
        (focus (intro hx; clear_value x)); rotate_left; subst x)
    | (extract_lets +onlyGivenNames x; clear_value x) | with_reducible apply Bale.finish_keeps | split
    | (with_reducible refine State.Keeps.mk_same _ rfl rfl rfl rfl rfl rfl rfl rfl ?_)

theorem Bale.armed_keeps {z₀ : State} (s : State) (i : Nat) (h_s : State.Keeps z₀ s) :
    State.Keeps z₀ (Bale.armed s i) := by
  unfold Bale.armed
  repeat' first
    | with_reducible assumption
    | (extract_lets +onlyGivenNames x; refine State.Keeps.cut (p := State.Keeps z₀ x) ?_ ?_;
        (focus (intro hx; clear_value x)); rotate_left; subst x)
    | (extract_lets +onlyGivenNames x; clear_value x) | with_reducible apply Bale.noteRead_keeps
    | with_reducible apply Bale.armWrites_keeps | with_reducible apply Bale.armDone_keeps
    | with_reducible apply Buf.test_keeps | with_reducible apply Bale.setState_keeps | split
    | (with_reducible refine State.Keeps.mk_same _ rfl rfl rfl rfl rfl rfl rfl rfl ?_)

theorem execArmingWritesComplete_keeps {z₀ : State} (s : State) (h_s : State.Keeps z₀ s) :
    State.Leads z₀ (execArmingWritesComplete s) := by
  unfold execArmingWritesComplete
  repeat' first
    | with_reducible assumption | with_reducible apply State.Leads.next | with_reducible apply State.Leads.ite
    | (extract_lets +onlyGivenNames x; refine State.Keeps.cut (p := State.Keeps z₀ x) ?_ ?_;
        (focus (intro hx; clear_value x)); rotate_left; subst x)
    | (extract_lets +onlyGivenNames x; refine State.Keeps.cut (p := State.Keeps z₀ x.1) ?_ ?_;
        (focus (intro hx; clear_value x)); rotate_left; subst x)
    | (extract_lets +onlyGivenNames x; clear_value x) | with_reducible apply Bale.armed_keeps | split
    | (with_reducible refine State.Keeps.mk_same _ rfl rfl rfl rfl rfl rfl rfl rfl ?_)

theorem Nsw.strmEn_keeps {z₀ : State} (s : State) (en : Bool) (h_s : State.Keeps z₀ s) :
    State.Keeps z₀ (Nsw.strmEn s en) := by
  unfold Nsw.strmEn
  repeat' first
    | with_reducible assumption | (intro)
    | (extract_lets +onlyGivenNames x; refine State.Keeps.cut (p := State.Keeps z₀ x) ?_ ?_;
        (focus (intro hx; clear_value x)); rotate_left; subst x)
    | (extract_lets +onlyGivenNames x; clear_value x) | with_reducible apply State.setFlag_keeps
    | with_reducible apply Nsw.restart_keeps | with_reducible apply Buf.test_keeps | with_reducible apply Buf.clear_keeps
    | with_reducible apply State.Keeps.ite | split

theorem execStrmEnWrite_keeps {z₀ : State} (en : Bool) (s : State) (h_s : State.Keeps z₀ s) :
    State.Leads z₀ (execStrmEnWrite en s) := by
  unfold execStrmEnWrite
  repeat' first
    | with_reducible assumption | with_reducible apply State.Leads.next | with_reducible apply State.Leads.ite | (intro)
    | with_reducible apply State.bar_keeps | with_reducible apply Nsw.strmEn_keeps

theorem Commit.attach_keeps {z₀ : State} (s : State) (h_s : State.Keeps z₀ s) :
    State.Keeps z₀ (Commit.attach s) := by
  unfold Commit.attach
  repeat' first
    | with_reducible assumption
    | (extract_lets +onlyGivenNames x; refine State.Keeps.cut (p := State.Keeps z₀ x) ?_ ?_;
        (focus (intro hx; clear_value x)); rotate_left; subst x)
    | (extract_lets +onlyGivenNames x; refine State.Keeps.cut (p := State.Keeps z₀ x.1) ?_ ?_;
        (focus (intro hx; clear_value x)); rotate_left; subst x)
    | (extract_lets +onlyGivenNames x; clear_value x) | with_reducible apply Cmd.keepRun_keeps | split
    | (with_reducible refine State.Keeps.mk_same _ rfl rfl rfl rfl rfl rfl rfl rfl ?_)

theorem Commit.take_keeps {z₀ : State} (s : State) (may : Run → Bool) (h_s : State.Keeps z₀ s) :
    State.Keeps z₀ (Commit.take s may) := by
  unfold Commit.take
  repeat' first
    | with_reducible assumption | (intro)
    | (extract_lets +onlyGivenNames x; refine State.Keeps.cut (p := State.Keeps z₀ x) ?_ ?_;
        (focus (intro hx; clear_value x)); rotate_left; subst x)
    | (extract_lets +onlyGivenNames x; refine State.Keeps.cut (p := State.Keeps z₀ x.1) ?_ ?_;
        (focus (intro hx; clear_value x)); rotate_left; subst x)
    | (extract_lets +onlyGivenNames x; clear_value x) | with_reducible apply Commit.attach_keeps
    | with_reducible apply State.each_keeps | with_reducible apply Cmd.keepRun_keeps
    | with_reducible apply Cmd.finish_keeps | with_reducible apply Save.show_keeps
    | with_reducible apply State.setFlag_keeps | with_reducible apply State.incWrap_keeps
    | with_reducible apply State.foldl_keeps | with_reducible apply State.foldl1_keeps
    | with_reducible apply State.Keeps.ite | with_reducible apply State.Keeps.ite1 | split
    | (with_reducible refine State.Keeps.mk_same _ rfl rfl rfl rfl rfl rfl rfl rfl ?_)

theorem Commit.livePages_keeps {z₀ : State} (s : State) (ps : List (Nat × List Byte)) (h_s : State.Keeps z₀ s) :
    State.Keeps z₀ (Commit.livePages s ps) := by
  unfold Commit.livePages
  repeat' first
    | with_reducible assumption | (intro)
    | (extract_lets +onlyGivenNames x; refine State.Keeps.cut (p := State.Keeps z₀ x) ?_ ?_;
        (focus (intro hx; clear_value x)); rotate_left; subst x)
    | (extract_lets +onlyGivenNames x; refine State.Keeps.cut (p := State.Keeps z₀ x.1) ?_ ?_;
        (focus (intro hx; clear_value x)); rotate_left; subst x)
    | (extract_lets +onlyGivenNames x; clear_value x) | with_reducible apply State.foldl_keeps
    | with_reducible apply State.foldl1_keeps
    | (with_reducible refine State.Keeps.mk_same _ rfl rfl rfl rfl rfl rfl rfl rfl ?_)

theorem Commit.liveRegs_keeps {z₀ : State} (s : State) (regs : Sparse Word) (steps : FadeKind → Bool) (h_s : State.Keeps z₀ s) :
    State.Keeps z₀ (Commit.liveRegs s regs steps) := by
  unfold Commit.liveRegs
  repeat' first
    | with_reducible assumption | (intro)
    | (extract_lets +onlyGivenNames x; refine State.Keeps.cut (p := State.Keeps z₀ x) ?_ ?_;
        (focus (intro hx; clear_value x)); rotate_left; subst x)
    | (extract_lets +onlyGivenNames x; refine State.Keeps.cut (p := State.Keeps z₀ x.1) ?_ ?_;
        (focus (intro hx; clear_value x)); rotate_left; subst x)
    | (extract_lets +onlyGivenNames x; clear_value x) | with_reducible apply State.each_keeps
    | with_reducible apply State.setReg_keeps | with_reducible apply Graph.commitEntry_keeps
    | with_reducible apply State.Keeps.ite | with_reducible apply State.Keeps.ite1 | split
    | (with_reducible refine State.Keeps.mk_same _ rfl rfl rfl rfl rfl rfl rfl rfl ?_)

theorem Commit.done_keeps {z₀ : State} (s : State) (k : Nat) (h_s : State.Keeps z₀ s) :
    State.Keeps z₀ (Commit.done s k) := by
  unfold Commit.done
  repeat' first
    | with_reducible assumption | (intro)
    | (extract_lets +onlyGivenNames x; refine State.Keeps.cut (p := State.Keeps z₀ x) ?_ ?_;
        (focus (intro hx; clear_value x)); rotate_left; subst x)
    | (extract_lets +onlyGivenNames x; refine State.Keeps.cut (p := State.Keeps z₀ x.1) ?_ ?_;
        (focus (intro hx; clear_value x)); rotate_left; subst x)
    | (extract_lets +onlyGivenNames x; clear_value x) | with_reducible apply State.each_keeps
    | with_reducible apply Cmd.finish_keeps | with_reducible apply State.setFlag_keeps | split
    | (with_reducible refine State.Keeps.mk_same _ rfl rfl rfl rfl rfl rfl rfl rfl ?_)

theorem Commit.live_keeps {z₀ : State} (s : State) (k : Nat) (steps : FadeKind → Bool) (h_s : State.Keeps z₀ s) :
    State.Keeps z₀ (Commit.live s k steps) := by
  unfold Commit.live
  repeat' first
    | with_reducible assumption
    | (extract_lets +onlyGivenNames x; refine State.Keeps.cut (p := State.Keeps z₀ x) ?_ ?_;
        (focus (intro hx; clear_value x)); rotate_left; subst x)
    | (extract_lets +onlyGivenNames x; refine State.Keeps.cut (p := State.Keeps z₀ x.1) ?_ ?_;
        (focus (intro hx; clear_value x)); rotate_left; subst x)
    | (extract_lets +onlyGivenNames x; clear_value x) | with_reducible apply Commit.livePages_keeps
    | with_reducible apply Commit.liveRegs_keeps | with_reducible apply Commit.done_keeps
    | with_reducible apply State.setFld_keeps | split
    | (with_reducible refine State.Keeps.mk_same _ rfl rfl rfl rfl rfl rfl rfl rfl ?_)

theorem Commit.shown_keeps {z₀ : State} (s : State) (k : Nat) (h_s : State.Keeps z₀ s) :
    State.Keeps z₀ (Commit.shown s k) := by
  unfold Commit.shown
  repeat' first
    | with_reducible assumption | (intro) | with_reducible apply State.setFld_keeps
    | with_reducible apply State.setFlag_keeps | with_reducible apply State.Keeps.ite | split

theorem Swap.take_keeps {z₀ : State} (s : State) (i : Nat) (h_s : State.Keeps z₀ s) :
    State.Keeps z₀ (Swap.take s i) := by
  unfold Swap.take
  repeat' first
    | with_reducible assumption | (intro)
    | (extract_lets +onlyGivenNames x; refine State.Keeps.cut (p := State.Keeps z₀ x) ?_ ?_;
        (focus (intro hx; clear_value x)); rotate_left; subst x)
    | (extract_lets +onlyGivenNames x; refine State.Keeps.cut (p := State.Keeps z₀ x.1) ?_ ?_;
        (focus (intro hx; clear_value x)); rotate_left; subst x)
    | (extract_lets +onlyGivenNames x; clear_value x) | with_reducible apply State.each_keeps
    | with_reducible apply Cmd.finish_keeps | with_reducible apply State.setFlag_keeps
    | with_reducible apply State.Keeps.ite | with_reducible apply State.Keeps.ite1 | split
    | (with_reducible refine State.Keeps.mk_same _ rfl rfl rfl rfl rfl rfl rfl rfl ?_)

theorem Swap.readMigration_keeps {z₀ : State} (s : State) (h_s : State.Keeps z₀ s) :
    State.Keeps z₀ (Swap.readMigration s) := by
  unfold Swap.readMigration
  repeat' first
    | with_reducible assumption | (intro)
    | (extract_lets +onlyGivenNames x; refine State.Keeps.cut (p := State.Keeps z₀ x) ?_ ?_;
        (focus (intro hx; clear_value x)); rotate_left; subst x)
    | (extract_lets +onlyGivenNames x; refine State.Keeps.cut (p := State.Keeps z₀ x.1) ?_ ?_;
        (focus (intro hx; clear_value x)); rotate_left; subst x)
    | (extract_lets +onlyGivenNames x; clear_value x) | with_reducible apply Bale.noteRead_keeps
    | with_reducible apply Mem.noteRange_keeps | with_reducible apply State.each_keeps
    | with_reducible apply State.Keeps.ite | with_reducible apply State.Keeps.ite1 | split
    | (with_reducible refine State.Keeps.mk_same _ rfl rfl rfl rfl rfl rfl rfl rfl ?_)

theorem Swap.writeMigration_keeps {z₀ : State} (s : State) (k : Nat) (h_s : State.Keeps z₀ s) :
    State.Keeps z₀ (Swap.writeMigration s k) := by
  unfold Swap.writeMigration
  repeat' first
    | with_reducible assumption | (intro)
    | (extract_lets +onlyGivenNames x; refine State.Keeps.cut (p := State.Keeps z₀ x) ?_ ?_;
        (focus (intro hx; clear_value x)); rotate_left; subst x)
    | (extract_lets +onlyGivenNames x; refine State.Keeps.cut (p := State.Keeps z₀ x.1) ?_ ?_;
        (focus (intro hx; clear_value x)); rotate_left; subst x)
    | (extract_lets +onlyGivenNames x; clear_value x) | with_reducible apply State.each_keeps
    | with_reducible apply Mem.write_keeps | with_reducible apply State.Keeps.ite | with_reducible apply State.Keeps.ite1
    | split | (with_reducible refine State.Keeps.mk_same _ rfl rfl rfl rfl rfl rfl rfl rfl ?_)

theorem Swap.shadow_keeps {z₀ : State} (s : State) (i : Nat) (h_s : State.Keeps z₀ s) :
    State.Keeps z₀ (Swap.shadow s i) := by
  unfold Swap.shadow
  repeat' first
    | with_reducible assumption | (intro)
    | (extract_lets +onlyGivenNames x; refine State.Keeps.cut (p := State.Keeps z₀ x) ?_ ?_;
        (focus (intro hx; clear_value x)); rotate_left; subst x)
    | (extract_lets +onlyGivenNames x; clear_value x) | with_reducible apply Swap.page_keeps
    | with_reducible apply Swap.dlens_keeps | with_reducible apply State.foldl_keeps
    | with_reducible apply State.foldl1_keeps | split

theorem Swap.liveWords_keeps {z₀ : State} (s : State) (sel : Nat → Bool) (h_s : State.Keeps z₀ s) :
    State.Keeps z₀ (Swap.liveWords s sel) := by
  unfold Swap.liveWords
  repeat' first
    | with_reducible assumption | (intro) | with_reducible apply State.each_keeps
    | with_reducible apply State.setReg_keeps

theorem Swap.stall_keeps {z₀ : State} (r : Nat → Nat) (s : State) (i : Nat) (h_s : State.Keeps z₀ s) :
    State.Keeps z₀ (Swap.stall r s i) := by
  unfold Swap.stall
  repeat' first
    | with_reducible assumption
    | (extract_lets +onlyGivenNames x; refine State.Keeps.cut (p := State.Keeps z₀ x) ?_ ?_;
        (focus (intro hx; clear_value x)); rotate_left; subst x)
    | (extract_lets +onlyGivenNames x; clear_value x) | with_reducible apply State.setStall_keeps
    | with_reducible apply State.setFld_keeps | with_reducible apply State.setReg_keeps | split
    | (with_reducible refine State.Keeps.mk_same _ rfl rfl rfl rfl rfl rfl rfl rfl ?_)

theorem Swap.timetable_keeps {z₀ : State} (s : State) (i : Nat) (h_s : State.Keeps z₀ s) :
    State.Keeps z₀ (Swap.timetable s i) := by
  unfold Swap.timetable
  repeat' first
    | with_reducible assumption | (intro)
    | (extract_lets +onlyGivenNames x; refine State.Keeps.cut (p := State.Keeps z₀ x) ?_ ?_;
        (focus (intro hx; clear_value x)); rotate_left; subst x)
    | (extract_lets +onlyGivenNames x) | with_reducible apply State.each_keeps | with_reducible apply Swap.stall_keeps
    | with_reducible apply State.setFld_keeps | with_reducible apply State.setFlag_keeps | split
    | (with_reducible refine State.Keeps.mk_same _ rfl rfl rfl rfl rfl rfl rfl rfl ?_)

theorem Swap.stallPages_keeps {z₀ : State} (s : State) (i : Nat) (h_s : State.Keeps z₀ s) :
    State.Keeps z₀ (Swap.stallPages s i) := by
  unfold Swap.stallPages
  repeat' first
    | with_reducible assumption | (intro)
    | (extract_lets +onlyGivenNames x; refine State.Keeps.cut (p := State.Keeps z₀ x) ?_ ?_;
        (focus (intro hx; clear_value x)); rotate_left; subst x)
    | (extract_lets +onlyGivenNames x; refine State.Keeps.cut (p := State.Keeps z₀ x.1) ?_ ?_;
        (focus (intro hx; clear_value x)); rotate_left; subst x)
    | (extract_lets +onlyGivenNames x; clear_value x) | with_reducible apply State.foldl_keeps
    | with_reducible apply State.foldl1_keeps | split
    | (with_reducible refine State.Keeps.mk_same _ rfl rfl rfl rfl rfl rfl rfl rfl ?_)

theorem Swap.slots_keeps {z₀ : State} (s : State) (i : Nat) (h_s : State.Keeps z₀ s) :
    State.Keeps z₀ (Swap.slots s i) := by
  unfold Swap.slots
  repeat' first
    | with_reducible assumption | (intro)
    | (extract_lets +onlyGivenNames x; refine State.Keeps.cut (p := State.Keeps z₀ x) ?_ ?_;
        (focus (intro hx; clear_value x)); rotate_left; subst x)
    | (extract_lets +onlyGivenNames x; refine State.Keeps.cut (p := State.Keeps z₀ x.1) ?_ ?_;
        (focus (intro hx; clear_value x)); rotate_left; subst x)
    | (extract_lets +onlyGivenNames x; clear_value x) | with_reducible apply Bale.setState_keeps
    | with_reducible apply State.incWrap_keeps | with_reducible apply State.setFlag_keeps
    | with_reducible apply State.setFld_keeps | split
    | (with_reducible refine State.Keeps.mk_same _ rfl rfl rfl rfl rfl rfl rfl rfl ?_)

theorem Swap.outlet_keeps {z₀ : State} (s : State) (h_s : State.Keeps z₀ s) :
    State.Keeps z₀ (Swap.outlet s) := by
  unfold Swap.outlet
  repeat' first
    | with_reducible assumption | (intro)
    | (extract_lets +onlyGivenNames x; refine State.Keeps.cut (p := State.Keeps z₀ x) ?_ ?_;
        (focus (intro hx; clear_value x)); rotate_left; subst x)
    | (extract_lets +onlyGivenNames x; refine State.Keeps.cut (p := State.Keeps z₀ x.1) ?_ ?_;
        (focus (intro hx; clear_value x)); rotate_left; subst x)
    | (extract_lets +onlyGivenNames x; clear_value x) | with_reducible apply Swap.liveWords_keeps
    | with_reducible apply Swap.dlens_keeps | with_reducible apply Swap.shadow_keeps
    | with_reducible apply State.each_keeps | with_reducible apply State.setReg_keeps
    | with_reducible apply State.withShadow_keeps | with_reducible apply State.foldl_keeps
    | with_reducible apply State.foldl1_keeps | with_reducible apply State.Keeps.ite | split
    | (with_reducible refine State.Keeps.mk_same _ rfl rfl rfl rfl rfl rfl rfl rfl ?_)

theorem Swap.restore_keeps {z₀ : State} (s : State) (h_s : State.Keeps z₀ s) :
    State.Keeps z₀ (Swap.restore s) := by
  unfold Swap.restore
  repeat' first
    | with_reducible assumption | (intro)
    | (extract_lets +onlyGivenNames x; refine State.Keeps.cut (p := State.Keeps z₀ x) ?_ ?_;
        (focus (intro hx; clear_value x)); rotate_left; subst x)
    | (extract_lets +onlyGivenNames x; refine State.Keeps.cut (p := State.Keeps z₀ x.1) ?_ ?_;
        (focus (intro hx; clear_value x)); rotate_left; subst x)
    | (extract_lets +onlyGivenNames x; clear_value x) | with_reducible apply State.each_keeps
    | with_reducible apply State.setReg_keeps | with_reducible apply Mem.write_keeps
    | with_reducible apply State.setShReg_keeps | with_reducible apply State.foldl_keeps
    | with_reducible apply State.foldl1_keeps | with_reducible apply State.Keeps.ite
    | with_reducible apply State.Keeps.ite1 | split
    | (with_reducible refine State.Keeps.mk_same _ rfl rfl rfl rfl rfl rfl rfl rfl ?_)

theorem Live.blocks_keeps {z₀ : State} (old s : State) (k : Nat) (h_old : State.Keeps z₀ old) (h_s : State.Keeps z₀ s) :
    State.Keeps z₀ (Live.blocks old s k) := by
  unfold Live.blocks
  repeat' first
    | with_reducible assumption | with_reducible apply Drv.boundary_keeps | with_reducible apply Sfb.boundary_keeps
    | with_reducible apply Nsw.commit_keeps

theorem Swap.live_keeps {z₀ : State} (s : State) (i k : Nat) (h_s : State.Keeps z₀ s) :
    State.Keeps z₀ (Swap.live s i k) := by
  unfold Swap.live
  repeat' first
    | with_reducible assumption | (intro)
    | (extract_lets +onlyGivenNames x; refine State.Keeps.cut (p := State.Keeps z₀ x) ?_ ?_;
        (focus (intro hx; clear_value x)); rotate_left; subst x)
    | (extract_lets +onlyGivenNames x; refine State.Keeps.cut (p := State.Keeps z₀ x.1) ?_ ?_;
        (focus (intro hx; clear_value x)); rotate_left; subst x)
    | (extract_lets +onlyGivenNames x; clear_value x) | with_reducible apply Bale.noteRead_keeps
    | with_reducible apply Swap.shadow_keeps | with_reducible apply Swap.timetable_keeps
    | with_reducible apply Swap.stallPages_keeps | with_reducible apply Swap.liveWords_keeps
    | with_reducible apply Swap.slots_keeps | with_reducible apply Swap.outlet_keeps
    | with_reducible apply Swap.writeMigration_keeps | with_reducible apply Swap.restore_keeps
    | with_reducible apply State.each_keeps | with_reducible apply Cmd.finish_keeps
    | with_reducible apply State.withShadow_keeps | with_reducible apply State.setFlag_keeps
    | with_reducible apply State.Keeps.ite | with_reducible apply State.Keeps.ite1 | split
    | (with_reducible refine State.Keeps.mk_same _ rfl rfl rfl rfl rfl rfl rfl rfl ?_)

theorem Swap.done_keeps {z₀ : State} (s : State) (first : Bool) (at_ : Nat) (h_s : State.Keeps z₀ s) :
    State.Keeps z₀ (Swap.done s first at_) := by
  unfold Swap.done
  repeat' first
    | with_reducible assumption | (intro)
    | (extract_lets +onlyGivenNames x; refine State.Keeps.cut (p := State.Keeps z₀ x) ?_ ?_;
        (focus (intro hx; clear_value x)); rotate_left; subst x)
    | (extract_lets +onlyGivenNames x; refine State.Keeps.cut (p := State.Keeps z₀ x.1) ?_ ?_;
        (focus (intro hx; clear_value x)); rotate_left; subst x)
    | (extract_lets +onlyGivenNames x; clear_value x) | with_reducible apply State.each_keeps
    | with_reducible apply Cmd.finish_keeps | with_reducible apply State.Keeps.ite | split
    | (with_reducible refine State.Keeps.mk_same _ rfl rfl rfl rfl rfl rfl rfl rfl ?_)

end Live

section Mirror

theorem Mir.copy_keeps {z₀ : State} (s : State) (fp : Nat) (h_s : State.Keeps z₀ s) :
    State.Keeps z₀ (Mir.copy s fp).1 := by
  unfold Mir.copy
  repeat' first
    | with_reducible assumption | (intro)
    | (extract_lets +onlyGivenNames x; refine State.Keeps.cut (p := State.Keeps z₀ x) ?_ ?_;
        (focus (intro hx; clear_value x)); rotate_left; subst x)
    | (extract_lets +onlyGivenNames x; refine State.Keeps.cut (p := State.Keeps z₀ x.1) ?_ ?_;
        (focus (intro hx; clear_value x)); rotate_left; subst x)
    | (extract_lets +onlyGivenNames x; clear_value x) | with_reducible apply Mem.take_keeps
    | with_reducible apply State.foldl_keeps | with_reducible apply State.foldl1_keeps
    | with_reducible apply State.Keeps.ite1 | split

theorem Mir.write_keeps {z₀ : State} (s : State) (fp : Nat) (bs : List Byte) (h_s : State.Keeps z₀ s) :
    State.Keeps z₀ (Mir.write s fp bs) := by
  unfold Mir.write
  repeat' first
    | with_reducible assumption | (intro) | with_reducible apply Mem.write_keeps | with_reducible apply State.foldl_keeps
    | with_reducible apply State.foldl1_keeps

theorem Mir.install_keeps {z₀ : State} (s : State) (f own : Nat) (h_s : State.Keeps z₀ s) :
    State.Keeps z₀ (Mir.install s f own) := by
  unfold Mir.install
  repeat' first
    | with_reducible assumption | (intro) | with_reducible apply Mir.write_keeps | with_reducible apply State.incCnt_keeps
    | with_reducible apply State.Keeps.ite | split

theorem Twn.imageWords_keeps {z₀ : State} (s : State) (ws : List (Nat × Nat × Nat)) (h_s : State.Keeps z₀ s) :
    State.Keeps z₀ (Twn.imageWords s ws).1 := by
  unfold Twn.imageWords
  repeat' first
    | with_reducible assumption | (intro)
    | (extract_lets +onlyGivenNames x; refine State.Keeps.cut (p := State.Keeps z₀ x) ?_ ?_;
        (focus (intro hx; clear_value x)); rotate_left; subst x)
    | (extract_lets +onlyGivenNames x; refine State.Keeps.cut (p := State.Keeps z₀ x.1) ?_ ?_;
        (focus (intro hx; clear_value x)); rotate_left; subst x)
    | (extract_lets +onlyGivenNames x; clear_value x) | with_reducible apply Mem.getWord_keeps
    | with_reducible apply State.foldl_keeps | with_reducible apply State.foldl1_keeps
    | with_reducible apply State.Keeps.ite1 | split

theorem Twn.forward_keeps {z₀ : State} (s : State) (k : Nat) (h_s : State.Keeps z₀ s) :
    State.Keeps z₀ (Twn.forward s k) := by
  unfold Twn.forward
  repeat' first
    | with_reducible assumption | (intro)
    | (extract_lets +onlyGivenNames x; refine State.Keeps.cut (p := State.Keeps z₀ x) ?_ ?_;
        (focus (intro hx; clear_value x)); rotate_left; subst x)
    | (extract_lets +onlyGivenNames x; refine State.Keeps.cut (p := State.Keeps z₀ x.1) ?_ ?_;
        (focus (intro hx; clear_value x)); rotate_left; subst x)
    | (extract_lets +onlyGivenNames x; clear_value x) | with_reducible apply State.setFlag_keeps
    | with_reducible apply Twn.imageWords_keeps | with_reducible apply Tth.send_keeps
    | with_reducible apply State.send_keeps | with_reducible apply State.Keeps.ite | with_reducible apply State.Keeps.ite1
    | split

theorem Twn.sendDrive_keeps {z₀ : State} (s : State) (k : Nat) (h_s : State.Keeps z₀ s) :
    State.Keeps z₀ (Twn.sendDrive s k) := by
  unfold Twn.sendDrive
  repeat' first
    | with_reducible assumption | (intro) | with_reducible apply Tth.send_keeps | with_reducible apply State.send_keeps
    | with_reducible apply State.Keeps.ite | split

theorem Twn.refresh_keeps {z₀ : State} (n : Nat) (s : State) (h_s : State.Keeps z₀ s) :
    State.Keeps z₀ (Twn.refresh n s) := by
  unfold Twn.refresh
  repeat' first
    | with_reducible assumption | (intro)
    | (extract_lets +onlyGivenNames x; refine State.Keeps.cut (p := State.Keeps z₀ x) ?_ ?_;
        (focus (intro hx; clear_value x)); rotate_left; subst x)
    | (extract_lets +onlyGivenNames x; refine State.Keeps.cut (p := State.Keeps z₀ x.1) ?_ ?_;
        (focus (intro hx; clear_value x)); rotate_left; subst x)
    | (extract_lets +onlyGivenNames x) | with_reducible apply State.incWrap_keeps | with_reducible apply Mem.take_keeps
    | with_reducible apply Tth.send_keeps | with_reducible apply State.send_keeps | with_reducible apply State.each_keeps
    | with_reducible apply State.setFld_keeps | with_reducible apply State.Keeps.ite
    | with_reducible apply State.Keeps.ite1 | split
    | (with_reducible refine State.Keeps.mk_same _ rfl rfl rfl rfl rfl rfl rfl rfl ?_)

theorem Twn.refreshRows_keeps {z₀ : State} (s : State) (f : Nat) (h_s : State.Keeps z₀ s) :
    State.Keeps z₀ (Twn.refreshRows s f) := by
  unfold Twn.refreshRows
  repeat' first
    | with_reducible assumption | (intro)
    | (extract_lets +onlyGivenNames x; refine State.Keeps.cut (p := State.Keeps z₀ x) ?_ ?_;
        (focus (intro hx; clear_value x)); rotate_left; subst x)
    | (extract_lets +onlyGivenNames x; refine State.Keeps.cut (p := State.Keeps z₀ x.1) ?_ ?_;
        (focus (intro hx; clear_value x)); rotate_left; subst x)
    | (extract_lets +onlyGivenNames x; clear_value x) | with_reducible apply Mem.take_keeps
    | with_reducible apply State.each_keeps | with_reducible apply Mem.noteRange_keeps
    | with_reducible apply Tth.send_keeps | with_reducible apply State.send_keeps | with_reducible apply State.Keeps.ite
    | with_reducible apply State.Keeps.ite1 | split
    | (with_reducible refine State.Keeps.mk_same _ rfl rfl rfl rfl rfl rfl rfl rfl ?_)

theorem Twn.installRefresh_keeps {z₀ : State} (s : State) (k : Nat) (h_s : State.Keeps z₀ s) :
    State.Keeps z₀ (Twn.installRefresh s k) := by
  unfold Twn.installRefresh
  repeat' first
    | with_reducible assumption | (intro)
    | (extract_lets +onlyGivenNames x; refine State.Keeps.cut (p := State.Keeps z₀ x) ?_ ?_;
        (focus (intro hx; clear_value x)); rotate_left; subst x)
    | (extract_lets +onlyGivenNames x; refine State.Keeps.cut (p := State.Keeps z₀ x.1) ?_ ?_;
        (focus (intro hx; clear_value x)); rotate_left; subst x)
    | (extract_lets +onlyGivenNames x) | with_reducible apply Mem.write_keeps | with_reducible apply State.each_keeps
    | with_reducible apply State.setFlag_keeps | with_reducible apply State.Keeps.ite
    | with_reducible apply State.Keeps.ite1 | split
    | (with_reducible refine State.Keeps.mk_same _ rfl rfl rfl rfl rfl rfl rfl rfl ?_)

theorem Twn.showUnattr_keeps {z₀ : State} (s : State) (d : Nat) (h_s : State.Keeps z₀ s) :
    State.Keeps z₀ (Twn.showUnattr s d) := by
  unfold Twn.showUnattr
  repeat' first
    | with_reducible assumption | (intro)
    | (extract_lets +onlyGivenNames x; refine State.Keeps.cut (p := State.Keeps z₀ x) ?_ ?_;
        (focus (intro hx; clear_value x)); rotate_left; subst x)
    | (extract_lets +onlyGivenNames x; clear_value x) | with_reducible apply State.setFld_keeps | split
    | (with_reducible refine State.Keeps.mk_same _ rfl rfl rfl rfl rfl rfl rfl rfl ?_)

theorem Twn.attribute_keeps {z₀ : State} (s : State) (d who : Nat) (h_s : State.Keeps z₀ s) :
    State.Keeps z₀ (Twn.attribute s d who) := by
  unfold Twn.attribute
  repeat' first
    | with_reducible assumption | (intro)
    | (extract_lets +onlyGivenNames x; refine State.Keeps.cut (p := State.Keeps z₀ x) ?_ ?_;
        (focus (intro hx; clear_value x)); rotate_left; subst x)
    | (extract_lets +onlyGivenNames x; clear_value x) | with_reducible apply State.faultEvent_keeps
    | with_reducible apply Twn.request_keeps | with_reducible apply Twn.setRole_keeps
    | with_reducible apply Twn.showUnattr_keeps | with_reducible apply State.incCnt_keeps
    | with_reducible apply State.Keeps.ite | split
    | (with_reducible refine State.Keeps.mk_same _ rfl rfl rfl rfl rfl rfl rfl rfl ?_)

theorem Twn.compare_keeps {z₀ : State} (s : State) (d : Nat) (h_s : State.Keeps z₀ s) :
    State.Keeps z₀ (Twn.compare s d) := by
  unfold Twn.compare
  repeat' first
    | with_reducible assumption | (intro)
    | (extract_lets +onlyGivenNames x; refine State.Keeps.cut (p := State.Keeps z₀ x) ?_ ?_;
        (focus (intro hx; clear_value x)); rotate_left; subst x)
    | (extract_lets +onlyGivenNames x; refine State.Keeps.cut (p := State.Keeps z₀ x.1) ?_ ?_;
        (focus (intro hx; clear_value x)); rotate_left; subst x)
    | (extract_lets +onlyGivenNames x; clear_value x) | with_reducible apply State.setFld_keeps
    | with_reducible apply State.setFlag_keeps | with_reducible apply Twn.attribute_keeps
    | with_reducible apply State.fire_keeps | with_reducible apply State.Keeps.ite | with_reducible apply State.Keeps.ite1
    | split | (with_reducible refine State.Keeps.mk_same _ rfl rfl rfl rfl rfl rfl rfl rfl ?_)

theorem Twn.digestBoundary_keeps {z₀ : State} (s : State) (k : Nat) (h_s : State.Keeps z₀ s) :
    State.Keeps z₀ (Twn.digestBoundary s k) := by
  unfold Twn.digestBoundary
  repeat' first
    | with_reducible assumption | (intro)
    | (extract_lets +onlyGivenNames x; refine State.Keeps.cut (p := State.Keeps z₀ x) ?_ ?_;
        (focus (intro hx; clear_value x)); rotate_left; subst x)
    | (extract_lets +onlyGivenNames x; clear_value x) | with_reducible apply Twn.showUnattr_keeps
    | with_reducible apply Twn.compare_keeps | with_reducible apply Tth.send_keeps | with_reducible apply State.send_keeps
    | with_reducible apply State.Keeps.ite | split
    | (with_reducible refine State.Keeps.mk_same _ rfl rfl rfl rfl rfl rfl rfl rfl ?_)

theorem FadeNote.install_keeps {z₀ : State} (e : FadeKind) (s : State) (p : Nat × FadeNote) (h_s : State.Keeps z₀ s) :
    State.Keeps z₀ (FadeNote.install e s p) := by
  unfold FadeNote.install
  repeat' first
    | with_reducible assumption | (intro)
    | (extract_lets +onlyGivenNames x; refine State.Keeps.cut (p := State.Keeps z₀ x) ?_ ?_;
        (focus (intro hx; clear_value x)); rotate_left; subst x)
    | (extract_lets +onlyGivenNames x; refine State.Keeps.cut (p := State.Keeps z₀ x.1) ?_ ?_;
        (focus (intro hx; clear_value x)); rotate_left; subst x)
    | (extract_lets +onlyGivenNames x; clear_value x) | with_reducible apply Graph.setFade_keeps
    | with_reducible apply State.setFlds_keeps | with_reducible apply State.Keeps.ite
    | with_reducible apply State.Keeps.ite1 | split
    | (with_reducible refine State.Keeps.mk_same _ rfl rfl rfl rfl rfl rfl rfl rfl ?_)

theorem Twn.sendNotes_keeps {z₀ : State} (s : State) (k : Nat) (h_s : State.Keeps z₀ s) :
    State.Keeps z₀ (Twn.sendNotes s k) := by
  unfold Twn.sendNotes
  repeat' first
    | with_reducible assumption | (intro)
    | (extract_lets +onlyGivenNames x; refine State.Keeps.cut (p := State.Keeps z₀ x) ?_ ?_;
        (focus (intro hx; clear_value x)); rotate_left; subst x)
    | (extract_lets +onlyGivenNames x; refine State.Keeps.cut (p := State.Keeps z₀ x.1) ?_ ?_;
        (focus (intro hx; clear_value x)); rotate_left; subst x)
    | (extract_lets +onlyGivenNames x; clear_value x) | with_reducible apply Tth.send_keeps
    | with_reducible apply State.send_keeps | with_reducible apply State.Keeps.ite | split
    | (with_reducible refine State.Keeps.mk_same _ rfl rfl rfl rfl rfl rfl rfl rfl ?_)

theorem Twn.installNotes_keeps {z₀ : State} (s : State) (k : Nat) (h_s : State.Keeps z₀ s) :
    State.Keeps z₀ (Twn.installNotes s k) := by
  unfold Twn.installNotes
  repeat' first
    | with_reducible assumption | (intro)
    | (extract_lets +onlyGivenNames x; refine State.Keeps.cut (p := State.Keeps z₀ x) ?_ ?_;
        (focus (intro hx; clear_value x)); rotate_left; subst x)
    | (extract_lets +onlyGivenNames x; refine State.Keeps.cut (p := State.Keeps z₀ x.1) ?_ ?_;
        (focus (intro hx; clear_value x)); rotate_left; subst x)
    | (extract_lets +onlyGivenNames x; clear_value x) | with_reducible apply State.each_keeps
    | with_reducible apply FadeNote.install_keeps | with_reducible apply State.Keeps.ite | split
    | (with_reducible refine State.Keeps.mk_same _ rfl rfl rfl rfl rfl rfl rfl rfl ?_)

theorem Twn.completeResync_keeps {z₀ : State} (s : State) (k r : Nat) (h_s : State.Keeps z₀ s) :
    State.Keeps z₀ (Twn.completeResync s k r) := by
  unfold Twn.completeResync
  repeat' first
    | with_reducible assumption | (intro)
    | (extract_lets +onlyGivenNames x; refine State.Keeps.cut (p := State.Keeps z₀ x) ?_ ?_;
        (focus (intro hx; clear_value x)); rotate_left; subst x)
    | (extract_lets +onlyGivenNames x; clear_value x) | with_reducible apply State.setFlag_keeps
    | with_reducible apply State.each_keeps | with_reducible apply Cmd.finish_keeps
    | with_reducible apply State.fire_keeps | split
    | (with_reducible refine State.Keeps.mk_same _ rfl rfl rfl rfl rfl rfl rfl rfl ?_)

theorem Twn.resyncBoundary_keeps {z₀ : State} (s : State) (k : Nat) (h_s : State.Keeps z₀ s) :
    State.Keeps z₀ (Twn.resyncBoundary s k) := by
  unfold Twn.resyncBoundary
  repeat' first
    | with_reducible assumption | (intro)
    | (extract_lets +onlyGivenNames x; refine State.Keeps.cut (p := State.Keeps z₀ x) ?_ ?_;
        (focus (intro hx; clear_value x)); rotate_left; subst x)
    | (extract_lets +onlyGivenNames x; refine State.Keeps.cut (p := State.Keeps z₀ x.1) ?_ ?_;
        (focus (intro hx; clear_value x)); rotate_left; subst x)
    | (extract_lets +onlyGivenNames x; clear_value x) | with_reducible apply Twn.applyRole_keeps
    | with_reducible apply Twn.completeResync_keeps | with_reducible apply Twn.endResync_keeps
    | with_reducible apply State.Keeps.ite | split
    | (with_reducible refine State.Keeps.mk_same _ rfl rfl rfl rfl rfl rfl rfl rfl ?_)

end Mirror

end Sys2Proof.Machine
end

