-- ==== Sys2Proof/Laws/KeepsFrame.lean ====
section
/-! SUPPORT. `State.Keeps` for frame instants, resets and restarts, power, matrix upkeep, register accesses, boot, debug port: each operation keeps the variant, the queue, what has been sent,
the count of free values and the canonical forms. -/

namespace Sys2Proof.Machine

section Frame

theorem Frame.meters_keeps {z₀ : State} (s : State) (k : Nat) (h_s : State.Keeps z₀ s) :
    State.Keeps z₀ (Frame.meters s k) := by
  unfold Frame.meters
  repeat' first
    | with_reducible assumption | (intro)
    | (extract_lets +onlyGivenNames x; refine State.Keeps.cut (p := State.Keeps z₀ x) ?_ ?_;
        (focus (intro hx; clear_value x)); rotate_left; subst x)
    | (extract_lets +onlyGivenNames x; refine State.Keeps.cut (p := State.Keeps z₀ x.1) ?_ ?_;
        (focus (intro hx; clear_value x)); rotate_left; subst x)
    | (extract_lets +onlyGivenNames x; clear_value x) | with_reducible apply State.each_keeps
    | with_reducible apply Meter.take_keeps | split
    | (with_reducible refine State.Keeps.mk_same _ rfl rfl rfl rfl rfl rfl rfl rfl ?_)

theorem Frame.fades_keeps {z₀ : State} (s : State) (gateA : Bool) (h_s : State.Keeps z₀ s) :
    State.Keeps z₀ (Frame.fades s gateA) := by
  unfold Frame.fades
  repeat' first
    | with_reducible assumption | (intro)
    | (extract_lets +onlyGivenNames x; refine State.Keeps.cut (p := State.Keeps z₀ x) ?_ ?_;
        (focus (intro hx; clear_value x)); rotate_left; subst x)
    | (extract_lets +onlyGivenNames x; clear_value x) | with_reducible apply Graph.advance_keeps
    | with_reducible apply Graph.endFades_keeps | with_reducible apply State.Keeps.ite | split
    | (with_reducible refine State.Keeps.mk_same _ rfl rfl rfl rfl rfl rfl rfl rfl ?_)

theorem Frame.overran_keeps {z₀ : State} (s : State) (h_s : State.Keeps z₀ s) :
    State.Keeps z₀ (Frame.overran s) := by
  unfold Frame.overran
  repeat' first
    | with_reducible assumption | (intro)
    | (extract_lets +onlyGivenNames x; refine State.Keeps.cut (p := State.Keeps z₀ x) ?_ ?_;
        (focus (intro hx; clear_value x)); rotate_left; subst x)
    | (extract_lets +onlyGivenNames x; clear_value x)
    | (with_reducible refine State.Keeps.mk_same _ rfl rfl rfl rfl rfl rfl rfl rfl ?_)

theorem Frame.role_keeps {z₀ : State} (s : State) (k : Nat) (late : Bool) (h_s : State.Keeps z₀ s) :
    State.Keeps z₀ (Frame.role s k late) := by
  unfold Frame.role
  repeat' first
    | with_reducible assumption | (intro)
    | (extract_lets +onlyGivenNames x; refine State.Keeps.cut (p := State.Keeps z₀ x) ?_ ?_;
        (focus (intro hx; clear_value x)); rotate_left; subst x)
    | (extract_lets +onlyGivenNames x; refine State.Keeps.cut (p := State.Keeps z₀ x.1) ?_ ?_;
        (focus (intro hx; clear_value x)); rotate_left; subst x)
    | (extract_lets +onlyGivenNames x; clear_value x) | with_reducible apply Twn.tookRole_keeps
    | with_reducible apply Twn.applyRole_keeps | with_reducible apply Twn.resyncBoundary_keeps
    | with_reducible apply State.setFlag_keeps | with_reducible apply State.Keeps.ite
    | with_reducible apply State.Keeps.ite1 | split
    | (with_reducible refine State.Keeps.mk_same _ rfl rfl rfl rfl rfl rfl rfl rfl ?_)

theorem Frame.clear_keeps {z₀ : State} (s : State) (h_s : State.Keeps z₀ s) :
    State.Keeps z₀ (Frame.clear s) := by
  unfold Frame.clear
  repeat' first
    | with_reducible assumption | (intro)
    | (extract_lets +onlyGivenNames x; refine State.Keeps.cut (p := State.Keeps z₀ x) ?_ ?_;
        (focus (intro hx; clear_value x)); rotate_left; subst x)
    | (extract_lets +onlyGivenNames x; refine State.Keeps.cut (p := State.Keeps z₀ x.1) ?_ ?_;
        (focus (intro hx; clear_value x)); rotate_left; subst x)
    | (extract_lets +onlyGivenNames x) | (with_reducible refine State.Keeps.mk_same _ rfl rfl rfl rfl rfl rfl rfl rfl ?_)

theorem Frame.gateA_keeps {z₀ : State} (base : Nat) (s : State) (h_s : State.Keeps z₀ s) :
    State.Keeps z₀ (Frame.gateA base s) := by
  unfold Frame.gateA
  repeat' first
    | with_reducible assumption | (intro)
    | (extract_lets +onlyGivenNames x; refine State.Keeps.cut (p := State.Keeps z₀ x) ?_ ?_;
        (focus (intro hx; clear_value x)); rotate_left; subst x)
    | (extract_lets +onlyGivenNames x; clear_value x) | with_reducible apply Graph.gateA_keeps
    | with_reducible apply State.setFld_keeps | with_reducible apply State.Keeps.ite | split

theorem Frame.mirRead_keeps {z₀ : State} (s : State) (f : Nat) (h_s : State.Keeps z₀ s) :
    State.Keeps z₀ (Frame.mirRead s f) := by
  unfold Frame.mirRead
  repeat' first
    | with_reducible assumption | (intro) | with_reducible apply Mir.copy_keeps | with_reducible apply State.Keeps.ite
    | with_reducible apply State.Keeps.ite1 | split

theorem Frame.ends_keeps {z₀ : State} (s : State) (k f : Nat) (was : Bool) (h_s : State.Keeps z₀ s) :
    State.Keeps z₀ (Frame.ends s k f was) := by
  unfold Frame.ends
  repeat' first
    | with_reducible assumption | (intro)
    | (extract_lets +onlyGivenNames x; refine State.Keeps.cut (p := State.Keeps z₀ x) ?_ ?_;
        (focus (intro hx; clear_value x)); rotate_left; subst x)
    | (extract_lets +onlyGivenNames x; clear_value x) | with_reducible apply Frame.overran_keeps
    | with_reducible apply Frame.meters_keeps | with_reducible apply Twn.refreshRows_keeps
    | with_reducible apply Frame.mirRead_keeps | with_reducible apply Twn.installRefresh_keeps
    | with_reducible apply Mir.install_keeps | with_reducible apply Graph.readBuses_keeps
    | with_reducible apply Frame.fades_keeps | with_reducible apply Twn.installNotes_keeps
    | with_reducible apply State.Keeps.ite | split
    | (with_reducible refine State.Keeps.mk_same _ rfl rfl rfl rfl rfl rfl rfl rfl ?_)

theorem Frame.format_keeps {z₀ : State} (old : State) (k : Nat) (s : State) (h_old : State.Keeps z₀ old) (h_s : State.Keeps z₀
    s) :
    State.Keeps z₀ (Frame.format old k s) := by
  unfold Frame.format
  repeat' first
    | with_reducible assumption | (intro)
    | (extract_lets +onlyGivenNames x; refine State.Keeps.cut (p := State.Keeps z₀ x) ?_ ?_;
        (focus (intro hx; clear_value x)); rotate_left; subst x)
    | (extract_lets +onlyGivenNames x; clear_value x) | with_reducible apply State.Keeps.ite | split
    | (with_reducible refine State.Keeps.mk_same _ rfl rfl rfl rfl rfl rfl rfl rfl ?_)

theorem Frame.live_keeps {z₀ : State} (was s : State) (k : Nat) (h_was : State.Keeps z₀ was) (h_s : State.Keeps z₀ s) :
    State.Keeps z₀ (Frame.live was s k) := by
  unfold Frame.live
  repeat' first
    | with_reducible assumption | (intro)
    | (extract_lets +onlyGivenNames x; refine State.Keeps.cut (p := State.Keeps z₀ x) ?_ ?_;
        (focus (intro hx; clear_value x)); rotate_left; subst x)
    | (extract_lets +onlyGivenNames x; refine State.Keeps.cut (p := State.Keeps z₀ x.1) ?_ ?_;
        (focus (intro hx; clear_value x)); rotate_left; subst x)
    | (extract_lets +onlyGivenNames x; clear_value x) | with_reducible apply Graph.outletPass_keeps
    | with_reducible apply Frame.format_keeps | with_reducible apply Swap.live_keeps | with_reducible apply Buf.test_keeps
    | with_reducible apply Live.blocks_keeps | with_reducible apply Save.show_keeps
    | with_reducible apply Save.index_keeps | with_reducible apply Rcd.boot_keeps | with_reducible apply Swap.done_keeps
    | with_reducible apply Commit.shown_keeps | with_reducible apply Rcd.between_keeps
    | with_reducible apply Swap.outlet_keeps | with_reducible apply Commit.live_keeps
    | with_reducible apply Rcd.changed_keeps | with_reducible apply Save.settle_keeps
    | with_reducible apply State.setReg64_keeps | with_reducible apply State.Keeps.ite | split
    | (with_reducible refine State.Keeps.mk_same _ rfl rfl rfl rfl rfl rfl rfl rfl ?_)

theorem Frame.begins_keeps {z₀ : State} (s : State) (base k : Nat) (outlet : Bool) (old : State) (h_s : State.Keeps z₀ s) (h_old
    : State.Keeps z₀ old) :
    State.Keeps z₀ (Frame.begins s base k outlet old) := by
  unfold Frame.begins
  repeat' first
    | with_reducible assumption | (intro)
    | (extract_lets +onlyGivenNames x; refine State.Keeps.cut (p := State.Keeps z₀ x) ?_ ?_;
        (focus (intro hx; clear_value x)); rotate_left; subst x)
    | (extract_lets +onlyGivenNames x; clear_value x) | with_reducible apply Frame.gateA_keeps
    | with_reducible apply Graph.busImage_keeps | with_reducible apply Graph.clearHolds_keeps
    | with_reducible apply Frame.clear_keeps | with_reducible apply Graph.outletPass_keeps
    | with_reducible apply Nsw.txBoundary_keeps | with_reducible apply Drv.sense_keeps
    | with_reducible apply Graph.showFades_keeps | with_reducible apply Port.boundary_keeps
    | with_reducible apply Twn.sendNotes_keeps | with_reducible apply Twn.sendDrive_keeps
    | with_reducible apply Twn.digestBoundary_keeps | with_reducible apply Twn.forward_keeps
    | with_reducible apply State.Keeps.ite | split

theorem Frame.strike_keeps {z₀ : State} (s0 : State) (k : Nat) (h_s0 : State.Keeps z₀ s0) :
    State.Keeps z₀ (Frame.strike s0 k) := by
  unfold Frame.strike
  repeat' first
    | with_reducible assumption | (intro)
    | (extract_lets +onlyGivenNames x; refine State.Keeps.cut (p := State.Keeps z₀ x) ?_ ?_;
        (focus (intro hx; clear_value x)); rotate_left; subst x)
    | (extract_lets +onlyGivenNames x; clear_value x) | with_reducible apply Fc.drain_keeps
    | with_reducible apply Frame.live_keeps | with_reducible apply Frame.ends_keeps
    | with_reducible apply Sfb.realign_keeps | with_reducible apply Tkp.setRun_keeps
    | with_reducible apply Tkp.marked_keeps | with_reducible apply Frame.role_keeps
    | with_reducible apply Frame.begins_keeps | with_reducible apply State.when_keeps
    | with_reducible apply State.Keeps.ite | split

theorem execFrameBoundary_keeps {z₀ : State} (k : Nat) (s : State) (h_s : State.Keeps z₀ s) :
    State.Leads z₀ (execFrameBoundary k s) := by
  unfold execFrameBoundary
  repeat' first
    | with_reducible assumption | with_reducible apply State.Leads.next | with_reducible apply State.Leads.ite | (intro)
    | with_reducible apply Tkp.restepped_keeps | with_reducible apply Frame.strike_keeps
    | with_reducible apply State.Keeps.ite | split

theorem execIdleMark_keeps {z₀ : State} (m : Nat) (s : State) (h_s : State.Keeps z₀ s) :
    State.Leads z₀ (execIdleMark m s) := by
  unfold execIdleMark
  repeat' first
    | with_reducible assumption | with_reducible apply State.Leads.next | with_reducible apply State.Leads.ite | (intro)
    | (extract_lets +onlyGivenNames x; refine State.Keeps.cut (p := State.Keeps z₀ x) ?_ ?_;
        (focus (intro hx; clear_value x)); rotate_left; subst x)
    | (extract_lets +onlyGivenNames x; refine State.Keeps.cut (p := State.Keeps z₀ x.1) ?_ ?_;
        (focus (intro hx; clear_value x)); rotate_left; subst x)
    | (extract_lets +onlyGivenNames x; clear_value x) | with_reducible apply Tkp.marked_keeps
    | with_reducible apply Tkp.restepped_keeps | with_reducible apply Frame.strike_keeps
    | with_reducible apply State.Keeps.ite | split
    | (with_reducible refine State.Keeps.mk_same _ rfl rfl rfl rfl rfl rfl rfl rfl ?_)

theorem execComputeWindowOpen_keeps {z₀ : State} (s : State) (h_s : State.Keeps z₀ s) :
    State.Leads z₀ (execComputeWindowOpen s) := by
  unfold execComputeWindowOpen
  repeat' first
    | with_reducible assumption | with_reducible apply State.Leads.next | with_reducible apply State.Leads.ite | (intro)
    | (extract_lets +onlyGivenNames x; refine State.Keeps.cut (p := State.Keeps z₀ x) ?_ ?_;
        (focus (intro hx; clear_value x)); rotate_left; subst x)
    | (extract_lets +onlyGivenNames x; refine State.Keeps.cut (p := State.Keeps z₀ x.1) ?_ ?_;
        (focus (intro hx; clear_value x)); rotate_left; subst x)
    | (extract_lets +onlyGivenNames x) | with_reducible apply State.each_keeps | with_reducible apply State.setStall_keeps
    | with_reducible apply State.Keeps.ite | with_reducible apply State.Keeps.ite1 | split
    | (with_reducible refine State.Keeps.mk_same _ rfl rfl rfl rfl rfl rfl rfl rfl ?_)

theorem execStateCut_keeps {z₀ : State} (s : State) (h_s : State.Keeps z₀ s) :
    State.Leads z₀ (execStateCut s) := by
  unfold execStateCut
  repeat' first
    | with_reducible assumption | with_reducible apply State.Leads.next | with_reducible apply State.Leads.ite | (intro)
    | (extract_lets +onlyGivenNames x; refine State.Keeps.cut (p := State.Keeps z₀ x) ?_ ?_;
        (focus (intro hx; clear_value x)); rotate_left; subst x)
    | (extract_lets +onlyGivenNames x; refine State.Keeps.cut (p := State.Keeps z₀ x.1) ?_ ?_;
        (focus (intro hx; clear_value x)); rotate_left; subst x)
    | (extract_lets +onlyGivenNames x) | with_reducible apply Mir.copy_keeps | with_reducible apply State.Keeps.ite
    | with_reducible apply State.Keeps.ite1 | split
    | (with_reducible refine State.Keeps.mk_same _ rfl rfl rfl rfl rfl rfl rfl rfl ?_)

theorem Stl.overrun_keeps {z₀ : State} (s : State) (i : Nat) (h_s : State.Keeps z₀ s) :
    State.Keeps z₀ (Stl.overrun s i) := by
  unfold Stl.overrun
  repeat' first
    | with_reducible assumption
    | (extract_lets +onlyGivenNames x; refine State.Keeps.cut (p := State.Keeps z₀ x) ?_ ?_;
        (focus (intro hx; clear_value x)); rotate_left; subst x)
    | (extract_lets +onlyGivenNames x; clear_value x) | with_reducible apply Stl.span_keeps
    | with_reducible apply State.setStall_keeps | with_reducible apply State.setFlag_keeps
    | with_reducible apply State.setVecBit_keeps | with_reducible apply State.incCnt_keeps | split
    | (with_reducible refine State.Keeps.mk_same _ rfl rfl rfl rfl rfl rfl rfl rfl ?_)

theorem Barn.overrun_keeps {z₀ : State} (s : State) (b : Nat) (h_s : State.Keeps z₀ s) :
    State.Keeps z₀ (Barn.overrun s b) := by
  unfold Barn.overrun
  repeat' first
    | with_reducible assumption | with_reducible apply State.fire_keeps | with_reducible apply State.faultEvent_keeps

theorem Stl.overruns_keeps {z₀ : State} (s : State) (bad : List Nat) (h_s : State.Keeps z₀ s) :
    State.Keeps z₀ (Stl.overruns s bad) := by
  unfold Stl.overruns
  repeat' first
    | with_reducible assumption | (intro) | with_reducible apply State.each_keeps | with_reducible apply Stl.overrun_keeps
    | with_reducible apply Barn.overrun_keeps

theorem Twn.localTaken_keeps {z₀ : State} (s : State) (h_s : State.Keeps z₀ s) :
    State.Keeps z₀ (Twn.localTaken s) := by
  unfold Twn.localTaken
  repeat' first
    | with_reducible assumption | (intro)
    | (extract_lets +onlyGivenNames x; refine State.Keeps.cut (p := State.Keeps z₀ x) ?_ ?_;
        (focus (intro hx; clear_value x)); rotate_left; subst x)
    | (extract_lets +onlyGivenNames x; refine State.Keeps.cut (p := State.Keeps z₀ x.1) ?_ ?_;
        (focus (intro hx; clear_value x)); rotate_left; subst x)
    | (extract_lets +onlyGivenNames x; clear_value x) | with_reducible apply Tth.send_keeps
    | with_reducible apply State.send_keeps | with_reducible apply Twn.setRole_keeps
    | with_reducible apply State.Keeps.ite | split
    | (with_reducible refine State.Keeps.mk_same _ rfl rfl rfl rfl rfl rfl rfl rfl ?_)

theorem Twn.sendTake_keeps {z₀ : State} (s : State) (swap : Bool) (h_s : State.Keeps z₀ s) :
    State.Keeps z₀ (Twn.sendTake s swap) := by
  unfold Twn.sendTake
  repeat' first
    | with_reducible assumption | (intro)
    | (extract_lets +onlyGivenNames x; refine State.Keeps.cut (p := State.Keeps z₀ x) ?_ ?_;
        (focus (intro hx; clear_value x)); rotate_left; subst x)
    | (extract_lets +onlyGivenNames x; refine State.Keeps.cut (p := State.Keeps z₀ x.1) ?_ ?_;
        (focus (intro hx; clear_value x)); rotate_left; subst x)
    | (extract_lets +onlyGivenNames x; clear_value x) | with_reducible apply Tth.send_keeps
    | with_reducible apply State.send_keeps | with_reducible apply State.Keeps.ite | split
    | (with_reducible refine State.Keeps.mk_same _ rfl rfl rfl rfl rfl rfl rfl rfl ?_)

theorem Frame.take_keeps {z₀ : State} (s : State) (peerOk : Bool) (h_s : State.Keeps z₀ s) :
    State.Keeps z₀ (Frame.take s peerOk) := by
  unfold Frame.take
  repeat' first
    | with_reducible assumption | (intro)
    | (extract_lets +onlyGivenNames x; refine State.Keeps.cut (p := State.Keeps z₀ x) ?_ ?_;
        (focus (intro hx; clear_value x)); rotate_left; subst x)
    | (extract_lets +onlyGivenNames x; refine State.Keeps.cut (p := State.Keeps z₀ x.1) ?_ ?_;
        (focus (intro hx; clear_value x)); rotate_left; subst x)
    | (extract_lets +onlyGivenNames x; clear_value x) | with_reducible apply Twn.localTaken_keeps
    | with_reducible apply Twn.sendTake_keeps | with_reducible apply Swap.take_keeps
    | with_reducible apply Commit.take_keeps | with_reducible apply State.Keeps.ite | split
    | (with_reducible refine State.Keeps.mk_same _ rfl rfl rfl rfl rfl rfl rfl rfl ?_)

theorem Twn.closeMirror_keeps {z₀ : State} (s : State) (h_s : State.Keeps z₀ s) :
    State.Keeps z₀ (Twn.closeMirror s) := by
  unfold Twn.closeMirror
  repeat' first
    | with_reducible assumption | (intro)
    | (extract_lets +onlyGivenNames x; refine State.Keeps.cut (p := State.Keeps z₀ x) ?_ ?_;
        (focus (intro hx; clear_value x)); rotate_left; subst x)
    | (extract_lets +onlyGivenNames x; refine State.Keeps.cut (p := State.Keeps z₀ x.1) ?_ ?_;
        (focus (intro hx; clear_value x)); rotate_left; subst x)
    | (extract_lets +onlyGivenNames x; clear_value x) | with_reducible apply Tth.send_keeps
    | with_reducible apply State.send_keeps | with_reducible apply State.incCnt_keeps
    | with_reducible apply State.when_keeps | with_reducible apply State.Keeps.ite | with_reducible apply State.Keeps.ite1
    | split

theorem execBusClose_keeps {z₀ : State} (peerOk : Bool) (s : State) (h_s : State.Keeps z₀ s) :
    State.Leads z₀ (execBusClose peerOk s) := by
  unfold execBusClose
  repeat' first
    | with_reducible assumption | with_reducible apply State.Leads.next | with_reducible apply State.Leads.ite | (intro)
    | (extract_lets +onlyGivenNames x; refine State.Keeps.cut (p := State.Keeps z₀ x) ?_ ?_;
        (focus (intro hx; clear_value x)); rotate_left; subst x)
    | (extract_lets +onlyGivenNames x) | with_reducible apply Stl.overruns_keeps | with_reducible apply Fc.drain_keeps
    | with_reducible apply Stl.countFrame_keeps | with_reducible apply Twn.closeMirror_keeps
    | with_reducible apply Frame.take_keeps | with_reducible apply State.each_keeps | with_reducible apply State.Keeps.ite
    | split | (with_reducible refine State.Keeps.mk_same _ rfl rfl rfl rfl rfl rfl rfl rfl ?_)

theorem execStoresLand_keeps {z₀ : State} (units : Nat) (s : State) (h_s : State.Keeps z₀ s) :
    State.Leads z₀ (execStoresLand units s) := by
  unfold execStoresLand
  repeat' first
    | with_reducible assumption | with_reducible apply State.Leads.next | with_reducible apply State.Leads.ite | (intro)
    | (extract_lets +onlyGivenNames x; refine State.Keeps.cut (p := State.Keeps z₀ x) ?_ ?_;
        (focus (intro hx; clear_value x)); rotate_left; subst x)
    | (extract_lets +onlyGivenNames x; refine State.Keeps.cut (p := State.Keeps z₀ x.1) ?_ ?_;
        (focus (intro hx; clear_value x)); rotate_left; subst x)
    | (extract_lets +onlyGivenNames x) | with_reducible apply Twn.refresh_keeps
    | with_reducible apply Swap.readMigration_keeps | with_reducible apply State.Keeps.ite
    | with_reducible apply State.Keeps.ite1 | split
    | (with_reducible refine State.Keeps.mk_same _ rfl rfl rfl rfl rfl rfl rfl rfl ?_)

theorem execCaptureWindowClose_keeps {z₀ : State} (s : State) (h_s : State.Keeps z₀ s) :
    State.Leads z₀ (execCaptureWindowClose s) := by
  unfold execCaptureWindowClose
  repeat' first
    | with_reducible assumption | with_reducible apply State.Leads.next | with_reducible apply State.Leads.ite | (intro)
    | with_reducible apply Graph.intakePass_keeps | with_reducible apply State.Keeps.ite | split

theorem execStallPageWrite_keeps {z₀ : State} (s : State) (h_s : State.Keeps z₀ s) :
    State.Leads z₀ (execStallPageWrite s) := by
  unfold execStallPageWrite
  repeat' first
    | with_reducible assumption | with_reducible apply State.Leads.next | with_reducible apply State.Leads.ite | (intro)
    | (extract_lets +onlyGivenNames x; refine State.Keeps.cut (p := State.Keeps z₀ x) ?_ ?_;
        (focus (intro hx; clear_value x)); rotate_left; subst x)
    | (extract_lets +onlyGivenNames x; refine State.Keeps.cut (p := State.Keeps z₀ x.1) ?_ ?_;
        (focus (intro hx; clear_value x)); rotate_left; subst x)
    | (extract_lets +onlyGivenNames x; clear_value x) | with_reducible apply State.each_keeps
    | with_reducible apply Mem.write_keeps | split
    | (with_reducible refine State.Keeps.mk_same _ rfl rfl rfl rfl rfl rfl rfl rfl ?_)

end Frame

section Restart

theorem Tkp.start_keeps {z₀ : State} (s : State) (h_s : State.Keeps z₀ s) :
    State.Keeps z₀ (Tkp.start s) := by
  unfold Tkp.start
  repeat' first
    | with_reducible assumption | (intro) | with_reducible apply Tkp.enterWait_keeps
    | with_reducible apply Tkp.enWritten_keeps | with_reducible apply State.each_keeps
    | with_reducible apply State.Keeps.ite | split

theorem Cmd.restart_keeps {z₀ : State} (s : State) (h_s : State.Keeps z₀ s) :
    State.Keeps z₀ (Cmd.restart s) := by
  unfold Cmd.restart
  repeat' first
    | with_reducible assumption | (intro) | with_reducible apply Cmd.abortAll_keeps
    | with_reducible apply State.setFlag_keeps | with_reducible apply State.Keeps.ite | split

theorem Sap.restart_keeps {z₀ : State} (s : State) (h_s : State.Keeps z₀ s) :
    State.Keeps z₀ (Sap.restart s) := by
  unfold Sap.restart
  repeat' first
    | with_reducible assumption | (intro) | with_reducible apply State.each_keeps
    | with_reducible apply Sap.cfgWritten_keeps

theorem Aes.restart_keeps {z₀ : State} (s : State) (h_s : State.Keeps z₀ s) :
    State.Keeps z₀ (Aes.restart s) := by
  unfold Aes.restart
  repeat' first
    | with_reducible assumption | (intro) | with_reducible apply State.each_keeps
    | with_reducible apply Aes.cfgWritten_keeps

theorem Sfb.restartAll_keeps {z₀ : State} (s : State) (h_s : State.Keeps z₀ s) :
    State.Keeps z₀ (Sfb.restartAll s) := by
  unfold Sfb.restartAll
  repeat' first | with_reducible assumption | with_reducible apply Drv.sense_keeps | with_reducible apply Sfb.evalRun_keeps

theorem Drv.restart_keeps {z₀ : State} (s : State) (h_s : State.Keeps z₀ s) :
    State.Keeps z₀ (Drv.restart s) := by
  unfold Drv.restart
  repeat' first
    | with_reducible assumption | (intro) | with_reducible apply Drv.evalRun_keeps | with_reducible apply Drv.sense_keeps
    | with_reducible apply State.Keeps.ite | split

theorem State.restarted_keeps {z₀ : State} (s : State) (t : ResetTarget) (h_s : State.Keeps z₀ s) :
    State.Keeps z₀ (State.restarted s t) := by
  unfold State.restarted
  repeat' first
    | with_reducible assumption | (intro)
    | (extract_lets +onlyGivenNames x; refine State.Keeps.cut (p := State.Keeps z₀ x) ?_ ?_;
        (focus (intro hx; clear_value x)); rotate_left; subst x)
    | (extract_lets +onlyGivenNames x; refine State.Keeps.cut (p := State.Keeps z₀ x.1) ?_ ?_;
        (focus (intro hx; clear_value x)); rotate_left; subst x)
    | (extract_lets +onlyGivenNames x; clear_value x) | with_reducible apply Nsw.restart_keeps
    | with_reducible apply Aes.restart_keeps | with_reducible apply Sap.restart_keeps
    | with_reducible apply Sfb.restartAll_keeps | with_reducible apply Twn.levels_keeps
    | with_reducible apply Cmd.restart_keeps | with_reducible apply State.Keeps.ite | split
    | (with_reducible refine State.Keeps.mk_same _ rfl rfl rfl rfl rfl rfl rfl rfl ?_)

theorem State.leaveReset_keeps {z₀ : State} (s : State) (t : ResetTarget) (h_s : State.Keeps z₀ s) :
    State.Keeps z₀ (State.leaveReset s t) := by
  unfold State.leaveReset
  repeat' first
    | with_reducible assumption | (intro) | with_reducible apply State.restarted_keeps
    | with_reducible apply State.each_keeps | with_reducible apply Clk.reopen_keeps

theorem execResetPulseEnd_keeps {z₀ : State} (n : Nat) (s : State) (h_s : State.Keeps z₀ s) :
    State.Leads z₀ (execResetPulseEnd n s) := by
  unfold execResetPulseEnd
  repeat' first
    | with_reducible assumption | with_reducible apply State.Leads.next | with_reducible apply State.Leads.ite | (intro)
    | (extract_lets +onlyGivenNames x; refine State.Keeps.cut (p := State.Keeps z₀ x) ?_ ?_;
        (focus (intro hx; clear_value x)); rotate_left; subst x)
    | (extract_lets +onlyGivenNames x; refine State.Keeps.cut (p := State.Keeps z₀ x.1) ?_ ?_;
        (focus (intro hx; clear_value x)); rotate_left; subst x)
    | (extract_lets +onlyGivenNames x; clear_value x) | with_reducible apply Fc.drain_keeps
    | with_reducible apply State.leaveReset_keeps | with_reducible apply State.Keeps.ite | split
    | (with_reducible refine State.Keeps.mk_same _ rfl rfl rfl rfl rfl rfl rfl rfl ?_)

theorem State.pulse_keeps {z₀ : State} (s : State) (t : ResetTarget) (h_s : State.Keeps z₀ s) :
    State.Keeps z₀ (State.pulse s t) := by
  unfold State.pulse
  repeat' first
    | with_reducible assumption | with_reducible apply State.enterReset_keeps
    | with_reducible apply State.leaveReset_keeps

theorem Power.block_keeps {z₀ : State} (s : State) (bit : Nat) (h_s : State.Keeps z₀ s) :
    State.Keeps z₀ (Power.block s bit) := by
  unfold Power.block
  repeat' first
    | with_reducible assumption | (intro)
    | (extract_lets +onlyGivenNames x; refine State.Keeps.cut (p := State.Keeps z₀ x) ?_ ?_;
        (focus (intro hx; clear_value x)); rotate_left; subst x)
    | (extract_lets +onlyGivenNames x; refine State.Keeps.cut (p := State.Keeps z₀ x.1) ?_ ?_;
        (focus (intro hx; clear_value x)); rotate_left; subst x)
    | (extract_lets +onlyGivenNames x; clear_value x) | with_reducible apply State.pulse_keeps
    | with_reducible apply Drv.restart_keeps | with_reducible apply Twn.dropNow_keeps
    | with_reducible apply Drv.reset_keeps | with_reducible apply Tkp.start_keeps | with_reducible apply Tkp.reset_keeps
    | with_reducible apply State.Keeps.ite | split
    | (with_reducible refine State.Keeps.mk_same _ rfl rfl rfl rfl rfl rfl rfl rfl ?_)

theorem Bar.pwrBlkrst_keeps {z₀ : State} (v : Word) (s : State) (h_s : State.Keeps z₀ s) :
    State.Keeps z₀ (Bar.pwrBlkrst v s) := by
  unfold Bar.pwrBlkrst
  repeat' first
    | with_reducible assumption | (intro) | with_reducible apply Fc.drain_keeps | with_reducible apply Power.block_keeps
    | with_reducible apply State.each_keeps

theorem execPwrBlkrst_keeps {z₀ : State} (v : Word) (s : State) (h_s : State.Keeps z₀ s) :
    State.Leads z₀ (execPwrBlkrst v s) := by
  unfold execPwrBlkrst
  repeat' first
    | with_reducible assumption | with_reducible apply State.Leads.next | with_reducible apply State.Leads.ite
    | with_reducible apply State.bar_keeps | with_reducible apply Bar.pwrBlkrst_keeps

theorem Warm.graph_keeps {z₀ : State} (s : State) (h_s : State.Keeps z₀ s) :
    State.Keeps z₀ (Warm.graph s) := by
  unfold Warm.graph
  repeat' first
    | with_reducible assumption
    | (extract_lets +onlyGivenNames x; refine State.Keeps.cut (p := State.Keeps z₀ x) ?_ ?_;
        (focus (intro hx; clear_value x)); rotate_left; subst x)
    | (extract_lets +onlyGivenNames x; clear_value x) | with_reducible apply Graph.endFades_keeps
    | with_reducible apply Graph.showFades_keeps | split
    | (with_reducible refine State.Keeps.mk_same _ rfl rfl rfl rfl rfl rfl rfl rfl ?_)

theorem Warm.bale_keeps {z₀ : State} (s0 : State) (h_s0 : State.Keeps z₀ s0) :
    State.Keeps z₀ (Warm.bale s0) := by
  unfold Warm.bale
  repeat' first
    | with_reducible assumption | (intro)
    | (extract_lets +onlyGivenNames x; refine State.Keeps.cut (p := State.Keeps z₀ x) ?_ ?_;
        (focus (intro hx; clear_value x)); rotate_left; subst x)
    | (extract_lets +onlyGivenNames x) | with_reducible apply Bale.setMark_keeps | with_reducible apply State.setFlag_keeps
    | with_reducible apply Dir.restore_keeps | with_reducible apply Dir.noteRead_keeps | split
    | (with_reducible refine State.Keeps.mk_same _ rfl rfl rfl rfl rfl rfl rfl rfl ?_)

theorem Warm.enter_keeps {z₀ : State} (s0 : State) (cause : Nat) (h_s0 : State.Keeps z₀ s0) :
    State.Keeps z₀ (Warm.enter s0 cause) := by
  unfold Warm.enter
  repeat' first
    | with_reducible assumption | (intro)
    | (extract_lets +onlyGivenNames x; refine State.Keeps.cut (p := State.Keeps z₀ x) ?_ ?_;
        (focus (intro hx; clear_value x)); rotate_left; subst x)
    | (extract_lets +onlyGivenNames x; refine State.Keeps.cut (p := State.Keeps z₀ x.1) ?_ ?_;
        (focus (intro hx; clear_value x)); rotate_left; subst x)
    | (extract_lets +onlyGivenNames x; clear_value x) | with_reducible apply Fc.drain_keeps
    | with_reducible apply Warm.bale_keeps | with_reducible apply Warm.graph_keeps | with_reducible apply State.each_keeps
    | with_reducible apply Barn.reset_keeps | with_reducible apply Twn.reset_keeps | with_reducible apply Aes.reset_keeps
    | with_reducible apply Sap.reset_keeps | with_reducible apply Nsw.reset_keeps | with_reducible apply Drv.reset_keeps
    | with_reducible apply Sfb.reset_keeps | with_reducible apply Tkp.reset_keeps | with_reducible apply Rcd.reset_keeps
    | with_reducible apply Cmd.reset_keeps | with_reducible apply State.resetRegs_keeps
    | with_reducible apply Clk.shut_keeps | with_reducible apply State.setFld_keeps | with_reducible apply State.Keeps.ite
    | with_reducible apply State.Keeps.ite1 | split
    | (with_reducible refine State.Keeps.mk_same _ rfl rfl rfl rfl rfl rfl rfl rfl ?_)

theorem Warm.leave_keeps {z₀ : State} (s : State) (h_s : State.Keeps z₀ s) :
    State.Keeps z₀ (Warm.leave s) := by
  unfold Warm.leave
  repeat' first
    | with_reducible assumption | (intro)
    | (extract_lets +onlyGivenNames x; refine State.Keeps.cut (p := State.Keeps z₀ x) ?_ ?_;
        (focus (intro hx; clear_value x)); rotate_left; subst x)
    | (extract_lets +onlyGivenNames x; clear_value x) | with_reducible apply Tkp.start_keeps
    | with_reducible apply Drv.restart_keeps | with_reducible apply State.leaveReset_keeps
    | with_reducible apply State.foldl_keeps | with_reducible apply State.foldl1_keeps | split
    | (with_reducible refine State.Keeps.mk_same _ rfl rfl rfl rfl rfl rfl rfl rfl ?_)

theorem execWarmN_keeps {z₀ : State} (low : Bool) (s : State) (h_s : State.Keeps z₀ s) :
    State.Leads z₀ (execWarmN low s) := by
  unfold execWarmN
  repeat' first
    | with_reducible assumption | with_reducible apply State.Leads.next | with_reducible apply State.Leads.ite | (intro)
    | with_reducible apply Warm.enter_keeps | with_reducible apply Warm.leave_keeps | with_reducible apply State.Keeps.ite
    | split

theorem Bar.warm_keeps {z₀ : State} (s : State) (h_s : State.Keeps z₀ s) :
    State.Keeps z₀ (Bar.warm s) := by
  unfold Bar.warm
  repeat' first
    | with_reducible assumption | (intro) | with_reducible apply Warm.leave_keeps | with_reducible apply Warm.enter_keeps
    | with_reducible apply State.Keeps.ite | split

theorem execWarm_keeps {z₀ : State} (s : State) (h_s : State.Keeps z₀ s) :
    State.Leads z₀ (execWarm s) := by
  unfold execWarm
  repeat' first
    | with_reducible assumption | with_reducible apply State.Leads.next | with_reducible apply State.Leads.ite
    | with_reducible apply State.bar_keeps | with_reducible apply Bar.warm_keeps

end Restart

section Power

theorem Clk.show_keeps {z₀ : State} (s : State) (h_s : State.Keeps z₀ s) :
    State.Keeps z₀ (Clk.show s) := by
  unfold Clk.show
  repeat' first
    | with_reducible assumption | (intro)
    | (extract_lets +onlyGivenNames x; refine State.Keeps.cut (p := State.Keeps z₀ x) ?_ ?_;
        (focus (intro hx; clear_value x)); rotate_left; subst x)
    | (extract_lets +onlyGivenNames x; clear_value x) | with_reducible apply State.setFld_keeps
    | with_reducible apply State.Keeps.ite | split

theorem Clk.loss_keeps {z₀ : State} (s : State) (f : Fld) (h_s : State.Keeps z₀ s) :
    State.Keeps z₀ (Clk.loss s f) := by
  unfold Clk.loss
  repeat' first | with_reducible assumption | with_reducible apply State.setFire_keeps

theorem Pll.enter_keeps {z₀ : State} (s0 : State) (st : Nat) (h_s0 : State.Keeps z₀ s0) :
    State.Keeps z₀ (Pll.enter s0 st) := by
  unfold Pll.enter
  repeat' first
    | with_reducible assumption | (intro)
    | (extract_lets +onlyGivenNames x; refine State.Keeps.cut (p := State.Keeps z₀ x) ?_ ?_;
        (focus (intro hx; clear_value x)); rotate_left; subst x)
    | (extract_lets +onlyGivenNames x; clear_value x) | with_reducible apply State.setFld_keeps
    | with_reducible apply Twn.qualify_keeps | with_reducible apply Clk.show_keeps | with_reducible apply State.each_keeps
    | with_reducible apply Clk.hold_keeps | with_reducible apply Clk.loss_keeps
    | with_reducible apply State.faultLevel_keeps | with_reducible apply Tkp.start_keeps
    | with_reducible apply State.fire_keeps | with_reducible apply State.Keeps.ite | split

theorem execPllLock_keeps {z₀ : State} (s : State) (h_s : State.Keeps z₀ s) :
    State.Leads z₀ (execPllLock s) := by
  unfold execPllLock
  repeat' first
    | with_reducible assumption | with_reducible apply State.Leads.next | with_reducible apply State.Leads.ite | (intro)
    | with_reducible apply Pll.enter_keeps | with_reducible apply State.Keeps.ite | split

theorem execPllUnlock_keeps {z₀ : State} (s : State) (h_s : State.Keeps z₀ s) :
    State.Leads z₀ (execPllUnlock s) := by
  unfold execPllUnlock
  repeat' first
    | with_reducible assumption | with_reducible apply State.Leads.next | with_reducible apply State.Leads.ite | (intro)
    | with_reducible apply Pll.enter_keeps | with_reducible apply Clk.loss_keeps
    | with_reducible apply State.faultLevel_keeps | with_reducible apply State.Keeps.ite | split

theorem execPllRegain_keeps {z₀ : State} (s : State) (h_s : State.Keeps z₀ s) :
    State.Leads z₀ (execPllRegain s) := by
  unfold execPllRegain
  repeat' first
    | with_reducible assumption | with_reducible apply State.Leads.next | with_reducible apply State.Leads.ite | (intro)
    | with_reducible apply Pll.enter_keeps | with_reducible apply State.Keeps.ite | split

theorem execPllRelock_keeps {z₀ : State} (s : State) (h_s : State.Keeps z₀ s) :
    State.Leads z₀ (execPllRelock s) := by
  unfold execPllRelock
  repeat' first
    | with_reducible assumption | with_reducible apply State.Leads.next | with_reducible apply State.Leads.ite | (intro)
    | with_reducible apply Pll.enter_keeps | with_reducible apply State.Keeps.ite | split

theorem Clk.ethLost_keeps {z₀ : State} (s : State) (h_s : State.Keeps z₀ s) :
    State.Keeps z₀ (Clk.ethLost s) := by
  unfold Clk.ethLost
  repeat' first
    | with_reducible assumption | (intro)
    | (extract_lets +onlyGivenNames x; refine State.Keeps.cut (p := State.Keeps z₀ x) ?_ ?_;
        (focus (intro hx; clear_value x)); rotate_left; subst x)
    | (extract_lets +onlyGivenNames x; clear_value x) | with_reducible apply State.each_keeps
    | with_reducible apply Nsw.link_keeps | with_reducible apply Nsw.setPort_keeps | with_reducible apply Twn.down_keeps
    | with_reducible apply State.Keeps.ite | split
    | (with_reducible refine State.Keeps.mk_same _ rfl rfl rfl rfl rfl rfl rfl rfl ?_)

theorem Clk.lost_keeps {z₀ : State} (s : State) (d : Nat) (h_s : State.Keeps z₀ s) :
    State.Keeps z₀ (Clk.lost s d) := by
  unfold Clk.lost
  repeat' first
    | with_reducible assumption | (intro)
    | (extract_lets +onlyGivenNames x; refine State.Keeps.cut (p := State.Keeps z₀ x) ?_ ?_;
        (focus (intro hx; clear_value x)); rotate_left; subst x)
    | (extract_lets +onlyGivenNames x; refine State.Keeps.cut (p := State.Keeps z₀ x.1) ?_ ?_;
        (focus (intro hx; clear_value x)); rotate_left; subst x)
    | (extract_lets +onlyGivenNames x; clear_value x) | with_reducible apply Clk.loss_keeps
    | with_reducible apply State.setFlag_keeps | with_reducible apply Pll.enter_keeps
    | with_reducible apply Clk.ethLost_keeps | with_reducible apply Clk.show_keeps | with_reducible apply Clk.shut_keeps
    | with_reducible apply Drv.sense_keeps | with_reducible apply Sfb.setClk_keeps
    | with_reducible apply State.faultLevel_keeps | with_reducible apply State.foldl_keeps
    | with_reducible apply State.foldl1_keeps | split
    | (with_reducible refine State.Keeps.mk_same _ rfl rfl rfl rfl rfl rfl rfl rfl ?_)

theorem Clk.back_keeps {z₀ : State} (s : State) (d : Nat) (lost : Bool) (h_s : State.Keeps z₀ s) :
    State.Keeps z₀ (Clk.back s d lost) := by
  unfold Clk.back
  repeat' first
    | with_reducible assumption | (intro)
    | (extract_lets +onlyGivenNames x; refine State.Keeps.cut (p := State.Keeps z₀ x) ?_ ?_;
        (focus (intro hx; clear_value x)); rotate_left; subst x)
    | (extract_lets +onlyGivenNames x; refine State.Keeps.cut (p := State.Keeps z₀ x.1) ?_ ?_;
        (focus (intro hx; clear_value x)); rotate_left; subst x)
    | (extract_lets +onlyGivenNames x; clear_value x) | with_reducible apply State.setFlag_keeps
    | with_reducible apply Pll.enter_keeps | with_reducible apply Clk.show_keeps | with_reducible apply Clk.reopen_keeps
    | with_reducible apply Drv.sense_keeps | with_reducible apply Sfb.setClk_keeps
    | with_reducible apply State.faultLevel_keeps | with_reducible apply State.foldl_keeps
    | with_reducible apply State.foldl1_keeps | with_reducible apply State.Keeps.ite | split
    | (with_reducible refine State.Keeps.mk_same _ rfl rfl rfl rfl rfl rfl rfl rfl ?_)

theorem Clk.setDet_keeps {z₀ : State} (s : State) (d : Nat) (x : ClkDet) (h_s : State.Keeps z₀ s) :
    State.Keeps z₀ (Clk.setDet s d x) := by
  unfold Clk.setDet
  repeat' first
    | with_reducible assumption
    | (extract_lets +onlyGivenNames x; refine State.Keeps.cut (p := State.Keeps z₀ x) ?_ ?_;
        (focus (intro hx; clear_value x)); rotate_left; subst x)
    | (extract_lets +onlyGivenNames x; clear_value x)
    | (with_reducible refine State.Keeps.mk_same _ rfl rfl rfl rfl rfl rfl rfl rfl ?_)

theorem execClockLossWindow_keeps {z₀ : State} (det count : Nat) (s : State) (h_s : State.Keeps z₀ s) :
    State.Leads z₀ (execClockLossWindow det count s) := by
  unfold execClockLossWindow
  repeat' first
    | with_reducible assumption | with_reducible apply State.Leads.next | with_reducible apply State.Leads.ite | (intro)
    | (extract_lets +onlyGivenNames x; refine State.Keeps.cut (p := State.Keeps z₀ x) ?_ ?_;
        (focus (intro hx; clear_value x)); rotate_left; subst x)
    | (extract_lets +onlyGivenNames x; clear_value x) | with_reducible apply Clk.setDet_keeps
    | with_reducible apply Clk.lost_keeps | with_reducible apply Clk.back_keeps | with_reducible apply State.Keeps.ite
    | split | (with_reducible refine State.Keeps.mk_same _ rfl rfl rfl rfl rfl rfl rfl rfl ?_)

theorem execAonReturn_keeps {z₀ : State} (aon : Nat) (strobe : Bool) (s : State) (h_s : State.Keeps z₀ s) :
    State.Leads z₀ (execAonReturn aon strobe s) := by
  unfold execAonReturn
  repeat' first
    | with_reducible assumption | with_reducible apply State.Leads.next | with_reducible apply State.Leads.ite | (intro)
    | with_reducible apply Fc.releaseWaiting_keeps | with_reducible apply Fc.resume_keeps
    | with_reducible apply Clk.setDet_keeps | with_reducible apply State.Keeps.ite | split

theorem Power.note_keeps {z₀ : State} (s : State) (i : Nat) (h_s : State.Keeps z₀ s) :
    State.Keeps z₀ (Power.note s i) := by
  unfold Power.note
  repeat' first
    | with_reducible assumption
    | (extract_lets +onlyGivenNames x; refine State.Keeps.cut (p := State.Keeps z₀ x) ?_ ?_;
        (focus (intro hx; clear_value x)); rotate_left; subst x)
    | (extract_lets +onlyGivenNames x; clear_value x)
    | (with_reducible refine State.Keeps.mk_same _ rfl rfl rfl rfl rfl rfl rfl rfl ?_)

theorem Power.railFault_keeps {z₀ : State} (s : State) (rail : Nat) (bad : Bool) (h_s : State.Keeps z₀ s) :
    State.Keeps z₀ (Power.railFault s rail bad) := by
  unfold Power.railFault
  repeat' first
    | with_reducible assumption
    | (extract_lets +onlyGivenNames x; refine State.Keeps.cut (p := State.Keeps z₀ x) ?_ ?_;
        (focus (intro hx; clear_value x)); rotate_left; subst x)
    | (extract_lets +onlyGivenNames x; refine State.Keeps.cut (p := State.Keeps z₀ x.1) ?_ ?_;
        (focus (intro hx; clear_value x)); rotate_left; subst x)
    | (extract_lets +onlyGivenNames x; clear_value x) | with_reducible apply State.faultLevel_keeps | split
    | (with_reducible refine State.Keeps.mk_same _ rfl rfl rfl rfl rfl rfl rfl rfl ?_)

theorem Power.rail_keeps {z₀ : State} (s : State) (rail : Nat) (good : Bool) (h_s : State.Keeps z₀ s) :
    State.Keeps z₀ (Power.rail s rail good) := by
  unfold Power.rail
  repeat' first
    | with_reducible assumption | (intro)
    | (extract_lets +onlyGivenNames x; refine State.Keeps.cut (p := State.Keeps z₀ x) ?_ ?_;
        (focus (intro hx; clear_value x)); rotate_left; subst x)
    | (extract_lets +onlyGivenNames x; clear_value x) | with_reducible apply State.setFlag_keeps
    | with_reducible apply Power.railFault_keeps | with_reducible apply Power.note_keeps
    | with_reducible apply State.fire_keeps | with_reducible apply State.Keeps.ite | split

theorem execRailMonitorFault_keeps {z₀ : State} (rail : Nat) (s : State) (h_s : State.Keeps z₀ s) :
    State.Leads z₀ (execRailMonitorFault rail s) := by
  unfold execRailMonitorFault
  repeat' first
    | with_reducible assumption | with_reducible apply State.Leads.next | with_reducible apply State.Leads.ite | (intro)
    | with_reducible apply Power.rail_keeps | with_reducible apply State.Keeps.ite | split

theorem execRailMonitorGood_keeps {z₀ : State} (rail : Nat) (s : State) (h_s : State.Keeps z₀ s) :
    State.Leads z₀ (execRailMonitorGood rail s) := by
  unfold execRailMonitorGood
  repeat' first
    | with_reducible assumption | with_reducible apply State.Leads.next | with_reducible apply State.Leads.ite | (intro)
    | with_reducible apply Power.rail_keeps | with_reducible apply State.Keeps.ite | split

theorem Power.heat_keeps {z₀ : State} (first : Bool) (src e : Nat) (f : Fld) (limit : Nat) (s : State) (h_s : State.Keeps z₀ s) :
    State.Keeps z₀ (Power.heat first src e f limit s) := by
  unfold Power.heat
  repeat' first
    | with_reducible assumption | (intro)
    | (extract_lets +onlyGivenNames x; refine State.Keeps.cut (p := State.Keeps z₀ x) ?_ ?_;
        (focus (intro hx; clear_value x)); rotate_left; subst x)
    | (extract_lets +onlyGivenNames x; clear_value x) | with_reducible apply State.setFlag_keeps
    | with_reducible apply State.fire_keeps | with_reducible apply State.faultLevel_keeps
    | with_reducible apply State.Keeps.ite | split

theorem Power.thermal_keeps {z₀ : State} (first : Bool) (s : State) (h_s : State.Keeps z₀ s) :
    State.Keeps z₀ (Power.thermal first s) := by
  unfold Power.thermal
  repeat' first | with_reducible assumption | with_reducible apply Power.heat_keeps

theorem execTemperatureChange_keeps {z₀ : State} (tj : Int) (s : State) (h_s : State.Keeps z₀ s) :
    State.Leads z₀ (execTemperatureChange tj s) := by
  unfold execTemperatureChange
  repeat' first
    | with_reducible assumption | with_reducible apply State.Leads.next | with_reducible apply State.Leads.ite | (intro)
    | with_reducible apply Power.thermal_keeps | with_reducible apply Power.note_keeps
    | with_reducible apply State.setFld_keeps | with_reducible apply State.Keeps.ite | split

theorem execVinMonArmed_keeps {z₀ : State} (s : State) (h_s : State.Keeps z₀ s) :
    State.Leads z₀ (execVinMonArmed s) := by
  unfold execVinMonArmed
  repeat' first
    | with_reducible assumption | with_reducible apply State.Leads.next | with_reducible apply State.Leads.ite | (intro)
    | with_reducible apply State.setFlag_keeps | with_reducible apply State.Keeps.ite | split

theorem Save.mark_keeps {z₀ : State} (s : State) (h_s : State.Keeps z₀ s) :
    State.Keeps z₀ (Save.mark s) :=
  Saddle.put_keeps _ _ _ (State.Keeps.drawn s 4 rfl rfl rfl rfl rfl rfl rfl rfl h_s)

theorem Power.saveWarn_keeps {z₀ : State} (s : State) (h_s : State.Keeps z₀ s) :
    State.Keeps z₀ (Power.saveWarn s) := by
  unfold Power.saveWarn
  repeat' first
    | with_reducible assumption
    | (extract_lets +onlyGivenNames x; refine State.Keeps.cut (p := State.Keeps z₀ x) ?_ ?_;
        (focus (intro hx; clear_value x)); rotate_left; subst x)
    | (extract_lets +onlyGivenNames x; clear_value x) | with_reducible apply Save.mark_keeps
    | with_reducible apply State.setFlag_keeps | with_reducible apply Bale.setMark_keeps
    | with_reducible apply Twn.request_keeps | with_reducible apply Drv.saveWarn_keeps
    | with_reducible apply State.fire_keeps | split
    | (with_reducible refine State.Keeps.mk_same _ rfl rfl rfl rfl rfl rfl rfl rfl ?_)

theorem execSaveWarn_keeps {z₀ : State} (s : State) (h_s : State.Keeps z₀ s) :
    State.Leads z₀ (execSaveWarn s) := by
  unfold execSaveWarn
  repeat' first
    | with_reducible assumption | with_reducible apply State.Leads.next | with_reducible apply State.Leads.ite | (intro)
    | with_reducible apply Power.saveWarn_keeps | with_reducible apply State.Keeps.ite | split

theorem execSaveImageComplete_keeps {z₀ : State} (us : Nat) (s : State) (h_s : State.Keeps z₀ s) :
    State.Leads z₀ (execSaveImageComplete us s) := by
  unfold execSaveImageComplete
  repeat' first
    | with_reducible assumption | with_reducible apply State.Leads.next | with_reducible apply State.Leads.ite
    | (extract_lets +onlyGivenNames x; refine State.Keeps.cut (p := State.Keeps z₀ x) ?_ ?_;
        (focus (intro hx; clear_value x)); rotate_left; subst x)
    | (extract_lets +onlyGivenNames x; refine State.Keeps.cut (p := State.Keeps z₀ x.1) ?_ ?_;
        (focus (intro hx; clear_value x)); rotate_left; subst x)
    | (extract_lets +onlyGivenNames x; clear_value x) | with_reducible apply State.incWrap_keeps
    | with_reducible apply Saddle.put_keeps | with_reducible apply State.setFld_keeps | split
    | (with_reducible refine State.Keeps.mk_same _ rfl rfl rfl rfl rfl rfl rfl rfl ?_)

theorem Power.porst_keeps {z₀ : State} (s : State) (dark : Bool) (h_s : State.Keeps z₀ s) :
    State.Keeps z₀ (Power.porst s dark) := by
  unfold Power.porst
  extract_lets t u r r0 r1
  have ht : State.Keeps z₀ t := State.Keeps.ite (fun _ => State.send_keeps _ h_s) (fun _ => h_s)
  have hu : State.Keeps z₀ u := State.Keeps.ite (fun _ => State.send_keeps _ ht) (fun _ => ht)
  have hr : State.Keeps z₀ r := by
    refine ⟨h_s.variant, h_s.pending, hu.out, h_s.free, fun w => ?_⟩
    have hw := h_s.wf w
    simp only [State.wf, Memory.wf, Bool.and_eq_true] at hw ⊢
    refine ⟨⟨⟨rfl, rfl⟩, ?_⟩, ?_⟩
    · show Sparse.wf (fun _ => 0) (if dark = true then _ else _) = true
      split
      · exact Sparse.wf_filter _ _ _ hw.1.2
      · exact hw.1.2
    · show Sparse.wf (fun _ => 0) (if dark = true then _ else _) = true
      split
      · exact Sparse.wf_filter _ _ _ hw.2
      · exact hw.2
  clear_value r
  exact State.setFlag_keeps _ _ _ (State.setFlag_keeps _ _ _ (State.setReg_keeps _ _ (State.setFld_keeps _ _ _
      (State.setFld_keeps _ _ _ hr))))

theorem Power.showSlot_keeps {z₀ : State} (s : State) (i : Nat) (h_s : State.Keeps z₀ s) :
    State.Keeps z₀ (Power.showSlot s i) := by
  unfold Power.showSlot
  repeat' first
    | with_reducible assumption | (intro)
    | (extract_lets +onlyGivenNames x; refine State.Keeps.cut (p := State.Keeps z₀ x) ?_ ?_;
        (focus (intro hx; clear_value x)); rotate_left; subst x)
    | (extract_lets +onlyGivenNames x; clear_value x) | with_reducible apply Bale.show_keeps
    | with_reducible apply Bale.verified_keeps | with_reducible apply State.Keeps.ite | split

theorem Power.release_keeps {z₀ : State} (s : State) (sel : Nat) (senior : Bool) (h_s : State.Keeps z₀ s) :
    State.Keeps z₀ (Power.release s sel senior) := by
  unfold Power.release
  repeat' first
    | with_reducible assumption | (intro)
    | (extract_lets +onlyGivenNames x; refine State.Keeps.cut (p := State.Keeps z₀ x) ?_ ?_;
        (focus (intro hx; clear_value x)); rotate_left; subst x)
    | (extract_lets +onlyGivenNames x; clear_value x) | with_reducible apply State.setFld_keeps
    | with_reducible apply Twn.qualify_keeps | with_reducible apply Power.showSlot_keeps
    | with_reducible apply Dir.restore_keeps | with_reducible apply Dir.noteRead_keeps
    | with_reducible apply Rcd.show_keeps | with_reducible apply Pll.enter_keeps
    | with_reducible apply State.setFlag_keeps | with_reducible apply State.foldl_keeps
    | with_reducible apply State.foldl1_keeps | with_reducible apply State.Keeps.ite | split
    | (with_reducible refine State.Keeps.mk_same _ rfl rfl rfl rfl rfl rfl rfl rfl ?_)

theorem execPorstN_keeps {z₀ : State} (low : Bool) (sel : Nat) (senior : Bool) (s : State) (h_s : State.Keeps z₀ s) :
    State.Leads z₀ (execPorstN low sel senior s) := by
  unfold execPorstN
  repeat' first
    | with_reducible assumption | with_reducible apply State.Leads.next | with_reducible apply State.Leads.ite | (intro)
    | (extract_lets +onlyGivenNames x; refine State.Keeps.cut (p := State.Keeps z₀ x) ?_ ?_;
        (focus (intro hx; clear_value x)); rotate_left; subst x)
    | (extract_lets +onlyGivenNames x; clear_value x) | with_reducible apply Power.porst_keeps
    | with_reducible apply Power.release_keeps | with_reducible apply State.Keeps.ite | split
    | (with_reducible refine State.Keeps.mk_same _ rfl rfl rfl rfl rfl rfl rfl rfl ?_)

theorem execPowerOnReset_keeps {z₀ : State} (on : Bool) (sel : Nat) (senior : Bool) (s : State) (h_s : State.Keeps z₀ s) :
    State.Leads z₀ (execPowerOnReset on sel senior s) := by
  unfold execPowerOnReset
  repeat' first
    | with_reducible assumption | with_reducible apply State.Leads.next | with_reducible apply State.Leads.ite | (intro)
    | (extract_lets +onlyGivenNames x; refine State.Keeps.cut (p := State.Keeps z₀ x) ?_ ?_;
        (focus (intro hx; clear_value x)); rotate_left; subst x)
    | (extract_lets +onlyGivenNames x; clear_value x) | with_reducible apply Power.porst_keeps
    | with_reducible apply Power.release_keeps | with_reducible apply State.Keeps.ite | split
    | (with_reducible refine State.Keeps.mk_same _ rfl rfl rfl rfl rfl rfl rfl rfl ?_)

theorem execPowerRestart_keeps {z₀ : State} (sel : Nat) (senior : Bool) (s : State) (h_s : State.Keeps z₀ s) :
    State.Leads z₀ (execPowerRestart sel senior s) := by
  unfold execPowerRestart
  repeat' first
    | with_reducible assumption | with_reducible apply State.Leads.next | with_reducible apply State.Leads.ite | (intro)
    | (extract_lets +onlyGivenNames x; refine State.Keeps.cut (p := State.Keeps z₀ x) ?_ ?_;
        (focus (intro hx; clear_value x)); rotate_left; subst x)
    | (extract_lets +onlyGivenNames x; clear_value x) | with_reducible apply Power.release_keeps
    | with_reducible apply Power.porst_keeps | with_reducible apply State.Keeps.ite | split
    | (with_reducible refine State.Keeps.mk_same _ rfl rfl rfl rfl rfl rfl rfl rfl ?_)

end Power

section Mtx

theorem Mtx.switchTo_keeps {z₀ : State} (s : State) (fb fault : Bool) (h_s : State.Keeps z₀ s) :
    State.Keeps z₀ (Mtx.switchTo s fb fault) := by
  unfold Mtx.switchTo
  repeat' first
    | with_reducible assumption | (intro) | with_reducible apply State.setFlag_keeps
    | with_reducible apply State.incCnt_keeps | with_reducible apply State.fire_keeps
    | with_reducible apply State.Keeps.ite | split

theorem Mtx.plan_keeps {z₀ : State} (s : State) (fb : Bool) (h_s : State.Keeps z₀ s) :
    State.Keeps z₀ (Mtx.plan s fb) := by
  unfold Mtx.plan
  repeat' first
    | with_reducible assumption
    | (extract_lets +onlyGivenNames x; refine State.Keeps.cut (p := State.Keeps z₀ x) ?_ ?_;
        (focus (intro hx; clear_value x)); rotate_left; subst x)
    | (extract_lets +onlyGivenNames x; clear_value x) | with_reducible apply State.setFlag_keeps
    | (with_reducible refine State.Keeps.mk_same _ rfl rfl rfl rfl rfl rfl rfl rfl ?_)

theorem Mtx.unplan_keeps {z₀ : State} (s : State) (h_s : State.Keeps z₀ s) :
    State.Keeps z₀ (Mtx.unplan s) := by
  unfold Mtx.unplan
  repeat' first
    | with_reducible assumption
    | (extract_lets +onlyGivenNames x; refine State.Keeps.cut (p := State.Keeps z₀ x) ?_ ?_;
        (focus (intro hx; clear_value x)); rotate_left; subst x)
    | (extract_lets +onlyGivenNames x; clear_value x) | with_reducible apply State.setFlag_keeps
    | (with_reducible refine State.Keeps.mk_same _ rfl rfl rfl rfl rfl rfl rfl rfl ?_)

theorem Mtx.checkFail_keeps {z₀ : State} (s : State) (h_s : State.Keeps z₀ s) :
    State.Keeps z₀ (Mtx.checkFail s) := by
  unfold Mtx.checkFail
  repeat' first
    | with_reducible assumption | (intro) | with_reducible apply State.faultEvent_keeps
    | with_reducible apply State.Keeps.ite | split

theorem Bar.reqFb_keeps {z₀ : State} (s : State) (h_s : State.Keeps z₀ s) :
    State.Keeps z₀ (Bar.reqFb s) := by
  unfold Bar.reqFb
  repeat' first
    | with_reducible assumption | (intro) | with_reducible apply Mtx.plan_keeps | with_reducible apply State.Keeps.ite
    | split

theorem execReqFb_keeps {z₀ : State} (s : State) (h_s : State.Keeps z₀ s) :
    State.Leads z₀ (execReqFb s) := by
  unfold execReqFb
  repeat' first
    | with_reducible assumption | with_reducible apply State.Leads.next | with_reducible apply State.Leads.ite
    | with_reducible apply State.bar_keeps | with_reducible apply Bar.reqFb_keeps

theorem Bar.reqFast_keeps {z₀ : State} (withFb : Bool) (s : State) (h_s : State.Keeps z₀ s) :
    State.Keeps z₀ (Bar.reqFast withFb s) := by
  unfold Bar.reqFast
  repeat' first
    | with_reducible assumption | (intro)
    | (extract_lets +onlyGivenNames x; refine State.Keeps.cut (p := State.Keeps z₀ x) ?_ ?_;
        (focus (intro hx; clear_value x)); rotate_left; subst x)
    | (extract_lets +onlyGivenNames x; clear_value x) | with_reducible apply State.setFlag_keeps
    | with_reducible apply Mtx.plan_keeps | with_reducible apply State.Keeps.ite | split

theorem execReqFast_keeps {z₀ : State} (withFb : Bool) (s : State) (h_s : State.Keeps z₀ s) :
    State.Leads z₀ (execReqFast withFb s) := by
  unfold execReqFast
  repeat' first
    | with_reducible assumption | with_reducible apply State.Leads.next | with_reducible apply State.Leads.ite
    | (extract_lets +onlyGivenNames x; refine State.Keeps.cut (p := State.Keeps z₀ x) ?_ ?_;
        (focus (intro hx; clear_value x)); rotate_left; subst x)
    | (extract_lets +onlyGivenNames x; clear_value x) | with_reducible apply State.bar_keeps
    | with_reducible apply Bar.reqFast_keeps

theorem Bar.retest_keeps {z₀ : State} (s : State) (h_s : State.Keeps z₀ s) :
    State.Keeps z₀ (Bar.retest s) := by
  unfold Bar.retest
  repeat' first
    | with_reducible assumption | (intro) | with_reducible apply State.setFld_keeps | with_reducible apply State.Keeps.ite
    | split

theorem execRetest_keeps {z₀ : State} (s : State) (h_s : State.Keeps z₀ s) :
    State.Leads z₀ (execRetest s) := by
  unfold execRetest
  repeat' first
    | with_reducible assumption | with_reducible apply State.Leads.next | with_reducible apply State.Leads.ite
    | with_reducible apply State.bar_keeps | with_reducible apply Bar.retest_keeps

theorem execPatternTestDone_keeps {z₀ : State} (pass : Bool) (s : State) (h_s : State.Keeps z₀ s) :
    State.Leads z₀ (execPatternTestDone pass s) := by
  unfold execPatternTestDone
  repeat' first
    | with_reducible assumption | with_reducible apply State.Leads.next | with_reducible apply State.Leads.ite | (intro)
    | with_reducible apply State.setFld_keeps | with_reducible apply State.Keeps.ite | split

theorem execMatrixTimeout_keeps {z₀ : State} (s : State) (h_s : State.Keeps z₀ s) :
    State.Leads z₀ (execMatrixTimeout s) := by
  unfold execMatrixTimeout
  repeat' first
    | with_reducible assumption | with_reducible apply State.Leads.next | with_reducible apply State.Leads.ite
    | with_reducible apply Mtx.checkFail_keeps

theorem execMasterWatchdog_keeps {z₀ : State} (master : Nat) (s : State) (h_s : State.Keeps z₀ s) :
    State.Leads z₀ (execMasterWatchdog master s) := by
  unfold execMasterWatchdog
  repeat' first
    | with_reducible assumption | with_reducible apply State.Leads.next | with_reducible apply State.Leads.ite
    | (extract_lets +onlyGivenNames x; refine State.Keeps.cut (p := State.Keeps z₀ x) ?_ ?_;
        (focus (intro hx; clear_value x)); rotate_left; subst x)
    | (extract_lets +onlyGivenNames x; refine State.Keeps.cut (p := State.Keeps z₀ x.1) ?_ ?_;
        (focus (intro hx; clear_value x)); rotate_left; subst x)
    | (extract_lets +onlyGivenNames x; clear_value x) | with_reducible apply State.faultEvent_keeps | split
    | (with_reducible refine State.Keeps.mk_same _ rfl rfl rfl rfl rfl rfl rfl rfl ?_)

theorem Bar.mtxErrClear_keeps {z₀ : State} (s : State) (h_s : State.Keeps z₀ s) :
    State.Keeps z₀ (Bar.mtxErrClear s) := by
  unfold Bar.mtxErrClear
  repeat' first
    | with_reducible assumption | with_reducible apply State.setFlag_keeps | with_reducible apply State.setFld_keeps

theorem execMtxErrClear_keeps {z₀ : State} (s : State) (h_s : State.Keeps z₀ s) :
    State.Leads z₀ (execMtxErrClear s) := by
  unfold execMtxErrClear
  repeat' first
    | with_reducible assumption | with_reducible apply State.Leads.next | with_reducible apply State.Leads.ite
    | with_reducible apply State.bar_keeps | with_reducible apply Bar.mtxErrClear_keeps

theorem Mem.upset_keeps {z₀ : State} (s : State) (u : Nat × Bool) (h_s : State.Keeps z₀ s) :
    State.Keeps z₀ (Mem.upset s u) := by
  unfold Mem.upset
  repeat' first
    | with_reducible assumption | (intro) | with_reducible apply Mem.setErr_keeps | with_reducible apply State.Keeps.ite
    | with_reducible apply State.Keeps.ite1 | split

theorem Groom.pass_keeps {z₀ : State} (s : State) (last : Bool) (h_s : State.Keeps z₀ s) :
    State.Keeps z₀ (Groom.pass s last) := by
  unfold Groom.pass
  repeat' first
    | with_reducible assumption | (intro) | with_reducible apply State.when_keeps
    | with_reducible apply State.incWrap_keeps

theorem execScrubRow_keeps {z₀ : State} (row : Nat) (upsets : List (Nat × Bool)) (last : Bool) (s : State) (h_s : State.Keeps z₀
    s) :
    State.Leads z₀ (execScrubRow row upsets last s) := by
  unfold execScrubRow
  repeat' first
    | with_reducible assumption | with_reducible apply State.Leads.next | with_reducible apply State.Leads.ite | (intro)
    | (extract_lets +onlyGivenNames x; refine State.Keeps.cut (p := State.Keeps z₀ x) ?_ ?_;
        (focus (intro hx; clear_value x)); rotate_left; subst x)
    | (extract_lets +onlyGivenNames x; clear_value x) | with_reducible apply State.each_keeps
    | with_reducible apply Mem.upset_keeps | with_reducible apply Groom.pass_keeps | with_reducible apply Mem.ce_keeps
    | with_reducible apply Mem.setErr_keeps | with_reducible apply Mem.ue_keeps | with_reducible apply State.Keeps.ite
    | split

theorem execScrubBundle_keeps {z₀ : State} (stall bank addr upset : Nat) (last : Bool) (s : State) (h_s : State.Keeps z₀ s) :
    State.Leads z₀ (execScrubBundle stall bank addr upset last s) := by
  unfold execScrubBundle
  repeat' first
    | with_reducible assumption | with_reducible apply State.Leads.next | with_reducible apply State.Leads.ite | (intro)
    | (extract_lets +onlyGivenNames x; refine State.Keeps.cut (p := State.Keeps z₀ x) ?_ ?_;
        (focus (intro hx; clear_value x)); rotate_left; subst x)
    | (extract_lets +onlyGivenNames x; refine State.Keeps.cut (p := State.Keeps z₀ x.1) ?_ ?_;
        (focus (intro hx; clear_value x)); rotate_left; subst x)
    | (extract_lets +onlyGivenNames x; clear_value x) | with_reducible apply State.setStall_keeps
    | with_reducible apply Groom.pass_keeps | with_reducible apply State.faultEvent_keeps
    | with_reducible apply State.incCnt_keeps | with_reducible apply State.Keeps.ite | split
    | (with_reducible refine State.Keeps.mk_same _ rfl rfl rfl rfl rfl rfl rfl rfl ?_)

end Mtx

section RegWrite

theorem State.after_keeps {z₀ : State} (s : State) (o : Host.Outcome State Fault Refusal) (h_s : State.Keeps z₀ s)
    (h : State.Leads z₀ o) : State.Keeps z₀ (State.after s o) := by
  unfold State.after
  split
  · exact h.keeps _ rfl
  · exact h_s

theorem Bar.inject_keeps {z₀ : State} (stall : Nat) (s : State) (h_s : State.Keeps z₀ s) :
    State.Keeps z₀ (Bar.inject stall s) := by
  unfold Bar.inject
  repeat' first
    | with_reducible assumption | (intro) | with_reducible apply State.setFlag_keeps
    | with_reducible apply State.Keeps.ite | split

theorem execInject_keeps {z₀ : State} (stall : Nat) (s : State) (h_s : State.Keeps z₀ s) :
    State.Leads z₀ (execInject stall s) := by
  unfold execInject
  repeat' first
    | with_reducible assumption | with_reducible apply State.Leads.next | with_reducible apply State.Leads.ite
    | with_reducible apply State.bar_keeps | with_reducible apply Bar.inject_keeps

theorem Bar.stlResidueValidClear_keeps {z₀ : State} (stall : Nat) (s : State) (h_s : State.Keeps z₀ s) :
    State.Keeps z₀ (Bar.stlResidueValidClear stall s) := by
  unfold Bar.stlResidueValidClear
  repeat' first
    | with_reducible assumption | (intro) | with_reducible apply State.setFlag_keeps
    | with_reducible apply State.setFld_keeps | with_reducible apply State.Keeps.ite | split

theorem execStlResidueValidClear_keeps {z₀ : State} (stall : Nat) (s : State) (h_s : State.Keeps z₀ s) :
    State.Leads z₀ (execStlResidueValidClear stall s) := by
  unfold execStlResidueValidClear
  repeat' first
    | with_reducible assumption | with_reducible apply State.Leads.next | with_reducible apply State.Leads.ite
    | with_reducible apply State.bar_keeps | with_reducible apply Bar.stlResidueValidClear_keeps

theorem Bar.stlExcClear_keeps {z₀ : State} (stall : Nat) (valid addr : Bool) (s : State) (h_s : State.Keeps z₀ s) :
    State.Keeps z₀ (Bar.stlExcClear stall valid addr s) := by
  unfold Bar.stlExcClear
  repeat' first
    | with_reducible assumption | (intro)
    | (extract_lets +onlyGivenNames x; refine State.Keeps.cut (p := State.Keeps z₀ x) ?_ ?_;
        (focus (intro hx; clear_value x)); rotate_left; subst x)
    | (extract_lets +onlyGivenNames x; clear_value x) | with_reducible apply State.when_keeps
    | with_reducible apply State.setFlag_keeps | with_reducible apply State.setFld_keeps
    | with_reducible apply State.Keeps.ite | split

theorem execStlExcClear_keeps {z₀ : State} (stall : Nat) (valid addr : Bool) (s : State) (h_s : State.Keeps z₀ s) :
    State.Leads z₀ (execStlExcClear stall valid addr s) := by
  unfold execStlExcClear
  repeat' first
    | with_reducible assumption | with_reducible apply State.Leads.next | with_reducible apply State.Leads.ite
    | with_reducible apply State.bar_keeps | with_reducible apply Bar.stlExcClear_keeps

theorem Bar.topMemStatUeClear_keeps {z₀ : State} (s : State) (h_s : State.Keeps z₀ s) :
    State.Keeps z₀ (Bar.topMemStatUeClear s) := by
  unfold Bar.topMemStatUeClear
  repeat' first | with_reducible assumption | with_reducible apply State.setFlag_keeps

theorem execTopMemStatUeClear_keeps {z₀ : State} (s : State) (h_s : State.Keeps z₀ s) :
    State.Leads z₀ (execTopMemStatUeClear s) := by
  unfold execTopMemStatUeClear
  repeat' first
    | with_reducible assumption | with_reducible apply State.Leads.next | with_reducible apply State.Leads.ite
    | with_reducible apply State.bar_keeps | with_reducible apply Bar.topMemStatUeClear_keeps

theorem Bar.topTackStatUeClear_keeps {z₀ : State} (s : State) (h_s : State.Keeps z₀ s) :
    State.Keeps z₀ (Bar.topTackStatUeClear s) := by
  unfold Bar.topTackStatUeClear
  repeat' first | with_reducible assumption | with_reducible apply State.setFlag_keeps

theorem execTopTackStatUeClear_keeps {z₀ : State} (s : State) (h_s : State.Keeps z₀ s) :
    State.Leads z₀ (execTopTackStatUeClear s) := by
  unfold execTopTackStatUeClear
  repeat' first
    | with_reducible assumption | with_reducible apply State.Leads.next | with_reducible apply State.Leads.ite
    | with_reducible apply State.bar_keeps | with_reducible apply Bar.topTackStatUeClear_keeps

theorem Bar.evuRawWrite_keeps {z₀ : State} (w : Nat) (v : Word) (s : State) (h_s : State.Keeps z₀ s) :
    State.Keeps z₀ (Bar.evuRawWrite w v s) := by
  unfold Bar.evuRawWrite
  repeat' first
    | with_reducible assumption | with_reducible apply Evu.eval_keeps | with_reducible apply Reg.plainWrite_keeps

theorem execEvuRawWrite_keeps {z₀ : State} (w : Nat) (v : Word) (s : State) (h_s : State.Keeps z₀ s) :
    State.Leads z₀ (execEvuRawWrite w v s) := by
  unfold execEvuRawWrite
  repeat' first
    | with_reducible assumption | with_reducible apply State.Leads.next | with_reducible apply State.Leads.ite
    | with_reducible apply State.bar_keeps | with_reducible apply Bar.evuRawWrite_keeps

theorem Bar.evuEnWrite_keeps {z₀ : State} (w : Nat) (v : Word) (s : State) (h_s : State.Keeps z₀ s) :
    State.Keeps z₀ (Bar.evuEnWrite w v s) := by
  unfold Bar.evuEnWrite
  repeat' first
    | with_reducible assumption | with_reducible apply Evu.eval_keeps | with_reducible apply Reg.plainWrite_keeps

theorem execEvuEnWrite_keeps {z₀ : State} (w : Nat) (v : Word) (s : State) (h_s : State.Keeps z₀ s) :
    State.Leads z₀ (execEvuEnWrite w v s) := by
  unfold execEvuEnWrite
  repeat' first
    | with_reducible assumption | with_reducible apply State.Leads.next | with_reducible apply State.Leads.ite
    | with_reducible apply State.bar_keeps | with_reducible apply Bar.evuEnWrite_keeps

theorem Bar.evuMapWrite_keeps {z₀ : State} (e : Nat) (v : Word) (s : State) (h_s : State.Keeps z₀ s) :
    State.Keeps z₀ (Bar.evuMapWrite e v s) := by
  unfold Bar.evuMapWrite
  repeat' first
    | with_reducible assumption | with_reducible apply Evu.eval_keeps | with_reducible apply Reg.plainWrite_keeps

theorem execEvuMapWrite_keeps {z₀ : State} (e : Nat) (v : Word) (s : State) (h_s : State.Keeps z₀ s) :
    State.Leads z₀ (execEvuMapWrite e v s) := by
  unfold execEvuMapWrite
  repeat' first
    | with_reducible assumption | with_reducible apply State.Leads.next | with_reducible apply State.Leads.ite
    | with_reducible apply State.bar_keeps | with_reducible apply Bar.evuMapWrite_keeps

theorem Clk.gated_keeps {z₀ : State} (s : State) (old : Word) (h_s : State.Keeps z₀ s) :
    State.Keeps z₀ (Clk.gated s old) := by
  unfold Clk.gated
  repeat' first
    | with_reducible assumption | (intro)
    | (extract_lets +onlyGivenNames x; refine State.Keeps.cut (p := State.Keeps z₀ x) ?_ ?_;
        (focus (intro hx; clear_value x)); rotate_left; subst x)
    | (extract_lets +onlyGivenNames x; clear_value x) | with_reducible apply Clk.setDet_keeps
    | with_reducible apply State.each_keeps | with_reducible apply Clk.shut_keeps | with_reducible apply Clk.reopen_keeps
    | with_reducible apply Twn.qualify_keeps | with_reducible apply Drv.sense_keeps
    | with_reducible apply Sfb.evalRun_keeps | with_reducible apply Clk.show_keeps
    | with_reducible apply Drv.evalRun_keeps | with_reducible apply State.faultLevel_keeps
    | with_reducible apply State.Keeps.ite | split

theorem Reg.cmdHook_keeps {z₀ : State} (s : State) (off : Nat) (v : Word) (h_s : State.Keeps z₀ s) :
    State.Keeps z₀ (Reg.cmdHook s off v) := by
  unfold Reg.cmdHook
  repeat' first
    | with_reducible assumption | (intro)
    | (extract_lets +onlyGivenNames x; refine State.Keeps.cut (p := State.Keeps z₀ x) ?_ ?_;
        (focus (intro hx; clear_value x)); rotate_left; subst x)
    | (extract_lets +onlyGivenNames x; clear_value x) | with_reducible apply Cmd.stage_keeps
    | with_reducible apply Cmd.submit_keeps | with_reducible apply Cmd.ringEnable_keeps
    | with_reducible apply Cmd.showFull_keeps | with_reducible apply State.setFlag_keeps
    | with_reducible apply Cmd.headWrite_keeps | with_reducible apply State.Keeps.ite | split

theorem Reg.tkpHook_keeps {z₀ : State} (s : State) (off : Nat) (v : Word) (h_s : State.Keeps z₀ s) :
    State.Keeps z₀ (Reg.tkpHook s off v) := by
  unfold Reg.tkpHook
  repeat' first
    | with_reducible assumption | (intro)
    | (extract_lets +onlyGivenNames x; refine State.Keeps.cut (p := State.Keeps z₀ x) ?_ ?_;
        (focus (intro hx; clear_value x)); rotate_left; subst x)
    | (extract_lets +onlyGivenNames x; clear_value x) | with_reducible apply Bar.selWrite_keeps
    | with_reducible apply State.when_keeps | with_reducible apply Bar.snap_keeps | with_reducible apply Bar.restep_keeps
    | with_reducible apply Tkp.enWritten_keeps | with_reducible apply State.Keeps.ite | split

theorem Reg.nswHook_keeps {z₀ : State} (s : State) (off : Nat) (v : Word) (h_s : State.Keeps z₀ s) :
    State.Keeps z₀ (Reg.nswHook s off v) := by
  unfold Reg.nswHook
  repeat' first
    | with_reducible assumption | (intro)
    | (extract_lets +onlyGivenNames x; refine State.Keeps.cut (p := State.Keeps z₀ x) ?_ ?_;
        (focus (intro hx; clear_value x)); rotate_left; subst x)
    | (extract_lets +onlyGivenNames x; clear_value x) | with_reducible apply Nsw.strmEn_keeps
    | with_reducible apply Nsw.link_keeps | with_reducible apply Nsw.path_keeps | with_reducible apply State.Keeps.ite
    | split

theorem Reg.mtxHook_keeps {z₀ : State} (s : State) (off : Nat) (v : Word) (h_s : State.Keeps z₀ s) :
    State.Keeps z₀ (Reg.mtxHook s off v) := by
  unfold Reg.mtxHook
  repeat' first
    | with_reducible assumption | (intro)
    | (extract_lets +onlyGivenNames x; refine State.Keeps.cut (p := State.Keeps z₀ x) ?_ ?_;
        (focus (intro hx; clear_value x)); rotate_left; subst x)
    | (extract_lets +onlyGivenNames x; clear_value x) | with_reducible apply State.when_keeps
    | with_reducible apply Bar.reqFb_keeps | with_reducible apply Bar.reqFast_keeps
    | with_reducible apply Bar.retest_keeps | with_reducible apply Bar.mtxErrClear_keeps
    | with_reducible apply State.Keeps.ite | split

theorem Reg.stlHook_keeps {z₀ : State} (s : State) (off : Nat) (v : Word) (h_s : State.Keeps z₀ s) :
    State.Keeps z₀ (Reg.stlHook s off v) := by
  unfold Reg.stlHook
  repeat' first
    | with_reducible assumption | (intro)
    | (extract_lets +onlyGivenNames x; refine State.Keeps.cut (p := State.Keeps z₀ x) ?_ ?_;
        (focus (intro hx; clear_value x)); rotate_left; subst x)
    | (extract_lets +onlyGivenNames x; refine State.Keeps.cut (p := State.Keeps z₀ x.1) ?_ ?_;
        (focus (intro hx; clear_value x)); rotate_left; subst x)
    | (extract_lets +onlyGivenNames x; clear_value x) | with_reducible apply State.when_keeps
    | with_reducible apply Bar.stlResidueValidClear_keeps | with_reducible apply Bar.inject_keeps
    | with_reducible apply Bar.stlExcClear_keeps | split
    | (with_reducible refine State.Keeps.mk_same _ rfl rfl rfl rfl rfl rfl rfl rfl ?_)

theorem Reg.hook_keeps {z₀ : State} (s : State) (off : Nat) (old v : Word) (h_s : State.Keeps z₀ s) :
    State.Keeps z₀ (Reg.hook s off old v) := by
  unfold Reg.hook
  repeat' first
    | with_reducible assumption | (intro)
    | (extract_lets +onlyGivenNames x; refine State.Keeps.cut (p := State.Keeps z₀ x) ?_ ?_;
        (focus (intro hx; clear_value x)); rotate_left; subst x)
    | (extract_lets +onlyGivenNames x; refine State.Keeps.cut (p := State.Keeps z₀ x.1) ?_ ?_;
        (focus (intro hx; clear_value x)); rotate_left; subst x)
    | (extract_lets +onlyGivenNames x; clear_value x) | with_reducible apply State.when_keeps
    | with_reducible apply Bar.topMemStatUeClear_keeps | with_reducible apply Bar.topTackStatUeClear_keeps
    | with_reducible apply Clk.gated_keeps | with_reducible apply Evu.eval_keeps | with_reducible apply Reg.cmdHook_keeps
    | with_reducible apply Fc.configured_keeps
    | with_reducible apply Reg.tkpHook_keeps | with_reducible apply Reg.nswHook_keeps
    | with_reducible apply Sap.cfgWritten_keeps | with_reducible apply Aes.cfgWritten_keeps
    | with_reducible apply Drv.sense_keeps | with_reducible apply Sfb.evalRun_keeps
    | with_reducible apply Drv.evalRun_keeps | with_reducible apply Bar.drvUnlatch_keeps
    | with_reducible apply Reg.mtxHook_keeps | with_reducible apply Bar.phClr_keeps
    | with_reducible apply Twn.ownEnWritten_keeps | with_reducible apply Twn.enWritten_keeps
    | with_reducible apply Bar.warm_keeps | with_reducible apply Bar.pwrBlkrst_keeps
    | with_reducible apply Power.thermal_keeps | with_reducible apply Reg.stlHook_keeps
    | with_reducible apply State.Keeps.ite | split
    | (with_reducible refine State.Keeps.mk_same _ rfl rfl rfl rfl rfl rfl rfl rfl ?_)

theorem Reg.write_keeps {z₀ : State} (s : State) (off : Nat) (v : Word) (h_s : State.Keeps z₀ s) :
    State.Keeps z₀ (Reg.write s off v) := by
  unfold Reg.write
  repeat' first
    | with_reducible assumption | (intro)
    | (extract_lets +onlyGivenNames x; refine State.Keeps.cut (p := State.Keeps z₀ x) ?_ ?_;
        (focus (intro hx; clear_value x)); rotate_left; subst x)
    | (extract_lets +onlyGivenNames x; clear_value x) | with_reducible apply Reg.hook_keeps
    | with_reducible apply Reg.plainWrite_keeps | with_reducible apply State.Keeps.ite | split

theorem Bar.registerWrite_keeps {z₀ : State} (off : Nat) (v : Word) (whole : Bool) (s : State) (h_s : State.Keeps z₀ s) :
    State.Keeps z₀ (Bar.registerWrite off v whole s) := by
  unfold Bar.registerWrite
  repeat' first
    | with_reducible assumption | (intro) | with_reducible apply Reg.write_keeps | with_reducible apply State.Keeps.ite
    | split

theorem execRegisterWrite_keeps {z₀ : State} (off : Nat) (v : Word) (whole : Bool) (s : State) (h_s : State.Keeps z₀ s) :
    State.Leads z₀ (execRegisterWrite off v whole s) := by
  unfold execRegisterWrite
  repeat' first
    | with_reducible assumption | with_reducible apply State.Leads.next | with_reducible apply State.Leads.ite
    | with_reducible apply State.bar_keeps | with_reducible apply Bar.registerWrite_keeps

theorem Reg.latch_keeps {z₀ : State} (s : State) (offs : List Nat) (h_s : State.Keeps z₀ s) :
    State.Keeps z₀ (Reg.latch s offs) := by
  unfold Reg.latch
  repeat' first
    | with_reducible assumption | (intro)
    | (extract_lets +onlyGivenNames x; refine State.Keeps.cut (p := State.Keeps z₀ x) ?_ ?_;
        (focus (intro hx; clear_value x)); rotate_left; subst x)
    | (extract_lets +onlyGivenNames x; clear_value x) | with_reducible apply State.foldl_keeps
    | with_reducible apply State.foldl1_keeps
    | (with_reducible refine State.Keeps.mk_same _ rfl rfl rfl rfl rfl rfl rfl rfl ?_)

theorem Reg.clearRc_keeps {z₀ : State} (s : State) (off : Nat) (h_s : State.Keeps z₀ s) :
    State.Keeps z₀ (Reg.clearRc s off) := by
  unfold Reg.clearRc
  repeat' first
    | with_reducible assumption | (intro)
    | (extract_lets +onlyGivenNames x; refine State.Keeps.cut (p := State.Keeps z₀ x) ?_ ?_;
        (focus (intro hx; clear_value x)); rotate_left; subst x)
    | (extract_lets +onlyGivenNames x; refine State.Keeps.cut (p := State.Keeps z₀ x.1) ?_ ?_;
        (focus (intro hx; clear_value x)); rotate_left; subst x)
    | (extract_lets +onlyGivenNames x; clear_value x) | with_reducible apply State.setReg_keeps
    | with_reducible apply State.Keeps.ite | split
    | (with_reducible refine State.Keeps.mk_same _ rfl rfl rfl rfl rfl rfl rfl rfl ?_)

theorem Reg.readWord_keeps {z₀ : State} (s : State) (off : Nat) (h_s : State.Keeps z₀ s) :
    State.Keeps z₀ (Reg.readWord s off).1 := by
  unfold Reg.readWord
  repeat' first
    | with_reducible assumption | (intro)
    | (extract_lets +onlyGivenNames x; refine State.Keeps.cut (p := State.Keeps z₀ x) ?_ ?_;
        (focus (intro hx; clear_value x)); rotate_left; subst x)
    | (extract_lets +onlyGivenNames x; clear_value x) | with_reducible apply Reg.clearRc_keeps
    | with_reducible apply State.Keeps.ite | with_reducible apply State.Keeps.ite1 | split
    | (with_reducible refine State.Keeps.mk_same _ rfl rfl rfl rfl rfl rfl rfl rfl ?_)

theorem Reg.answer_keeps {z₀ : State} (off : Nat) (p : State × Word) (h_p : State.Keeps z₀ p.1) :
    State.Keeps z₀ (Reg.answer off p) := by
  unfold Reg.answer
  repeat' first | with_reducible assumption | with_reducible apply State.send_keeps

theorem Reg.readPlain_keeps {z₀ : State} (s : State) (off : Nat) (h_s : State.Keeps z₀ s) :
    State.Keeps z₀ (Reg.readPlain s off) := by
  unfold Reg.readPlain
  repeat' first
    | with_reducible assumption | with_reducible apply Reg.answer_keeps | with_reducible apply Reg.readWord_keeps

theorem Reg.latches_keeps {z₀ : State} (s : State) (off : Nat) (h_s : State.Keeps z₀ s) :
    State.Keeps z₀ (Reg.latches s off) := by
  unfold Reg.latches
  repeat' first
    | with_reducible assumption | (intro) | with_reducible apply Reg.latch_keeps | with_reducible apply State.Keeps.ite
    | split

theorem Reg.read_keeps {z₀ : State} (s0 : State) (at_ off : Nat) (h_s0 : State.Keeps z₀ s0) :
    State.Keeps z₀ (Reg.read s0 at_ off).1 := by
  unfold Reg.read
  repeat' first
    | with_reducible assumption | (intro)
    | (extract_lets +onlyGivenNames x; refine State.Keeps.cut (p := State.Keeps z₀ x) ?_ ?_;
        (focus (intro hx; clear_value x)); rotate_left; subst x)
    | (extract_lets +onlyGivenNames x; clear_value x) | with_reducible apply Tkp.advance_keeps
    | with_reducible apply Tkp.popTsq_keeps | with_reducible apply Reg.readWord_keeps
    | with_reducible apply Reg.latches_keeps | with_reducible apply State.Keeps.ite
    | with_reducible apply State.Keeps.ite1 | split

theorem Bar.topRcdLatch_keeps {z₀ : State} (s : State) (h_s : State.Keeps z₀ s) :
    State.Keeps z₀ (Bar.topRcdLatch s) := by
  unfold Bar.topRcdLatch
  repeat' first
    | with_reducible assumption | with_reducible apply Reg.readPlain_keeps | with_reducible apply Reg.latches_keeps

theorem execTopRcdLatch_keeps {z₀ : State} (s : State) (h_s : State.Keeps z₀ s) :
    State.Leads z₀ (execTopRcdLatch s) := by
  unfold execTopRcdLatch
  repeat' first
    | with_reducible assumption | with_reducible apply State.Leads.next | with_reducible apply State.Leads.ite
    | with_reducible apply State.bar_keeps | with_reducible apply Bar.topRcdLatch_keeps

theorem Bar.lowWordRead_keeps {z₀ : State} (off : Nat) (s : State) (h_s : State.Keeps z₀ s) :
    State.Keeps z₀ (Bar.lowWordRead off s) := by
  unfold Bar.lowWordRead
  repeat' first
    | with_reducible assumption | with_reducible apply Reg.readPlain_keeps | with_reducible apply Reg.latches_keeps

theorem execLowWordRead_keeps {z₀ : State} (off : Nat) (s : State) (h_s : State.Keeps z₀ s) :
    State.Leads z₀ (execLowWordRead off s) := by
  unfold execLowWordRead
  repeat' first
    | with_reducible assumption | with_reducible apply State.Leads.next | with_reducible apply State.Leads.ite
    | with_reducible apply State.bar_keeps | with_reducible apply Bar.lowWordRead_keeps

theorem Bar.aesRxcsLatch_keeps {z₀ : State} (port : Nat) (s : State) (h_s : State.Keeps z₀ s) :
    State.Keeps z₀ (Bar.aesRxcsLatch port s) := by
  unfold Bar.aesRxcsLatch
  repeat' first
    | with_reducible assumption | with_reducible apply Reg.readPlain_keeps | with_reducible apply Reg.latches_keeps

theorem execAesRxcsLatch_keeps {z₀ : State} (port : Nat) (s : State) (h_s : State.Keeps z₀ s) :
    State.Leads z₀ (execAesRxcsLatch port s) := by
  unfold execAesRxcsLatch
  repeat' first
    | with_reducible assumption | with_reducible apply State.Leads.next | with_reducible apply State.Leads.ite
    | with_reducible apply State.bar_keeps | with_reducible apply Bar.aesRxcsLatch_keeps

theorem Bar.read_keeps {z₀ : State} (at_ off : Nat) (s : State) (h_s : State.Keeps z₀ s) :
    State.Keeps z₀ (Bar.read at_ off s) := by
  unfold Bar.read
  repeat' first | with_reducible assumption | with_reducible apply Reg.answer_keeps | with_reducible apply Reg.read_keeps

theorem execRegisterReadClear_keeps {z₀ : State} (at_ off : Nat) (s : State) (h_s : State.Keeps z₀ s) :
    State.Leads z₀ (execRegisterReadClear at_ off s) := by
  unfold execRegisterReadClear
  repeat' first
    | with_reducible assumption | with_reducible apply State.Leads.next | with_reducible apply State.Leads.ite
    | with_reducible apply State.bar_keeps | with_reducible apply Bar.read_keeps

end RegWrite

section Boot

theorem Qspi.record_keeps {z₀ : State} (r : Nat → Nat) (s : State) (i : Nat) (h_s : State.Keeps z₀ s) :
    State.Keeps z₀ (Qspi.record r s i) := by
  unfold Qspi.record
  repeat' first
    | with_reducible assumption | (intro)
    | (extract_lets +onlyGivenNames x; refine State.Keeps.cut (p := State.Keeps z₀ x) ?_ ?_;
        (focus (intro hx; clear_value x)); rotate_left; subst x)
    | (extract_lets +onlyGivenNames x; refine State.Keeps.cut (p := State.Keeps z₀ x.1) ?_ ?_;
        (focus (intro hx; clear_value x)); rotate_left; subst x)
    | (extract_lets +onlyGivenNames x; clear_value x) | with_reducible apply Reg.write_keeps
    | with_reducible apply State.Keeps.ite | split
    | (with_reducible refine State.Keeps.mk_same _ rfl rfl rfl rfl rfl rfl rfl rfl ?_)

theorem Qspi.bale_keeps {z₀ : State} (s : State) (r : Nat → Nat) (h_s : State.Keeps z₀ s) :
    State.Keeps z₀ (Qspi.bale s r) := by
  unfold Qspi.bale
  repeat' first
    | with_reducible assumption | (intro)
    | (extract_lets +onlyGivenNames x; refine State.Keeps.cut (p := State.Keeps z₀ x) ?_ ?_;
        (focus (intro hx; clear_value x)); rotate_left; subst x)
    | (extract_lets +onlyGivenNames x; refine State.Keeps.cut (p := State.Keeps z₀ x.1) ?_ ?_;
        (focus (intro hx; clear_value x)); rotate_left; subst x)
    | (extract_lets +onlyGivenNames x; clear_value x) | with_reducible apply Mem.write_keeps
    | with_reducible apply Bale.setState_keeps | with_reducible apply State.setFld_keeps
    | with_reducible apply Bale.show_keeps | with_reducible apply State.Keeps.ite | with_reducible apply State.Keeps.ite1
    | split

theorem Qspi.apply_keeps {z₀ : State} (s : State) (r : Nat → Nat) (h_s : State.Keeps z₀ s) :
    State.Keeps z₀ (Qspi.apply s r) := by
  unfold Qspi.apply
  repeat' first
    | with_reducible assumption | (intro)
    | (extract_lets +onlyGivenNames x; refine State.Keeps.cut (p := State.Keeps z₀ x) ?_ ?_;
        (focus (intro hx; clear_value x)); rotate_left; subst x)
    | (extract_lets +onlyGivenNames x; clear_value x) | with_reducible apply Qspi.bale_keeps
    | with_reducible apply State.each_keeps | with_reducible apply Qspi.record_keeps | split
    | (with_reducible refine State.Keeps.mk_same _ rfl rfl rfl rfl rfl rfl rfl rfl ?_)

theorem Boot.log_keeps {z₀ : State} (s0 : State) (h_s0 : State.Keeps z₀ s0) :
    State.Keeps z₀ (Boot.log s0) := by
  unfold Boot.log
  repeat' first
    | with_reducible assumption | (intro)
    | (extract_lets +onlyGivenNames x; refine State.Keeps.cut (p := State.Keeps z₀ x) ?_ ?_;
        (focus (intro hx; clear_value x)); rotate_left; subst x)
    | (extract_lets +onlyGivenNames x; refine State.Keeps.cut (p := State.Keeps z₀ x.1) ?_ ?_;
        (focus (intro hx; clear_value x)); rotate_left; subst x)
    | (extract_lets +onlyGivenNames x; clear_value x) | with_reducible apply Mem.noteRange_keeps
    | with_reducible apply State.each_keeps | with_reducible apply State.setReg_keeps | split

theorem Boot.tickets_keeps {z₀ : State} (s : State) (l : List (Nat × Nat × Word)) (h_s : State.Keeps z₀ s) :
    State.Keeps z₀ (Boot.tickets s l) := by
  unfold Boot.tickets
  repeat' first
    | with_reducible assumption | (intro)
    | (extract_lets +onlyGivenNames x; refine State.Keeps.cut (p := State.Keeps z₀ x) ?_ ?_;
        (focus (intro hx; clear_value x)); rotate_left; subst x)
    | (extract_lets +onlyGivenNames x; refine State.Keeps.cut (p := State.Keeps z₀ x.1) ?_ ?_;
        (focus (intro hx; clear_value x)); rotate_left; subst x)
    | (extract_lets +onlyGivenNames x; clear_value x) | with_reducible apply Cmd.show_keeps
    | with_reducible apply State.each_keeps | with_reducible apply Cmd.writeRecord_keeps
    | with_reducible apply State.setFire_keeps | with_reducible apply State.Keeps.ite
    | with_reducible apply State.Keeps.ite1 | split
    | (with_reducible refine State.Keeps.mk_same _ rfl rfl rfl rfl rfl rfl rfl rfl ?_)

theorem Boot.image_keeps {z₀ : State} (s : State) (x : SaveImage) (h_s : State.Keeps z₀ s) :
    State.Keeps z₀ (Boot.image s x) := by
  unfold Boot.image
  repeat' first
    | with_reducible assumption | (intro)
    | (extract_lets +onlyGivenNames x; refine State.Keeps.cut (p := State.Keeps z₀ x) ?_ ?_;
        (focus (intro hx; clear_value x)); rotate_left; subst x)
    | (extract_lets +onlyGivenNames x; refine State.Keeps.cut (p := State.Keeps z₀ x.1) ?_ ?_;
        (focus (intro hx; clear_value x)); rotate_left; subst x)
    | (extract_lets +onlyGivenNames x; clear_value x) | with_reducible apply State.each_keeps
    | with_reducible apply State.setReg_keeps | with_reducible apply Tkp.steer_keeps
    | with_reducible apply Boot.tickets_keeps | with_reducible apply State.setFld_keeps
    | with_reducible apply State.setFlag_keeps | with_reducible apply State.Keeps.ite
    | with_reducible apply State.Keeps.ite1 | split
    | (with_reducible refine State.Keeps.mk_same _ rfl rfl rfl rfl rfl rfl rfl rfl ?_)

theorem Boot.saddlebag_keeps {z₀ : State} (s : State) (h_s : State.Keeps z₀ s) :
    State.Keeps z₀ (Boot.saddlebag s) := by
  unfold Boot.saddlebag
  repeat' first
    | with_reducible assumption | (intro)
    | (extract_lets +onlyGivenNames x; refine State.Keeps.cut (p := State.Keeps z₀ x) ?_ ?_;
        (focus (intro hx; clear_value x)); rotate_left; subst x)
    | (extract_lets +onlyGivenNames x; refine State.Keeps.cut (p := State.Keeps z₀ x.1) ?_ ?_;
        (focus (intro hx; clear_value x)); rotate_left; subst x)
    | (extract_lets +onlyGivenNames x; clear_value x) | with_reducible apply Boot.log_keeps
    | with_reducible apply State.setReg_keeps | with_reducible apply Boot.image_keeps
    | with_reducible apply State.setFld_keeps | with_reducible apply State.Keeps.ite | split
    | (with_reducible refine State.Keeps.mk_same _ rfl rfl rfl rfl rfl rfl rfl rfl ?_)

theorem Boot.result_keeps {z₀ : State} (s : State) (res src : Nat) (h_s : State.Keeps z₀ s) :
    State.Keeps z₀ (Boot.result s res src) := by
  unfold Boot.result
  repeat' first | with_reducible assumption | with_reducible apply State.setFld_keeps

theorem Boot.arm_keeps {z₀ : State} (s : State) (x : Option SaveImage) (i src : Nat) (h_s : State.Keeps z₀ s) :
    State.Keeps z₀ (Boot.arm s x i src) := by
  unfold Boot.arm
  repeat' first
    | with_reducible assumption | (intro)
    | (extract_lets +onlyGivenNames x; refine State.Keeps.cut (p := State.Keeps z₀ x) ?_ ?_;
        (focus (intro hx; clear_value x)); rotate_left; subst x)
    | (extract_lets +onlyGivenNames x; refine State.Keeps.cut (p := State.Keeps z₀ x.1) ?_ ?_;
        (focus (intro hx; clear_value x)); rotate_left; subst x)
    | (extract_lets +onlyGivenNames x; clear_value x) | with_reducible apply Bale.noteRead_keeps
    | with_reducible apply Boot.result_keeps | with_reducible apply Bale.setState_keeps
    | with_reducible apply State.when_keeps | with_reducible apply Bale.showSigned_keeps
    | with_reducible apply Bale.verified_keeps | with_reducible apply Bale.armWrites_keeps
    | with_reducible apply Buf.test_keeps | with_reducible apply Bale.setMark_keeps
    | with_reducible apply State.setFld_keeps | with_reducible apply State.Keeps.ite | split
    | (with_reducible refine State.Keeps.mk_same _ rfl rfl rfl rfl rfl rfl rfl rfl ?_)

theorem Boot.bale_keeps {z₀ : State} (s : State) (x : Option SaveImage) (own : Bool) (h_s : State.Keeps z₀ s) :
    State.Keeps z₀ (Boot.bale s x own) := by
  unfold Boot.bale
  repeat' first
    | with_reducible assumption | (intro)
    | (extract_lets +onlyGivenNames x; refine State.Keeps.cut (p := State.Keeps z₀ x) ?_ ?_;
        (focus (intro hx; clear_value x)); rotate_left; subst x)
    | (extract_lets +onlyGivenNames x; refine State.Keeps.cut (p := State.Keeps z₀ x.1) ?_ ?_;
        (focus (intro hx; clear_value x)); rotate_left; subst x)
    | (extract_lets +onlyGivenNames x; clear_value x) | with_reducible apply Boot.arm_keeps
    | with_reducible apply Boot.result_keeps | with_reducible apply State.Keeps.ite | split
    | (with_reducible refine State.Keeps.mk_same _ rfl rfl rfl rfl rfl rfl rfl rfl ?_)

theorem Boot.consume_keeps {z₀ : State} (s : State) (h_s : State.Keeps z₀ s) :
    State.Keeps z₀ (Boot.consume s) := by
  unfold Boot.consume
  repeat' first
    | with_reducible assumption | (intro)
    | (extract_lets +onlyGivenNames x; refine State.Keeps.cut (p := State.Keeps z₀ x) ?_ ?_;
        (focus (intro hx; clear_value x)); rotate_left; subst x)
    | (extract_lets +onlyGivenNames x; clear_value x) | with_reducible apply Save.mark_keeps
    | with_reducible apply State.Keeps.ite | split
    | (with_reducible refine State.Keeps.mk_same _ rfl rfl rfl rfl rfl rfl rfl rfl ?_)

theorem Boot.sources_keeps {z₀ : State} (s : State) (x : Option SaveImage) (flash : List Byte) (h_s : State.Keeps z₀ s) :
    State.Keeps z₀ (Boot.sources s x flash) := by
  unfold Boot.sources
  repeat' first
    | with_reducible assumption | (intro)
    | (extract_lets +onlyGivenNames x; refine State.Keeps.cut (p := State.Keeps z₀ x) ?_ ?_;
        (focus (intro hx; clear_value x)); rotate_left; subst x)
    | (extract_lets +onlyGivenNames x; clear_value x) | with_reducible apply Boot.result_keeps
    | with_reducible apply Boot.bale_keeps | with_reducible apply Qspi.apply_keeps
    | with_reducible apply State.setFld_keeps | with_reducible apply State.Keeps.ite | split

theorem execBoot_keeps {z₀ : State} (flash : List Byte) (ms : Nat) (s : State) (h_s : State.Keeps z₀ s) :
    State.Leads z₀ (execBoot flash ms s) := by
  unfold execBoot
  repeat' first
    | with_reducible assumption | with_reducible apply State.Leads.next | with_reducible apply State.Leads.ite | (intro)
    | (extract_lets +onlyGivenNames x; refine State.Keeps.cut (p := State.Keeps z₀ x) ?_ ?_;
        (focus (intro hx; clear_value x)); rotate_left; subst x)
    | (extract_lets +onlyGivenNames x; clear_value x) | with_reducible apply Boot.saddlebag_keeps
    | with_reducible apply Boot.sources_keeps | with_reducible apply State.setFlag_keeps
    | with_reducible apply Boot.consume_keeps | with_reducible apply State.setFld_keeps
    | with_reducible apply Cmd.restart_keeps | with_reducible apply State.Keeps.ite | split
    | (with_reducible refine State.Keeps.mk_same _ rfl rfl rfl rfl rfl rfl rfl rfl ?_)

end Boot

section Debug

theorem Dbg.captureDr_keeps {z₀ : State} (s : State) (h_s : State.Keeps z₀ s) : State.Keeps z₀ (Dbg.captureDr s) := by
  unfold Dbg.captureDr
  split
  · exact State.Keeps.mk_same s rfl rfl rfl rfl rfl rfl rfl rfl h_s
  · exact State.Keeps.mk_same s rfl rfl rfl rfl rfl rfl rfl rfl h_s
  · exact State.Keeps.drawn s Config.cells rfl rfl rfl rfl rfl rfl rfl rfl h_s

theorem Dbg.captureIr_keeps {z₀ : State} (s : State) (h_s : State.Keeps z₀ s) : State.Keeps z₀ (Dbg.captureIr s) :=
  State.Keeps.drawn s Config.irMore rfl rfl rfl rfl rfl rfl rfl rfl h_s

theorem Dbg.rise_keeps {z₀ : State} (s : State) (tms tdi : Bool) (h_s : State.Keeps z₀ s) :
    State.Keeps z₀ (Dbg.rise s tms tdi) := by
  unfold Dbg.rise
  repeat' first
    | with_reducible assumption
    | (extract_lets +onlyGivenNames x; refine State.Keeps.cut (p := State.Keeps z₀ x) ?_ ?_;
        (focus (intro hx; clear_value x)); rotate_left; subst x)
    | (extract_lets +onlyGivenNames x; refine State.Keeps.cut (p := State.Keeps z₀ x.1) ?_ ?_;
        (focus (intro hx; clear_value x)); rotate_left; subst x)
    | (extract_lets +onlyGivenNames x; clear_value x) | with_reducible apply Dbg.captureDr_keeps
    | with_reducible apply Dbg.captureIr_keeps | split
    | (with_reducible refine State.Keeps.mk_same _ rfl rfl rfl rfl rfl rfl rfl rfl ?_)

theorem Dbg.fall_keeps {z₀ : State} (s : State) (h_s : State.Keeps z₀ s) :
    State.Keeps z₀ (Dbg.fall s) := by
  unfold Dbg.fall
  repeat' first
    | with_reducible assumption | (intro)
    | (extract_lets +onlyGivenNames x; refine State.Keeps.cut (p := State.Keeps z₀ x) ?_ ?_;
        (focus (intro hx; clear_value x)); rotate_left; subst x)
    | (extract_lets +onlyGivenNames x; refine State.Keeps.cut (p := State.Keeps z₀ x.1) ?_ ?_;
        (focus (intro hx; clear_value x)); rotate_left; subst x)
    | (extract_lets +onlyGivenNames x; clear_value x) | with_reducible apply State.send_keeps
    | with_reducible apply State.Keeps.ite | split
    | (with_reducible refine State.Keeps.mk_same _ rfl rfl rfl rfl rfl rfl rfl rfl ?_)

theorem execDebugPortTck_keeps {z₀ : State} (trstLow rise tms tdi : Bool) (s : State) (h_s : State.Keeps z₀ s) :
    State.Leads z₀ (execDebugPortTck trstLow rise tms tdi s) := by
  unfold execDebugPortTck
  repeat' first
    | with_reducible assumption | with_reducible apply State.Leads.next | with_reducible apply State.Leads.ite | (intro)
    | (extract_lets +onlyGivenNames x; refine State.Keeps.cut (p := State.Keeps z₀ x) ?_ ?_;
        (focus (intro hx; clear_value x)); rotate_left; subst x)
    | (extract_lets +onlyGivenNames x; clear_value x) | with_reducible apply Dbg.rise_keeps
    | with_reducible apply Dbg.fall_keeps | with_reducible apply State.Keeps.ite | split
    | (with_reducible refine State.Keeps.mk_same _ rfl rfl rfl rfl rfl rfl rfl rfl ?_)

end Debug

end Sys2Proof.Machine
end

