-- ==== Sys2Proof/Laws/KeepsStall.lean ====
section
/-! SUPPORT. `State.Keeps` for stall operations, matrix transactions, twin messages: each operation keeps the variant, the queue, what has been sent,
the count of free values and the canonical forms. -/

namespace Sys2Proof.Machine

section StallMem

theorem Stl.postPointer_keeps {z₀ : State} (i : Nat) (o : LaOp) (p : Word) (s : State) (h_s : State.Keeps z₀ s) :
    State.Keeps z₀ (Stl.postPointer i o p s) := by
  unfold Stl.postPointer
  repeat' first
    | with_reducible assumption | (intro) | with_reducible apply State.onRf_keeps | with_reducible apply State.Keeps.ite
    | split

theorem Stl.readElem_keeps {z₀ : State} (i after : Nat) (o : LaOp) (sp : Space) (a : Nat) (s : State) (h_s : State.Keeps z₀ s) :
    State.Keeps z₀ (Stl.readElem i after o sp a s).1 := by
  unfold Stl.readElem
  repeat' first
    | with_reducible assumption | (intro)
    | (extract_lets +onlyGivenNames x; refine State.Keeps.cut (p := State.Keeps z₀ x) ?_ ?_;
        (focus (intro hx; clear_value x)); rotate_left; subst x)
    | (extract_lets +onlyGivenNames x; refine State.Keeps.cut (p := State.Keeps z₀ x.1) ?_ ?_;
        (focus (intro hx; clear_value x)); rotate_left; subst x)
    | (extract_lets +onlyGivenNames x; clear_value x) | with_reducible apply Mem.sharedBytes_keeps
    | with_reducible apply State.Keeps.ite | with_reducible apply State.Keeps.ite1 | split
    | (with_reducible refine State.Keeps.mk_same _ rfl rfl rfl rfl rfl rfl rfl rfl ?_)

theorem Stl.noteFault_keeps {z₀ : State} (i space : Nat) (o : LaOp) (addrs : List Nat) (s : State) (h_s : State.Keeps z₀ s) :
    State.Keeps z₀ (Stl.noteFault i space o addrs s) := by
  unfold Stl.noteFault
  repeat' first
    | with_reducible assumption
    | (extract_lets +onlyGivenNames x; refine State.Keeps.cut (p := State.Keeps z₀ x) ?_ ?_;
        (focus (intro hx; clear_value x)); rotate_left; subst x)
    | (extract_lets +onlyGivenNames x; refine State.Keeps.cut (p := State.Keeps z₀ x.1) ?_ ?_;
        (focus (intro hx; clear_value x)); rotate_left; subst x)
    | (extract_lets +onlyGivenNames x; clear_value x) | with_reducible apply Stl.addrFault_keeps | split
    | (with_reducible refine State.Keeps.mk_same _ rfl rfl rfl rfl rfl rfl rfl rfl ?_)

theorem Stl.load_keeps {z₀ : State} (c : OpCtx) (o : LaOp) (sp : Space) (s : State) (h_s : State.Keeps z₀ s) :
    State.Keeps z₀ (Stl.load c o sp s) := by
  unfold Stl.load
  refine Stl.op_keeps _ _ _ _ _ (fun t h => ?_) h_s
  extract_lets i p es out ok base after step t1 x t2 t3
  have hs : ∀ u e, State.Keeps z₀ u → State.Keeps z₀ (step u e) := by
    intro u e hu
    unfold step
    extract_lets q
    refine State.onRf_keeps _ _ _ ?_
    unfold q
    split
    · exact hu
    · exact Stl.readElem_keeps _ _ _ _ _ _ hu
  have h1 : State.Keeps z₀ t1 := State.each_keeps _ _ hs h
  clear_value t1
  have h2 : State.Keeps z₀ t2 := by
    unfold t2
    split
    · exact h1
    · exact State.setStall_keeps _ _ _ h1
  clear_value t2
  exact Stl.noteFault_keeps _ _ _ _ _ (Mem.readNote_keeps _ _ _ (Stl.postPointer_keeps _ _ _ _ h2))

theorem Stl.writeElems_keeps {z₀ : State} (i : Nat) (sp : Space) (cells : List (Nat × List Byte)) (s : State) (h_s : State.Keeps
    z₀ s) :
    State.Keeps z₀ (Stl.writeElems i sp cells s) := by
  unfold Stl.writeElems
  repeat' first
    | with_reducible assumption | (intro)
    | (extract_lets +onlyGivenNames x; refine State.Keeps.cut (p := State.Keeps z₀ x) ?_ ?_;
        (focus (intro hx; clear_value x)); rotate_left; subst x)
    | (extract_lets +onlyGivenNames x; refine State.Keeps.cut (p := State.Keeps z₀ x.1) ?_ ?_;
        (focus (intro hx; clear_value x)); rotate_left; subst x)
    | (extract_lets +onlyGivenNames x; clear_value x) | with_reducible apply State.each_keeps
    | with_reducible apply State.setBytes_keeps | with_reducible apply Mem.storeShared_keeps
    | with_reducible apply Mem.merge_keeps | split
    | (with_reducible refine State.Keeps.mk_same _ rfl rfl rfl rfl rfl rfl rfl rfl ?_)

theorem Stl.noteBreach_keeps {z₀ : State} (i cyc : Nat) (cells : List (Nat × List Byte)) (s : State) (h_s : State.Keeps z₀ s) :
    State.Keeps z₀ (Stl.noteBreach i cyc cells s) := by
  unfold Stl.noteBreach
  repeat' first
    | with_reducible assumption | (intro) | with_reducible apply State.when_keeps | with_reducible apply Stl.breach_keeps

theorem Stl.store_keeps {z₀ : State} (c : OpCtx) (o : LaOp) (sp : Space) (s : State) (h_s : State.Keeps z₀ s) :
    State.Keeps z₀ (Stl.store c o sp s) := by
  unfold Stl.store
  repeat' first
    | with_reducible assumption | (intro)
    | (extract_lets +onlyGivenNames x; refine State.Keeps.cut (p := State.Keeps z₀ x) ?_ ?_;
        (focus (intro hx; clear_value x)); rotate_left; subst x)
    | (extract_lets +onlyGivenNames x; refine State.Keeps.cut (p := State.Keeps z₀ x.1) ?_ ?_;
        (focus (intro hx; clear_value x)); rotate_left; subst x)
    | (extract_lets +onlyGivenNames x; clear_value x) | with_reducible apply Stl.op_keeps
    | with_reducible apply State.setStall_keeps | with_reducible apply Stl.writeElems_keeps
    | with_reducible apply Stl.postPointer_keeps | with_reducible apply Stl.noteFault_keeps
    | with_reducible apply Stl.noteBreach_keeps | split
    | (with_reducible refine State.Keeps.mk_same _ rfl rfl rfl rfl rfl rfl rfl rfl ?_)

theorem execLdV_keeps {z₀ : State} (c : OpCtx) (o : LaOp) (s : State) (h_s : State.Keeps z₀ s) :
    State.Leads z₀ (execLdV c o s) := by
  unfold execLdV
  repeat' first
    | with_reducible assumption | with_reducible apply State.Leads.next | with_reducible apply State.Leads.ite
    | with_reducible apply Stl.load_keeps

theorem execStV_keeps {z₀ : State} (c : OpCtx) (o : LaOp) (s : State) (h_s : State.Keeps z₀ s) :
    State.Leads z₀ (execStV c o s) := by
  unfold execStV
  repeat' first
    | with_reducible assumption | with_reducible apply State.Leads.next | with_reducible apply State.Leads.ite
    | with_reducible apply Stl.store_keeps

theorem execLdb_keeps {z₀ : State} (c : OpCtx) (o : LaOp) (s : State) (h_s : State.Keeps z₀ s) :
    State.Leads z₀ (execLdb c o s) := by
  unfold execLdb
  repeat' first
    | with_reducible assumption | with_reducible apply State.Leads.next | with_reducible apply State.Leads.ite
    | with_reducible apply Stl.load_keeps

theorem execStb_keeps {z₀ : State} (c : OpCtx) (o : LaOp) (s : State) (h_s : State.Keeps z₀ s) :
    State.Leads z₀ (execStb c o s) := by
  unfold execStb
  repeat' first
    | with_reducible assumption | with_reducible apply State.Leads.next | with_reducible apply State.Leads.ite
    | with_reducible apply Stl.store_keeps

theorem execLdh_keeps {z₀ : State} (c : OpCtx) (o : LaOp) (s : State) (h_s : State.Keeps z₀ s) :
    State.Leads z₀ (execLdh c o s) := by
  unfold execLdh
  repeat' first
    | with_reducible assumption | with_reducible apply State.Leads.next | with_reducible apply State.Leads.ite
    | with_reducible apply Stl.load_keeps

theorem execSth_keeps {z₀ : State} (c : OpCtx) (o : LaOp) (s : State) (h_s : State.Keeps z₀ s) :
    State.Leads z₀ (execSth c o s) := by
  unfold execSth
  repeat' first
    | with_reducible assumption | with_reducible apply State.Leads.next | with_reducible apply State.Leads.ite
    | with_reducible apply Stl.store_keeps

theorem execLdS_keeps {z₀ : State} (c : OpCtx) (o : LaOp) (s : State) (h_s : State.Keeps z₀ s) :
    State.Leads z₀ (execLdS c o s) := by
  unfold execLdS
  repeat' first
    | with_reducible assumption | with_reducible apply State.Leads.next | with_reducible apply State.Leads.ite | (intro)
    | (extract_lets +onlyGivenNames x; refine State.Keeps.cut (p := State.Keeps z₀ x) ?_ ?_;
        (focus (intro hx; clear_value x)); rotate_left; subst x)
    | (extract_lets +onlyGivenNames x; refine State.Keeps.cut (p := State.Keeps z₀ x.1) ?_ ?_;
        (focus (intro hx; clear_value x)); rotate_left; subst x)
    | (extract_lets +onlyGivenNames x; clear_value x) | with_reducible apply Stl.op_keeps
    | with_reducible apply Stl.noteFault_keeps | with_reducible apply Stl.postPointer_keeps
    | with_reducible apply State.onRf_keeps | with_reducible apply Stl.readElem_keeps
    | with_reducible apply Mem.readNote_keeps | with_reducible apply State.Keeps.ite
    | with_reducible apply State.Keeps.ite1 | split

theorem execStS_keeps {z₀ : State} (c : OpCtx) (o : LaOp) (s : State) (h_s : State.Keeps z₀ s) :
    State.Leads z₀ (execStS c o s) := by
  unfold execStS
  repeat' first
    | with_reducible assumption | with_reducible apply State.Leads.next | with_reducible apply State.Leads.ite | (intro)
    | (extract_lets +onlyGivenNames x; refine State.Keeps.cut (p := State.Keeps z₀ x) ?_ ?_;
        (focus (intro hx; clear_value x)); rotate_left; subst x)
    | (extract_lets +onlyGivenNames x; refine State.Keeps.cut (p := State.Keeps z₀ x.1) ?_ ?_;
        (focus (intro hx; clear_value x)); rotate_left; subst x)
    | (extract_lets +onlyGivenNames x; clear_value x) | with_reducible apply Stl.op_keeps
    | with_reducible apply Stl.postPointer_keeps | with_reducible apply Stl.noteFault_keeps
    | with_reducible apply Stl.noteBreach_keeps | with_reducible apply Stl.writeElems_keeps
    | with_reducible apply State.Keeps.ite | with_reducible apply State.Keeps.ite1 | split

theorem State.busAdd_keeps {z₀ : State} (s : State) (fp j : Nat) (d : Int) (h_s : State.Keeps z₀ s) :
    State.Keeps z₀ (State.busAdd s fp j d) := by
  unfold State.busAdd
  repeat' first
    | with_reducible assumption | (intro)
    | (extract_lets +onlyGivenNames x; refine State.Keeps.cut (p := State.Keeps z₀ x) ?_ ?_;
        (focus (intro hx; clear_value x)); rotate_left; subst x)
    | (extract_lets +onlyGivenNames x; refine State.Keeps.cut (p := State.Keeps z₀ x.1) ?_ ?_;
        (focus (intro hx; clear_value x)); rotate_left; subst x)
    | (extract_lets +onlyGivenNames x) | with_reducible apply State.when_keeps | with_reducible apply State.faultEvent_keeps
    | split | (with_reducible refine State.Keeps.mk_same _ rfl rfl rfl rfl rfl rfl rfl rfl ?_)

theorem execBusadd_keeps {z₀ : State} (c : OpCtx) (o : LaOp) (s : State) (h_s : State.Keeps z₀ s) :
    State.Leads z₀ (execBusadd c o s) := by
  unfold execBusadd
  repeat' first
    | with_reducible assumption | with_reducible apply State.Leads.next | with_reducible apply State.Leads.ite | (intro)
    | (extract_lets +onlyGivenNames x; refine State.Keeps.cut (p := State.Keeps z₀ x) ?_ ?_;
        (focus (intro hx; clear_value x)); rotate_left; subst x)
    | (extract_lets +onlyGivenNames x; refine State.Keeps.cut (p := State.Keeps z₀ x.1) ?_ ?_;
        (focus (intro hx; clear_value x)); rotate_left; subst x)
    | (extract_lets +onlyGivenNames x) | with_reducible apply Stl.op_keeps | with_reducible apply State.each_keeps
    | with_reducible apply State.busAdd_keeps | with_reducible apply Stl.noteFault_keeps
    | with_reducible apply Stl.postPointer_keeps | split
    | (with_reducible refine State.Keeps.mk_same _ rfl rfl rfl rfl rfl rfl rfl rfl ?_)

theorem execLi_keeps {z₀ : State} (c : OpCtx) (areg imm : Nat) (s : State) (h_s : State.Keeps z₀ s) :
    State.Leads z₀ (execLi c areg imm s) := by
  unfold execLi
  repeat' first
    | with_reducible assumption | with_reducible apply State.Leads.next | with_reducible apply State.Leads.ite | (intro)
    | (extract_lets +onlyGivenNames x; refine State.Keeps.cut (p := State.Keeps z₀ x) ?_ ?_;
        (focus (intro hx; clear_value x)); rotate_left; subst x)
    | (extract_lets +onlyGivenNames x; clear_value x) | with_reducible apply Stl.op_keeps
    | with_reducible apply State.onRf_keeps | with_reducible apply State.Keeps.ite | split

theorem execLih_keeps {z₀ : State} (c : OpCtx) (areg imm : Nat) (s : State) (h_s : State.Keeps z₀ s) :
    State.Leads z₀ (execLih c areg imm s) := by
  unfold execLih
  repeat' first
    | with_reducible assumption | with_reducible apply State.Leads.next | with_reducible apply State.Leads.ite | (intro)
    | (extract_lets +onlyGivenNames x; refine State.Keeps.cut (p := State.Keeps z₀ x) ?_ ?_;
        (focus (intro hx; clear_value x)); rotate_left; subst x)
    | (extract_lets +onlyGivenNames x; clear_value x) | with_reducible apply Stl.op_keeps
    | with_reducible apply State.onRf_keeps | split

theorem Stl.returnElem_keeps {z₀ : State} (i : Nat) (r : LoadRec) (s : State) (e : LoadElem) (h_s : State.Keeps z₀ s) :
    State.Keeps z₀ (Stl.returnElem i r s e) := by
  unfold Stl.returnElem
  repeat' first
    | with_reducible assumption | (intro)
    | (extract_lets +onlyGivenNames x; refine State.Keeps.cut (p := State.Keeps z₀ x) ?_ ?_;
        (focus (intro hx; clear_value x)); rotate_left; subst x)
    | (extract_lets +onlyGivenNames x; refine State.Keeps.cut (p := State.Keeps z₀ x.1) ?_ ?_;
        (focus (intro hx; clear_value x)); rotate_left; subst x)
    | (extract_lets +onlyGivenNames x; clear_value x) | with_reducible apply State.after_keeps
    | with_reducible apply Mem.sharedBytes_keeps | with_reducible apply State.setStall_keeps
    | with_reducible apply State.foldl_keeps | with_reducible apply State.foldl1_keeps
    | with_reducible apply State.Keeps.ite | with_reducible apply State.Keeps.ite1 | split

theorem Stl.dataReturn_keeps {z₀ : State} (hay : Bool) (i d : Nat) (s : State) (h_s : State.Keeps z₀ s) :
    State.Keeps z₀ (Stl.dataReturn hay i d s) := by
  unfold Stl.dataReturn
  repeat' first
    | with_reducible assumption | (intro)
    | (extract_lets +onlyGivenNames x; refine State.Keeps.cut (p := State.Keeps z₀ x) ?_ ?_;
        (focus (intro hx; clear_value x)); rotate_left; subst x)
    | (extract_lets +onlyGivenNames x; refine State.Keeps.cut (p := State.Keeps z₀ x.1) ?_ ?_;
        (focus (intro hx; clear_value x)); rotate_left; subst x)
    | (extract_lets +onlyGivenNames x; clear_value x) | with_reducible apply State.setStall_keeps
    | with_reducible apply Stl.returnElem_keeps | with_reducible apply State.each_keeps | split
    | (with_reducible refine State.Keeps.mk_same _ rfl rfl rfl rfl rfl rfl rfl rfl ?_)

theorem Stl.storeWritten_keeps {z₀ : State} (hay : Bool) (i : Nat) (s : State) (h_s : State.Keeps z₀ s) :
    State.Keeps z₀ (Stl.storeWritten hay i s) := by
  unfold Stl.storeWritten
  repeat' first
    | with_reducible assumption
    | (extract_lets +onlyGivenNames x; refine State.Keeps.cut (p := State.Keeps z₀ x) ?_ ?_;
        (focus (intro hx; clear_value x)); rotate_left; subst x)
    | (extract_lets +onlyGivenNames x; clear_value x) | with_reducible apply State.setStall_keeps | split
    | (with_reducible refine State.Keeps.mk_same _ rfl rfl rfl rfl rfl rfl rfl rfl ?_)

theorem execLdbDataReturn_keeps {z₀ : State} (stall vd : Nat) (s : State) (h_s : State.Keeps z₀ s) :
    State.Leads z₀ (execLdbDataReturn stall vd s) := by
  unfold execLdbDataReturn
  repeat' first
    | with_reducible assumption | with_reducible apply State.Leads.next | with_reducible apply State.Leads.ite
    | with_reducible apply Stl.dataReturn_keeps

theorem execStbWritten_keeps {z₀ : State} (stall : Nat) (s : State) (h_s : State.Keeps z₀ s) :
    State.Leads z₀ (execStbWritten stall s) := by
  unfold execStbWritten
  repeat' first
    | with_reducible assumption | with_reducible apply State.Leads.next | with_reducible apply State.Leads.ite
    | with_reducible apply Stl.storeWritten_keeps

theorem execLdhDataReturn_keeps {z₀ : State} (stall vd : Nat) (s : State) (h_s : State.Keeps z₀ s) :
    State.Leads z₀ (execLdhDataReturn stall vd s) := by
  unfold execLdhDataReturn
  repeat' first
    | with_reducible assumption | with_reducible apply State.Leads.next | with_reducible apply State.Leads.ite
    | with_reducible apply Stl.dataReturn_keeps

theorem execSthWritten_keeps {z₀ : State} (stall : Nat) (s : State) (h_s : State.Keeps z₀ s) :
    State.Leads z₀ (execSthWritten stall s) := by
  unfold execSthWritten
  repeat' first
    | with_reducible assumption | with_reducible apply State.Leads.next | with_reducible apply State.Leads.ite
    | with_reducible apply Stl.storeWritten_keeps

end StallMem

section MtxTx

theorem Mtx.enqueue_keeps {z₀ : State} (s : State) (r : MtxReq) (waited : Nat) (h_s : State.Keeps z₀ s) :
    State.Keeps z₀ (Mtx.enqueue s r waited) := by
  unfold Mtx.enqueue
  repeat' first
    | with_reducible assumption | (intro)
    | (extract_lets +onlyGivenNames x; refine State.Keeps.cut (p := State.Keeps z₀ x) ?_ ?_;
        (focus (intro hx; clear_value x)); rotate_left; subst x)
    | (extract_lets +onlyGivenNames x; clear_value x) | with_reducible apply State.Keeps.ite | split
    | (with_reducible refine State.Keeps.mk_same _ rfl rfl rfl rfl rfl rfl rfl rfl ?_)

theorem Mtx.dequeue_keeps {z₀ : State} (s : State) (r : MtxReq) (h_s : State.Keeps z₀ s) :
    State.Keeps z₀ (Mtx.dequeue s r) := by
  unfold Mtx.dequeue
  repeat' first
    | with_reducible assumption | (intro)
    | (extract_lets +onlyGivenNames x; refine State.Keeps.cut (p := State.Keeps z₀ x) ?_ ?_;
        (focus (intro hx; clear_value x)); rotate_left; subst x)
    | (extract_lets +onlyGivenNames x; clear_value x)
    | (with_reducible refine State.Keeps.mk_same _ rfl rfl rfl rfl rfl rfl rfl rfl ?_)

theorem Mtx.error_keeps {z₀ : State} (s : State) (code m : Nat) (write : Bool) (a : Nat) (h_s : State.Keeps z₀ s) :
    State.Keeps z₀ (Mtx.error s code m write a) := by
  unfold Mtx.error
  repeat' first
    | with_reducible assumption | (intro)
    | (extract_lets +onlyGivenNames x; refine State.Keeps.cut (p := State.Keeps z₀ x) ?_ ?_;
        (focus (intro hx; clear_value x)); rotate_left; subst x)
    | (extract_lets +onlyGivenNames x; clear_value x) | with_reducible apply State.setFlag_keeps
    | with_reducible apply State.setFld_keeps | with_reducible apply State.incCnt_keeps
    | with_reducible apply State.setFire_keeps | with_reducible apply State.Keeps.ite | split

theorem Mtx.record_keeps {z₀ : State} (s : State) (code : MtxResp) (m : Nat) (write : Bool) (a : Nat) (h_s : State.Keeps z₀ s) :
    State.Keeps z₀ (Mtx.record s code m write a) := by
  unfold Mtx.record
  repeat' first
    | with_reducible assumption
    | (extract_lets +onlyGivenNames x; refine State.Keeps.cut (p := State.Keeps z₀ x) ?_ ?_;
        (focus (intro hx; clear_value x)); rotate_left; subst x)
    | (extract_lets +onlyGivenNames x; refine State.Keeps.cut (p := State.Keeps z₀ x.1) ?_ ?_;
        (focus (intro hx; clear_value x)); rotate_left; subst x)
    | (extract_lets +onlyGivenNames x; clear_value x) | with_reducible apply Mtx.error_keeps | split
    | (with_reducible refine State.Keeps.mk_same _ rfl rfl rfl rfl rfl rfl rfl rfl ?_)

theorem Mtx.word_keeps {z₀ : State} (s : State) (a : Nat) (h_s : State.Keeps z₀ s) :
    State.Keeps z₀ (Mtx.word s a).1 := by
  unfold Mtx.word
  repeat' first
    | with_reducible assumption | (intro)
    | (extract_lets +onlyGivenNames x; refine State.Keeps.cut (p := State.Keeps z₀ x) ?_ ?_;
        (focus (intro hx; clear_value x)); rotate_left; subst x)
    | (extract_lets +onlyGivenNames x; refine State.Keeps.cut (p := State.Keeps z₀ x.1) ?_ ?_;
        (focus (intro hx; clear_value x)); rotate_left; subst x)
    | (extract_lets +onlyGivenNames x; clear_value x) | with_reducible apply Reg.read_keeps
    | with_reducible apply State.drew_keeps | with_reducible apply State.Keeps.ite | with_reducible apply State.Keeps.ite1
    | split | (with_reducible refine State.Keeps.mk_same _ rfl rfl rfl rfl rfl rfl rfl rfl ?_)

theorem Mtx.data_keeps {z₀ : State} (s : State) (cells : List (Nat × Byte)) (h_s : State.Keeps z₀ s) :
    State.Keeps z₀ (Mtx.data s cells).1 := by
  unfold Mtx.data
  repeat' first
    | with_reducible assumption | (intro) | with_reducible apply Mtx.word_keeps | with_reducible apply State.foldl_keeps
    | with_reducible apply State.foldl1_keeps | with_reducible apply State.Keeps.ite1

theorem Mtx.respond_keeps {z₀ : State} (s : State) (m : Nat) (write : Bool) (code : MtxResp) (ws : List (Nat × Word)) (h_s :
    State.Keeps z₀ s) :
    State.Keeps z₀ (Mtx.respond s m write code ws) := by
  unfold Mtx.respond
  repeat' first
    | with_reducible assumption | (intro) | with_reducible apply State.send_keeps | with_reducible apply State.each_keeps
    | with_reducible apply State.hostOut_keeps | with_reducible apply State.when_keeps

theorem Mtx.read_keeps {z₀ : State} (s : State) (cells : List (Nat × Byte)) (a : Nat) (h_s : State.Keeps z₀ s) :
    State.Keeps z₀ (Mtx.read s cells a) := by
  unfold Mtx.read
  repeat' first
    | with_reducible assumption | (intro) | with_reducible apply Mem.readNote_keeps | with_reducible apply State.Keeps.ite
    | with_reducible apply State.Keeps.ite1 | split

theorem Mtx.progByte_keeps {z₀ : State} (s : State) (c : Nat × Byte) (h_s : State.Keeps z₀ s) :
    State.Keeps z₀ (Mtx.progByte s c) := by
  unfold Mtx.progByte
  repeat' first
    | with_reducible assumption
    | (extract_lets +onlyGivenNames x; refine State.Keeps.cut (p := State.Keeps z₀ x) ?_ ?_;
        (focus (intro hx; clear_value x)); rotate_left; subst x)
    | (extract_lets +onlyGivenNames x; refine State.Keeps.cut (p := State.Keeps z₀ x.1) ?_ ?_;
        (focus (intro hx; clear_value x)); rotate_left; subst x)
    | (extract_lets +onlyGivenNames x; clear_value x) | with_reducible apply State.setStall_keeps | split
    | (with_reducible refine State.Keeps.mk_same _ rfl rfl rfl rfl rfl rfl rfl rfl ?_)

theorem Hst.writeMem_keeps {z₀ : State} (s : State) (cells : List (Nat × Byte)) (h_s : State.Keeps z₀ s) :
    State.Keeps z₀ (Hst.writeMem s cells) := by
  unfold Hst.writeMem
  repeat' first
    | with_reducible assumption | (intro) | with_reducible apply State.incCnt_keeps | with_reducible apply Mem.write_keeps
    | with_reducible apply State.Keeps.ite | split

theorem Hst.writeTack_keeps {z₀ : State} (s : State) (cells : List (Nat × Byte)) (h_s : State.Keeps z₀ s) :
    State.Keeps z₀ (Hst.writeTack s cells) := by
  unfold Hst.writeTack
  repeat' first
    | with_reducible assumption | (intro)
    | (extract_lets +onlyGivenNames x; refine State.Keeps.cut (p := State.Keeps z₀ x) ?_ ?_;
        (focus (intro hx; clear_value x)); rotate_left; subst x)
    | (extract_lets +onlyGivenNames x; refine State.Keeps.cut (p := State.Keeps z₀ x.1) ?_ ?_;
        (focus (intro hx; clear_value x)); rotate_left; subst x)
    | (extract_lets +onlyGivenNames x; clear_value x) | with_reducible apply State.incCnt_keeps
    | with_reducible apply Mem.write_keeps | with_reducible apply Bale.setState_keeps
    | with_reducible apply State.Keeps.ite | split
    | (with_reducible refine State.Keeps.mk_same _ rfl rfl rfl rfl rfl rfl rfl rfl ?_)

theorem Mtx.write_keeps {z₀ : State} (s : State) (m : Nat) (cells : List (Nat × Byte)) (a : Nat) (h_s : State.Keeps z₀ s) :
    State.Keeps z₀ (Mtx.write s m cells a) := by
  unfold Mtx.write
  repeat' first
    | with_reducible assumption | (intro)
    | (extract_lets +onlyGivenNames x; refine State.Keeps.cut (p := State.Keeps z₀ x) ?_ ?_;
        (focus (intro hx; clear_value x)); rotate_left; subst x)
    | (extract_lets +onlyGivenNames x; refine State.Keeps.cut (p := State.Keeps z₀ x.1) ?_ ?_;
        (focus (intro hx; clear_value x)); rotate_left; subst x)
    | (extract_lets +onlyGivenNames x; clear_value x) | with_reducible apply State.each_keeps
    | with_reducible apply Reg.write_keeps | with_reducible apply Hst.writeTack_keeps
    | with_reducible apply Mem.write_keeps | with_reducible apply State.busAdd_keeps
    | with_reducible apply Mtx.progByte_keeps | with_reducible apply Hst.writeMem_keeps
    | with_reducible apply State.Keeps.ite | split
    | (with_reducible refine State.Keeps.mk_same _ rfl rfl rfl rfl rfl rfl rfl rfl ?_)

theorem Mtx.effect_keeps {z₀ : State} (s : State) (r : MtxReq) (h_s : State.Keeps z₀ s) :
    State.Keeps z₀ (Mtx.effect s r).1 := by
  unfold Mtx.effect
  repeat' first
    | with_reducible assumption | (intro)
    | (extract_lets +onlyGivenNames x; refine State.Keeps.cut (p := State.Keeps z₀ x) ?_ ?_;
        (focus (intro hx; clear_value x)); rotate_left; subst x)
    | (extract_lets +onlyGivenNames x; refine State.Keeps.cut (p := State.Keeps z₀ x.1) ?_ ?_;
        (focus (intro hx; clear_value x)); rotate_left; subst x)
    | (extract_lets +onlyGivenNames x; clear_value x) | with_reducible apply Mtx.write_keeps
    | with_reducible apply Mtx.data_keeps | with_reducible apply Mtx.read_keeps | with_reducible apply State.Keeps.ite
    | with_reducible apply State.Keeps.ite1 | split

theorem Mtx.note_keeps {z₀ : State} (s : State) (key n : Nat) (h_s : State.Keeps z₀ s) :
    State.Keeps z₀ (Mtx.note s key n) := by
  unfold Mtx.note
  repeat' first
    | with_reducible assumption
    | (extract_lets +onlyGivenNames x; refine State.Keeps.cut (p := State.Keeps z₀ x) ?_ ?_;
        (focus (intro hx; clear_value x)); rotate_left; subst x)
    | (extract_lets +onlyGivenNames x; clear_value x)
    | (with_reducible refine State.Keeps.mk_same _ rfl rfl rfl rfl rfl rfl rfl rfl ?_)

theorem Mtx.apply_keeps {z₀ : State} (s : State) (x : MtxTx) (h_s : State.Keeps z₀ s) :
    State.Keeps z₀ (Mtx.apply s x).1 := by
  unfold Mtx.apply
  repeat' first
    | with_reducible assumption
    | (extract_lets +onlyGivenNames x; refine State.Keeps.cut (p := State.Keeps z₀ x) ?_ ?_;
        (focus (intro hx; clear_value x)); rotate_left; subst x)
    | (extract_lets +onlyGivenNames x; refine State.Keeps.cut (p := State.Keeps z₀ x.1) ?_ ?_;
        (focus (intro hx; clear_value x)); rotate_left; subst x)
    | (extract_lets +onlyGivenNames x; clear_value x) | with_reducible apply Mtx.effect_keeps
    | with_reducible apply Mtx.note_keeps | with_reducible apply State.Keeps.ite1 | split

theorem Mtx.serve_keeps {z₀ : State} (s : State) (x : MtxTx) (h_s : State.Keeps z₀ s) :
    State.Keeps z₀ (Mtx.serve s x) := by
  unfold Mtx.serve
  repeat' first
    | with_reducible assumption | (intro)
    | (extract_lets +onlyGivenNames x; refine State.Keeps.cut (p := State.Keeps z₀ x) ?_ ?_;
        (focus (intro hx; clear_value x)); rotate_left; subst x)
    | (extract_lets +onlyGivenNames x; refine State.Keeps.cut (p := State.Keeps z₀ x.1) ?_ ?_;
        (focus (intro hx; clear_value x)); rotate_left; subst x)
    | (extract_lets +onlyGivenNames x; clear_value x) | with_reducible apply Mtx.apply_keeps
    | with_reducible apply Mtx.respond_keeps | split
    | (with_reducible refine State.Keeps.mk_same _ rfl rfl rfl rfl rfl rfl rfl rfl ?_)

theorem Mtx.serveAll_keeps {z₀ : State} (s : State) (p : MtxTx → Bool) (h_s : State.Keeps z₀ s) :
    State.Keeps z₀ (Mtx.serveAll s p) := by
  unfold Mtx.serveAll
  repeat' first
    | with_reducible assumption | (intro) | with_reducible apply State.each_keeps | with_reducible apply Mtx.serve_keeps

theorem Mtx.go_keeps {z₀ : State} (s : State) (r : MtxReq) (fate : MtxFate) (h_s : State.Keeps z₀ s) :
    State.Keeps z₀ (Mtx.go s r fate) := by
  unfold Mtx.go
  repeat' first
    | with_reducible assumption | (intro)
    | (extract_lets +onlyGivenNames x; refine State.Keeps.cut (p := State.Keeps z₀ x) ?_ ?_;
        (focus (intro hx; clear_value x)); rotate_left; subst x)
    | (extract_lets +onlyGivenNames x; refine State.Keeps.cut (p := State.Keeps z₀ x.1) ?_ ?_;
        (focus (intro hx; clear_value x)); rotate_left; subst x)
    | (extract_lets +onlyGivenNames x) | with_reducible apply Mtx.dequeue_keeps | with_reducible apply State.setFld_keeps
    | with_reducible apply Mtx.serveAll_keeps | with_reducible apply Mtx.apply_keeps
    | with_reducible apply Mtx.serve_keeps | with_reducible apply Mtx.checkFail_keeps | split
    | (with_reducible refine State.Keeps.mk_same _ rfl rfl rfl rfl rfl rfl rfl rfl ?_)

theorem execMatrixTransaction_keeps {z₀ : State} (r : MtxReq) (waited slot : Nat) (rivals : List MtxRival) (fate : MtxFate) (s :
    State) (h_s : State.Keeps z₀ s) :
    State.Leads z₀ (execMatrixTransaction r waited slot rivals fate s) := by
  unfold execMatrixTransaction
  repeat' first
    | with_reducible assumption | with_reducible apply State.Leads.next | with_reducible apply State.Leads.ite | (intro)
    | (extract_lets +onlyGivenNames x; refine State.Keeps.cut (p := State.Keeps z₀ x) ?_ ?_;
        (focus (intro hx; clear_value x)); rotate_left; subst x)
    | (extract_lets +onlyGivenNames x; refine State.Keeps.cut (p := State.Keeps z₀ x.1) ?_ ?_;
        (focus (intro hx; clear_value x)); rotate_left; subst x)
    | (extract_lets +onlyGivenNames x; clear_value x) | with_reducible apply Mtx.serveAll_keeps
    | with_reducible apply Mtx.enqueue_keeps | with_reducible apply Mtx.respond_keeps
    | with_reducible apply Mtx.record_keeps | with_reducible apply Mtx.dequeue_keeps | with_reducible apply Mtx.go_keeps
    | with_reducible apply State.Keeps.ite | with_reducible apply State.Keeps.ite1 | split
    | (with_reducible refine State.Keeps.mk_same _ rfl rfl rfl rfl rfl rfl rfl rfl ?_)

theorem Mtx.again_keeps {z₀ : State} (s : State) (x : MtxTx) (h_s : State.Keeps z₀ s) :
    State.Keeps z₀ (Mtx.again s x) := by
  unfold Mtx.again
  repeat' first
    | with_reducible assumption | (intro)
    | (extract_lets +onlyGivenNames x; refine State.Keeps.cut (p := State.Keeps z₀ x) ?_ ?_;
        (focus (intro hx; clear_value x)); rotate_left; subst x)
    | (extract_lets +onlyGivenNames x; refine State.Keeps.cut (p := State.Keeps z₀ x.1) ?_ ?_;
        (focus (intro hx; clear_value x)); rotate_left; subst x)
    | (extract_lets +onlyGivenNames x; clear_value x) | with_reducible apply State.incCnt_keeps
    | with_reducible apply Mtx.respond_keeps | with_reducible apply Mtx.record_keeps
    | with_reducible apply Mtx.serve_keeps | with_reducible apply State.Keeps.ite | with_reducible apply State.Keeps.ite1
    | split

theorem Mtx.againStalls_keeps {z₀ : State} (s : State) (h_s : State.Keeps z₀ s) :
    State.Keeps z₀ (Mtx.againStalls s) := by
  unfold Mtx.againStalls
  repeat' first
    | with_reducible assumption | (intro)
    | (extract_lets +onlyGivenNames x; refine State.Keeps.cut (p := State.Keeps z₀ x) ?_ ?_;
        (focus (intro hx; clear_value x)); rotate_left; subst x)
    | (extract_lets +onlyGivenNames x; clear_value x) | with_reducible apply State.drew_keeps
    | with_reducible apply State.addCnt_keeps | with_reducible apply State.Keeps.ite | split

theorem execReissueComplete_keeps {z₀ : State} (s : State) (h_s : State.Keeps z₀ s) :
    State.Leads z₀ (execReissueComplete s) := by
  unfold execReissueComplete
  repeat' first
    | with_reducible assumption | with_reducible apply State.Leads.next | with_reducible apply State.Leads.ite | (intro)
    | (extract_lets +onlyGivenNames x; refine State.Keeps.cut (p := State.Keeps z₀ x) ?_ ?_;
        (focus (intro hx; clear_value x)); rotate_left; subst x)
    | (extract_lets +onlyGivenNames x; clear_value x) | with_reducible apply Mtx.againStalls_keeps
    | with_reducible apply Mtx.again_keeps | with_reducible apply State.foldl_keeps
    | with_reducible apply State.foldl1_keeps | with_reducible apply State.Keeps.ite | split
    | (with_reducible refine State.Keeps.mk_same _ rfl rfl rfl rfl rfl rfl rfl rfl ?_)

theorem execFastMatrixReset_keeps {z₀ : State} (s : State) (h_s : State.Keeps z₀ s) :
    State.Leads z₀ (execFastMatrixReset s) := by
  unfold execFastMatrixReset
  repeat' first
    | with_reducible assumption | with_reducible apply State.Leads.next | with_reducible apply State.Leads.ite | (intro)
    | (extract_lets +onlyGivenNames x; refine State.Keeps.cut (p := State.Keeps z₀ x) ?_ ?_;
        (focus (intro hx; clear_value x)); rotate_left; subst x)
    | (extract_lets +onlyGivenNames x; clear_value x) | with_reducible apply Mtx.switchTo_keeps
    | with_reducible apply Mtx.unplan_keeps | with_reducible apply State.setFld_keeps
    | with_reducible apply State.Keeps.ite | split
    | (with_reducible refine State.Keeps.mk_same _ rfl rfl rfl rfl rfl rfl rfl rfl ?_)

theorem execPlannedSwitch_keeps {z₀ : State} (s : State) (h_s : State.Keeps z₀ s) :
    State.Leads z₀ (execPlannedSwitch s) := by
  unfold execPlannedSwitch
  repeat' first
    | with_reducible assumption | with_reducible apply State.Leads.next | with_reducible apply State.Leads.ite | (intro)
    | (extract_lets +onlyGivenNames x; refine State.Keeps.cut (p := State.Keeps z₀ x) ?_ ?_;
        (focus (intro hx; clear_value x)); rotate_left; subst x)
    | (extract_lets +onlyGivenNames x; refine State.Keeps.cut (p := State.Keeps z₀ x.1) ?_ ?_;
        (focus (intro hx; clear_value x)); rotate_left; subst x)
    | (extract_lets +onlyGivenNames x; clear_value x) | with_reducible apply Mtx.switchTo_keeps
    | with_reducible apply Mtx.unplan_keeps | with_reducible apply Mtx.serveAll_keeps
    | with_reducible apply State.Keeps.ite | split
    | (with_reducible refine State.Keeps.mk_same _ rfl rfl rfl rfl rfl rfl rfl rfl ?_)

theorem Hst.write_keeps {z₀ : State} (s : State) (cells : List (Nat × Byte)) (h_s : State.Keeps z₀ s) :
    State.Keeps z₀ (Hst.write s cells) := by
  unfold Hst.write
  repeat' first
    | with_reducible assumption | (intro)
    | (extract_lets +onlyGivenNames x; refine State.Keeps.cut (p := State.Keeps z₀ x) ?_ ?_;
        (focus (intro hx; clear_value x)); rotate_left; subst x)
    | (extract_lets +onlyGivenNames x; refine State.Keeps.cut (p := State.Keeps z₀ x.1) ?_ ?_;
        (focus (intro hx; clear_value x)); rotate_left; subst x)
    | (extract_lets +onlyGivenNames x; clear_value x) | with_reducible apply Mtx.record_keeps
    | with_reducible apply Hst.writeTack_keeps | with_reducible apply Hst.writeMem_keeps
    | with_reducible apply State.Keeps.ite | with_reducible apply State.Keeps.ite1 | split
    | (with_reducible refine State.Keeps.mk_same _ rfl rfl rfl rfl rfl rfl rfl rfl ?_)

theorem execMemwinWrite_keeps {z₀ : State} (cells : List (Nat × Byte)) (s : State) (h_s : State.Keeps z₀ s) :
    State.Leads z₀ (execMemwinWrite cells s) := by
  unfold execMemwinWrite
  repeat' first
    | with_reducible assumption | with_reducible apply State.Leads.next | with_reducible apply State.Leads.ite | (intro)
    | with_reducible apply State.bar_keeps | with_reducible apply Hst.write_keeps

theorem execTackRoomWrite_keeps {z₀ : State} (cells : List (Nat × Byte)) (s : State) (h_s : State.Keeps z₀ s) :
    State.Leads z₀ (execTackRoomWrite cells s) := by
  unfold execTackRoomWrite
  repeat' first
    | with_reducible assumption | with_reducible apply State.Leads.next | with_reducible apply State.Leads.ite | (intro)
    | with_reducible apply State.bar_keeps | with_reducible apply Hst.write_keeps

end MtxTx

section StallCtl

theorem execNopBundle_keeps {z₀ : State} (c : OpCtx) (s : State) (h_s : State.Keeps z₀ s) :
    State.Leads z₀ (execNopBundle c s) := .next (Stl.op_keeps _ _ _ _ _ (fun _ h => h) h_s)

theorem execIllegal_keeps {z₀ : State} (c : OpCtx) (s : State) (h_s : State.Keeps z₀ s) :
    State.Leads z₀ (execIllegal c s) := by
  unfold execIllegal
  repeat' first
    | with_reducible assumption | with_reducible apply State.Leads.next | with_reducible apply State.Leads.ite | (intro)
    | (extract_lets +onlyGivenNames x; refine State.Keeps.cut (p := State.Keeps z₀ x) ?_ ?_;
        (focus (intro hx; clear_value x)); rotate_left; subst x)
    | (extract_lets +onlyGivenNames x; clear_value x) | with_reducible apply Stl.fetch_keeps
    | with_reducible apply Stl.except_keeps | with_reducible apply State.Keeps.ite | split

theorem execPmemUncorr_keeps {z₀ : State} (c : OpCtx) (s : State) (h_s : State.Keeps z₀ s) :
    State.Leads z₀ (execPmemUncorr c s) := by
  unfold execPmemUncorr
  repeat' first
    | with_reducible assumption | with_reducible apply State.Leads.next | with_reducible apply State.Leads.ite | (intro)
    | (extract_lets +onlyGivenNames x; refine State.Keeps.cut (p := State.Keeps z₀ x) ?_ ?_;
        (focus (intro hx; clear_value x)); rotate_left; subst x)
    | (extract_lets +onlyGivenNames x; clear_value x) | with_reducible apply Stl.except_keeps
    | with_reducible apply State.setStall_keeps | with_reducible apply State.Keeps.ite | split
    | (with_reducible refine State.Keeps.mk_same _ rfl rfl rfl rfl rfl rfl rfl rfl ?_)

theorem execFetchEnd_keeps {z₀ : State} (c : OpCtx) (s : State) (h_s : State.Keeps z₀ s) :
    State.Leads z₀ (execFetchEnd c s) := by
  unfold execFetchEnd
  repeat' first
    | with_reducible assumption | with_reducible apply State.Leads.next | with_reducible apply State.Leads.ite | (intro)
    | (extract_lets +onlyGivenNames x; refine State.Keeps.cut (p := State.Keeps z₀ x) ?_ ?_;
        (focus (intro hx; clear_value x)); rotate_left; subst x)
    | (extract_lets +onlyGivenNames x; clear_value x) | with_reducible apply Stl.except_keeps
    | with_reducible apply State.Keeps.ite | split

theorem Stl.setCtl_keeps {z₀ : State} (c : OpCtx) (a : CtlAct) (s : State) (h_s : State.Keeps z₀ s) :
    State.Keeps z₀ (Stl.setCtl c a s) := by
  unfold Stl.setCtl
  repeat' first
    | with_reducible assumption
    | (extract_lets +onlyGivenNames x; refine State.Keeps.cut (p := State.Keeps z₀ x) ?_ ?_;
        (focus (intro hx; clear_value x)); rotate_left; subst x)
    | (extract_lets +onlyGivenNames x; clear_value x) | with_reducible apply State.setStall_keeps
    | (with_reducible refine State.Keeps.mk_same _ rfl rfl rfl rfl rfl rfl rfl rfl ?_)

theorem execWaitf_keeps {z₀ : State} (c : OpCtx) (s : State) (h_s : State.Keeps z₀ s) :
    State.Leads z₀ (execWaitf c s) := by
  unfold execWaitf
  repeat' first
    | with_reducible assumption | with_reducible apply State.Leads.next | with_reducible apply State.Leads.ite | (intro)
    | with_reducible apply Stl.op_keeps | with_reducible apply Stl.setCtl_keeps

theorem execSync_keeps {z₀ : State} (c : OpCtx) (s : State) (h_s : State.Keeps z₀ s) :
    State.Leads z₀ (execSync c s) := by
  unfold execSync
  repeat' first
    | with_reducible assumption | with_reducible apply State.Leads.next | with_reducible apply State.Leads.ite | (intro)
    | (extract_lets +onlyGivenNames x; refine State.Keeps.cut (p := State.Keeps z₀ x) ?_ ?_;
        (focus (intro hx; clear_value x)); rotate_left; subst x)
    | (extract_lets +onlyGivenNames x; clear_value x) | with_reducible apply Stl.op_keeps
    | with_reducible apply State.setStall_keeps | split
    | (with_reducible refine State.Keeps.mk_same _ rfl rfl rfl rfl rfl rfl rfl rfl ?_)

theorem execSyncRelease_keeps {z₀ : State} (c : OpCtx) (s : State) (h_s : State.Keeps z₀ s) :
    State.Leads z₀ (execSyncRelease c s) := by
  unfold execSyncRelease
  repeat' first
    | with_reducible assumption | with_reducible apply State.Leads.next | with_reducible apply State.Leads.ite | (intro)
    | (extract_lets +onlyGivenNames x; refine State.Keeps.cut (p := State.Keeps z₀ x) ?_ ?_;
        (focus (intro hx; clear_value x)); rotate_left; subst x)
    | (extract_lets +onlyGivenNames x; clear_value x) | with_reducible apply State.setStall_keeps
    | with_reducible apply Stl.complete_keeps | with_reducible apply State.Keeps.ite | split
    | (with_reducible refine State.Keeps.mk_same _ rfl rfl rfl rfl rfl rfl rfl rfl ?_)

theorem execRet_keeps {z₀ : State} (c : OpCtx) (s : State) (h_s : State.Keeps z₀ s) :
    State.Leads z₀ (execRet c s) := by
  unfold execRet
  repeat' first
    | with_reducible assumption | with_reducible apply State.Leads.next | with_reducible apply State.Leads.ite | (intro)
    | with_reducible apply Stl.op_keeps | with_reducible apply Stl.except_keeps | with_reducible apply Stl.setCtl_keeps
    | with_reducible apply State.Keeps.ite | split

theorem execBr_keeps {z₀ : State} (c : OpCtx) (target : Nat) (s : State) (h_s : State.Keeps z₀ s) :
    State.Leads z₀ (execBr c target s) := by
  unfold execBr
  repeat' first
    | with_reducible assumption | with_reducible apply State.Leads.next | with_reducible apply State.Leads.ite | (intro)
    | with_reducible apply Stl.op_keeps | with_reducible apply Stl.setCtl_keeps

theorem Stl.brc_keeps {z₀ : State} (c : OpCtx) (ck target : Nat) (cond : Word → Bool) (s : State) (h_s : State.Keeps z₀ s) :
    State.Keeps z₀ (Stl.brc c ck target cond s) := by
  unfold Stl.brc
  repeat' first
    | with_reducible assumption | (intro) | with_reducible apply Stl.op_keeps | with_reducible apply Stl.setCtl_keeps
    | with_reducible apply State.Keeps.ite | split

theorem execBrcAny_keeps {z₀ : State} (c : OpCtx) (ck target : Nat) (s : State) (h_s : State.Keeps z₀ s) :
    State.Leads z₀ (execBrcAny c ck target s) := by
  unfold execBrcAny
  repeat' first
    | with_reducible assumption | with_reducible apply State.Leads.next | with_reducible apply State.Leads.ite | (intro)
    | with_reducible apply Stl.brc_keeps

theorem execBrcNone_keeps {z₀ : State} (c : OpCtx) (ck target : Nat) (s : State) (h_s : State.Keeps z₀ s) :
    State.Leads z₀ (execBrcNone c ck target s) := by
  unfold execBrcNone
  repeat' first
    | with_reducible assumption | with_reducible apply State.Leads.next | with_reducible apply State.Leads.ite | (intro)
    | with_reducible apply Stl.brc_keeps

theorem execBrcAll_keeps {z₀ : State} (c : OpCtx) (ck target : Nat) (s : State) (h_s : State.Keeps z₀ s) :
    State.Leads z₀ (execBrcAll c ck target s) := by
  unfold execBrcAll
  repeat' first
    | with_reducible assumption | with_reducible apply State.Leads.next | with_reducible apply State.Leads.ite | (intro)
    | with_reducible apply Stl.brc_keeps

theorem execBrcNall_keeps {z₀ : State} (c : OpCtx) (ck target : Nat) (s : State) (h_s : State.Keeps z₀ s) :
    State.Leads z₀ (execBrcNall c ck target s) := by
  unfold execBrcNall
  repeat' first
    | with_reducible assumption | with_reducible apply State.Leads.next | with_reducible apply State.Leads.ite | (intro)
    | with_reducible apply Stl.brc_keeps

theorem execCall_keeps {z₀ : State} (c : OpCtx) (target : Nat) (s : State) (h_s : State.Keeps z₀ s) :
    State.Leads z₀ (execCall c target s) := by
  unfold execCall
  repeat' first
    | with_reducible assumption | with_reducible apply State.Leads.next | with_reducible apply State.Leads.ite | (intro)
    | with_reducible apply Stl.op_keeps | with_reducible apply Stl.except_keeps | with_reducible apply Stl.setCtl_keeps
    | with_reducible apply State.Keeps.ite | split

theorem Stl.loop_keeps {z₀ : State} (c : OpCtx) (n last : Nat) (t : State) (h_t : State.Keeps z₀ t) :
    State.Keeps z₀ (Stl.loop c n last t) := by
  unfold Stl.loop
  repeat' first
    | with_reducible assumption | (intro) | with_reducible apply Stl.setCtl_keeps | with_reducible apply Stl.except_keeps
    | with_reducible apply State.Keeps.ite | split

theorem execLoop_keeps {z₀ : State} (c : OpCtx) (gs last : Nat) (s : State) (h_s : State.Keeps z₀ s) :
    State.Leads z₀ (execLoop c gs last s) := by
  unfold execLoop
  repeat' first
    | with_reducible assumption | with_reducible apply State.Leads.next | with_reducible apply State.Leads.ite | (intro)
    | with_reducible apply Stl.op_keeps | with_reducible apply Stl.loop_keeps

theorem execLoopi_keeps {z₀ : State} (c : OpCtx) (count last : Nat) (s : State) (h_s : State.Keeps z₀ s) :
    State.Leads z₀ (execLoopi c count last s) := by
  unfold execLoopi
  repeat' first
    | with_reducible assumption | with_reducible apply State.Leads.next | with_reducible apply State.Leads.ite | (intro)
    | with_reducible apply Stl.op_keeps | with_reducible apply Stl.loop_keeps

theorem Stl.alu_keeps {z₀ : State} (c : OpCtx) (gd ga gb : Nat) (f : Word → Word → Word) (s : State) (h_s : State.Keeps z₀ s) :
    State.Keeps z₀ (Stl.alu c gd ga gb f s) := by
  unfold Stl.alu
  repeat' first
    | with_reducible assumption | (intro)
    | (extract_lets +onlyGivenNames x; refine State.Keeps.cut (p := State.Keeps z₀ x) ?_ ?_;
        (focus (intro hx; clear_value x)); rotate_left; subst x)
    | (extract_lets +onlyGivenNames x; clear_value x) | with_reducible apply Stl.op_keeps
    | with_reducible apply State.onRf_keeps | split

theorem Stl.alui_keeps {z₀ : State} (c : OpCtx) (gd ga imm : Nat) (f : Word → Word → Word) (s : State) (h_s : State.Keeps z₀ s) :
    State.Keeps z₀ (Stl.alui c gd ga imm f s) := by
  unfold Stl.alui
  repeat' first
    | with_reducible assumption | (intro)
    | (extract_lets +onlyGivenNames x; refine State.Keeps.cut (p := State.Keeps z₀ x) ?_ ?_;
        (focus (intro hx; clear_value x)); rotate_left; subst x)
    | (extract_lets +onlyGivenNames x; clear_value x) | with_reducible apply Stl.op_keeps
    | with_reducible apply State.onRf_keeps | split

theorem execAdd_keeps {z₀ : State} (c : OpCtx) (gd ga gb : Nat) (s : State) (h_s : State.Keeps z₀ s) :
    State.Leads z₀ (execAdd c gd ga gb s) := by
  unfold execAdd
  repeat' first
    | with_reducible assumption | with_reducible apply State.Leads.next | with_reducible apply State.Leads.ite | (intro)
    | with_reducible apply Stl.alu_keeps

theorem execSub_keeps {z₀ : State} (c : OpCtx) (gd ga gb : Nat) (s : State) (h_s : State.Keeps z₀ s) :
    State.Leads z₀ (execSub c gd ga gb s) := by
  unfold execSub
  repeat' first
    | with_reducible assumption | with_reducible apply State.Leads.next | with_reducible apply State.Leads.ite | (intro)
    | with_reducible apply Stl.alu_keeps

theorem execMul_keeps {z₀ : State} (c : OpCtx) (gd ga gb : Nat) (s : State) (h_s : State.Keeps z₀ s) :
    State.Leads z₀ (execMul c gd ga gb s) := by
  unfold execMul
  repeat' first
    | with_reducible assumption | with_reducible apply State.Leads.next | with_reducible apply State.Leads.ite | (intro)
    | with_reducible apply Stl.alu_keeps

theorem execMulh_keeps {z₀ : State} (c : OpCtx) (gd ga gb : Nat) (s : State) (h_s : State.Keeps z₀ s) :
    State.Leads z₀ (execMulh c gd ga gb s) := by
  unfold execMulh
  repeat' first
    | with_reducible assumption | with_reducible apply State.Leads.next | with_reducible apply State.Leads.ite | (intro)
    | with_reducible apply Stl.alu_keeps

theorem execMin_keeps {z₀ : State} (c : OpCtx) (gd ga gb : Nat) (s : State) (h_s : State.Keeps z₀ s) :
    State.Leads z₀ (execMin c gd ga gb s) := by
  unfold execMin
  repeat' first
    | with_reducible assumption | with_reducible apply State.Leads.next | with_reducible apply State.Leads.ite | (intro)
    | with_reducible apply Stl.alu_keeps | with_reducible apply State.Keeps.ite | split

theorem execMax_keeps {z₀ : State} (c : OpCtx) (gd ga gb : Nat) (s : State) (h_s : State.Keeps z₀ s) :
    State.Leads z₀ (execMax c gd ga gb s) := by
  unfold execMax
  repeat' first
    | with_reducible assumption | with_reducible apply State.Leads.next | with_reducible apply State.Leads.ite | (intro)
    | with_reducible apply Stl.alu_keeps | with_reducible apply State.Keeps.ite | split

theorem execMinu_keeps {z₀ : State} (c : OpCtx) (gd ga gb : Nat) (s : State) (h_s : State.Keeps z₀ s) :
    State.Leads z₀ (execMinu c gd ga gb s) := by
  unfold execMinu
  repeat' first
    | with_reducible assumption | with_reducible apply State.Leads.next | with_reducible apply State.Leads.ite | (intro)
    | with_reducible apply Stl.alu_keeps | with_reducible apply State.Keeps.ite | split

theorem execMaxu_keeps {z₀ : State} (c : OpCtx) (gd ga gb : Nat) (s : State) (h_s : State.Keeps z₀ s) :
    State.Leads z₀ (execMaxu c gd ga gb s) := by
  unfold execMaxu
  repeat' first
    | with_reducible assumption | with_reducible apply State.Leads.next | with_reducible apply State.Leads.ite | (intro)
    | with_reducible apply Stl.alu_keeps | with_reducible apply State.Keeps.ite | split

theorem execAnd_keeps {z₀ : State} (c : OpCtx) (gd ga gb : Nat) (s : State) (h_s : State.Keeps z₀ s) :
    State.Leads z₀ (execAnd c gd ga gb s) := by
  unfold execAnd
  repeat' first
    | with_reducible assumption | with_reducible apply State.Leads.next | with_reducible apply State.Leads.ite | (intro)
    | with_reducible apply Stl.alu_keeps

theorem execOr_keeps {z₀ : State} (c : OpCtx) (gd ga gb : Nat) (s : State) (h_s : State.Keeps z₀ s) :
    State.Leads z₀ (execOr c gd ga gb s) := by
  unfold execOr
  repeat' first
    | with_reducible assumption | with_reducible apply State.Leads.next | with_reducible apply State.Leads.ite | (intro)
    | with_reducible apply Stl.alu_keeps

theorem execXor_keeps {z₀ : State} (c : OpCtx) (gd ga gb : Nat) (s : State) (h_s : State.Keeps z₀ s) :
    State.Leads z₀ (execXor c gd ga gb s) := by
  unfold execXor
  repeat' first
    | with_reducible assumption | with_reducible apply State.Leads.next | with_reducible apply State.Leads.ite | (intro)
    | with_reducible apply Stl.alu_keeps

theorem execAndn_keeps {z₀ : State} (c : OpCtx) (gd ga gb : Nat) (s : State) (h_s : State.Keeps z₀ s) :
    State.Leads z₀ (execAndn c gd ga gb s) := by
  unfold execAndn
  repeat' first
    | with_reducible assumption | with_reducible apply State.Leads.next | with_reducible apply State.Leads.ite | (intro)
    | with_reducible apply Stl.alu_keeps

theorem execShl_keeps {z₀ : State} (c : OpCtx) (gd ga gb : Nat) (s : State) (h_s : State.Keeps z₀ s) :
    State.Leads z₀ (execShl c gd ga gb s) := by
  unfold execShl
  repeat' first
    | with_reducible assumption | with_reducible apply State.Leads.next | with_reducible apply State.Leads.ite | (intro)
    | with_reducible apply Stl.alu_keeps

theorem execShr_keeps {z₀ : State} (c : OpCtx) (gd ga gb : Nat) (s : State) (h_s : State.Keeps z₀ s) :
    State.Leads z₀ (execShr c gd ga gb s) := by
  unfold execShr
  repeat' first
    | with_reducible assumption | with_reducible apply State.Leads.next | with_reducible apply State.Leads.ite | (intro)
    | with_reducible apply Stl.alu_keeps

theorem execSra_keeps {z₀ : State} (c : OpCtx) (gd ga gb : Nat) (s : State) (h_s : State.Keeps z₀ s) :
    State.Leads z₀ (execSra c gd ga gb s) := by
  unfold execSra
  repeat' first
    | with_reducible assumption | with_reducible apply State.Leads.next | with_reducible apply State.Leads.ite | (intro)
    | with_reducible apply Stl.alu_keeps

theorem execSeq_keeps {z₀ : State} (c : OpCtx) (gd ga gb : Nat) (s : State) (h_s : State.Keeps z₀ s) :
    State.Leads z₀ (execSeq c gd ga gb s) := by
  unfold execSeq
  repeat' first
    | with_reducible assumption | with_reducible apply State.Leads.next | with_reducible apply State.Leads.ite | (intro)
    | with_reducible apply Stl.alu_keeps

theorem execSne_keeps {z₀ : State} (c : OpCtx) (gd ga gb : Nat) (s : State) (h_s : State.Keeps z₀ s) :
    State.Leads z₀ (execSne c gd ga gb s) := by
  unfold execSne
  repeat' first
    | with_reducible assumption | with_reducible apply State.Leads.next | with_reducible apply State.Leads.ite | (intro)
    | with_reducible apply Stl.alu_keeps

theorem execSlt_keeps {z₀ : State} (c : OpCtx) (gd ga gb : Nat) (s : State) (h_s : State.Keeps z₀ s) :
    State.Leads z₀ (execSlt c gd ga gb s) := by
  unfold execSlt
  repeat' first
    | with_reducible assumption | with_reducible apply State.Leads.next | with_reducible apply State.Leads.ite | (intro)
    | with_reducible apply Stl.alu_keeps

theorem execSltu_keeps {z₀ : State} (c : OpCtx) (gd ga gb : Nat) (s : State) (h_s : State.Keeps z₀ s) :
    State.Leads z₀ (execSltu c gd ga gb s) := by
  unfold execSltu
  repeat' first
    | with_reducible assumption | with_reducible apply State.Leads.next | with_reducible apply State.Leads.ite | (intro)
    | with_reducible apply Stl.alu_keeps

theorem execSle_keeps {z₀ : State} (c : OpCtx) (gd ga gb : Nat) (s : State) (h_s : State.Keeps z₀ s) :
    State.Leads z₀ (execSle c gd ga gb s) := by
  unfold execSle
  repeat' first
    | with_reducible assumption | with_reducible apply State.Leads.next | with_reducible apply State.Leads.ite | (intro)
    | with_reducible apply Stl.alu_keeps

theorem execSleu_keeps {z₀ : State} (c : OpCtx) (gd ga gb : Nat) (s : State) (h_s : State.Keeps z₀ s) :
    State.Leads z₀ (execSleu c gd ga gb s) := by
  unfold execSleu
  repeat' first
    | with_reducible assumption | with_reducible apply State.Leads.next | with_reducible apply State.Leads.ite | (intro)
    | with_reducible apply Stl.alu_keeps

theorem execAddi_keeps {z₀ : State} (c : OpCtx) (gd ga imm : Nat) (s : State) (h_s : State.Keeps z₀ s) :
    State.Leads z₀ (execAddi c gd ga imm s) := by
  unfold execAddi
  repeat' first
    | with_reducible assumption | with_reducible apply State.Leads.next | with_reducible apply State.Leads.ite | (intro)
    | with_reducible apply Stl.alui_keeps

theorem execAndi_keeps {z₀ : State} (c : OpCtx) (gd ga imm : Nat) (s : State) (h_s : State.Keeps z₀ s) :
    State.Leads z₀ (execAndi c gd ga imm s) := by
  unfold execAndi
  repeat' first
    | with_reducible assumption | with_reducible apply State.Leads.next | with_reducible apply State.Leads.ite | (intro)
    | with_reducible apply Stl.alui_keeps

theorem execOri_keeps {z₀ : State} (c : OpCtx) (gd ga imm : Nat) (s : State) (h_s : State.Keeps z₀ s) :
    State.Leads z₀ (execOri c gd ga imm s) := by
  unfold execOri
  repeat' first
    | with_reducible assumption | with_reducible apply State.Leads.next | with_reducible apply State.Leads.ite | (intro)
    | with_reducible apply Stl.alui_keeps

theorem execXori_keeps {z₀ : State} (c : OpCtx) (gd ga imm : Nat) (s : State) (h_s : State.Keeps z₀ s) :
    State.Leads z₀ (execXori c gd ga imm s) := by
  unfold execXori
  repeat' first
    | with_reducible assumption | with_reducible apply State.Leads.next | with_reducible apply State.Leads.ite | (intro)
    | with_reducible apply Stl.alui_keeps

theorem execShli_keeps {z₀ : State} (c : OpCtx) (gd ga imm : Nat) (s : State) (h_s : State.Keeps z₀ s) :
    State.Leads z₀ (execShli c gd ga imm s) := by
  unfold execShli
  repeat' first
    | with_reducible assumption | with_reducible apply State.Leads.next | with_reducible apply State.Leads.ite | (intro)
    | with_reducible apply Stl.alui_keeps

theorem execShri_keeps {z₀ : State} (c : OpCtx) (gd ga imm : Nat) (s : State) (h_s : State.Keeps z₀ s) :
    State.Leads z₀ (execShri c gd ga imm s) := by
  unfold execShri
  repeat' first
    | with_reducible assumption | with_reducible apply State.Leads.next | with_reducible apply State.Leads.ite | (intro)
    | with_reducible apply Stl.alui_keeps

theorem execSrai_keeps {z₀ : State} (c : OpCtx) (gd ga imm : Nat) (s : State) (h_s : State.Keeps z₀ s) :
    State.Leads z₀ (execSrai c gd ga imm s) := by
  unfold execSrai
  repeat' first
    | with_reducible assumption | with_reducible apply State.Leads.next | with_reducible apply State.Leads.ite | (intro)
    | with_reducible apply Stl.alui_keeps

theorem execSlti_keeps {z₀ : State} (c : OpCtx) (gd ga imm : Nat) (s : State) (h_s : State.Keeps z₀ s) :
    State.Leads z₀ (execSlti c gd ga imm s) := by
  unfold execSlti
  repeat' first
    | with_reducible assumption | with_reducible apply State.Leads.next | with_reducible apply State.Leads.ite | (intro)
    | with_reducible apply Stl.alui_keeps

theorem execMovi_keeps {z₀ : State} (c : OpCtx) (gd imm : Nat) (s : State) (h_s : State.Keeps z₀ s) :
    State.Leads z₀ (execMovi c gd imm s) := by
  unfold execMovi
  repeat' first
    | with_reducible assumption | with_reducible apply State.Leads.next | with_reducible apply State.Leads.ite | (intro)
    | with_reducible apply Stl.op_keeps | with_reducible apply State.onRf_keeps

theorem execMovsh_keeps {z₀ : State} (c : OpCtx) (gd imm : Nat) (s : State) (h_s : State.Keeps z₀ s) :
    State.Leads z₀ (execMovsh c gd imm s) := by
  unfold execMovsh
  repeat' first
    | with_reducible assumption | with_reducible apply State.Leads.next | with_reducible apply State.Leads.ite | (intro)
    | (extract_lets +onlyGivenNames x; refine State.Keeps.cut (p := State.Keeps z₀ x) ?_ ?_;
        (focus (intro hx; clear_value x)); rotate_left; subst x)
    | (extract_lets +onlyGivenNames x; clear_value x) | with_reducible apply Stl.op_keeps
    | with_reducible apply State.onRf_keeps | split

theorem execMova_keeps {z₀ : State} (c : OpCtx) (areg g : Nat) (toG : Bool) (s : State) (h_s : State.Keeps z₀ s) :
    State.Leads z₀ (execMova c areg g toG s) := by
  unfold execMova
  repeat' first
    | with_reducible assumption | with_reducible apply State.Leads.next | with_reducible apply State.Leads.ite | (intro)
    | (extract_lets +onlyGivenNames x; refine State.Keeps.cut (p := State.Keeps z₀ x) ?_ ?_;
        (focus (intro hx; clear_value x)); rotate_left; subst x)
    | (extract_lets +onlyGivenNames x; clear_value x) | with_reducible apply Stl.op_keeps
    | with_reducible apply State.onRf_keeps | with_reducible apply State.Keeps.ite | split

end StallCtl

section StallVec

theorem Stl.accumulate_keeps {z₀ : State} (i n e : Nat) (clear : Bool) (d : Int) (s : State) (h_s : State.Keeps z₀ s) :
    State.Keeps z₀ (Stl.accumulate i n e clear d s) := by
  unfold Stl.accumulate
  repeat' first
    | with_reducible assumption | (intro)
    | (extract_lets +onlyGivenNames x; refine State.Keeps.cut (p := State.Keeps z₀ x) ?_ ?_;
        (focus (intro hx; clear_value x)); rotate_left; subst x)
    | (extract_lets +onlyGivenNames x; clear_value x) | with_reducible apply State.onRf_keeps
    | with_reducible apply Stl.xlost_keeps | with_reducible apply State.Keeps.ite | split

theorem Stl.mac_keeps {z₀ : State} (c : OpCtx) (o : VxOp) (clear neg : Bool) (s : State) (h_s : State.Keeps z₀ s) :
    State.Keeps z₀ (Stl.mac c o clear neg s) := by
  unfold Stl.mac
  repeat' first
    | with_reducible assumption | (intro)
    | (extract_lets +onlyGivenNames x; refine State.Keeps.cut (p := State.Keeps z₀ x) ?_ ?_;
        (focus (intro hx; clear_value x)); rotate_left; subst x)
    | (extract_lets +onlyGivenNames x; refine State.Keeps.cut (p := State.Keeps z₀ x.1) ?_ ?_;
        (focus (intro hx; clear_value x)); rotate_left; subst x)
    | (extract_lets +onlyGivenNames x; clear_value x) | with_reducible apply Stl.op_keeps
    | with_reducible apply State.each_keeps | with_reducible apply Stl.accumulate_keeps
    | with_reducible apply Stl.check_keeps | with_reducible apply State.Keeps.ite | split

theorem Stl.cmac_keeps {z₀ : State} (c : OpCtx) (o : VxOp) (h : Nat) (conj neg : Bool) (s : State) (h_s : State.Keeps z₀ s) :
    State.Keeps z₀ (Stl.cmac c o h conj neg s) := by
  unfold Stl.cmac
  repeat' first
    | with_reducible assumption | (intro)
    | (extract_lets +onlyGivenNames x; refine State.Keeps.cut (p := State.Keeps z₀ x) ?_ ?_;
        (focus (intro hx; clear_value x)); rotate_left; subst x)
    | (extract_lets +onlyGivenNames x; refine State.Keeps.cut (p := State.Keeps z₀ x.1) ?_ ?_;
        (focus (intro hx; clear_value x)); rotate_left; subst x)
    | (extract_lets +onlyGivenNames x; clear_value x) | with_reducible apply Stl.op_keeps
    | with_reducible apply State.each_keeps | with_reducible apply Stl.accumulate_keeps
    | with_reducible apply Stl.check_keeps | split

theorem execVmul_keeps {z₀ : State} (c : OpCtx) (o : VxOp) (s : State) (h_s : State.Keeps z₀ s) :
    State.Leads z₀ (execVmul c o s) := by
  unfold execVmul
  repeat' first
    | with_reducible assumption | with_reducible apply State.Leads.next | with_reducible apply State.Leads.ite
    | with_reducible apply Stl.mac_keeps

theorem execVmac_keeps {z₀ : State} (c : OpCtx) (o : VxOp) (s : State) (h_s : State.Keeps z₀ s) :
    State.Leads z₀ (execVmac c o s) := by
  unfold execVmac
  repeat' first
    | with_reducible assumption | with_reducible apply State.Leads.next | with_reducible apply State.Leads.ite
    | with_reducible apply Stl.mac_keeps

theorem execVmacN_keeps {z₀ : State} (c : OpCtx) (o : VxOp) (s : State) (h_s : State.Keeps z₀ s) :
    State.Leads z₀ (execVmacN c o s) := by
  unfold execVmacN
  repeat' first
    | with_reducible assumption | with_reducible apply State.Leads.next | with_reducible apply State.Leads.ite
    | with_reducible apply Stl.mac_keeps

theorem execVcmac_keeps {z₀ : State} (c : OpCtx) (o : VxOp) (h : Nat) (s : State) (h_s : State.Keeps z₀ s) :
    State.Leads z₀ (execVcmac c o h s) := by
  unfold execVcmac
  repeat' first
    | with_reducible assumption | with_reducible apply State.Leads.next | with_reducible apply State.Leads.ite
    | with_reducible apply Stl.cmac_keeps

theorem execVcmacC_keeps {z₀ : State} (c : OpCtx) (o : VxOp) (h : Nat) (s : State) (h_s : State.Keeps z₀ s) :
    State.Leads z₀ (execVcmacC c o h s) := by
  unfold execVcmacC
  repeat' first
    | with_reducible assumption | with_reducible apply State.Leads.next | with_reducible apply State.Leads.ite
    | with_reducible apply Stl.cmac_keeps

theorem execVcmacN_keeps {z₀ : State} (c : OpCtx) (o : VxOp) (h : Nat) (s : State) (h_s : State.Keeps z₀ s) :
    State.Leads z₀ (execVcmacN c o h s) := by
  unfold execVcmacN
  repeat' first
    | with_reducible assumption | with_reducible apply State.Leads.next | with_reducible apply State.Leads.ite
    | with_reducible apply Stl.cmac_keeps

theorem execVcmacCn_keeps {z₀ : State} (c : OpCtx) (o : VxOp) (h : Nat) (s : State) (h_s : State.Keeps z₀ s) :
    State.Leads z₀ (execVcmacCn c o h s) := by
  unfold execVcmacCn
  repeat' first
    | with_reducible assumption | with_reducible apply State.Leads.next | with_reducible apply State.Leads.ite
    | with_reducible apply Stl.cmac_keeps

theorem execClrx_keeps {z₀ : State} (c : OpCtx) (xd kp : Nat) (s : State) (h_s : State.Keeps z₀ s) :
    State.Leads z₀ (execClrx c xd kp s) := by
  unfold execClrx
  repeat' first
    | with_reducible assumption | with_reducible apply State.Leads.next | with_reducible apply State.Leads.ite | (intro)
    | (extract_lets +onlyGivenNames x; refine State.Keeps.cut (p := State.Keeps z₀ x) ?_ ?_;
        (focus (intro hx; clear_value x)); rotate_left; subst x)
    | (extract_lets +onlyGivenNames x; clear_value x) | with_reducible apply Stl.op_keeps
    | with_reducible apply State.each_keeps | with_reducible apply State.onRf_keeps | split

theorem Stl.rdx_keeps {z₀ : State} (c : OpCtx) (o : VrOp) (n : Nat) (clear : Bool) (s : State) (h_s : State.Keeps z₀ s) :
    State.Keeps z₀ (Stl.rdx c o n clear s) := by
  unfold Stl.rdx
  repeat' first
    | with_reducible assumption | (intro)
    | (extract_lets +onlyGivenNames x; refine State.Keeps.cut (p := State.Keeps z₀ x) ?_ ?_;
        (focus (intro hx; clear_value x)); rotate_left; subst x)
    | (extract_lets +onlyGivenNames x; refine State.Keeps.cut (p := State.Keeps z₀ x.1) ?_ ?_;
        (focus (intro hx; clear_value x)); rotate_left; subst x)
    | (extract_lets +onlyGivenNames x; clear_value x) | with_reducible apply Stl.op_keeps
    | with_reducible apply State.each_keeps | with_reducible apply State.onRf_keeps | with_reducible apply Stl.xsat_keeps
    | with_reducible apply State.Keeps.ite | with_reducible apply State.Keeps.ite1 | split

theorem execRdx_keeps {z₀ : State} (c : OpCtx) (o : VrOp) (s : State) (h_s : State.Keeps z₀ s) :
    State.Leads z₀ (execRdx c o s) := by
  unfold execRdx
  repeat' first
    | with_reducible assumption | with_reducible apply State.Leads.next | with_reducible apply State.Leads.ite
    | with_reducible apply Stl.rdx_keeps

theorem execRdxC_keeps {z₀ : State} (c : OpCtx) (o : VrOp) (s : State) (h_s : State.Keeps z₀ s) :
    State.Leads z₀ (execRdxC c o s) := by
  unfold execRdxC
  repeat' first
    | with_reducible assumption | with_reducible apply State.Leads.next | with_reducible apply State.Leads.ite
    | with_reducible apply Stl.rdx_keeps

theorem execRdxS24_keeps {z₀ : State} (c : OpCtx) (o : VrOp) (s : State) (h_s : State.Keeps z₀ s) :
    State.Leads z₀ (execRdxS24 c o s) := by
  unfold execRdxS24
  repeat' first
    | with_reducible assumption | with_reducible apply State.Leads.next | with_reducible apply State.Leads.ite
    | with_reducible apply Stl.rdx_keeps

theorem execRdxCS24_keeps {z₀ : State} (c : OpCtx) (o : VrOp) (s : State) (h_s : State.Keeps z₀ s) :
    State.Leads z₀ (execRdxCS24 c o s) := by
  unfold execRdxCS24
  repeat' first
    | with_reducible assumption | with_reducible apply State.Leads.next | with_reducible apply State.Leads.ite
    | with_reducible apply Stl.rdx_keeps

theorem Stl.elementwise_keeps {z₀ : State} (c : OpCtx) (vd : Nat) (vs : List Nat) (kp : Nat) (flag : Bool) (f : RegFile → Nat →
    Int) (s : State) (h_s : State.Keeps z₀ s) :
    State.Keeps z₀ (Stl.elementwise c vd vs kp flag f s) := by
  unfold Stl.elementwise
  repeat' first
    | with_reducible assumption | (intro)
    | (extract_lets +onlyGivenNames x; refine State.Keeps.cut (p := State.Keeps z₀ x) ?_ ?_;
        (focus (intro hx; clear_value x)); rotate_left; subst x)
    | (extract_lets +onlyGivenNames x; clear_value x) | with_reducible apply Stl.op_keeps
    | with_reducible apply State.onRf_keeps | with_reducible apply Stl.vsat_keeps | with_reducible apply State.foldl_keeps
    | with_reducible apply State.foldl1_keeps | with_reducible apply State.Keeps.ite | split

theorem execVadd_keeps {z₀ : State} (c : OpCtx) (o : VeOp) (s : State) (h_s : State.Keeps z₀ s) :
    State.Leads z₀ (execVadd c o s) := by
  unfold execVadd
  repeat' first
    | with_reducible assumption | with_reducible apply State.Leads.next | with_reducible apply State.Leads.ite | (intro)
    | with_reducible apply Stl.elementwise_keeps

theorem execVsub_keeps {z₀ : State} (c : OpCtx) (o : VeOp) (s : State) (h_s : State.Keeps z₀ s) :
    State.Leads z₀ (execVsub c o s) := by
  unfold execVsub
  repeat' first
    | with_reducible assumption | with_reducible apply State.Leads.next | with_reducible apply State.Leads.ite | (intro)
    | with_reducible apply Stl.elementwise_keeps

theorem execVabs_keeps {z₀ : State} (c : OpCtx) (vd va kp : Nat) (s : State) (h_s : State.Keeps z₀ s) :
    State.Leads z₀ (execVabs c vd va kp s) := by
  unfold execVabs
  repeat' first
    | with_reducible assumption | with_reducible apply State.Leads.next | with_reducible apply State.Leads.ite | (intro)
    | with_reducible apply Stl.elementwise_keeps

theorem execVmax_keeps {z₀ : State} (c : OpCtx) (o : VeOp) (s : State) (h_s : State.Keeps z₀ s) :
    State.Leads z₀ (execVmax c o s) := by
  unfold execVmax
  repeat' first
    | with_reducible assumption | with_reducible apply State.Leads.next | with_reducible apply State.Leads.ite | (intro)
    | with_reducible apply Stl.elementwise_keeps

theorem execVmin_keeps {z₀ : State} (c : OpCtx) (o : VeOp) (s : State) (h_s : State.Keeps z₀ s) :
    State.Leads z₀ (execVmin c o s) := by
  unfold execVmin
  repeat' first
    | with_reducible assumption | with_reducible apply State.Leads.next | with_reducible apply State.Leads.ite | (intro)
    | with_reducible apply Stl.elementwise_keeps

theorem execVshl_keeps {z₀ : State} (c : OpCtx) (o : VeOp) (imm : Option Int) (s : State) (h_s : State.Keeps z₀ s) :
    State.Leads z₀ (execVshl c o imm s) := by
  unfold execVshl
  repeat' first
    | with_reducible assumption | with_reducible apply State.Leads.next | with_reducible apply State.Leads.ite | (intro)
    | (extract_lets +onlyGivenNames x; refine State.Keeps.cut (p := State.Keeps z₀ x) ?_ ?_;
        (focus (intro hx; clear_value x)); rotate_left; subst x)
    | (extract_lets +onlyGivenNames x; refine State.Keeps.cut (p := State.Keeps z₀ x.1) ?_ ?_;
        (focus (intro hx; clear_value x)); rotate_left; subst x)
    | (extract_lets +onlyGivenNames x; clear_value x) | with_reducible apply Stl.elementwise_keeps
    | with_reducible apply State.Keeps.ite | split
    | (with_reducible refine State.Keeps.mk_same _ rfl rfl rfl rfl rfl rfl rfl rfl ?_)

theorem Stl.predWrite_keeps {z₀ : State} (c : OpCtx) (kd : Nat) (vs : List Nat) (kp : Nat) (f : RegFile → Nat → Bool) (s :
    State) (h_s : State.Keeps z₀ s) :
    State.Keeps z₀ (Stl.predWrite c kd vs kp f s) := by
  unfold Stl.predWrite
  repeat' first
    | with_reducible assumption | (intro)
    | (extract_lets +onlyGivenNames x; refine State.Keeps.cut (p := State.Keeps z₀ x) ?_ ?_;
        (focus (intro hx; clear_value x)); rotate_left; subst x)
    | (extract_lets +onlyGivenNames x; clear_value x) | with_reducible apply Stl.op_keeps
    | with_reducible apply State.onRf_keeps | with_reducible apply State.foldl_keeps
    | with_reducible apply State.foldl1_keeps | with_reducible apply State.Keeps.ite | split

theorem execVcmpEq_keeps {z₀ : State} (c : OpCtx) (kd va vb kp : Nat) (s : State) (h_s : State.Keeps z₀ s) :
    State.Leads z₀ (execVcmpEq c kd va vb kp s) := by
  unfold execVcmpEq
  repeat' first
    | with_reducible assumption | with_reducible apply State.Leads.next | with_reducible apply State.Leads.ite | (intro)
    | with_reducible apply Stl.predWrite_keeps

theorem execVcmpNe_keeps {z₀ : State} (c : OpCtx) (kd va vb kp : Nat) (s : State) (h_s : State.Keeps z₀ s) :
    State.Leads z₀ (execVcmpNe c kd va vb kp s) := by
  unfold execVcmpNe
  repeat' first
    | with_reducible assumption | with_reducible apply State.Leads.next | with_reducible apply State.Leads.ite | (intro)
    | with_reducible apply Stl.predWrite_keeps

theorem execVcmpLt_keeps {z₀ : State} (c : OpCtx) (kd va vb kp : Nat) (s : State) (h_s : State.Keeps z₀ s) :
    State.Leads z₀ (execVcmpLt c kd va vb kp s) := by
  unfold execVcmpLt
  repeat' first
    | with_reducible assumption | with_reducible apply State.Leads.next | with_reducible apply State.Leads.ite | (intro)
    | with_reducible apply Stl.predWrite_keeps

theorem execVcmpLe_keeps {z₀ : State} (c : OpCtx) (kd va vb kp : Nat) (s : State) (h_s : State.Keeps z₀ s) :
    State.Leads z₀ (execVcmpLe c kd va vb kp s) := by
  unfold execVcmpLe
  repeat' first
    | with_reducible assumption | with_reducible apply State.Leads.next | with_reducible apply State.Leads.ite | (intro)
    | with_reducible apply Stl.predWrite_keeps

theorem execXflgSat_keeps {z₀ : State} (c : OpCtx) (kd xs kp : Nat) (s : State) (h_s : State.Keeps z₀ s) :
    State.Leads z₀ (execXflgSat c kd xs kp s) := by
  unfold execXflgSat
  repeat' first
    | with_reducible assumption | with_reducible apply State.Leads.next | with_reducible apply State.Leads.ite | (intro)
    | with_reducible apply Stl.predWrite_keeps

theorem execXflgLost_keeps {z₀ : State} (c : OpCtx) (kd xs kp : Nat) (s : State) (h_s : State.Keeps z₀ s) :
    State.Leads z₀ (execXflgLost c kd xs kp s) := by
  unfold execXflgLost
  repeat' first
    | with_reducible assumption | with_reducible apply State.Leads.next | with_reducible apply State.Leads.ite | (intro)
    | with_reducible apply Stl.predWrite_keeps

theorem execXflgWrap_keeps {z₀ : State} (c : OpCtx) (kd xs kp : Nat) (s : State) (h_s : State.Keeps z₀ s) :
    State.Leads z₀ (execXflgWrap c kd xs kp s) := by
  unfold execXflgWrap
  repeat' first
    | with_reducible assumption | with_reducible apply State.Leads.next | with_reducible apply State.Leads.ite | (intro)
    | with_reducible apply Stl.predWrite_keeps

theorem execXflgOut_keeps {z₀ : State} (c : OpCtx) (kd xs kp : Nat) (s : State) (h_s : State.Keeps z₀ s) :
    State.Leads z₀ (execXflgOut c kd xs kp s) := by
  unfold execXflgOut
  repeat' first
    | with_reducible assumption | with_reducible apply State.Leads.next | with_reducible apply State.Leads.ite | (intro)
    | with_reducible apply Stl.predWrite_keeps

theorem execEnv_keeps {z₀ : State} (c : OpCtx) (o : VeOp) (m : EnvMode) (s : State) (h_s : State.Keeps z₀ s) :
    State.Leads z₀ (execEnv c o m s) := by
  unfold execEnv
  repeat' first
    | with_reducible assumption | with_reducible apply State.Leads.next | with_reducible apply State.Leads.ite | (intro)
    | (extract_lets +onlyGivenNames x; refine State.Keeps.cut (p := State.Keeps z₀ x) ?_ ?_;
        (focus (intro hx; clear_value x)); rotate_left; subst x)
    | (extract_lets +onlyGivenNames x; refine State.Keeps.cut (p := State.Keeps z₀ x.1) ?_ ?_;
        (focus (intro hx; clear_value x)); rotate_left; subst x)
    | (extract_lets +onlyGivenNames x; clear_value x) | with_reducible apply Stl.op_keeps
    | with_reducible apply State.onRf_keeps | with_reducible apply State.foldl_keeps
    | with_reducible apply State.foldl1_keeps | with_reducible apply State.Keeps.ite
    | with_reducible apply State.Keeps.ite1 | split

theorem execGcurve_keeps {z₀ : State} (c : OpCtx) (o : VeOp) (expand : Bool) (s : State) (h_s : State.Keeps z₀ s) :
    State.Leads z₀ (execGcurve c o expand s) := by
  unfold execGcurve
  repeat' first
    | with_reducible assumption | with_reducible apply State.Leads.next | with_reducible apply State.Leads.ite | (intro)
    | (extract_lets +onlyGivenNames x; refine State.Keeps.cut (p := State.Keeps z₀ x) ?_ ?_;
        (focus (intro hx; clear_value x)); rotate_left; subst x)
    | (extract_lets +onlyGivenNames x; clear_value x) | with_reducible apply Stl.elementwise_keeps | split

theorem execVlog2_keeps {z₀ : State} (c : OpCtx) (vd va kp : Nat) (s : State) (h_s : State.Keeps z₀ s) :
    State.Leads z₀ (execVlog2 c vd va kp s) := by
  unfold execVlog2
  repeat' first
    | with_reducible assumption | with_reducible apply State.Leads.next | with_reducible apply State.Leads.ite | (intro)
    | with_reducible apply Stl.elementwise_keeps

theorem execVexp2_keeps {z₀ : State} (c : OpCtx) (vd va kp : Nat) (s : State) (h_s : State.Keeps z₀ s) :
    State.Leads z₀ (execVexp2 c vd va kp s) := by
  unfold execVexp2
  repeat' first
    | with_reducible assumption | with_reducible apply State.Leads.next | with_reducible apply State.Leads.ite | (intro)
    | with_reducible apply Stl.elementwise_keeps

theorem execBfly4_keeps {z₀ : State} (c : OpCtx) (o : VeOp) (sc : Nat) (inv out : Bool) (s : State) (h_s : State.Keeps z₀ s) :
    State.Leads z₀ (execBfly4 c o sc inv out s) := by
  unfold execBfly4
  repeat' first
    | with_reducible assumption | with_reducible apply State.Leads.next | with_reducible apply State.Leads.ite | (intro)
    | (extract_lets +onlyGivenNames x; refine State.Keeps.cut (p := State.Keeps z₀ x) ?_ ?_;
        (focus (intro hx; clear_value x)); rotate_left; subst x)
    | (extract_lets +onlyGivenNames x; refine State.Keeps.cut (p := State.Keeps z₀ x.1) ?_ ?_;
        (focus (intro hx; clear_value x)); rotate_left; subst x)
    | (extract_lets +onlyGivenNames x; clear_value x) | with_reducible apply Stl.op_keeps
    | with_reducible apply State.onRf_keeps | with_reducible apply State.foldl_keeps
    | with_reducible apply State.foldl1_keeps | with_reducible apply State.Keeps.ite
    | with_reducible apply State.Keeps.ite1 | split

end StallVec

section TwinMsg

theorem Twn.counted_keeps {z₀ : State} (s : State) (h_s : State.Keeps z₀ s) :
    State.Keeps z₀ (Twn.counted s) := by
  unfold Twn.counted
  repeat' first
    | with_reducible assumption | (intro)
    | (extract_lets +onlyGivenNames x; refine State.Keeps.cut (p := State.Keeps z₀ x) ?_ ?_;
        (focus (intro hx; clear_value x)); rotate_left; subst x)
    | (extract_lets +onlyGivenNames x; clear_value x) | with_reducible apply Tth.send_keeps
    | with_reducible apply State.send_keeps | with_reducible apply State.Keeps.ite | split
    | (with_reducible refine State.Keeps.mk_same _ rfl rfl rfl rfl rfl rfl rfl rfl ?_)

theorem Twn.badBlock_keeps {z₀ : State} (s : State) (q : Nat) (h_s : State.Keeps z₀ s) :
    State.Keeps z₀ (Twn.badBlock s q) := by
  unfold Twn.badBlock
  repeat' first
    | with_reducible assumption
    | (extract_lets +onlyGivenNames x; refine State.Keeps.cut (p := State.Keeps z₀ x) ?_ ?_;
        (focus (intro hx; clear_value x)); rotate_left; subst x)
    | (extract_lets +onlyGivenNames x; clear_value x) | with_reducible apply State.incCnt_keeps
    | with_reducible apply State.faultEvent_keeps
    | (with_reducible refine State.Keeps.mk_same _ rfl rfl rfl rfl rfl rfl rfl rfl ?_)

theorem Twn.unassigned_keeps {z₀ : State} (s : State) (h_s : State.Keeps z₀ s) :
    State.Keeps z₀ (Twn.unassigned s) := by
  unfold Twn.unassigned
  repeat' first | with_reducible assumption | with_reducible apply State.incCnt_keeps

theorem Twn.receive_keeps {z₀ : State} (h : TthHdr) (body : State → State) (s0 : State) (h_body : ∀ x0, State.Keeps z₀ x0 →
    State.Keeps z₀ (body x0)) (h_s0 : State.Keeps z₀ s0) :
    State.Keeps z₀ (Twn.receive h body s0) := by
  unfold Twn.receive
  repeat' first
    | with_reducible assumption | (intro)
    | (extract_lets +onlyGivenNames x; refine State.Keeps.cut (p := State.Keeps z₀ x) ?_ ?_;
        (focus (intro hx; clear_value x)); rotate_left; subst x)
    | (extract_lets +onlyGivenNames x; refine State.Keeps.cut (p := State.Keeps z₀ x.1) ?_ ?_;
        (focus (intro hx; clear_value x)); rotate_left; subst x)
    | (extract_lets +onlyGivenNames x; clear_value x) | with_reducible apply h_body | with_reducible apply Twn.train_keeps
    | with_reducible apply State.each_keeps | with_reducible apply Clk.overrun_keeps
    | with_reducible apply Twn.badBlock_keeps | with_reducible apply Twn.down_keeps | with_reducible apply Tth.acked_keeps
    | with_reducible apply Tth.naked_keeps | with_reducible apply Twn.rise_keeps
    | with_reducible apply Twn.unassigned_keeps | with_reducible apply Twn.counted_keeps
    | with_reducible apply State.Keeps.ite | split
    | (with_reducible refine State.Keeps.mk_same _ rfl rfl rfl rfl rfl rfl rfl rfl ?_)

theorem execNopMessage_keeps {z₀ : State} (h : TthHdr) (s : State) (h_s : State.Keeps z₀ s) :
    State.Leads z₀ (execNopMessage h s) := .next (Twn.receive_keeps _ _ _ (fun _ h => h) h_s)

theorem Twn.prepared_keeps {z₀ : State} (s : State) (h_s : State.Keeps z₀ s) :
    State.Keeps z₀ (Twn.prepared s) := by
  unfold Twn.prepared
  repeat' first
    | with_reducible assumption | (intro)
    | (extract_lets +onlyGivenNames x; refine State.Keeps.cut (p := State.Keeps z₀ x) ?_ ?_;
        (focus (intro hx; clear_value x)); rotate_left; subst x)
    | (extract_lets +onlyGivenNames x; refine State.Keeps.cut (p := State.Keeps z₀ x.1) ?_ ?_;
        (focus (intro hx; clear_value x)); rotate_left; subst x)
    | (extract_lets +onlyGivenNames x; clear_value x) | with_reducible apply Tth.send_keeps
    | with_reducible apply State.send_keeps | with_reducible apply Twn.setResync_keeps
    | with_reducible apply State.Keeps.ite | split
    | (with_reducible refine State.Keeps.mk_same _ rfl rfl rfl rfl rfl rfl rfl rfl ?_)

theorem Twn.noteHello_keeps {z₀ : State} (m : Hello) (s : State) (h_s : State.Keeps z₀ s) :
    State.Keeps z₀ (Twn.noteHello m s) := by
  unfold Twn.noteHello
  repeat' first
    | with_reducible assumption
    | (extract_lets +onlyGivenNames x; refine State.Keeps.cut (p := State.Keeps z₀ x) ?_ ?_;
        (focus (intro hx; clear_value x)); rotate_left; subst x)
    | (extract_lets +onlyGivenNames x; clear_value x) | with_reducible apply State.setFld_keeps
    | with_reducible apply State.setFlag_keeps | with_reducible apply State.setReg64_keeps | split
    | (with_reducible refine State.Keeps.mk_same _ rfl rfl rfl rfl rfl rfl rfl rfl ?_)

theorem Twn.actOnHello_keeps {z₀ : State} (m : Hello) (k : Nat) (s : State) (h_s : State.Keeps z₀ s) :
    State.Keeps z₀ (Twn.actOnHello m k s) := by
  unfold Twn.actOnHello
  repeat' first
    | with_reducible assumption | (intro)
    | (extract_lets +onlyGivenNames x; refine State.Keeps.cut (p := State.Keeps z₀ x) ?_ ?_;
        (focus (intro hx; clear_value x)); rotate_left; subst x)
    | (extract_lets +onlyGivenNames x; clear_value x) | with_reducible apply Twn.setRole_keeps
    | with_reducible apply State.each_keeps | with_reducible apply Cmd.finish_keeps
    | with_reducible apply Twn.levels_keeps | with_reducible apply Twn.prepared_keeps
    | with_reducible apply State.Keeps.ite | split

theorem execHello_keeps {z₀ : State} (h : TthHdr) (m : Hello) (s : State) (h_s : State.Keeps z₀ s) :
    State.Leads z₀ (execHello h m s) := by
  unfold execHello
  repeat' first
    | with_reducible assumption | with_reducible apply State.Leads.next | with_reducible apply State.Leads.ite | (intro)
    | (extract_lets +onlyGivenNames x; refine State.Keeps.cut (p := State.Keeps z₀ x) ?_ ?_;
        (focus (intro hx; clear_value x)); rotate_left; subst x)
    | (extract_lets +onlyGivenNames x; clear_value x) | with_reducible apply Twn.receive_keeps
    | with_reducible apply Twn.noteHello_keeps | with_reducible apply Twn.actOnHello_keeps
    | with_reducible apply State.Keeps.ite | split

theorem Twn.input_keeps {z₀ : State} (f : Nat) (used : Bool) (words : List (Nat × Int)) (s : State) (h_s : State.Keeps z₀ s) :
    State.Keeps z₀ (Twn.input f used words s) := by
  unfold Twn.input
  repeat' first
    | with_reducible assumption | (intro)
    | (extract_lets +onlyGivenNames x; refine State.Keeps.cut (p := State.Keeps z₀ x) ?_ ?_;
        (focus (intro hx; clear_value x)); rotate_left; subst x)
    | (extract_lets +onlyGivenNames x; refine State.Keeps.cut (p := State.Keeps z₀ x.1) ?_ ?_;
        (focus (intro hx; clear_value x)); rotate_left; subst x)
    | (extract_lets +onlyGivenNames x; clear_value x) | with_reducible apply State.each_keeps
    | with_reducible apply Mem.putWord_keeps | with_reducible apply Graph.gateA_keeps
    | with_reducible apply State.Keeps.ite | with_reducible apply State.Keeps.ite1 | split
    | (with_reducible refine State.Keeps.mk_same _ rfl rfl rfl rfl rfl rfl rfl rfl ?_)

theorem execInputMessage_keeps {z₀ : State} (h : TthHdr) (used : Bool) (words : List (Nat × Int)) (s : State) (h_s : State.Keeps
    z₀ s) :
    State.Leads z₀ (execInputMessage h used words s) := by
  unfold execInputMessage
  repeat' first
    | with_reducible assumption | with_reducible apply State.Leads.next | with_reducible apply State.Leads.ite
    | with_reducible apply Twn.receive_keeps | with_reducible apply Twn.input_keeps

theorem execInputForwardTimeout_keeps {z₀ : State} (s : State) (h_s : State.Keeps z₀ s) :
    State.Leads z₀ (execInputForwardTimeout s) := by
  unfold execInputForwardTimeout
  repeat' first
    | with_reducible assumption | with_reducible apply State.Leads.next | with_reducible apply State.Leads.ite | (intro)
    | with_reducible apply Graph.gateA_keeps | with_reducible apply Twn.applyRole_keeps
    | with_reducible apply Twn.endResync_keeps | with_reducible apply State.Keeps.ite | split

theorem Twn.mirror_keeps {z₀ : State} (f : Nat) (last : Bool) (bytes : List Byte) (mir : Nat) (unclean uf : Bool) (s : State)
    (h_s : State.Keeps z₀ s) :
    State.Keeps z₀ (Twn.mirror f last bytes mir unclean uf s) := by
  unfold Twn.mirror
  repeat' first
    | with_reducible assumption | (intro)
    | (extract_lets +onlyGivenNames x; refine State.Keeps.cut (p := State.Keeps z₀ x) ?_ ?_;
        (focus (intro hx; clear_value x)); rotate_left; subst x)
    | (extract_lets +onlyGivenNames x; clear_value x) | with_reducible apply State.Keeps.ite | split
    | (with_reducible refine State.Keeps.mk_same _ rfl rfl rfl rfl rfl rfl rfl rfl ?_)

theorem execMirrorMessage_keeps {z₀ : State} (h : TthHdr) (bytes : List Byte) (mir : Nat) (unclean uf : Bool) (s : State) (h_s :
    State.Keeps z₀ s) :
    State.Leads z₀ (execMirrorMessage h bytes mir unclean uf s) := by
  unfold execMirrorMessage
  repeat' first
    | with_reducible assumption | with_reducible apply State.Leads.next | with_reducible apply State.Leads.ite
    | with_reducible apply Twn.receive_keeps | with_reducible apply Twn.mirror_keeps

theorem execDigestMessage_keeps {z₀ : State} (h : TthHdr) (d : TwnDigest) (s : State) (h_s : State.Keeps z₀ s) :
    State.Leads z₀ (execDigestMessage h d s) := by
  unfold execDigestMessage
  repeat' first
    | with_reducible assumption | with_reducible apply State.Leads.next | with_reducible apply State.Leads.ite | (intro)
    | (extract_lets +onlyGivenNames x; refine State.Keeps.cut (p := State.Keeps z₀ x) ?_ ?_;
        (focus (intro hx; clear_value x)); rotate_left; subst x)
    | (extract_lets +onlyGivenNames x; clear_value x) | with_reducible apply Twn.receive_keeps
    | with_reducible apply Twn.compare_keeps
    | (with_reducible refine State.Keeps.mk_same _ rfl rfl rfl rfl rfl rfl rfl rfl ?_)

theorem Twn.command_keeps {z₀ : State} (ticket : Nat) (words data : List Word) (s : State) (h_s : State.Keeps z₀ s) :
    State.Keeps z₀ (Twn.command ticket words data s) := by
  unfold Twn.command
  repeat' first
    | with_reducible assumption | (intro)
    | (extract_lets +onlyGivenNames x; refine State.Keeps.cut (p := State.Keeps z₀ x) ?_ ?_;
        (focus (intro hx; clear_value x)); rotate_left; subst x)
    | (extract_lets +onlyGivenNames x; clear_value x) | with_reducible apply State.Keeps.ite | split
    | (with_reducible refine State.Keeps.mk_same _ rfl rfl rfl rfl rfl rfl rfl rfl ?_)

theorem execCmdMessage_keeps {z₀ : State} (h : TthHdr) (ticket : Nat) (words data : List Word) (s : State) (h_s : State.Keeps z₀
    s) :
    State.Leads z₀ (execCmdMessage h ticket words data s) := by
  unfold execCmdMessage
  repeat' first
    | with_reducible assumption | with_reducible apply State.Leads.next | with_reducible apply State.Leads.ite
    | with_reducible apply Twn.receive_keeps | with_reducible apply Twn.command_keeps

theorem Twn.ackCommand_keeps {z₀ : State} (ticket status reason : Nat) (s : State) (h_s : State.Keeps z₀ s) :
    State.Keeps z₀ (Twn.ackCommand ticket status reason s) := by
  unfold Twn.ackCommand
  repeat' first
    | with_reducible assumption | (intro)
    | (extract_lets +onlyGivenNames x; refine State.Keeps.cut (p := State.Keeps z₀ x) ?_ ?_;
        (focus (intro hx; clear_value x)); rotate_left; subst x)
    | (extract_lets +onlyGivenNames x; refine State.Keeps.cut (p := State.Keeps z₀ x.1) ?_ ?_;
        (focus (intro hx; clear_value x)); rotate_left; subst x)
    | (extract_lets +onlyGivenNames x; clear_value x) | with_reducible apply Cmd.post_keeps
    | with_reducible apply Cmd.keepRun_keeps | with_reducible apply State.Keeps.ite | split
    | (with_reducible refine State.Keeps.mk_same _ rfl rfl rfl rfl rfl rfl rfl rfl ?_)

theorem execCmdack_keeps {z₀ : State} (h : TthHdr) (ticket status reason : Nat) (s : State) (h_s : State.Keeps z₀ s) :
    State.Leads z₀ (execCmdack h ticket status reason s) := by
  unfold execCmdack
  repeat' first
    | with_reducible assumption | with_reducible apply State.Leads.next | with_reducible apply State.Leads.ite
    | with_reducible apply Twn.receive_keeps | with_reducible apply Twn.ackCommand_keeps

theorem Twn.joinTaken_keeps {z₀ : State} (old : Option Snapshot) (s : State) (h_s : State.Keeps z₀ s) :
    State.Keeps z₀ (Twn.joinTaken old s) := by
  unfold Twn.joinTaken
  repeat' first
    | with_reducible assumption | (intro)
    | (extract_lets +onlyGivenNames x; refine State.Keeps.cut (p := State.Keeps z₀ x) ?_ ?_;
        (focus (intro hx; clear_value x)); rotate_left; subst x)
    | (extract_lets +onlyGivenNames x; refine State.Keeps.cut (p := State.Keeps z₀ x.1) ?_ ?_;
        (focus (intro hx; clear_value x)); rotate_left; subst x)
    | (extract_lets +onlyGivenNames x; clear_value x) | with_reducible apply State.foldl_keeps
    | with_reducible apply State.foldl1_keeps | with_reducible apply State.Keeps.ite
    | with_reducible apply State.Keeps.ite1 | split
    | (with_reducible refine State.Keeps.mk_same _ rfl rfl rfl rfl rfl rfl rfl rfl ?_)

theorem Twn.take_keeps {z₀ : State} (f : Nat) (swap : Bool) (ticket : Nat) (s : State) (h_s : State.Keeps z₀ s) :
    State.Keeps z₀ (Twn.take f swap ticket s) := by
  unfold Twn.take
  repeat' first
    | with_reducible assumption | (intro)
    | (extract_lets +onlyGivenNames x; refine State.Keeps.cut (p := State.Keeps z₀ x) ?_ ?_;
        (focus (intro hx; clear_value x)); rotate_left; subst x)
    | (extract_lets +onlyGivenNames x; refine State.Keeps.cut (p := State.Keeps z₀ x.1) ?_ ?_;
        (focus (intro hx; clear_value x)); rotate_left; subst x)
    | (extract_lets +onlyGivenNames x; clear_value x) | with_reducible apply Swap.take_keeps
    | with_reducible apply Twn.joinTaken_keeps | with_reducible apply Commit.take_keeps
    | with_reducible apply State.Keeps.ite | split
    | (with_reducible refine State.Keeps.mk_same _ rfl rfl rfl rfl rfl rfl rfl rfl ?_)

theorem execTake_keeps {z₀ : State} (h : TthHdr) (swap : Bool) (ticket : Nat) (s : State) (h_s : State.Keeps z₀ s) :
    State.Leads z₀ (execTake h swap ticket s) := by
  unfold execTake
  repeat' first
    | with_reducible assumption | with_reducible apply State.Leads.next | with_reducible apply State.Leads.ite
    | with_reducible apply Twn.receive_keeps | with_reducible apply Twn.take_keeps

theorem execTakeTimeout_keeps {z₀ : State} (s : State) (h_s : State.Keeps z₀ s) :
    State.Leads z₀ (execTakeTimeout s) := by
  unfold execTakeTimeout
  repeat' first
    | with_reducible assumption | with_reducible apply State.Leads.next | with_reducible apply State.Leads.ite | (intro)
    | (extract_lets +onlyGivenNames x; refine State.Keeps.cut (p := State.Keeps z₀ x) ?_ ?_;
        (focus (intro hx; clear_value x)); rotate_left; subst x)
    | (extract_lets +onlyGivenNames x; refine State.Keeps.cut (p := State.Keeps z₀ x.1) ?_ ?_;
        (focus (intro hx; clear_value x)); rotate_left; subst x)
    | (extract_lets +onlyGivenNames x; clear_value x) | with_reducible apply Twn.setRole_keeps
    | with_reducible apply State.Keeps.ite | split
    | (with_reducible refine State.Keeps.mk_same _ rfl rfl rfl rfl rfl rfl rfl rfl ?_)

theorem Twn.roleNamed_keeps {z₀ : State} (k arg role : Nat) (s : State) (h_s : State.Keeps z₀ s) :
    State.Keeps z₀ (Twn.roleNamed k arg role s) := by
  unfold Twn.roleNamed
  repeat' first
    | with_reducible assumption | (intro)
    | (extract_lets +onlyGivenNames x; refine State.Keeps.cut (p := State.Keeps z₀ x) ?_ ?_;
        (focus (intro hx; clear_value x)); rotate_left; subst x)
    | (extract_lets +onlyGivenNames x; refine State.Keeps.cut (p := State.Keeps z₀ x.1) ?_ ?_;
        (focus (intro hx; clear_value x)); rotate_left; subst x)
    | (extract_lets +onlyGivenNames x; clear_value x) | with_reducible apply State.setFld_keeps
    | with_reducible apply Twn.setRole_keeps | with_reducible apply Twn.setResync_keeps
    | with_reducible apply State.Keeps.ite | split
    | (with_reducible refine State.Keeps.mk_same _ rfl rfl rfl rfl rfl rfl rfl rfl ?_)

theorem execRoleMessage_keeps {z₀ : State} (h : TthHdr) (arg role : Nat) (s : State) (h_s : State.Keeps z₀ s) :
    State.Leads z₀ (execRoleMessage h arg role s) := by
  unfold execRoleMessage
  repeat' first
    | with_reducible assumption | with_reducible apply State.Leads.next | with_reducible apply State.Leads.ite
    | with_reducible apply Twn.receive_keeps | with_reducible apply Twn.roleNamed_keeps

theorem execDrvrec_keeps {z₀ : State} (h : TthHdr) (l : List DrvRecord) (s : State) (h_s : State.Keeps z₀ s) :
    State.Leads z₀ (execDrvrec h l s) := by
  unfold execDrvrec
  repeat' first
    | with_reducible assumption | with_reducible apply State.Leads.next | with_reducible apply State.Leads.ite | (intro)
    | (extract_lets +onlyGivenNames x; refine State.Keeps.cut (p := State.Keeps z₀ x) ?_ ?_;
        (focus (intro hx; clear_value x)); rotate_left; subst x)
    | (extract_lets +onlyGivenNames x; clear_value x) | with_reducible apply Twn.receive_keeps
    | with_reducible apply State.Keeps.ite | split
    | (with_reducible refine State.Keeps.mk_same _ rfl rfl rfl rfl rfl rfl rfl rfl ?_)

theorem execRefreshMessage_keeps {z₀ : State} (h : TthHdr) (units rows : List (Nat × List Byte)) (s : State) (h_s : State.Keeps
    z₀ s) :
    State.Leads z₀ (execRefreshMessage h units rows s) := by
  unfold execRefreshMessage
  repeat' first
    | with_reducible assumption | with_reducible apply State.Leads.next | with_reducible apply State.Leads.ite | (intro)
    | (extract_lets +onlyGivenNames x; refine State.Keeps.cut (p := State.Keeps z₀ x) ?_ ?_;
        (focus (intro hx; clear_value x)); rotate_left; subst x)
    | (extract_lets +onlyGivenNames x; clear_value x) | with_reducible apply Twn.receive_keeps
    | with_reducible apply State.Keeps.ite | split
    | (with_reducible refine State.Keeps.mk_same _ rfl rfl rfl rfl rfl rfl rfl rfl ?_)

theorem Twn.syncLeaves_keeps {z₀ : State} (l : List (Nat × Nat)) (s : State) (h_s : State.Keeps z₀ s) :
    State.Keeps z₀ (Twn.syncLeaves l s) := by
  unfold Twn.syncLeaves
  repeat' first
    | with_reducible assumption | (intro)
    | (extract_lets +onlyGivenNames x; refine State.Keeps.cut (p := State.Keeps z₀ x) ?_ ?_;
        (focus (intro hx; clear_value x)); rotate_left; subst x)
    | (extract_lets +onlyGivenNames x; clear_value x) | with_reducible apply Twn.nameResync_keeps
    | with_reducible apply Twn.setResync_keeps | with_reducible apply Tth.send_keeps
    | with_reducible apply State.send_keeps | with_reducible apply Twn.prepare_keeps
    | with_reducible apply State.Keeps.ite | split
    | (with_reducible refine State.Keeps.mk_same _ rfl rfl rfl rfl rfl rfl rfl rfl ?_)

theorem Page.reload_keeps {z₀ : State} (s : State) (h_s : State.Keeps z₀ s) :
    State.Keeps z₀ (Page.reload s) := by
  unfold Page.reload
  repeat' first
    | with_reducible assumption | (intro)
    | (extract_lets +onlyGivenNames x; refine State.Keeps.cut (p := State.Keeps z₀ x) ?_ ?_;
        (focus (intro hx; clear_value x)); rotate_left; subst x)
    | (extract_lets +onlyGivenNames x; refine State.Keeps.cut (p := State.Keeps z₀ x.1) ?_ ?_;
        (focus (intro hx; clear_value x)); rotate_left; subst x)
    | (extract_lets +onlyGivenNames x; clear_value x) | with_reducible apply State.each_keeps
    | with_reducible apply State.setShReg_keeps | split
    | (with_reducible refine State.Keeps.mk_same _ rfl rfl rfl rfl rfl rfl rfl rfl ?_)

theorem Twn.syncPages_keeps {z₀ : State} (l : List (Nat × Nat × List Byte)) (s : State) (h_s : State.Keeps z₀ s) :
    State.Keeps z₀ (Twn.syncPages l s) := by
  unfold Twn.syncPages
  repeat' first
    | with_reducible assumption | (intro)
    | (extract_lets +onlyGivenNames x; refine State.Keeps.cut (p := State.Keeps z₀ x) ?_ ?_;
        (focus (intro hx; clear_value x)); rotate_left; subst x)
    | (extract_lets +onlyGivenNames x; refine State.Keeps.cut (p := State.Keeps z₀ x.1) ?_ ?_;
        (focus (intro hx; clear_value x)); rotate_left; subst x)
    | (extract_lets +onlyGivenNames x; clear_value x) | with_reducible apply Page.reload_keeps
    | with_reducible apply State.each_keeps | with_reducible apply Param.place_keeps
    | with_reducible apply Commit.start_keeps | with_reducible apply State.Keeps.ite
    | with_reducible apply State.Keeps.ite1 | split
    | (with_reducible refine State.Keeps.mk_same _ rfl rfl rfl rfl rfl rfl rfl rfl ?_)

theorem execSyncMessage_keeps {z₀ : State} (h : TthHdr) (phase : Nat) (b : SyncBody) (s : State) (h_s : State.Keeps z₀ s) :
    State.Leads z₀ (execSyncMessage h phase b s) := by
  unfold execSyncMessage
  repeat' first
    | with_reducible assumption | with_reducible apply State.Leads.next | with_reducible apply State.Leads.ite | (intro)
    | (extract_lets +onlyGivenNames x; refine State.Keeps.cut (p := State.Keeps z₀ x) ?_ ?_;
        (focus (intro hx; clear_value x)); rotate_left; subst x)
    | (extract_lets +onlyGivenNames x; refine State.Keeps.cut (p := State.Keeps z₀ x.1) ?_ ?_;
        (focus (intro hx; clear_value x)); rotate_left; subst x)
    | (extract_lets +onlyGivenNames x; clear_value x) | with_reducible apply Twn.receive_keeps
    | with_reducible apply Twn.syncLeaves_keeps | with_reducible apply Twn.syncPages_keeps
    | with_reducible apply State.Keeps.ite | split
    | (with_reducible refine State.Keeps.mk_same _ rfl rfl rfl rfl rfl rfl rfl rfl ?_)

theorem Twn.baleBytes_keeps {z₀ : State} (slot off : Nat) (last : Bool) (bytes : List Byte) (s : State) (h_s : State.Keeps z₀ s) :
    State.Keeps z₀ (Twn.baleBytes slot off last bytes s) := by
  unfold Twn.baleBytes
  repeat' first
    | with_reducible assumption | (intro)
    | (extract_lets +onlyGivenNames x; refine State.Keeps.cut (p := State.Keeps z₀ x) ?_ ?_;
        (focus (intro hx; clear_value x)); rotate_left; subst x)
    | (extract_lets +onlyGivenNames x; refine State.Keeps.cut (p := State.Keeps z₀ x.1) ?_ ?_;
        (focus (intro hx; clear_value x)); rotate_left; subst x)
    | (extract_lets +onlyGivenNames x; clear_value x) | with_reducible apply Bale.setState_keeps
    | with_reducible apply Mem.write_keeps | with_reducible apply State.Keeps.ite | with_reducible apply State.Keeps.ite1
    | split | (with_reducible refine State.Keeps.mk_same _ rfl rfl rfl rfl rfl rfl rfl rfl ?_)

theorem execBaleMessage_keeps {z₀ : State} (h : TthHdr) (slot off : Nat) (bytes : List Byte) (s : State) (h_s : State.Keeps z₀
    s) :
    State.Leads z₀ (execBaleMessage h slot off bytes s) := by
  unfold execBaleMessage
  repeat' first
    | with_reducible assumption | with_reducible apply State.Leads.next | with_reducible apply State.Leads.ite | (intro)
    | (extract_lets +onlyGivenNames x; refine State.Keeps.cut (p := State.Keeps z₀ x) ?_ ?_;
        (focus (intro hx; clear_value x)); rotate_left; subst x)
    | (extract_lets +onlyGivenNames x; clear_value x) | with_reducible apply Twn.receive_keeps
    | with_reducible apply Twn.baleBytes_keeps | with_reducible apply Cmd.start_keeps
    | with_reducible apply Bale.load_keeps | with_reducible apply State.Keeps.ite | split

theorem execRcdMessage_keeps {z₀ : State} (h : TthHdr) (gen k root baleRoot : Nat) (s : State) (h_s : State.Keeps z₀ s) :
    State.Leads z₀ (execRcdMessage h gen k root baleRoot s) := by
  unfold execRcdMessage
  repeat' first
    | with_reducible assumption | with_reducible apply State.Leads.next | with_reducible apply State.Leads.ite | (intro)
    | (extract_lets +onlyGivenNames x; refine State.Keeps.cut (p := State.Keeps z₀ x) ?_ ?_;
        (focus (intro hx; clear_value x)); rotate_left; subst x)
    | (extract_lets +onlyGivenNames x; clear_value x) | with_reducible apply Twn.receive_keeps
    | with_reducible apply Twn.prepare_keeps | with_reducible apply Twn.prepared_keeps
    | with_reducible apply State.Keeps.ite | split
    | (with_reducible refine State.Keeps.mk_same _ rfl rfl rfl rfl rfl rfl rfl rfl ?_)

end TwinMsg

end Sys2Proof.Machine
end

