-- ==== Sys2Proof/Laws/State.lean ====
section
/-! SUPPORT. One lemma per field of the state for each primitive update, and the laws of reading a register, a field or a byte after
writing one. -/

namespace Sys2Proof.Machine

@[simp] theorem State.setReg_variant (s : State) (off : Nat) (w : Word) : (State.setReg s off w).variant = s.variant := rfl
@[simp] theorem State.setReg_shadow (s : State) (off : Nat) (w : Word) : (State.setReg s off w).shadow = s.shadow := rfl
@[simp] theorem State.setReg_hiLatch (s : State) (off : Nat) (w : Word) : (State.setReg s off w).hiLatch = s.hiLatch := rfl
@[simp] theorem State.setReg_latched (s : State) (off : Nat) (w : Word) : (State.setReg s off w).latched = s.latched := rfl
@[simp] theorem State.setReg_fc (s : State) (off : Nat) (w : Word) : (State.setReg s off w).fc = s.fc := rfl
@[simp] theorem State.setReg_clk (s : State) (off : Nat) (w : Word) : (State.setReg s off w).clk = s.clk := rfl
@[simp] theorem State.setReg_evu (s : State) (off : Nat) (w : Word) : (State.setReg s off w).evu = s.evu := rfl
@[simp] theorem State.setReg_stalls (s : State) (off : Nat) (w : Word) : (State.setReg s off w).stalls = s.stalls := rfl
@[simp] theorem State.setReg_mem (s : State) (off : Nat) (w : Word) : (State.setReg s off w).mem = s.mem := rfl
@[simp] theorem State.setReg_host (s : State) (off : Nat) (w : Word) : (State.setReg s off w).host = s.host := rfl
@[simp] theorem State.setReg_out (s : State) (off : Nat) (w : Word) : (State.setReg s off w).out = s.out := rfl
@[simp] theorem State.setReg_free (s : State) (off : Nat) (w : Word) : (State.setReg s off w).free = s.free := rfl
@[simp] theorem State.setReg_phase (s : State) (off : Nat) (w : Word) : (State.setReg s off w).phase = s.phase := rfl
@[simp] theorem State.setReg_mtx (s : State) (off : Nat) (w : Word) : (State.setReg s off w).mtx = s.mtx := rfl
@[simp] theorem State.setReg_tkp (s : State) (off : Nat) (w : Word) : (State.setReg s off w).tkp = s.tkp := rfl
@[simp] theorem State.setReg_nsw (s : State) (off : Nat) (w : Word) : (State.setReg s off w).nsw = s.nsw := rfl
@[simp] theorem State.setReg_sap (s : State) (off : Nat) (w : Word) : (State.setReg s off w).sap = s.sap := rfl
@[simp] theorem State.setReg_sfb (s : State) (off : Nat) (w : Word) : (State.setReg s off w).sfb = s.sfb := rfl
@[simp] theorem State.setReg_drv (s : State) (off : Nat) (w : Word) : (State.setReg s off w).drv = s.drv := rfl
@[simp] theorem State.setReg_graph (s : State) (off : Nat) (w : Word) : (State.setReg s off w).graph = s.graph := rfl
@[simp] theorem State.setReg_cmd (s : State) (off : Nat) (w : Word) : (State.setReg s off w).cmd = s.cmd := rfl
@[simp] theorem State.setReg_bale (s : State) (off : Nat) (w : Word) : (State.setReg s off w).bale = s.bale := rfl
@[simp] theorem State.setReg_rcd (s : State) (off : Nat) (w : Word) : (State.setReg s off w).rcd = s.rcd := rfl
@[simp] theorem State.setReg_twn (s : State) (off : Nat) (w : Word) : (State.setReg s off w).twn = s.twn := rfl
@[simp] theorem State.setReg_pwr (s : State) (off : Nat) (w : Word) : (State.setReg s off w).pwr = s.pwr := rfl
@[simp] theorem State.setReg_dbg (s : State) (off : Nat) (w : Word) : (State.setReg s off w).dbg = s.dbg := rfl
@[simp] theorem State.setReg_pending (s : State) (off : Nat) (w : Word) : (State.setReg s off w).pending = s.pending := rfl

@[simp] theorem State.setShReg_variant (s : State) (off : Nat) (w : Word) : (State.setShReg s off w).variant = s.variant := rfl
@[simp] theorem State.setShReg_regs (s : State) (off : Nat) (w : Word) : (State.setShReg s off w).regs = s.regs := rfl
@[simp] theorem State.setShReg_hiLatch (s : State) (off : Nat) (w : Word) : (State.setShReg s off w).hiLatch = s.hiLatch := rfl
@[simp] theorem State.setShReg_latched (s : State) (off : Nat) (w : Word) : (State.setShReg s off w).latched = s.latched := rfl
@[simp] theorem State.setShReg_fc (s : State) (off : Nat) (w : Word) : (State.setShReg s off w).fc = s.fc := rfl
@[simp] theorem State.setShReg_clk (s : State) (off : Nat) (w : Word) : (State.setShReg s off w).clk = s.clk := rfl
@[simp] theorem State.setShReg_evu (s : State) (off : Nat) (w : Word) : (State.setShReg s off w).evu = s.evu := rfl
@[simp] theorem State.setShReg_stalls (s : State) (off : Nat) (w : Word) : (State.setShReg s off w).stalls = s.stalls := rfl
@[simp] theorem State.setShReg_mem (s : State) (off : Nat) (w : Word) : (State.setShReg s off w).mem = s.mem := rfl
@[simp] theorem State.setShReg_host (s : State) (off : Nat) (w : Word) : (State.setShReg s off w).host = s.host := rfl
@[simp] theorem State.setShReg_out (s : State) (off : Nat) (w : Word) : (State.setShReg s off w).out = s.out := rfl
@[simp] theorem State.setShReg_free (s : State) (off : Nat) (w : Word) : (State.setShReg s off w).free = s.free := rfl
@[simp] theorem State.setShReg_phase (s : State) (off : Nat) (w : Word) : (State.setShReg s off w).phase = s.phase := rfl
@[simp] theorem State.setShReg_mtx (s : State) (off : Nat) (w : Word) : (State.setShReg s off w).mtx = s.mtx := rfl
@[simp] theorem State.setShReg_tkp (s : State) (off : Nat) (w : Word) : (State.setShReg s off w).tkp = s.tkp := rfl
@[simp] theorem State.setShReg_nsw (s : State) (off : Nat) (w : Word) : (State.setShReg s off w).nsw = s.nsw := rfl
@[simp] theorem State.setShReg_sap (s : State) (off : Nat) (w : Word) : (State.setShReg s off w).sap = s.sap := rfl
@[simp] theorem State.setShReg_sfb (s : State) (off : Nat) (w : Word) : (State.setShReg s off w).sfb = s.sfb := rfl
@[simp] theorem State.setShReg_drv (s : State) (off : Nat) (w : Word) : (State.setShReg s off w).drv = s.drv := rfl
@[simp] theorem State.setShReg_graph (s : State) (off : Nat) (w : Word) : (State.setShReg s off w).graph = s.graph := rfl
@[simp] theorem State.setShReg_cmd (s : State) (off : Nat) (w : Word) : (State.setShReg s off w).cmd = s.cmd := rfl
@[simp] theorem State.setShReg_bale (s : State) (off : Nat) (w : Word) : (State.setShReg s off w).bale = s.bale := rfl
@[simp] theorem State.setShReg_rcd (s : State) (off : Nat) (w : Word) : (State.setShReg s off w).rcd = s.rcd := rfl
@[simp] theorem State.setShReg_twn (s : State) (off : Nat) (w : Word) : (State.setShReg s off w).twn = s.twn := rfl
@[simp] theorem State.setShReg_pwr (s : State) (off : Nat) (w : Word) : (State.setShReg s off w).pwr = s.pwr := rfl
@[simp] theorem State.setShReg_dbg (s : State) (off : Nat) (w : Word) : (State.setShReg s off w).dbg = s.dbg := rfl
@[simp] theorem State.setShReg_pending (s : State) (off : Nat) (w : Word) : (State.setShReg s off w).pending = s.pending := rfl

@[simp] theorem State.withShadow_variant (s : State) (b : State) : (State.withShadow s b).variant = s.variant := rfl
@[simp] theorem State.withShadow_regs (s : State) (b : State) : (State.withShadow s b).regs = s.regs := rfl
@[simp] theorem State.withShadow_hiLatch (s : State) (b : State) : (State.withShadow s b).hiLatch = s.hiLatch := rfl
@[simp] theorem State.withShadow_latched (s : State) (b : State) : (State.withShadow s b).latched = s.latched := rfl
@[simp] theorem State.withShadow_fc (s : State) (b : State) : (State.withShadow s b).fc = s.fc := rfl
@[simp] theorem State.withShadow_clk (s : State) (b : State) : (State.withShadow s b).clk = s.clk := rfl
@[simp] theorem State.withShadow_evu (s : State) (b : State) : (State.withShadow s b).evu = s.evu := rfl
@[simp] theorem State.withShadow_stalls (s : State) (b : State) : (State.withShadow s b).stalls = s.stalls := rfl
@[simp] theorem State.withShadow_mem (s : State) (b : State) : (State.withShadow s b).mem = s.mem := rfl
@[simp] theorem State.withShadow_host (s : State) (b : State) : (State.withShadow s b).host = s.host := rfl
@[simp] theorem State.withShadow_out (s : State) (b : State) : (State.withShadow s b).out = s.out := rfl
@[simp] theorem State.withShadow_free (s : State) (b : State) : (State.withShadow s b).free = s.free := rfl
@[simp] theorem State.withShadow_phase (s : State) (b : State) : (State.withShadow s b).phase = s.phase := rfl
@[simp] theorem State.withShadow_mtx (s : State) (b : State) : (State.withShadow s b).mtx = s.mtx := rfl
@[simp] theorem State.withShadow_tkp (s : State) (b : State) : (State.withShadow s b).tkp = s.tkp := rfl
@[simp] theorem State.withShadow_nsw (s : State) (b : State) : (State.withShadow s b).nsw = s.nsw := rfl
@[simp] theorem State.withShadow_sap (s : State) (b : State) : (State.withShadow s b).sap = s.sap := rfl
@[simp] theorem State.withShadow_sfb (s : State) (b : State) : (State.withShadow s b).sfb = s.sfb := rfl
@[simp] theorem State.withShadow_drv (s : State) (b : State) : (State.withShadow s b).drv = s.drv := rfl
@[simp] theorem State.withShadow_graph (s : State) (b : State) : (State.withShadow s b).graph = s.graph := rfl
@[simp] theorem State.withShadow_cmd (s : State) (b : State) : (State.withShadow s b).cmd = s.cmd := rfl
@[simp] theorem State.withShadow_bale (s : State) (b : State) : (State.withShadow s b).bale = s.bale := rfl
@[simp] theorem State.withShadow_rcd (s : State) (b : State) : (State.withShadow s b).rcd = s.rcd := rfl
@[simp] theorem State.withShadow_twn (s : State) (b : State) : (State.withShadow s b).twn = s.twn := rfl
@[simp] theorem State.withShadow_pwr (s : State) (b : State) : (State.withShadow s b).pwr = s.pwr := rfl
@[simp] theorem State.withShadow_dbg (s : State) (b : State) : (State.withShadow s b).dbg = s.dbg := rfl
@[simp] theorem State.withShadow_pending (s : State) (b : State) : (State.withShadow s b).pending = s.pending := rfl

@[simp] theorem State.setFld_variant (s : State) (f : Fld) (v : Nat) : (State.setFld s f v).variant = s.variant := rfl
@[simp] theorem State.setFld_shadow (s : State) (f : Fld) (v : Nat) : (State.setFld s f v).shadow = s.shadow := rfl
@[simp] theorem State.setFld_hiLatch (s : State) (f : Fld) (v : Nat) : (State.setFld s f v).hiLatch = s.hiLatch := rfl
@[simp] theorem State.setFld_latched (s : State) (f : Fld) (v : Nat) : (State.setFld s f v).latched = s.latched := rfl
@[simp] theorem State.setFld_fc (s : State) (f : Fld) (v : Nat) : (State.setFld s f v).fc = s.fc := rfl
@[simp] theorem State.setFld_clk (s : State) (f : Fld) (v : Nat) : (State.setFld s f v).clk = s.clk := rfl
@[simp] theorem State.setFld_evu (s : State) (f : Fld) (v : Nat) : (State.setFld s f v).evu = s.evu := rfl
@[simp] theorem State.setFld_stalls (s : State) (f : Fld) (v : Nat) : (State.setFld s f v).stalls = s.stalls := rfl
@[simp] theorem State.setFld_mem (s : State) (f : Fld) (v : Nat) : (State.setFld s f v).mem = s.mem := rfl
@[simp] theorem State.setFld_host (s : State) (f : Fld) (v : Nat) : (State.setFld s f v).host = s.host := rfl
@[simp] theorem State.setFld_out (s : State) (f : Fld) (v : Nat) : (State.setFld s f v).out = s.out := rfl
@[simp] theorem State.setFld_free (s : State) (f : Fld) (v : Nat) : (State.setFld s f v).free = s.free := rfl
@[simp] theorem State.setFld_phase (s : State) (f : Fld) (v : Nat) : (State.setFld s f v).phase = s.phase := rfl
@[simp] theorem State.setFld_mtx (s : State) (f : Fld) (v : Nat) : (State.setFld s f v).mtx = s.mtx := rfl
@[simp] theorem State.setFld_tkp (s : State) (f : Fld) (v : Nat) : (State.setFld s f v).tkp = s.tkp := rfl
@[simp] theorem State.setFld_nsw (s : State) (f : Fld) (v : Nat) : (State.setFld s f v).nsw = s.nsw := rfl
@[simp] theorem State.setFld_sap (s : State) (f : Fld) (v : Nat) : (State.setFld s f v).sap = s.sap := rfl
@[simp] theorem State.setFld_sfb (s : State) (f : Fld) (v : Nat) : (State.setFld s f v).sfb = s.sfb := rfl
@[simp] theorem State.setFld_drv (s : State) (f : Fld) (v : Nat) : (State.setFld s f v).drv = s.drv := rfl
@[simp] theorem State.setFld_graph (s : State) (f : Fld) (v : Nat) : (State.setFld s f v).graph = s.graph := rfl
@[simp] theorem State.setFld_cmd (s : State) (f : Fld) (v : Nat) : (State.setFld s f v).cmd = s.cmd := rfl
@[simp] theorem State.setFld_bale (s : State) (f : Fld) (v : Nat) : (State.setFld s f v).bale = s.bale := rfl
@[simp] theorem State.setFld_rcd (s : State) (f : Fld) (v : Nat) : (State.setFld s f v).rcd = s.rcd := rfl
@[simp] theorem State.setFld_twn (s : State) (f : Fld) (v : Nat) : (State.setFld s f v).twn = s.twn := rfl
@[simp] theorem State.setFld_pwr (s : State) (f : Fld) (v : Nat) : (State.setFld s f v).pwr = s.pwr := rfl
@[simp] theorem State.setFld_dbg (s : State) (f : Fld) (v : Nat) : (State.setFld s f v).dbg = s.dbg := rfl
@[simp] theorem State.setFld_pending (s : State) (f : Fld) (v : Nat) : (State.setFld s f v).pending = s.pending := rfl

@[simp] theorem State.setFlag_variant (s : State) (f : Fld) (b : Bool) : (State.setFlag s f b).variant = s.variant := rfl
@[simp] theorem State.setFlag_shadow (s : State) (f : Fld) (b : Bool) : (State.setFlag s f b).shadow = s.shadow := rfl
@[simp] theorem State.setFlag_hiLatch (s : State) (f : Fld) (b : Bool) : (State.setFlag s f b).hiLatch = s.hiLatch := rfl
@[simp] theorem State.setFlag_latched (s : State) (f : Fld) (b : Bool) : (State.setFlag s f b).latched = s.latched := rfl
@[simp] theorem State.setFlag_fc (s : State) (f : Fld) (b : Bool) : (State.setFlag s f b).fc = s.fc := rfl
@[simp] theorem State.setFlag_clk (s : State) (f : Fld) (b : Bool) : (State.setFlag s f b).clk = s.clk := rfl
@[simp] theorem State.setFlag_evu (s : State) (f : Fld) (b : Bool) : (State.setFlag s f b).evu = s.evu := rfl
@[simp] theorem State.setFlag_stalls (s : State) (f : Fld) (b : Bool) : (State.setFlag s f b).stalls = s.stalls := rfl
@[simp] theorem State.setFlag_mem (s : State) (f : Fld) (b : Bool) : (State.setFlag s f b).mem = s.mem := rfl
@[simp] theorem State.setFlag_host (s : State) (f : Fld) (b : Bool) : (State.setFlag s f b).host = s.host := rfl
@[simp] theorem State.setFlag_out (s : State) (f : Fld) (b : Bool) : (State.setFlag s f b).out = s.out := rfl
@[simp] theorem State.setFlag_free (s : State) (f : Fld) (b : Bool) : (State.setFlag s f b).free = s.free := rfl
@[simp] theorem State.setFlag_phase (s : State) (f : Fld) (b : Bool) : (State.setFlag s f b).phase = s.phase := rfl
@[simp] theorem State.setFlag_mtx (s : State) (f : Fld) (b : Bool) : (State.setFlag s f b).mtx = s.mtx := rfl
@[simp] theorem State.setFlag_tkp (s : State) (f : Fld) (b : Bool) : (State.setFlag s f b).tkp = s.tkp := rfl
@[simp] theorem State.setFlag_nsw (s : State) (f : Fld) (b : Bool) : (State.setFlag s f b).nsw = s.nsw := rfl
@[simp] theorem State.setFlag_sap (s : State) (f : Fld) (b : Bool) : (State.setFlag s f b).sap = s.sap := rfl
@[simp] theorem State.setFlag_sfb (s : State) (f : Fld) (b : Bool) : (State.setFlag s f b).sfb = s.sfb := rfl
@[simp] theorem State.setFlag_drv (s : State) (f : Fld) (b : Bool) : (State.setFlag s f b).drv = s.drv := rfl
@[simp] theorem State.setFlag_graph (s : State) (f : Fld) (b : Bool) : (State.setFlag s f b).graph = s.graph := rfl
@[simp] theorem State.setFlag_cmd (s : State) (f : Fld) (b : Bool) : (State.setFlag s f b).cmd = s.cmd := rfl
@[simp] theorem State.setFlag_bale (s : State) (f : Fld) (b : Bool) : (State.setFlag s f b).bale = s.bale := rfl
@[simp] theorem State.setFlag_rcd (s : State) (f : Fld) (b : Bool) : (State.setFlag s f b).rcd = s.rcd := rfl
@[simp] theorem State.setFlag_twn (s : State) (f : Fld) (b : Bool) : (State.setFlag s f b).twn = s.twn := rfl
@[simp] theorem State.setFlag_pwr (s : State) (f : Fld) (b : Bool) : (State.setFlag s f b).pwr = s.pwr := rfl
@[simp] theorem State.setFlag_dbg (s : State) (f : Fld) (b : Bool) : (State.setFlag s f b).dbg = s.dbg := rfl
@[simp] theorem State.setFlag_pending (s : State) (f : Fld) (b : Bool) : (State.setFlag s f b).pending = s.pending := rfl

@[simp] theorem State.addCnt_variant (s : State) (f : Fld) (n : Nat) : (State.addCnt s f n).variant = s.variant := rfl
@[simp] theorem State.addCnt_shadow (s : State) (f : Fld) (n : Nat) : (State.addCnt s f n).shadow = s.shadow := rfl
@[simp] theorem State.addCnt_hiLatch (s : State) (f : Fld) (n : Nat) : (State.addCnt s f n).hiLatch = s.hiLatch := rfl
@[simp] theorem State.addCnt_latched (s : State) (f : Fld) (n : Nat) : (State.addCnt s f n).latched = s.latched := rfl
@[simp] theorem State.addCnt_fc (s : State) (f : Fld) (n : Nat) : (State.addCnt s f n).fc = s.fc := rfl
@[simp] theorem State.addCnt_clk (s : State) (f : Fld) (n : Nat) : (State.addCnt s f n).clk = s.clk := rfl
@[simp] theorem State.addCnt_evu (s : State) (f : Fld) (n : Nat) : (State.addCnt s f n).evu = s.evu := rfl
@[simp] theorem State.addCnt_stalls (s : State) (f : Fld) (n : Nat) : (State.addCnt s f n).stalls = s.stalls := rfl
@[simp] theorem State.addCnt_mem (s : State) (f : Fld) (n : Nat) : (State.addCnt s f n).mem = s.mem := rfl
@[simp] theorem State.addCnt_host (s : State) (f : Fld) (n : Nat) : (State.addCnt s f n).host = s.host := rfl
@[simp] theorem State.addCnt_out (s : State) (f : Fld) (n : Nat) : (State.addCnt s f n).out = s.out := rfl
@[simp] theorem State.addCnt_free (s : State) (f : Fld) (n : Nat) : (State.addCnt s f n).free = s.free := rfl
@[simp] theorem State.addCnt_phase (s : State) (f : Fld) (n : Nat) : (State.addCnt s f n).phase = s.phase := rfl
@[simp] theorem State.addCnt_mtx (s : State) (f : Fld) (n : Nat) : (State.addCnt s f n).mtx = s.mtx := rfl
@[simp] theorem State.addCnt_tkp (s : State) (f : Fld) (n : Nat) : (State.addCnt s f n).tkp = s.tkp := rfl
@[simp] theorem State.addCnt_nsw (s : State) (f : Fld) (n : Nat) : (State.addCnt s f n).nsw = s.nsw := rfl
@[simp] theorem State.addCnt_sap (s : State) (f : Fld) (n : Nat) : (State.addCnt s f n).sap = s.sap := rfl
@[simp] theorem State.addCnt_sfb (s : State) (f : Fld) (n : Nat) : (State.addCnt s f n).sfb = s.sfb := rfl
@[simp] theorem State.addCnt_drv (s : State) (f : Fld) (n : Nat) : (State.addCnt s f n).drv = s.drv := rfl
@[simp] theorem State.addCnt_graph (s : State) (f : Fld) (n : Nat) : (State.addCnt s f n).graph = s.graph := rfl
@[simp] theorem State.addCnt_cmd (s : State) (f : Fld) (n : Nat) : (State.addCnt s f n).cmd = s.cmd := rfl
@[simp] theorem State.addCnt_bale (s : State) (f : Fld) (n : Nat) : (State.addCnt s f n).bale = s.bale := rfl
@[simp] theorem State.addCnt_rcd (s : State) (f : Fld) (n : Nat) : (State.addCnt s f n).rcd = s.rcd := rfl
@[simp] theorem State.addCnt_twn (s : State) (f : Fld) (n : Nat) : (State.addCnt s f n).twn = s.twn := rfl
@[simp] theorem State.addCnt_pwr (s : State) (f : Fld) (n : Nat) : (State.addCnt s f n).pwr = s.pwr := rfl
@[simp] theorem State.addCnt_dbg (s : State) (f : Fld) (n : Nat) : (State.addCnt s f n).dbg = s.dbg := rfl
@[simp] theorem State.addCnt_pending (s : State) (f : Fld) (n : Nat) : (State.addCnt s f n).pending = s.pending := rfl

@[simp] theorem State.incCnt_variant (s : State) (f : Fld) : (State.incCnt s f).variant = s.variant := rfl
@[simp] theorem State.incCnt_shadow (s : State) (f : Fld) : (State.incCnt s f).shadow = s.shadow := rfl
@[simp] theorem State.incCnt_hiLatch (s : State) (f : Fld) : (State.incCnt s f).hiLatch = s.hiLatch := rfl
@[simp] theorem State.incCnt_latched (s : State) (f : Fld) : (State.incCnt s f).latched = s.latched := rfl
@[simp] theorem State.incCnt_fc (s : State) (f : Fld) : (State.incCnt s f).fc = s.fc := rfl
@[simp] theorem State.incCnt_clk (s : State) (f : Fld) : (State.incCnt s f).clk = s.clk := rfl
@[simp] theorem State.incCnt_evu (s : State) (f : Fld) : (State.incCnt s f).evu = s.evu := rfl
@[simp] theorem State.incCnt_stalls (s : State) (f : Fld) : (State.incCnt s f).stalls = s.stalls := rfl
@[simp] theorem State.incCnt_mem (s : State) (f : Fld) : (State.incCnt s f).mem = s.mem := rfl
@[simp] theorem State.incCnt_host (s : State) (f : Fld) : (State.incCnt s f).host = s.host := rfl
@[simp] theorem State.incCnt_out (s : State) (f : Fld) : (State.incCnt s f).out = s.out := rfl
@[simp] theorem State.incCnt_free (s : State) (f : Fld) : (State.incCnt s f).free = s.free := rfl
@[simp] theorem State.incCnt_phase (s : State) (f : Fld) : (State.incCnt s f).phase = s.phase := rfl
@[simp] theorem State.incCnt_mtx (s : State) (f : Fld) : (State.incCnt s f).mtx = s.mtx := rfl
@[simp] theorem State.incCnt_tkp (s : State) (f : Fld) : (State.incCnt s f).tkp = s.tkp := rfl
@[simp] theorem State.incCnt_nsw (s : State) (f : Fld) : (State.incCnt s f).nsw = s.nsw := rfl
@[simp] theorem State.incCnt_sap (s : State) (f : Fld) : (State.incCnt s f).sap = s.sap := rfl
@[simp] theorem State.incCnt_sfb (s : State) (f : Fld) : (State.incCnt s f).sfb = s.sfb := rfl
@[simp] theorem State.incCnt_drv (s : State) (f : Fld) : (State.incCnt s f).drv = s.drv := rfl
@[simp] theorem State.incCnt_graph (s : State) (f : Fld) : (State.incCnt s f).graph = s.graph := rfl
@[simp] theorem State.incCnt_cmd (s : State) (f : Fld) : (State.incCnt s f).cmd = s.cmd := rfl
@[simp] theorem State.incCnt_bale (s : State) (f : Fld) : (State.incCnt s f).bale = s.bale := rfl
@[simp] theorem State.incCnt_rcd (s : State) (f : Fld) : (State.incCnt s f).rcd = s.rcd := rfl
@[simp] theorem State.incCnt_twn (s : State) (f : Fld) : (State.incCnt s f).twn = s.twn := rfl
@[simp] theorem State.incCnt_pwr (s : State) (f : Fld) : (State.incCnt s f).pwr = s.pwr := rfl
@[simp] theorem State.incCnt_dbg (s : State) (f : Fld) : (State.incCnt s f).dbg = s.dbg := rfl
@[simp] theorem State.incCnt_pending (s : State) (f : Fld) : (State.incCnt s f).pending = s.pending := rfl

@[simp] theorem State.incWrap_variant (s : State) (f : Fld) : (State.incWrap s f).variant = s.variant := rfl
@[simp] theorem State.incWrap_shadow (s : State) (f : Fld) : (State.incWrap s f).shadow = s.shadow := rfl
@[simp] theorem State.incWrap_hiLatch (s : State) (f : Fld) : (State.incWrap s f).hiLatch = s.hiLatch := rfl
@[simp] theorem State.incWrap_latched (s : State) (f : Fld) : (State.incWrap s f).latched = s.latched := rfl
@[simp] theorem State.incWrap_fc (s : State) (f : Fld) : (State.incWrap s f).fc = s.fc := rfl
@[simp] theorem State.incWrap_clk (s : State) (f : Fld) : (State.incWrap s f).clk = s.clk := rfl
@[simp] theorem State.incWrap_evu (s : State) (f : Fld) : (State.incWrap s f).evu = s.evu := rfl
@[simp] theorem State.incWrap_stalls (s : State) (f : Fld) : (State.incWrap s f).stalls = s.stalls := rfl
@[simp] theorem State.incWrap_mem (s : State) (f : Fld) : (State.incWrap s f).mem = s.mem := rfl
@[simp] theorem State.incWrap_host (s : State) (f : Fld) : (State.incWrap s f).host = s.host := rfl
@[simp] theorem State.incWrap_out (s : State) (f : Fld) : (State.incWrap s f).out = s.out := rfl
@[simp] theorem State.incWrap_free (s : State) (f : Fld) : (State.incWrap s f).free = s.free := rfl
@[simp] theorem State.incWrap_phase (s : State) (f : Fld) : (State.incWrap s f).phase = s.phase := rfl
@[simp] theorem State.incWrap_mtx (s : State) (f : Fld) : (State.incWrap s f).mtx = s.mtx := rfl
@[simp] theorem State.incWrap_tkp (s : State) (f : Fld) : (State.incWrap s f).tkp = s.tkp := rfl
@[simp] theorem State.incWrap_nsw (s : State) (f : Fld) : (State.incWrap s f).nsw = s.nsw := rfl
@[simp] theorem State.incWrap_sap (s : State) (f : Fld) : (State.incWrap s f).sap = s.sap := rfl
@[simp] theorem State.incWrap_sfb (s : State) (f : Fld) : (State.incWrap s f).sfb = s.sfb := rfl
@[simp] theorem State.incWrap_drv (s : State) (f : Fld) : (State.incWrap s f).drv = s.drv := rfl
@[simp] theorem State.incWrap_graph (s : State) (f : Fld) : (State.incWrap s f).graph = s.graph := rfl
@[simp] theorem State.incWrap_cmd (s : State) (f : Fld) : (State.incWrap s f).cmd = s.cmd := rfl
@[simp] theorem State.incWrap_bale (s : State) (f : Fld) : (State.incWrap s f).bale = s.bale := rfl
@[simp] theorem State.incWrap_rcd (s : State) (f : Fld) : (State.incWrap s f).rcd = s.rcd := rfl
@[simp] theorem State.incWrap_twn (s : State) (f : Fld) : (State.incWrap s f).twn = s.twn := rfl
@[simp] theorem State.incWrap_pwr (s : State) (f : Fld) : (State.incWrap s f).pwr = s.pwr := rfl
@[simp] theorem State.incWrap_dbg (s : State) (f : Fld) : (State.incWrap s f).dbg = s.dbg := rfl
@[simp] theorem State.incWrap_pending (s : State) (f : Fld) : (State.incWrap s f).pending = s.pending := rfl

@[simp] theorem State.setVecBit_variant (s : State) (base n : Nat) (b : Bool) : (State.setVecBit s base n b).variant = s.variant := rfl
@[simp] theorem State.setVecBit_shadow (s : State) (base n : Nat) (b : Bool) : (State.setVecBit s base n b).shadow = s.shadow := rfl
@[simp] theorem State.setVecBit_hiLatch (s : State) (base n : Nat) (b : Bool) : (State.setVecBit s base n b).hiLatch = s.hiLatch := rfl
@[simp] theorem State.setVecBit_latched (s : State) (base n : Nat) (b : Bool) : (State.setVecBit s base n b).latched = s.latched := rfl
@[simp] theorem State.setVecBit_fc (s : State) (base n : Nat) (b : Bool) : (State.setVecBit s base n b).fc = s.fc := rfl
@[simp] theorem State.setVecBit_clk (s : State) (base n : Nat) (b : Bool) : (State.setVecBit s base n b).clk = s.clk := rfl
@[simp] theorem State.setVecBit_evu (s : State) (base n : Nat) (b : Bool) : (State.setVecBit s base n b).evu = s.evu := rfl
@[simp] theorem State.setVecBit_stalls (s : State) (base n : Nat) (b : Bool) : (State.setVecBit s base n b).stalls = s.stalls := rfl
@[simp] theorem State.setVecBit_mem (s : State) (base n : Nat) (b : Bool) : (State.setVecBit s base n b).mem = s.mem := rfl
@[simp] theorem State.setVecBit_host (s : State) (base n : Nat) (b : Bool) : (State.setVecBit s base n b).host = s.host := rfl
@[simp] theorem State.setVecBit_out (s : State) (base n : Nat) (b : Bool) : (State.setVecBit s base n b).out = s.out := rfl
@[simp] theorem State.setVecBit_free (s : State) (base n : Nat) (b : Bool) : (State.setVecBit s base n b).free = s.free := rfl
@[simp] theorem State.setVecBit_phase (s : State) (base n : Nat) (b : Bool) : (State.setVecBit s base n b).phase = s.phase := rfl
@[simp] theorem State.setVecBit_mtx (s : State) (base n : Nat) (b : Bool) : (State.setVecBit s base n b).mtx = s.mtx := rfl
@[simp] theorem State.setVecBit_tkp (s : State) (base n : Nat) (b : Bool) : (State.setVecBit s base n b).tkp = s.tkp := rfl
@[simp] theorem State.setVecBit_nsw (s : State) (base n : Nat) (b : Bool) : (State.setVecBit s base n b).nsw = s.nsw := rfl
@[simp] theorem State.setVecBit_sap (s : State) (base n : Nat) (b : Bool) : (State.setVecBit s base n b).sap = s.sap := rfl
@[simp] theorem State.setVecBit_sfb (s : State) (base n : Nat) (b : Bool) : (State.setVecBit s base n b).sfb = s.sfb := rfl
@[simp] theorem State.setVecBit_drv (s : State) (base n : Nat) (b : Bool) : (State.setVecBit s base n b).drv = s.drv := rfl
@[simp] theorem State.setVecBit_graph (s : State) (base n : Nat) (b : Bool) : (State.setVecBit s base n b).graph = s.graph := rfl
@[simp] theorem State.setVecBit_cmd (s : State) (base n : Nat) (b : Bool) : (State.setVecBit s base n b).cmd = s.cmd := rfl
@[simp] theorem State.setVecBit_bale (s : State) (base n : Nat) (b : Bool) : (State.setVecBit s base n b).bale = s.bale := rfl
@[simp] theorem State.setVecBit_rcd (s : State) (base n : Nat) (b : Bool) : (State.setVecBit s base n b).rcd = s.rcd := rfl
@[simp] theorem State.setVecBit_twn (s : State) (base n : Nat) (b : Bool) : (State.setVecBit s base n b).twn = s.twn := rfl
@[simp] theorem State.setVecBit_pwr (s : State) (base n : Nat) (b : Bool) : (State.setVecBit s base n b).pwr = s.pwr := rfl
@[simp] theorem State.setVecBit_dbg (s : State) (base n : Nat) (b : Bool) : (State.setVecBit s base n b).dbg = s.dbg := rfl
@[simp] theorem State.setVecBit_pending (s : State) (base n : Nat) (b : Bool) : (State.setVecBit s base n b).pending = s.pending := rfl

@[simp] theorem State.setReg64_variant (s : State) (off v : Nat) : (State.setReg64 s off v).variant = s.variant := rfl
@[simp] theorem State.setReg64_shadow (s : State) (off v : Nat) : (State.setReg64 s off v).shadow = s.shadow := rfl
@[simp] theorem State.setReg64_hiLatch (s : State) (off v : Nat) : (State.setReg64 s off v).hiLatch = s.hiLatch := rfl
@[simp] theorem State.setReg64_latched (s : State) (off v : Nat) : (State.setReg64 s off v).latched = s.latched := rfl
@[simp] theorem State.setReg64_fc (s : State) (off v : Nat) : (State.setReg64 s off v).fc = s.fc := rfl
@[simp] theorem State.setReg64_clk (s : State) (off v : Nat) : (State.setReg64 s off v).clk = s.clk := rfl
@[simp] theorem State.setReg64_evu (s : State) (off v : Nat) : (State.setReg64 s off v).evu = s.evu := rfl
@[simp] theorem State.setReg64_stalls (s : State) (off v : Nat) : (State.setReg64 s off v).stalls = s.stalls := rfl
@[simp] theorem State.setReg64_mem (s : State) (off v : Nat) : (State.setReg64 s off v).mem = s.mem := rfl
@[simp] theorem State.setReg64_host (s : State) (off v : Nat) : (State.setReg64 s off v).host = s.host := rfl
@[simp] theorem State.setReg64_out (s : State) (off v : Nat) : (State.setReg64 s off v).out = s.out := rfl
@[simp] theorem State.setReg64_free (s : State) (off v : Nat) : (State.setReg64 s off v).free = s.free := rfl
@[simp] theorem State.setReg64_phase (s : State) (off v : Nat) : (State.setReg64 s off v).phase = s.phase := rfl
@[simp] theorem State.setReg64_mtx (s : State) (off v : Nat) : (State.setReg64 s off v).mtx = s.mtx := rfl
@[simp] theorem State.setReg64_tkp (s : State) (off v : Nat) : (State.setReg64 s off v).tkp = s.tkp := rfl
@[simp] theorem State.setReg64_nsw (s : State) (off v : Nat) : (State.setReg64 s off v).nsw = s.nsw := rfl
@[simp] theorem State.setReg64_sap (s : State) (off v : Nat) : (State.setReg64 s off v).sap = s.sap := rfl
@[simp] theorem State.setReg64_sfb (s : State) (off v : Nat) : (State.setReg64 s off v).sfb = s.sfb := rfl
@[simp] theorem State.setReg64_drv (s : State) (off v : Nat) : (State.setReg64 s off v).drv = s.drv := rfl
@[simp] theorem State.setReg64_graph (s : State) (off v : Nat) : (State.setReg64 s off v).graph = s.graph := rfl
@[simp] theorem State.setReg64_cmd (s : State) (off v : Nat) : (State.setReg64 s off v).cmd = s.cmd := rfl
@[simp] theorem State.setReg64_bale (s : State) (off v : Nat) : (State.setReg64 s off v).bale = s.bale := rfl
@[simp] theorem State.setReg64_rcd (s : State) (off v : Nat) : (State.setReg64 s off v).rcd = s.rcd := rfl
@[simp] theorem State.setReg64_twn (s : State) (off v : Nat) : (State.setReg64 s off v).twn = s.twn := rfl
@[simp] theorem State.setReg64_pwr (s : State) (off v : Nat) : (State.setReg64 s off v).pwr = s.pwr := rfl
@[simp] theorem State.setReg64_dbg (s : State) (off v : Nat) : (State.setReg64 s off v).dbg = s.dbg := rfl
@[simp] theorem State.setReg64_pending (s : State) (off v : Nat) : (State.setReg64 s off v).pending = s.pending := rfl

@[simp] theorem State.send_variant (s : State) (e : Emit) : (State.send s e).variant = s.variant := rfl
@[simp] theorem State.send_regs (s : State) (e : Emit) : (State.send s e).regs = s.regs := rfl
@[simp] theorem State.send_shadow (s : State) (e : Emit) : (State.send s e).shadow = s.shadow := rfl
@[simp] theorem State.send_hiLatch (s : State) (e : Emit) : (State.send s e).hiLatch = s.hiLatch := rfl
@[simp] theorem State.send_latched (s : State) (e : Emit) : (State.send s e).latched = s.latched := rfl
@[simp] theorem State.send_fc (s : State) (e : Emit) : (State.send s e).fc = s.fc := rfl
@[simp] theorem State.send_clk (s : State) (e : Emit) : (State.send s e).clk = s.clk := rfl
@[simp] theorem State.send_evu (s : State) (e : Emit) : (State.send s e).evu = s.evu := rfl
@[simp] theorem State.send_stalls (s : State) (e : Emit) : (State.send s e).stalls = s.stalls := rfl
@[simp] theorem State.send_mem (s : State) (e : Emit) : (State.send s e).mem = s.mem := rfl
@[simp] theorem State.send_host (s : State) (e : Emit) : (State.send s e).host = s.host := rfl
@[simp] theorem State.send_free (s : State) (e : Emit) : (State.send s e).free = s.free := rfl
@[simp] theorem State.send_phase (s : State) (e : Emit) : (State.send s e).phase = s.phase := rfl
@[simp] theorem State.send_mtx (s : State) (e : Emit) : (State.send s e).mtx = s.mtx := rfl
@[simp] theorem State.send_tkp (s : State) (e : Emit) : (State.send s e).tkp = s.tkp := rfl
@[simp] theorem State.send_nsw (s : State) (e : Emit) : (State.send s e).nsw = s.nsw := rfl
@[simp] theorem State.send_sap (s : State) (e : Emit) : (State.send s e).sap = s.sap := rfl
@[simp] theorem State.send_sfb (s : State) (e : Emit) : (State.send s e).sfb = s.sfb := rfl
@[simp] theorem State.send_drv (s : State) (e : Emit) : (State.send s e).drv = s.drv := rfl
@[simp] theorem State.send_graph (s : State) (e : Emit) : (State.send s e).graph = s.graph := rfl
@[simp] theorem State.send_cmd (s : State) (e : Emit) : (State.send s e).cmd = s.cmd := rfl
@[simp] theorem State.send_bale (s : State) (e : Emit) : (State.send s e).bale = s.bale := rfl
@[simp] theorem State.send_rcd (s : State) (e : Emit) : (State.send s e).rcd = s.rcd := rfl
@[simp] theorem State.send_twn (s : State) (e : Emit) : (State.send s e).twn = s.twn := rfl
@[simp] theorem State.send_pwr (s : State) (e : Emit) : (State.send s e).pwr = s.pwr := rfl
@[simp] theorem State.send_dbg (s : State) (e : Emit) : (State.send s e).dbg = s.dbg := rfl
@[simp] theorem State.send_pending (s : State) (e : Emit) : (State.send s e).pending = s.pending := rfl

@[simp] theorem State.drew_variant (s : State) : (State.drew s).variant = s.variant := rfl
@[simp] theorem State.drew_regs (s : State) : (State.drew s).regs = s.regs := rfl
@[simp] theorem State.drew_shadow (s : State) : (State.drew s).shadow = s.shadow := rfl
@[simp] theorem State.drew_hiLatch (s : State) : (State.drew s).hiLatch = s.hiLatch := rfl
@[simp] theorem State.drew_latched (s : State) : (State.drew s).latched = s.latched := rfl
@[simp] theorem State.drew_fc (s : State) : (State.drew s).fc = s.fc := rfl
@[simp] theorem State.drew_clk (s : State) : (State.drew s).clk = s.clk := rfl
@[simp] theorem State.drew_evu (s : State) : (State.drew s).evu = s.evu := rfl
@[simp] theorem State.drew_stalls (s : State) : (State.drew s).stalls = s.stalls := rfl
@[simp] theorem State.drew_mem (s : State) : (State.drew s).mem = s.mem := rfl
@[simp] theorem State.drew_host (s : State) : (State.drew s).host = s.host := rfl
@[simp] theorem State.drew_out (s : State) : (State.drew s).out = s.out := rfl
@[simp] theorem State.drew_phase (s : State) : (State.drew s).phase = s.phase := rfl
@[simp] theorem State.drew_mtx (s : State) : (State.drew s).mtx = s.mtx := rfl
@[simp] theorem State.drew_tkp (s : State) : (State.drew s).tkp = s.tkp := rfl
@[simp] theorem State.drew_nsw (s : State) : (State.drew s).nsw = s.nsw := rfl
@[simp] theorem State.drew_sap (s : State) : (State.drew s).sap = s.sap := rfl
@[simp] theorem State.drew_sfb (s : State) : (State.drew s).sfb = s.sfb := rfl
@[simp] theorem State.drew_drv (s : State) : (State.drew s).drv = s.drv := rfl
@[simp] theorem State.drew_graph (s : State) : (State.drew s).graph = s.graph := rfl
@[simp] theorem State.drew_cmd (s : State) : (State.drew s).cmd = s.cmd := rfl
@[simp] theorem State.drew_bale (s : State) : (State.drew s).bale = s.bale := rfl
@[simp] theorem State.drew_rcd (s : State) : (State.drew s).rcd = s.rcd := rfl
@[simp] theorem State.drew_twn (s : State) : (State.drew s).twn = s.twn := rfl
@[simp] theorem State.drew_pwr (s : State) : (State.drew s).pwr = s.pwr := rfl
@[simp] theorem State.drew_dbg (s : State) : (State.drew s).dbg = s.dbg := rfl
@[simp] theorem State.drew_pending (s : State) : (State.drew s).pending = s.pending := rfl

@[simp] theorem State.setByte_variant (s : State) (a : Nat) (b : Byte) : (State.setByte s a b).variant = s.variant := rfl
@[simp] theorem State.setByte_regs (s : State) (a : Nat) (b : Byte) : (State.setByte s a b).regs = s.regs := rfl
@[simp] theorem State.setByte_shadow (s : State) (a : Nat) (b : Byte) : (State.setByte s a b).shadow = s.shadow := rfl
@[simp] theorem State.setByte_hiLatch (s : State) (a : Nat) (b : Byte) : (State.setByte s a b).hiLatch = s.hiLatch := rfl
@[simp] theorem State.setByte_latched (s : State) (a : Nat) (b : Byte) : (State.setByte s a b).latched = s.latched := rfl
@[simp] theorem State.setByte_fc (s : State) (a : Nat) (b : Byte) : (State.setByte s a b).fc = s.fc := rfl
@[simp] theorem State.setByte_clk (s : State) (a : Nat) (b : Byte) : (State.setByte s a b).clk = s.clk := rfl
@[simp] theorem State.setByte_evu (s : State) (a : Nat) (b : Byte) : (State.setByte s a b).evu = s.evu := rfl
@[simp] theorem State.setByte_stalls (s : State) (a : Nat) (b : Byte) : (State.setByte s a b).stalls = s.stalls := rfl
@[simp] theorem State.setByte_host (s : State) (a : Nat) (b : Byte) : (State.setByte s a b).host = s.host := rfl
@[simp] theorem State.setByte_out (s : State) (a : Nat) (b : Byte) : (State.setByte s a b).out = s.out := rfl
@[simp] theorem State.setByte_free (s : State) (a : Nat) (b : Byte) : (State.setByte s a b).free = s.free := rfl
@[simp] theorem State.setByte_phase (s : State) (a : Nat) (b : Byte) : (State.setByte s a b).phase = s.phase := rfl
@[simp] theorem State.setByte_mtx (s : State) (a : Nat) (b : Byte) : (State.setByte s a b).mtx = s.mtx := rfl
@[simp] theorem State.setByte_tkp (s : State) (a : Nat) (b : Byte) : (State.setByte s a b).tkp = s.tkp := rfl
@[simp] theorem State.setByte_nsw (s : State) (a : Nat) (b : Byte) : (State.setByte s a b).nsw = s.nsw := rfl
@[simp] theorem State.setByte_sap (s : State) (a : Nat) (b : Byte) : (State.setByte s a b).sap = s.sap := rfl
@[simp] theorem State.setByte_sfb (s : State) (a : Nat) (b : Byte) : (State.setByte s a b).sfb = s.sfb := rfl
@[simp] theorem State.setByte_drv (s : State) (a : Nat) (b : Byte) : (State.setByte s a b).drv = s.drv := rfl
@[simp] theorem State.setByte_graph (s : State) (a : Nat) (b : Byte) : (State.setByte s a b).graph = s.graph := rfl
@[simp] theorem State.setByte_cmd (s : State) (a : Nat) (b : Byte) : (State.setByte s a b).cmd = s.cmd := rfl
@[simp] theorem State.setByte_bale (s : State) (a : Nat) (b : Byte) : (State.setByte s a b).bale = s.bale := rfl
@[simp] theorem State.setByte_rcd (s : State) (a : Nat) (b : Byte) : (State.setByte s a b).rcd = s.rcd := rfl
@[simp] theorem State.setByte_twn (s : State) (a : Nat) (b : Byte) : (State.setByte s a b).twn = s.twn := rfl
@[simp] theorem State.setByte_pwr (s : State) (a : Nat) (b : Byte) : (State.setByte s a b).pwr = s.pwr := rfl
@[simp] theorem State.setByte_dbg (s : State) (a : Nat) (b : Byte) : (State.setByte s a b).dbg = s.dbg := rfl
@[simp] theorem State.setByte_pending (s : State) (a : Nat) (b : Byte) : (State.setByte s a b).pending = s.pending := rfl

@[simp] theorem Mem.setErr_variant (s : State) (w m : Nat) : (Mem.setErr s w m).variant = s.variant := rfl
@[simp] theorem Mem.setErr_regs (s : State) (w m : Nat) : (Mem.setErr s w m).regs = s.regs := rfl
@[simp] theorem Mem.setErr_shadow (s : State) (w m : Nat) : (Mem.setErr s w m).shadow = s.shadow := rfl
@[simp] theorem Mem.setErr_hiLatch (s : State) (w m : Nat) : (Mem.setErr s w m).hiLatch = s.hiLatch := rfl
@[simp] theorem Mem.setErr_latched (s : State) (w m : Nat) : (Mem.setErr s w m).latched = s.latched := rfl
@[simp] theorem Mem.setErr_fc (s : State) (w m : Nat) : (Mem.setErr s w m).fc = s.fc := rfl
@[simp] theorem Mem.setErr_clk (s : State) (w m : Nat) : (Mem.setErr s w m).clk = s.clk := rfl
@[simp] theorem Mem.setErr_evu (s : State) (w m : Nat) : (Mem.setErr s w m).evu = s.evu := rfl
@[simp] theorem Mem.setErr_stalls (s : State) (w m : Nat) : (Mem.setErr s w m).stalls = s.stalls := rfl
@[simp] theorem Mem.setErr_host (s : State) (w m : Nat) : (Mem.setErr s w m).host = s.host := rfl
@[simp] theorem Mem.setErr_out (s : State) (w m : Nat) : (Mem.setErr s w m).out = s.out := rfl
@[simp] theorem Mem.setErr_free (s : State) (w m : Nat) : (Mem.setErr s w m).free = s.free := rfl
@[simp] theorem Mem.setErr_phase (s : State) (w m : Nat) : (Mem.setErr s w m).phase = s.phase := rfl
@[simp] theorem Mem.setErr_mtx (s : State) (w m : Nat) : (Mem.setErr s w m).mtx = s.mtx := rfl
@[simp] theorem Mem.setErr_tkp (s : State) (w m : Nat) : (Mem.setErr s w m).tkp = s.tkp := rfl
@[simp] theorem Mem.setErr_nsw (s : State) (w m : Nat) : (Mem.setErr s w m).nsw = s.nsw := rfl
@[simp] theorem Mem.setErr_sap (s : State) (w m : Nat) : (Mem.setErr s w m).sap = s.sap := rfl
@[simp] theorem Mem.setErr_sfb (s : State) (w m : Nat) : (Mem.setErr s w m).sfb = s.sfb := rfl
@[simp] theorem Mem.setErr_drv (s : State) (w m : Nat) : (Mem.setErr s w m).drv = s.drv := rfl
@[simp] theorem Mem.setErr_graph (s : State) (w m : Nat) : (Mem.setErr s w m).graph = s.graph := rfl
@[simp] theorem Mem.setErr_cmd (s : State) (w m : Nat) : (Mem.setErr s w m).cmd = s.cmd := rfl
@[simp] theorem Mem.setErr_bale (s : State) (w m : Nat) : (Mem.setErr s w m).bale = s.bale := rfl
@[simp] theorem Mem.setErr_rcd (s : State) (w m : Nat) : (Mem.setErr s w m).rcd = s.rcd := rfl
@[simp] theorem Mem.setErr_twn (s : State) (w m : Nat) : (Mem.setErr s w m).twn = s.twn := rfl
@[simp] theorem Mem.setErr_pwr (s : State) (w m : Nat) : (Mem.setErr s w m).pwr = s.pwr := rfl
@[simp] theorem Mem.setErr_dbg (s : State) (w m : Nat) : (Mem.setErr s w m).dbg = s.dbg := rfl
@[simp] theorem Mem.setErr_pending (s : State) (w m : Nat) : (Mem.setErr s w m).pending = s.pending := rfl

@[simp] theorem State.setStall_variant (s : State) (i : Nat) (x : Stall) : (State.setStall s i x).variant = s.variant := rfl
@[simp] theorem State.setStall_regs (s : State) (i : Nat) (x : Stall) : (State.setStall s i x).regs = s.regs := rfl
@[simp] theorem State.setStall_shadow (s : State) (i : Nat) (x : Stall) : (State.setStall s i x).shadow = s.shadow := rfl
@[simp] theorem State.setStall_hiLatch (s : State) (i : Nat) (x : Stall) : (State.setStall s i x).hiLatch = s.hiLatch := rfl
@[simp] theorem State.setStall_latched (s : State) (i : Nat) (x : Stall) : (State.setStall s i x).latched = s.latched := rfl
@[simp] theorem State.setStall_fc (s : State) (i : Nat) (x : Stall) : (State.setStall s i x).fc = s.fc := rfl
@[simp] theorem State.setStall_clk (s : State) (i : Nat) (x : Stall) : (State.setStall s i x).clk = s.clk := rfl
@[simp] theorem State.setStall_evu (s : State) (i : Nat) (x : Stall) : (State.setStall s i x).evu = s.evu := rfl
@[simp] theorem State.setStall_mem (s : State) (i : Nat) (x : Stall) : (State.setStall s i x).mem = s.mem := rfl
@[simp] theorem State.setStall_host (s : State) (i : Nat) (x : Stall) : (State.setStall s i x).host = s.host := rfl
@[simp] theorem State.setStall_out (s : State) (i : Nat) (x : Stall) : (State.setStall s i x).out = s.out := rfl
@[simp] theorem State.setStall_free (s : State) (i : Nat) (x : Stall) : (State.setStall s i x).free = s.free := rfl
@[simp] theorem State.setStall_phase (s : State) (i : Nat) (x : Stall) : (State.setStall s i x).phase = s.phase := rfl
@[simp] theorem State.setStall_mtx (s : State) (i : Nat) (x : Stall) : (State.setStall s i x).mtx = s.mtx := rfl
@[simp] theorem State.setStall_tkp (s : State) (i : Nat) (x : Stall) : (State.setStall s i x).tkp = s.tkp := rfl
@[simp] theorem State.setStall_nsw (s : State) (i : Nat) (x : Stall) : (State.setStall s i x).nsw = s.nsw := rfl
@[simp] theorem State.setStall_sap (s : State) (i : Nat) (x : Stall) : (State.setStall s i x).sap = s.sap := rfl
@[simp] theorem State.setStall_sfb (s : State) (i : Nat) (x : Stall) : (State.setStall s i x).sfb = s.sfb := rfl
@[simp] theorem State.setStall_drv (s : State) (i : Nat) (x : Stall) : (State.setStall s i x).drv = s.drv := rfl
@[simp] theorem State.setStall_graph (s : State) (i : Nat) (x : Stall) : (State.setStall s i x).graph = s.graph := rfl
@[simp] theorem State.setStall_cmd (s : State) (i : Nat) (x : Stall) : (State.setStall s i x).cmd = s.cmd := rfl
@[simp] theorem State.setStall_bale (s : State) (i : Nat) (x : Stall) : (State.setStall s i x).bale = s.bale := rfl
@[simp] theorem State.setStall_rcd (s : State) (i : Nat) (x : Stall) : (State.setStall s i x).rcd = s.rcd := rfl
@[simp] theorem State.setStall_twn (s : State) (i : Nat) (x : Stall) : (State.setStall s i x).twn = s.twn := rfl
@[simp] theorem State.setStall_pwr (s : State) (i : Nat) (x : Stall) : (State.setStall s i x).pwr = s.pwr := rfl
@[simp] theorem State.setStall_dbg (s : State) (i : Nat) (x : Stall) : (State.setStall s i x).dbg = s.dbg := rfl
@[simp] theorem State.setStall_pending (s : State) (i : Nat) (x : Stall) : (State.setStall s i x).pending = s.pending := rfl

@[simp] theorem State.send_out (s : State) (e : Emit) : (s.send e).out = s.out ++ [e] := rfl
@[simp] theorem State.drew_free (s : State) : s.drew.free = s.free + 1 := rfl

/-- A register reads what was written to it. -/
@[simp] theorem State.reg_setReg_same (s : State) (off : Nat) (w : Word) : (s.setReg off w).reg off = w :=
  Sparse.get_put_same s.regs off (Reg.reset off) w

/-- A write of a register leaves every other one alone. -/
theorem State.reg_setReg_other (s : State) {off o : Nat} (w : Word) (h : o ≠ off) : (s.setReg off w).reg o = s.reg o :=
  Sparse.get_put_other s.regs off o (Reg.reset off) (Reg.reset o) w h

@[simp] theorem State.shReg_setShReg_same (s : State) (off : Nat) (w : Word) : (s.setShReg off w).shReg off = w :=
  Sparse.get_put_same s.shadow off (Reg.reset off) w

theorem State.shReg_setShReg_other (s : State) {off o : Nat} (w : Word) (h : o ≠ off) : (s.setShReg off w).shReg o = s.shReg o :=
  Sparse.get_put_other s.shadow off o (Reg.reset off) (Reg.reset o) w h

/-- The two states read the same in every register when their maps are the same. -/
theorem State.reg_congr {s t : State} (h : t.regs = s.regs) (o : Nat) : t.reg o = s.reg o := by
  unfold State.reg
  rw [h]

@[simp] theorem State.send_reg (s : State) (e : Emit) (o : Nat) : (s.send e).reg o = s.reg o := rfl
@[simp] theorem State.drew_reg (s : State) (o : Nat) : s.drew.reg o = s.reg o := rfl
@[simp] theorem State.setByte_reg (s : State) (a : Nat) (b : Byte) (o : Nat) : (s.setByte a b).reg o = s.reg o := rfl
@[simp] theorem State.setStall_reg (s : State) (i : Nat) (x : Stall) (o : Nat) : (s.setStall i x).reg o = s.reg o := rfl
@[simp] theorem State.setShReg_reg (s : State) (off : Nat) (w : Word) (o : Nat) : (s.setShReg off w).reg o = s.reg o := rfl

/-- A write of a field changes only its register word. -/
theorem State.reg_setFld_other (s : State) (f : Fld) (v : Nat) {o : Nat} (h : o ≠ f.off) : (s.setFld f v).reg o = s.reg o :=
  State.reg_setReg_other s _ h

theorem State.fld_setFld_other (s : State) (f g : Fld) (v : Nat) (h : g.off ≠ f.off) : (s.setFld f v).fld g = s.fld g := by
  unfold State.fld
  rw [State.reg_setFld_other s f v h]

/-- The parts of a word around a field. -/
theorem Fld.parts (f : Fld) (w : Word) (v : Nat) (hf : f.lo + f.wid ≤ 32) :
    (f.ins w v).toNat = w.toNat / 2 ^ (f.lo + f.wid) * 2 ^ (f.lo + f.wid) + v % 2 ^ f.wid * 2 ^ f.lo + w.toNat % 2 ^ f.lo := by
  have e : w.toNat = w.toNat / 2 ^ (f.lo + f.wid) * 2 ^ (f.lo + f.wid) + f.of w * 2 ^ f.lo + w.toNat % 2 ^ f.lo := by
    have h1 := Nat.div_add_mod w.toNat (2 ^ f.lo)
    have h2 := Nat.div_add_mod (w.toNat / 2 ^ f.lo) (2 ^ f.wid)
    have h3 : w.toNat / 2 ^ (f.lo + f.wid) = w.toNat / 2 ^ f.lo / 2 ^ f.wid := by rw [Nat.pow_add, Nat.div_div_eq_div_mul]
    unfold Fld.of
    rw [h3, Nat.pow_add]
    generalize w.toNat / 2 ^ f.lo / 2 ^ f.wid = q at *
    generalize w.toNat / 2 ^ f.lo % 2 ^ f.wid = o at *
    rw [← h2] at h1
    calc w.toNat = 2 ^ f.lo * (2 ^ f.wid * q + o) + w.toNat % 2 ^ f.lo := h1.symm
      _ = q * (2 ^ f.lo * 2 ^ f.wid) + o * 2 ^ f.lo + w.toNat % 2 ^ f.lo := by
        rw [Nat.mul_add, Nat.mul_comm q, Nat.mul_assoc, Nat.mul_comm (2 ^ f.lo) o]
  have hv : v % 2 ^ f.wid < 2 ^ f.wid := Nat.mod_lt _ (Nat.pow_pos (by decide))
  have hr : w.toNat % 2 ^ f.lo < 2 ^ f.lo := Nat.mod_lt _ (Nat.pow_pos (by decide))
  have hw : w.toNat < 2 ^ 32 := w.isLt
  have hq : w.toNat / 2 ^ (f.lo + f.wid) < 2 ^ (32 - (f.lo + f.wid)) := by
    rw [Nat.div_lt_iff_lt_mul (Nat.pow_pos (by decide)), ← Nat.pow_add, Nat.sub_add_cancel hf]
    exact hw
  have hb : v % 2 ^ f.wid * 2 ^ f.lo + w.toNat % 2 ^ f.lo < 2 ^ (f.lo + f.wid) := by
    calc v % 2 ^ f.wid * 2 ^ f.lo + w.toNat % 2 ^ f.lo < v % 2 ^ f.wid * 2 ^ f.lo + 2 ^ f.lo := by omega
      _ = (v % 2 ^ f.wid + 1) * 2 ^ f.lo := by rw [Nat.add_mul, Nat.one_mul]
      _ ≤ 2 ^ f.wid * 2 ^ f.lo := Nat.mul_le_mul_right _ hv
      _ = 2 ^ (f.lo + f.wid) := by rw [← Nat.pow_add, Nat.add_comm]
  have hs : w.toNat / 2 ^ (f.lo + f.wid) * 2 ^ (f.lo + f.wid) + 2 ^ (f.lo + f.wid) ≤ 2 ^ 32 := by
    calc _ = (w.toNat / 2 ^ (f.lo + f.wid) + 1) * 2 ^ (f.lo + f.wid) := by rw [Nat.add_mul, Nat.one_mul]
      _ ≤ 2 ^ (32 - (f.lo + f.wid)) * 2 ^ (f.lo + f.wid) := Nat.mul_le_mul_right _ hq
      _ = 2 ^ 32 := by rw [← Nat.pow_add, Nat.sub_add_cancel hf]
  unfold Fld.ins
  rw [BitVec.toNat_ofNat, Nat.mod_eq_of_lt (by omega)]
  omega

/-- A field reads what was written to it. -/
theorem Fld.of_ins (f : Fld) (w : Word) (v : Nat) (hf : f.lo + f.wid ≤ 32) : f.of (f.ins w v) = v % 2 ^ f.wid := by
  have hr : w.toNat % 2 ^ f.lo < 2 ^ f.lo := Nat.mod_lt _ (Nat.pow_pos (by decide))
  have h := Fld.parts f w v hf
  unfold Fld.of
  rw [h]
  have e : w.toNat / 2 ^ (f.lo + f.wid) * 2 ^ (f.lo + f.wid) + v % 2 ^ f.wid * 2 ^ f.lo + w.toNat % 2 ^ f.lo =
      (w.toNat / 2 ^ (f.lo + f.wid) * 2 ^ f.wid + v % 2 ^ f.wid) * 2 ^ f.lo + w.toNat % 2 ^ f.lo := by
    rw [Nat.add_mul, Nat.mul_assoc, ← Nat.pow_add, Nat.add_comm f.wid]
  rw [e, Nat.add_comm, Nat.add_mul_div_right _ _ (Nat.pow_pos (by decide)), Nat.div_eq_of_lt hr, Nat.zero_add,
    Nat.add_comm, Nat.add_mul_mod_self_right, Nat.mod_mod]

/-- A field below the one written keeps its value. -/
theorem Fld.of_ins_below (f g : Fld) (w : Word) (v : Nat) (hf : f.lo + f.wid ≤ 32) (h : g.lo + g.wid ≤ f.lo) :
    g.of (f.ins w v) = g.of w := by
  have hg (x : Nat) : x / 2 ^ g.lo % 2 ^ g.wid = x % 2 ^ f.lo / 2 ^ g.lo % 2 ^ g.wid := by
    have e : f.lo = g.lo + (f.lo - g.lo) := by omega
    have d : 2 ^ g.wid ∣ 2 ^ (f.lo - g.lo) := Nat.pow_dvd_pow 2 (by omega)
    rw [e, Nat.pow_add, Nat.mod_mul_right_div_self, Nat.mod_mod_of_dvd _ d]
  unfold Fld.of
  rw [hg (f.ins w v).toNat, hg w.toNat]
  have : (f.ins w v).toNat % 2 ^ f.lo = w.toNat % 2 ^ f.lo := by
    rw [Fld.parts f w v hf, Nat.pow_add]
    have e : w.toNat / (2 ^ f.lo * 2 ^ f.wid) * (2 ^ f.lo * 2 ^ f.wid) + v % 2 ^ f.wid * 2 ^ f.lo + w.toNat % 2 ^ f.lo =
        w.toNat % 2 ^ f.lo + 2 ^ f.lo * (w.toNat / (2 ^ f.lo * 2 ^ f.wid) * 2 ^ f.wid + v % 2 ^ f.wid) := by
      rw [Nat.mul_add, Nat.mul_left_comm, Nat.mul_comm (v % 2 ^ f.wid), Nat.add_comm]
    rw [e, Nat.add_mul_mod_self_left, Nat.mod_mod]
  rw [this]

/-- A field above the one written keeps its value. -/
theorem Fld.of_ins_above (f g : Fld) (w : Word) (v : Nat) (hf : f.lo + f.wid ≤ 32) (h : f.lo + f.wid ≤ g.lo) :
    g.of (f.ins w v) = g.of w := by
  have hv : v % 2 ^ f.wid < 2 ^ f.wid := Nat.mod_lt _ (Nat.pow_pos (by decide))
  have hr : w.toNat % 2 ^ f.lo < 2 ^ f.lo := Nat.mod_lt _ (Nat.pow_pos (by decide))
  have hb : v % 2 ^ f.wid * 2 ^ f.lo + w.toNat % 2 ^ f.lo < 2 ^ (f.lo + f.wid) := by
    calc v % 2 ^ f.wid * 2 ^ f.lo + w.toNat % 2 ^ f.lo < v % 2 ^ f.wid * 2 ^ f.lo + 2 ^ f.lo := by omega
      _ = (v % 2 ^ f.wid + 1) * 2 ^ f.lo := by rw [Nat.add_mul, Nat.one_mul]
      _ ≤ 2 ^ f.wid * 2 ^ f.lo := Nat.mul_le_mul_right _ hv
      _ = 2 ^ (f.lo + f.wid) := by rw [← Nat.pow_add, Nat.add_comm]
  have e : g.lo = (f.lo + f.wid) + (g.lo - (f.lo + f.wid)) := by omega
  have hd (x : Nat) : x / 2 ^ g.lo = x / 2 ^ (f.lo + f.wid) / 2 ^ (g.lo - (f.lo + f.wid)) := by
    rw [Nat.div_div_eq_div_mul, ← Nat.pow_add, ← e]
  unfold Fld.of
  rw [hd (f.ins w v).toNat, hd w.toNat, Fld.parts f w v hf, Nat.add_assoc, Nat.add_comm,
    Nat.add_mul_div_right _ _ (Nat.pow_pos (by decide)), Nat.div_eq_of_lt hb, Nat.zero_add]

theorem State.fld_setFld_same (s : State) (f : Fld) (v : Nat) (hf : f.lo + f.wid ≤ 32) : (s.setFld f v).fld f = v % 2 ^ f.wid := by
  unfold State.fld State.setFld
  rw [State.reg_setReg_same, Fld.of_ins f _ v hf]

/-- A field of the same word that does not overlap the one written keeps its value. -/
theorem State.fld_setFld_apart (s : State) (f g : Fld) (v : Nat) (hf : f.lo + f.wid ≤ 32)
    (h : g.off ≠ f.off ∨ g.lo + g.wid ≤ f.lo ∨ f.lo + f.wid ≤ g.lo) : (s.setFld f v).fld g = s.fld g := by
  by_cases ho : g.off = f.off
  · unfold State.fld State.setFld
    rw [ho, State.reg_setReg_same]
    rcases h with h | h | h
    · exact absurd ho h
    · exact Fld.of_ins_below f g _ v hf h
    · exact Fld.of_ins_above f g _ v hf h
  · exact State.fld_setFld_other s f g v ho

theorem State.flag_setFlag_same (s : State) (f : Fld) (b : Bool) (hf : f.lo + f.wid ≤ 32) (hw : f.wid = 1) :
    (s.setFlag f b).flag f = b := by
  unfold State.flag State.setFlag
  rw [State.fld_setFld_same s f _ hf, hw]
  cases b <;> rfl

theorem State.fld_setFlag_apart (s : State) (f g : Fld) (b : Bool) (hf : f.lo + f.wid ≤ 32)
    (h : g.off ≠ f.off ∨ g.lo + g.wid ≤ f.lo ∨ f.lo + f.wid ≤ g.lo) : (s.setFlag f b).fld g = s.fld g :=
  State.fld_setFld_apart s f g _ hf h

theorem State.flag_setFlag_apart (s : State) (f g : Fld) (b : Bool) (hf : f.lo + f.wid ≤ 32)
    (h : g.off ≠ f.off ∨ g.lo + g.wid ≤ f.lo ∨ f.lo + f.wid ≤ g.lo) : (s.setFlag f b).flag g = s.flag g := by
  unfold State.flag
  rw [State.fld_setFlag_apart s f g b hf h]

theorem State.flag_setFld_apart (s : State) (f g : Fld) (v : Nat) (hf : f.lo + f.wid ≤ 32)
    (h : g.off ≠ f.off ∨ g.lo + g.wid ≤ f.lo ∨ f.lo + f.wid ≤ g.lo) : (s.setFld f v).flag g = s.flag g := by
  unfold State.flag
  rw [State.fld_setFld_apart s f g v hf h]

/-- A byte reads what was written to it. -/
@[simp] theorem State.byte_setByte_same (s : State) (a : Nat) (b : Byte) : (s.setByte a b).byte a = b :=
  Sparse.get_put_same s.mem.bytes a 0 b

/-- A write of a byte leaves every other one alone. -/
theorem State.byte_setByte_other (s : State) {a c : Nat} (b : Byte) (h : c ≠ a) : (s.setByte a b).byte c = s.byte c :=
  Sparse.get_put_other s.mem.bytes a c 0 0 b h

@[simp] theorem State.stall_setStall_same (s : State) (i : Nat) (x : Stall) : (s.setStall i x).stall i = x :=
  Sparse.get_put_same s.stalls i {} x

theorem State.stall_setStall_other (s : State) {i j : Nat} (x : Stall) (h : j ≠ i) : (s.setStall i x).stall j = s.stall j :=
  Sparse.get_put_other s.stalls i j {} {} x h

/-- Every write of a byte keeps memory canonical. -/
theorem Memory.wf_setByte (s : State) (a : Nat) (b : Byte) (h : Memory.wf s.mem = true) : Memory.wf (s.setByte a b).mem = true :=
  Sparse.wf_put (fun _ => 0) s.mem.bytes a b h

end Sys2Proof.Machine
end

