-- ==== Sys2Proof/Laws/Stall.lean ====
section
/-! SUPPORT. What the fetch, the completion and one operation of a stall's bundle do (`Stl.fetch`, `Stl.complete`, `Stl.op`), said once;
and the laws of `State.keptBut`. -/

namespace Sys2Proof.Machine

theorem State.keptBut_refl (fs : List Fld) (s : State) : State.keptBut fs s s := fun _ _ _ => rfl

theorem State.keptBut_trans {fs : List Fld} {s t u : State} (h : State.keptBut fs s t) (k : State.keptBut fs t u) : State.keptBut fs s u :=
  fun f hf hg => (k f hf hg).trans (h f hf hg)

/-- Only the register map matters. -/
theorem State.keptBut_regs {fs : List Fld} {s t u : State} (h : State.keptBut fs s t) (e : u.regs = t.regs) : State.keptBut fs s u := by
  intro f hf hg
  rw [← h f hf hg]
  unfold State.fld State.reg
  rw [e]

theorem State.keptBut_mono {fs gs : List Fld} {s t : State} (h : State.keptBut fs s t) (k : ∀ f ∈ fs, f ∈ gs) : State.keptBut gs s t :=
  fun f hf hg => h f hf fun g m => hg g (k g m)

theorem State.keptBut_setFld {fs : List Fld} {s t : State} (g : Fld) (v : Nat) (hg : g.lo + g.wid ≤ 32) (m : g ∈ fs)
    (h : State.keptBut fs s t) : State.keptBut fs s (t.setFld g v) := by
  intro f hf hd
  rw [← h f hf hd]
  exact State.fld_setFld_apart t g f v hg (hd g m)

theorem State.keptBut_setFlag {fs : List Fld} {s t : State} (g : Fld) (b : Bool) (hg : g.lo + g.wid ≤ 32) (m : g ∈ fs)
    (h : State.keptBut fs s t) : State.keptBut fs s (t.setFlag g b) := State.keptBut_setFld g _ hg m h

theorem State.keptBut_incCnt {fs : List Fld} {s t : State} (g : Fld) (hg : g.lo + g.wid ≤ 32) (m : g ∈ fs)
    (h : State.keptBut fs s t) : State.keptBut fs s (t.incCnt g) := State.keptBut_setFld g _ hg m h

/-- The fetch of a bundle that runs (R143, R109). -/
theorem Stl.fetch_stall (c : OpCtx) (s : State) (h : Stl.runs c s) : (Stl.fetch c s).stall c.stall = Stall.begun c (s.stall c.stall) := by
  unfold Stl.fetch Stall.begun
  cases hs : (s.stall c.stall).snap with
  | some r => simp [hs]
  | none =>
    have h2 : Sparse.get (s.stall c.stall).progErr (4096 * Stl.bank s c.stall + (s.stall c.stall).pc) 0 ≠ 2 := by
      rcases h.2 with h2 | h2
      · rw [hs] at h2; cases h2
      · exact h2
    simp only [hs, h2, Option.isSome_none, Bool.false_eq_true, if_false]
    rw [State.stall_setStall_same]

theorem Stl.fetch_only (c : OpCtx) (s : State) (h : Stl.runs c s) : Stl.only c [] s (Stl.fetch c s) := by
  unfold Stl.fetch
  extract_lets x m s1
  split
  · exact ⟨rfl, fun _ _ => rfl, State.keptBut_refl _ _⟩
  · next hs =>
    have h2 : Sparse.get (s.stall c.stall).progErr (4096 * Stl.bank s c.stall + (s.stall c.stall).pc) 0 ≠ 2 := by
      rcases h.2 with h2 | h2
      · exact absurd h2 hs
      · exact h2
    have hm : m ≠ 2 := h2
    simp only [hm, if_false]
    have h1 : s1 = { s with regs := s1.regs } ∧ State.keptBut [Reg.STL_PMEM_CORR c.stall] s s1 := by
      unfold s1
      split
      · exact ⟨rfl, State.keptBut_incCnt _ (by simp [Reg.STL_PMEM_CORR]) (by simp) (State.keptBut_refl _ _)⟩
      · exact ⟨rfl, State.keptBut_refl _ _⟩
    clear_value s1
    refine ⟨?_, fun j hj => ?_, ?_⟩
    · rw [h1.1]; rfl
    · rw [State.stall_setStall_other _ _ hj, h1.1]; rfl
    · exact State.keptBut_regs (State.keptBut_mono h1.2 (by simp)) rfl

theorem Stl.fetch_src (c : OpCtx) (s : State) (h : Stl.runs c s) : (Stl.fetch c s).src c.stall = s.src c.stall := by
  unfold State.src
  rw [Stl.fetch_stall c s h]
  unfold Stall.begun
  cases hs : (s.stall c.stall).snap with
  | some r => simp [hs]
  | none => simp

theorem Stall.begun_status (c : OpCtx) (x : Stall) : (Stall.begun c x).status = x.status := by
  unfold Stall.begun
  split <;> rfl

theorem Stall.begun_rf (c : OpCtx) (x : Stall) : (Stall.begun c x).rf = x.rf := by
  unfold Stall.begun
  split <;> rfl

theorem Stall.begun_pc (c : OpCtx) (x : Stall) : (Stall.begun c x).pc = x.pc := by
  unfold Stall.begun
  split <;> rfl

theorem Stall.begun_rstack (c : OpCtx) (x : Stall) : (Stall.begun c x).rstack = x.rstack := by
  unfold Stall.begun
  split <;> rfl

theorem Stall.begun_loops (c : OpCtx) (x : Stall) : (Stall.begun c x).loops = x.loops := by
  unfold Stall.begun
  split <;> rfl

theorem Stall.begun_ctl (c : OpCtx) (x : Stall) : (Stall.begun c x).ctl = x.ctl := by
  unfold Stall.begun
  split <;> rfl

theorem Stl.runs_status (c : OpCtx) (s : State) (h : Stl.runs c s) : (s.stall c.stall).status = .running := by
  have := h.1
  simp only [Stl.canIssue, Bool.and_eq_true, decide_eq_true_eq, beq_iff_eq] at this
  exact this.1.2

/-- The completion of a bundle (R132 to R137, R150). -/
theorem Stl.complete_stall (s : State) (i : Nat) : (Stl.complete s i).stall i = (s.stall i).advance := by
  unfold Stl.complete
  extract_lets x s1
  have h : s1.stall i = x.advance := State.stall_setStall_same s i _
  split
  · exact h
  · exact h

theorem Stl.only_trans {c : OpCtx} {fs : List Fld} {s t u : State} (h : Stl.only c fs s t) (k : Stl.only c fs t u) : Stl.only c fs s u := by
  refine ⟨?_, fun j hj => (k.2.1 j hj).trans (h.2.1 j hj), State.keptBut_trans h.2.2 k.2.2⟩
  have h1 := h.1
  have k1 := k.1
  rw [h1] at k1
  exact k1

theorem Stl.only_mono {c : OpCtx} {fs gs : List Fld} {s t : State} (h : Stl.only c fs s t) (k : ∀ f ∈ fs, f ∈ gs) : Stl.only c gs s t :=
  ⟨h.1, h.2.1, State.keptBut_mono h.2.2 fun f m => by
    simp only [List.mem_cons] at m ⊢
    rcases m with m | m | m | m
    · exact .inl m
    · exact .inr (.inl m)
    · exact .inr (.inr (.inl m))
    · exact .inr (.inr (.inr (k f m)))⟩

theorem Stl.complete_only (c : OpCtx) (s : State) : Stl.only c [] s (Stl.complete s c.stall) := by
  unfold Stl.complete
  have h (x : Stall) : Stl.only c [] s (s.setStall c.stall x) :=
    ⟨rfl, fun j hj => State.stall_setStall_other s x hj, State.keptBut_regs (State.keptBut_refl _ s) rfl⟩
  extract_lets x s1
  split
  · unfold Stl.span
    refine ⟨rfl, fun j hj => State.stall_setStall_other s _ hj, ?_⟩
    exact State.keptBut_setFld _ _ (by simp [Reg.STL_SPAN_MAX_MAX]) (by simp)
      (State.keptBut_setFld _ _ (by simp [Reg.STL_SPAN_LAST]) (by simp) (h _).2.2)
  · exact h _

/-- An operation that runs and is not held back by the bundle predicate: its effect on the fetched state, then the bundle's completion
with its last operation, unless the operation has stopped the stall. The scoreboard does not hold it. -/
theorem Stl.op_eq (c : OpCtx) (g : Bool) (body : State → State) (s : State) (h : Stl.runs c s) (hp : g = false ∨ Stl.holds c s) :
    Stl.op c g false body s =
      if ((body (Stl.fetch c s)).stall c.stall).status != .running then body (Stl.fetch c s)
      else if c.last then Stl.complete (body (Stl.fetch c s)) c.stall else body (Stl.fetch c s) := by
  have h1 : (Stl.fetch c s).stall c.stall = Stall.begun c (s.stall c.stall) := Stl.fetch_stall c s h
  have h2 : ((Stl.fetch c s).stall c.stall).status = .running := by rw [h1, Stall.begun_status]; exact Stl.runs_status c s h
  have h3 : (g && !((Stl.fetch c s).src c.stall).predicate c.pk c.pneg) = false := by
    rcases hp with hp | hp
    · simp [hp]
    · rw [Stl.fetch_src c s h]
      unfold Stl.holds at hp
      simp [hp]
  unfold Stl.op
  simp [h.1, h2, h3]

/-- An operation that the scoreboard holds does not issue (R139). -/
@[simp] theorem Stl.op_waits (c : OpCtx) (g : Bool) (body : State → State) (s : State) : Stl.op c g true body s = s := by
  unfold Stl.op
  simp

/-- An operation held back by the bundle predicate only issues (R108). -/
theorem Stl.op_held (c : OpCtx) (body : State → State) (s : State) (h : Stl.runs c s)
    (hp : (s.src c.stall).predicate c.pk c.pneg = false) :
    Stl.op c true false body s = if c.last then Stl.complete (Stl.fetch c s) c.stall else Stl.fetch c s := by
  have h1 : (Stl.fetch c s).stall c.stall = Stall.begun c (s.stall c.stall) := Stl.fetch_stall c s h
  have h2 : ((Stl.fetch c s).stall c.stall).status = .running := by rw [h1, Stall.begun_status]; exact Stl.runs_status c s h
  unfold Stl.op
  simp [h.1, h2, Stl.fetch_src c s h, hp]

/-- An operation whose effect is on its own stall, which keeps issuing. -/
theorem Stl.op_own (c : OpCtx) (g : Bool) (fs : List Fld) (body : State → State) (y : Stall) (s : State) (h : Stl.runs c s)
    (hp : g = false ∨ Stl.holds c s) (ho : Stl.only c fs (Stl.fetch c s) (body (Stl.fetch c s)))
    (hy : (body (Stl.fetch c s)).stall c.stall = y) (hs : y.status = .running) :
    Stl.only c fs s (Stl.op c g false body s) ∧ (Stl.op c g false body s).stall c.stall = Stall.ended c y := by
  have hf := Stl.only_mono (gs := fs) (Stl.fetch_only c s h) (by simp)
  rw [Stl.op_eq c g body s h hp, hy, hs]
  simp only [bne_self_eq_false, Bool.false_eq_true, if_false]
  unfold Stall.ended
  split
  · exact ⟨Stl.only_trans (Stl.only_trans hf ho) (Stl.only_mono (Stl.complete_only c _) (by simp)), by rw [Stl.complete_stall, hy]⟩
  · exact ⟨Stl.only_trans hf ho, hy⟩

/-- An operation that writes only registers of its stall. -/
theorem Stl.op_onRf (c : OpCtx) (g : Bool) (f : RegFile → RegFile) (body : State → State) (s : State) (h : Stl.runs c s)
    (hp : g = false ∨ Stl.holds c s) (hb : body (Stl.fetch c s) = (Stl.fetch c s).onRf c.stall f) (p : RegFile → Prop)
    (hq : p (f (s.stall c.stall).rf)) : Stl.gives c [] p s (Stl.op c g false body s) := by
  have hx := Stl.fetch_stall c s h
  have e := Stl.op_own c g [] body { Stall.begun c (s.stall c.stall) with rf := f (s.stall c.stall).rf } s h hp
    (by
      rw [hb]
      exact ⟨rfl, fun j hj => State.stall_setStall_other _ _ hj, State.keptBut_regs (State.keptBut_refl _ _) rfl⟩)
    (by
      rw [hb]
      unfold State.onRf
      rw [State.stall_setStall_same, hx, Stall.begun_rf])
    (by show (Stall.begun c (s.stall c.stall)).status = _; rw [Stall.begun_status]; exact Stl.runs_status c s h)
  exact ⟨e.1, _, e.2, hq⟩

end Sys2Proof.Machine
end

