-- ==== Sys2Proof/Tests/Slice0.lean ====
section
/-! SUPPORT. The model's own tests: ill-formed commands that the check refuses; for each statement that has hypotheses, small states and
operands that meet those of its clauses; and one step of a few commands against values worked out from the spec. -/

set_option Elab.async false

namespace Sys2Proof.Machine

/-- A bundle context, and one whose stall is beyond the last. -/
def Smoke.ctx : OpCtx := { stall := 47, cyc := 1844, pk := 7, pneg := false, last := true }
def Smoke.ctxBad : OpCtx := { Smoke.ctx with stall := 48 }

/-- An LA operand at the ends of its ranges. -/
def Smoke.la : LaOp := { slot1 := true, reg := 31, pn := 7, mn := 7, amode := .postm, p24 := false, shape := .lane8 3, kp := 7 }
/-- A scalar one. -/
def Smoke.sc : LaOp := { Smoke.la with shape := .cont, kp := 0 }
/-- A VX operand, a VR operand and a VE operand at the ends of their ranges. -/
def Smoke.vx : VxOp := { xd := 15, va := 31, vb := 31, kp := 7, b := .glob 7 1 }
def Smoke.vr : VrOp := { vd := 31, xs := 15, sh := 63, kp := 7 }
def Smoke.ve : VeOp := { vd := 31, va := 31, vb := 31, kp := 7 }
/-- A header of a tether block. -/
def Smoke.hdr : TthHdr := { seq := 2 ^ 32 - 1, frame := 0, ack := 0, nak := some (2 ^ 32 - 2), crcOk := true, last := true }
def Smoke.hdrBad : TthHdr := { Smoke.hdr with seq := 2 ^ 32 }
/-- A PTP message at domain 255 of port 3, and two that no port can bring. -/
def Smoke.ptp : PtpIn := ⟨0, 3, .ethernet, 15, 255⟩
def Smoke.ptp4 : PtpIn := { Smoke.ptp with port := 4 }
def Smoke.ptpDom : PtpIn := { Smoke.ptp with dom := 256 }
/-- An AES67 packet, an empty frame, an AES3 subframe, a HELLO, a drive record. -/
def Smoke.pkt : AudioPkt :=
  { aaf := false, ok := true, src := 1, dst := 2, port := 5004, version := 2, pt := 127, format := 7, nsr := 48000, channels := 1
    tv := true, stamp := 2 ^ 32 - 1, seq := 65535, payload := [] }
def Smoke.frame : NetFrame :=
  { len := 64, fcsOk := true, src := 2 ^ 48 - 1, dst := 1, tags := 1, pcp := 7, vid := 4095, red := none, body := .audio Smoke.pkt }
def Smoke.sub : AesSub := { pre := 3, bip := false, audio := 2 ^ 24 - 1, v := false, u := false, c := false, parity := true }
def Smoke.hi : Hello :=
  { cap := 2 ^ 64 - 1, baleRoot := 1, root := 1, gen := 1, k := 1, role := 4, own := false, elig := true, senior := false
    haysync := true, cold := false }
def Smoke.drvr : DrvRecord := { state := 6, hold := 65535, ages := [0] }
def Smoke.note : FadeNote := { m := none, old := [], fade := 0, curve := 0, defer := none, limE := 0, limH := 0 }

/-- A context beyond the stalls or the predicate registers is refused, for an operation of every slot. -/
theorem test_wf_context : OpCtx.wf Smoke.ctx = true ∧ OpCtx.wf { Smoke.ctx with pk := 8 } = false ∧
    ([.nopBundle Smoke.ctxBad, .illegal Smoke.ctxBad, .pmemUncorr Smoke.ctxBad, .fetchEnd Smoke.ctxBad, .waitf Smoke.ctxBad,
      .sync Smoke.ctxBad, .syncRelease Smoke.ctxBad, .ret Smoke.ctxBad, .br Smoke.ctxBad 0, .add Smoke.ctxBad 0 0 0,
      .ldV Smoke.ctxBad Smoke.la, .vmul Smoke.ctxBad Smoke.vx, .rdx Smoke.ctxBad Smoke.vr, .vadd Smoke.ctxBad Smoke.ve] :
      List Instr).all (fun i => !i.wf) = true := by decide

/-- Every operand of an LA access has its range, and each kind of access its own forms. -/
theorem test_wf_la : Smoke.la.wf = true ∧ Smoke.sc.wfScalar = true ∧ Smoke.sc.wfBus = true ∧
    ([{ Smoke.la with reg := 32 }, { Smoke.la with pn := 8 }, { Smoke.la with mn := 8 }, { Smoke.la with kp := 8 },
      { Smoke.la with amode := .plain }, { Smoke.la with amode := .posts }, { Smoke.la with shape := .lane8 4 }] :
      List LaOp).all (fun o => !o.wf) = true ∧
    ([{ Smoke.la with shape := .quad }, { Smoke.la with shape := .splat }] : List LaOp).all (fun o => o.wf && !o.wfStore) = true ∧
    LaOp.wfScalar Smoke.la = false ∧ LaOp.wfScalar { Smoke.sc with kp := 1 } = false ∧ LaOp.wfBus { Smoke.sc with p24 := true } = false ∧
    LaOp.wfBus { Smoke.sc with amode := .ppcur } = false ∧ LaOp.wfBus { Smoke.sc with amode := .ppprev } = false := by decide

/-- Operand b, VX, VR and VE operands, the mode of ENV and a shift count have their ranges. -/
theorem test_wf_vector :
    (Smoke.vx.wf && Smoke.vr.wf && Smoke.ve.wf && BSel.wfPair (.glob 7 1) && EnvMode.wf ⟨true, 3, 15, 15⟩) = true ∧
    ([.laneb 4, .glob 8 0, .glob 0 4] : List BSel).all (fun b => !b.wf) = true ∧
    ([.laneb 2, .glob 8 0, .glob 0 2] : List BSel).all (fun b => !b.wfPair) = true ∧
    ([{ Smoke.vx with xd := 16 }, { Smoke.vx with va := 32 }, { Smoke.vx with vb := 32 }, { Smoke.vx with kp := 8 },
      { Smoke.vx with b := .laneb 4 }] : List VxOp).all (fun o => !o.wf) = true ∧
    ([{ Smoke.vr with vd := 32 }, { Smoke.vr with xs := 16 }, { Smoke.vr with sh := 64 }, { Smoke.vr with kp := 8 }] :
      List VrOp).all (fun o => !o.wf) = true ∧
    ([{ Smoke.ve with vd := 32 }, { Smoke.ve with va := 32 }, { Smoke.ve with vb := 32 }, { Smoke.ve with kp := 8 }] :
      List VeOp).all (fun o => !o.wf) = true ∧
    ([⟨true, 4, 0, 0⟩, ⟨true, 0, 16, 0⟩, ⟨true, 0, 0, 16⟩] : List EnvMode).all (fun m => !m.wf) = true ∧
    (Instr.wfShift (some 31) && Instr.wfShift (some (-31)) && !Instr.wfShift (some 32) && !Instr.wfShift (some (-32))) = true := by decide

/-- The operands of control and scalar operations have their ranges. -/
theorem test_wf_control :
    ([.br Smoke.ctx 4095, .brcAny Smoke.ctx 7 4095, .call Smoke.ctx 4095, .loop Smoke.ctx 31 4095, .loopi Smoke.ctx 64 4095,
      .add Smoke.ctx 31 31 31, .addi Smoke.ctx 31 31 255, .shli Smoke.ctx 31 31 31, .movi Smoke.ctx 31 8191,
      .mova Smoke.ctx 39 31 true, .li Smoke.ctx 31 262143, .lih Smoke.ctx 31 16383] : List Instr).all Instr.wf = true ∧
    ([.br Smoke.ctx 4096, .brcAny Smoke.ctx 8 0, .brcAny Smoke.ctx 0 4096, .brcNone Smoke.ctx 8 0, .brcNone Smoke.ctx 0 4096,
      .brcAll Smoke.ctx 8 0, .brcAll Smoke.ctx 0 4096, .brcNall Smoke.ctx 8 0, .brcNall Smoke.ctx 0 4096, .call Smoke.ctx 4096,
      .loop Smoke.ctx 32 0, .loop Smoke.ctx 0 4096, .loopi Smoke.ctx 0 0, .loopi Smoke.ctx 65 0, .loopi Smoke.ctx 1 4096,
      .movi Smoke.ctx 32 0, .movi Smoke.ctx 0 8192, .movsh Smoke.ctx 32 0, .movsh Smoke.ctx 0 8192, .mova Smoke.ctx 40 0 true,
      .mova Smoke.ctx 0 32 true, .li Smoke.ctx 32 0, .li Smoke.ctx 0 262144, .lih Smoke.ctx 32 0, .lih Smoke.ctx 0 16384] :
      List Instr).all (fun i => !i.wf) = true ∧
    ([.add, .sub, .mul, .mulh, .min, .max, .minu, .maxu, .and, .or, .xor, .andn, .shl, .shr, .sra, .seq, .sne, .slt, .sltu, .sle, .sleu] :
      List (OpCtx → Nat → Nat → Nat → Instr)).all (fun f =>
        !(f Smoke.ctx 32 0 0).wf && !(f Smoke.ctx 0 32 0).wf && !(f Smoke.ctx 0 0 32).wf) = true ∧
    ([.addi, .andi, .ori, .xori, .slti] : List (OpCtx → Nat → Nat → Nat → Instr)).all (fun f =>
        !(f Smoke.ctx 32 0 0).wf && !(f Smoke.ctx 0 32 0).wf && !(f Smoke.ctx 0 0 256).wf) = true ∧
    ([.shli, .shri, .srai] : List (OpCtx → Nat → Nat → Nat → Instr)).all (fun f =>
        !(f Smoke.ctx 32 0 0).wf && !(f Smoke.ctx 0 32 0).wf && !(f Smoke.ctx 0 0 32).wf) = true := by decide

/-- The operands of load/store and vector operations have their ranges. -/
theorem test_wf_slots :
    ([.ldV, .ldb, .ldh, .stV, .stb, .sth] : List (OpCtx → LaOp → Instr)).all (fun f =>
      (f Smoke.ctx Smoke.la).wf && !(f Smoke.ctx { Smoke.la with reg := 32 }).wf) = true ∧
    ([.stV, .stb, .sth, .busadd] : List (OpCtx → LaOp → Instr)).all (fun f => !(f Smoke.ctx { Smoke.la with shape := .quad }).wf) = true ∧
    ([.ldS, .stS] : List (OpCtx → LaOp → Instr)).all (fun f => (f Smoke.ctx Smoke.sc).wf && !(f Smoke.ctx Smoke.la).wf) = true ∧
    ([.ldbDataReturn 47 31, .ldhDataReturn 47 31, .stbWritten 47, .sthWritten 47] : List Instr).all Instr.wf = true ∧
    ([.ldbDataReturn 48 0, .ldbDataReturn 0 32, .ldhDataReturn 48 0, .ldhDataReturn 0 32, .stbWritten 48, .sthWritten 48] :
      List Instr).all (fun i => !i.wf) = true ∧
    ([.vmul, .vmac, .vmacN] : List (OpCtx → VxOp → Instr)).all (fun f =>
      (f Smoke.ctx Smoke.vx).wf && !(f Smoke.ctx { Smoke.vx with xd := 16 }).wf) = true ∧
    ([.vcmac, .vcmacC, .vcmacN, .vcmacCn] : List (OpCtx → VxOp → Nat → Instr)).all (fun f =>
      (f Smoke.ctx Smoke.vx 1).wf && !(f Smoke.ctx Smoke.vx 2).wf && !(f Smoke.ctx { Smoke.vx with b := .laneb 2 } 0).wf &&
      !(f Smoke.ctx { Smoke.vx with va := 32 } 0).wf) = true ∧
    ([.rdx, .rdxC, .rdxS24, .rdxCS24] : List (OpCtx → VrOp → Instr)).all (fun f =>
      (f Smoke.ctx Smoke.vr).wf && !(f Smoke.ctx { Smoke.vr with xs := 16 }).wf) = true ∧
    ([.vadd, .vsub, .vmax, .vmin] : List (OpCtx → VeOp → Instr)).all (fun f =>
      (f Smoke.ctx Smoke.ve).wf && !(f Smoke.ctx { Smoke.ve with vd := 32 }).wf) = true ∧
    ([.vcmpEq, .vcmpNe, .vcmpLt, .vcmpLe] : List (OpCtx → Nat → Nat → Nat → Nat → Instr)).all (fun f =>
      (f Smoke.ctx 7 31 31 7).wf && !(f Smoke.ctx 8 0 0 0).wf && !(f Smoke.ctx 0 32 0 0).wf && !(f Smoke.ctx 0 0 32 0).wf &&
      !(f Smoke.ctx 0 0 0 8).wf) = true ∧
    ([.xflgSat, .xflgLost, .xflgWrap, .xflgOut] : List (OpCtx → Nat → Nat → Nat → Instr)).all (fun f =>
      (f Smoke.ctx 7 15 7).wf && !(f Smoke.ctx 8 0 0).wf && !(f Smoke.ctx 0 16 0).wf && !(f Smoke.ctx 0 0 8).wf) = true ∧
    ([.vabs, .vlog2, .vexp2] : List (OpCtx → Nat → Nat → Nat → Instr)).all (fun f =>
      (f Smoke.ctx 31 31 7).wf && !(f Smoke.ctx 32 0 0).wf && !(f Smoke.ctx 0 32 0).wf && !(f Smoke.ctx 0 0 8).wf) = true ∧
    ([.clrx Smoke.ctx 16 0, .clrx Smoke.ctx 0 8, .vshl Smoke.ctx Smoke.ve (some 32), .env Smoke.ctx Smoke.ve ⟨true, 4, 0, 0⟩,
      .gcurve Smoke.ctx { Smoke.ve with va := 32 } true, .bfly4 Smoke.ctx Smoke.ve 3 false false] :
      List Instr).all (fun i => !i.wf) = true := by decide

/-- The operands of host commands, of frames, of the groom and of the matrix have their ranges. -/
theorem test_wf_host :
    ([.cmdSubmit [0], .cmdSubmit (List.replicate 16 0), .cmdRingHeadWrite 4095, .inject 47, .selWrite 1, .drvUnlatch 1 0, .evuRawWrite 7 0,
      .evuMapWrite 255 0, .lowWordRead 0x3FFFFC, .aesRxcsLatch 7, .registerReadClear 0 0x3FFFFC, .registerWrite 0x3FFFFC 0 true,
      .memwinWrite [(0xFFFFFFF, 0)], .tackRoomWrite [(0x9000000, 0), (0x97FFFFF, 0)], .perstN true 64 64, .functionLevelReset 64, .linkDown 64,
      .busMasterEnableClear 64, .msixEnable true false 0xFFFFFFFF, .evuHoldExpiry 31,
      .scrubRow 0xFFFFFC0 [] true, .scrubBundle 47 1 4095 2 true, .masterWatchdog 15, .pageStage 3327 false,
      .matrixTransaction ⟨15, false, false, [(0xFFFFFF00, 0), (0xFFFFFFFF, 0)], true⟩ 0 15 [⟨15, false, 0⟩] .served] :
      List Instr).all Instr.wf = true ∧
    ([.cmdSubmit [], .cmdSubmit (List.replicate 17 0), .cmdRingHeadWrite 4096, .inject 48, .stlResidueValidClear 48, .stlExcClear 48 true true,
      .selWrite 2, .drvUnlatch 2 0, .evuRawWrite 8 0, .evuEnWrite 8 0, .evuMapWrite 256 0, .lowWordRead 0x400000, .lowWordRead 2,
      .aesRxcsLatch 8, .registerReadClear 0 0x400000, .registerReadClear 0 1, .registerWrite 0x400000 0 true, .registerWrite 3 0 true,
      .memwinWrite [(0x10000000, 0)], .tackRoomWrite [(0x8FFFFFF, 0)], .tackRoomWrite [(0x9800000, 0)],
      .perstN true 65 0, .perstN true 0 65, .functionLevelReset 65, .linkDown 65, .busMasterEnableClear 65, .msixEnable true false 0x100000000,
      .evuHoldExpiry 32, .scrubRow 32 [] true, .scrubRow 0x10000000 [] true, .scrubBundle 48 0 0 0 true, .scrubBundle 0 2 0 0 true,
      .scrubBundle 0 0 4096 0 true, .scrubBundle 0 0 0 3 true, .masterWatchdog 16, .pageStage 3328 false,
      .matrixTransaction ⟨16, false, false, [(0, 0)], true⟩ 0 0 [] .served, .matrixTransaction ⟨0, false, false, [], true⟩ 0 0 [] .served,
      .matrixTransaction ⟨0, false, false, [(0x100000000, 0)], true⟩ 0 0 [] .served,
      .matrixTransaction ⟨0, false, false, [(255, 0), (256, 0)], true⟩ 0 0 [] .served,
      .matrixTransaction ⟨0, false, false, [(0, 0)], true⟩ 0 16 [] .served,
      .matrixTransaction ⟨0, false, false, [(0, 0)], true⟩ 0 0 [⟨16, false, 0⟩] .served] : List Instr).all (fun i => !i.wf) = true := by decide

/-- The fields of packets, frames and network commands fit their widths. -/
theorem test_wf_network :
    Smoke.frame.wf = true ∧
    ([{ Smoke.pkt with src := 2 ^ 32 }, { Smoke.pkt with dst := 2 ^ 32 }, { Smoke.pkt with aaf := true, dst := 2 ^ 64, seq := 0 },
      { Smoke.pkt with port := 65536 }, { Smoke.pkt with stamp := 2 ^ 32 }, { Smoke.pkt with seq := 65536 },
      { Smoke.pkt with aaf := true, seq := 256 }, { Smoke.pkt with pt := 128 }, { Smoke.pkt with format := 8 }] :
      List AudioPkt).all (fun p => !p.wf) = true ∧
    ([{ Smoke.frame with src := 2 ^ 48 }, { Smoke.frame with dst := 2 ^ 48 }, { Smoke.frame with pcp := 8 }, { Smoke.frame with vid := 4096 },
      { Smoke.frame with body := .audio { Smoke.pkt with pt := 128 } }, { Smoke.frame with body := .arp (2 ^ 32) }] :
      List NetFrame).all (fun f => !f.wf) = true ∧
    ([.networkFrameReceived 4 0 false Smoke.frame, .networkFrameReceived 0 0 false { Smoke.frame with vid := 4096 }, .duplicateEntryExpiry 2 0 0,
      .duplicateEntryExpiry 0 (2 ^ 48) 0, .duplicateEntryExpiry 0 0 65536, .supervisionFrameSend 2, .pathTimeout 4,
      .linkChange 4 true true true true, .streamPacketLaunch 128, .egressFrameSent 0 4, .igmpQuery 4 none, .igmpQuery 0 (some (2 ^ 32)),
      .arpRequest 4 0 0, .arpRequest 0 (2 ^ 32) 0, .arpRequest 0 0 (2 ^ 48), .ptpSync Smoke.ptp 0 65536 0 none 0,
      .ptpFollowUp Smoke.ptp 0 65536 0 0, .ptpDelayResp Smoke.ptp 0 65536 0 0, .ptpPdelayReq Smoke.ptp 0 65536, .ptpPdelayResp Smoke.ptp 65536 none 0,
      .ptpPdelayRespFollowUp Smoke.ptp 65536 0 0, .ptpDelayReqSend 0 2, .domainLoss 2] : List Instr).all (fun i => !i.wf) = true ∧
    ([Smoke.ptp4, Smoke.ptpDom] : List PtpIn).all (fun p =>
      ([.ptpAnnounce p ⟨[], 0, 0, 0, 0, none⟩ 0, .ptpSync p 0 0 0 none 0, .ptpFollowUp p 0 0 0 0, .ptpDelayResp p 0 0 0 0, .ptpPdelayReq p 0 0,
        .ptpPdelayResp p 0 (some 0) 0, .ptpPdelayRespFollowUp p 0 0 0] : List Instr).all fun i => !i.wf) = true ∧
    (.ptpSync Smoke.ptp 0 65535 0 none 0 : Instr).wf = true := by decide

/-- The operands of faults, clocks, power, ports, the drive stage and the sense bank have their ranges. -/
theorem test_wf_ports :
    ([.clockLossWindow 4 0, .aonReturn (2 ^ 32 - 1) true, .faultPairChange 0 true [⟨191, 3, none⟩], .resetPulseEnd 191, .saveImageComplete 1023,
      .powerRestart 3 true, .railMonitorFault 6, .temperatureChange (-128), .temperatureChange 127, .boot [] 65535, .carrierPeriod 0 15,
      .trip 63 0, .fastSample 127 0 [], .gapEnd 127 0, .sapFrameReceive 15 0 0 false [2 ^ 32 - 1], .aesFrameReceive 7 0 true Smoke.sub Smoke.sub true] :
      List Instr).all Instr.wf = true ∧ AesSub.wf { Smoke.sub with pre := 4 } = false ∧ AesSub.wf { Smoke.sub with audio := 2 ^ 24 } = false ∧
    ([.clockLossWindow 5 0, .aonReturn (2 ^ 32) true, .faultPairChange (2 ^ 32) true [], .faultPairChange 0 true [⟨192, 0, none⟩],
      .faultPairChange 0 true [⟨0, 4, none⟩], .railDisagree (2 ^ 32) true 0, .railDisagree 0 true 192, .resetPulseEnd 192,
      .consequenceWindowClose (2 ^ 32) true 0, .consequenceWindowClose 0 true 192, .muteAutoRelease 192, .saveImageComplete 1024,
      .powerRestart 4 true, .railMonitorFault 7, .railMonitorGood 7, .temperatureChange 128, .temperatureChange (-129),
      .powerOnReset true 4 true, .porstN true 4 true, .boot [] 65536, .carrierPeriod 0 16, .trip 64 0, .holdoffExpiry 64, .senseLoss 64,
      .fastSample 128 0 [], .railValue 128 [], .gapBegin 128 false, .gapEnd 128 0, .sapFrameReceive 16 0 0 false [],
      .sapFrameReceive 0 0 0 false [2 ^ 32], .sapFrameTransmit 16 0 0, .sapClockLoss 16, .sapClockPresent 16,
      .aesFrameReceive 8 0 false Smoke.sub Smoke.sub true, .aesFrameReceive 0 0 false { Smoke.sub with pre := 4 } Smoke.sub true,
      .aesFrameReceive 0 0 false Smoke.sub { Smoke.sub with pre := 4 } true, .aesNosig 8, .aesSeek 8, .aesFrameTransmit 8 0] :
      List Instr).all (fun i => !i.wf) = true := by decide

/-- The fields of tether blocks and messages fit their widths. -/
theorem test_wf_tether :
    (Smoke.hdr.wf && Smoke.hi.wf && Smoke.drvr.wf && TwnDigest.wf ⟨0, 0, 0, false, false, false, false⟩ &&
      SyncBody.wf (.leaves [(1024, 0), (5119, 2 ^ 256 - 1)]) && SyncBody.wf (.pages [(1, 3071, List.replicate 4096 0)])) = true ∧
    ([Smoke.hdrBad, { Smoke.hdr with lost := [0, 8] }, { Smoke.hdr with frame := 2 ^ 64 }, { Smoke.hdr with ack := 2 ^ 32 }, { Smoke.hdr with nak := some (2 ^ 32 - 1) }] :
      List TthHdr).all (fun h => !h.wf) = true ∧
    ([{ Smoke.hi with cap := 2 ^ 64 }, { Smoke.hi with baleRoot := 2 ^ 256 }, { Smoke.hi with root := 2 ^ 256 },
      { Smoke.hi with gen := 2 ^ 64 }, { Smoke.hi with k := 2 ^ 64 }, { Smoke.hi with role := 5 }] : List Hello).all (fun m => !m.wf) = true ∧
    ([⟨2 ^ 32, 0, 0, false, false, false, false⟩, ⟨0, 2 ^ 32, 0, false, false, false, false⟩, ⟨0, 0, 2 ^ 32, false, false, false, false⟩] :
      List TwnDigest).all (fun d => !d.wf) = true ∧
    ([{ Smoke.drvr with state := 7 }, { Smoke.drvr with hold := 65536 }, { Smoke.drvr with ages := List.replicate 16 0 },
      { Smoke.drvr with ages := [2 ^ 32 - 1] }] : List DrvRecord).all (fun r => !r.wf) = true ∧
    ([.leaves [(1023, 0)], .leaves [(5120, 0)], .leaves [(1024, 2 ^ 256)], .pages [(2, 0, List.replicate 4096 0)],
      .pages [(0, 3072, List.replicate 4096 0)], .pages [(0, 0, [])], .gateA [(3072, Smoke.note)], .outlet [(1536, Smoke.note)]] :
      List SyncBody).all (fun b => !b.wf) = true ∧
    ([.laneLock 8 true, .hello Smoke.hdrBad Smoke.hi, .hello Smoke.hdr { Smoke.hi with role := 5 }, .inputMessage Smoke.hdrBad false [],
      .mirrorMessage Smoke.hdrBad [] 0 false false, .mirrorMessage Smoke.hdr [] (2 ^ 32) false false,
      .digestMessage Smoke.hdrBad ⟨0, 0, 0, false, false, false, false⟩, .digestMessage Smoke.hdr ⟨2 ^ 32, 0, 0, false, false, false, false⟩,
      .cmdMessage Smoke.hdrBad 0 (List.replicate 16 0) [], .cmdMessage Smoke.hdr 65536 (List.replicate 16 0) [], .cmdMessage Smoke.hdr 0 [] [],
      .cmdack Smoke.hdrBad 0 0 0, .cmdack Smoke.hdr 65536 0 0, .cmdack Smoke.hdr 0 256 0, .cmdack Smoke.hdr 0 0 256,
      .take Smoke.hdrBad true 0, .take Smoke.hdr true 65536, .roleMessage Smoke.hdrBad 0 0, .roleMessage Smoke.hdr 3 0,
      .roleMessage Smoke.hdr 0 5, .drvrec Smoke.hdrBad [], .drvrec Smoke.hdr [{ Smoke.drvr with state := 7 }],
      .refreshMessage Smoke.hdrBad [] [], .syncMessage Smoke.hdrBad 0 (.leaves []), .syncMessage Smoke.hdr 3 (.leaves []),
      .syncMessage Smoke.hdr 0 (.leaves [(0, 0)]), .baleMessage Smoke.hdrBad 0 0 [], .baleMessage Smoke.hdr 2 0 [],
      .baleMessage Smoke.hdr 0 0x340000 [0], .rcdMessage Smoke.hdrBad 0 0 0 0, .nopMessage Smoke.hdrBad] : List Instr).all (fun i => !i.wf)
      = true := by decide +kernel

/-- Stall 0 of a state that issues. -/
def Smoke.run (x : Stall) : State := { stalls := [(0, { x with status := .running, code := true })] }
/-- A bundle of stall 0 with one operation, its predicate true or false. -/
def Smoke.c0 : OpCtx := { stall := 0, cyc := 1844, pk := 0, pneg := false, last := true }
def Smoke.c1 : OpCtx := { Smoke.c0 with pneg := true }
/-- A load or store of one element at the pointer P0, and a bit-reversed one. -/
def Smoke.one : LaOp := { slot1 := false, reg := 31, pn := 0, mn := 0, amode := .postm, p24 := false, shape := .splat, kp := 0 }

theorem witness_StepRunsFront : State.reset.pending = [] := rfl

theorem witness_StepKeepsCanonicalForm : let s : State := { State.reset with pending := [.undefinedOpcode] }
    s.wf = true ∧ ∃ t, step s = .next t := ⟨by decide, _, rfl⟩

theorem witness_ScalarOperationResults :
    Stl.runs Smoke.c0 (Smoke.run {}) ∧ Stl.holds Smoke.c0 (Smoke.run {}) ∧ 255 < 2 ^ 8 ∧ 8191 < 2 ^ 13 := by
  unfold Stl.runs Stl.holds; decide +kernel

theorem witness_AddressRegisterMoves : Stl.runs Smoke.c0 (Smoke.run {}) ∧ Stl.holds Smoke.c0 (Smoke.run {}) ∧ 39 < 40 ∧ 31 < 32 ∧
    262143 < 2 ^ 18 ∧ 16383 < 2 ^ 14 := by
  unfold Stl.runs Stl.holds; decide +kernel

theorem witness_FalseAndEmptyBundlesOnlyIssue : let s := Smoke.run {}
    (Instr.governed (.waitf Smoke.c1) = some Smoke.c1 ∧ Stl.runs Smoke.c1 s ∧
      (s.src Smoke.c1.stall).predicate Smoke.c1.pk Smoke.c1.pneg = false ∧ Stl.waits s (.waitf Smoke.c1) = false) ∧
    Stl.runs Smoke.c0 s ∧ (s.stall Smoke.c0.stall).ctl = none := by
  unfold Stl.runs; decide +kernel

/-- For each form of BRC a register on which it is taken and one on which it is not; a return stack with room for one, and one with one. -/
theorem witness_ControlTransfersGo : let s := Smoke.run { rstack := List.replicate 7 0 }
    let t := Smoke.run { rstack := [5] }
    Stl.runs Smoke.c0 s ∧ Stl.holds Smoke.c0 s ∧
    (Stl.brcTable.map fun p => (p.2 ((s.src 0).kR 0), p.2 ((s.src 0).kR 1))) = [(true, false), (false, true), (true, false), (false, true)] ∧
    (s.stall Smoke.c0.stall).rstack.length < 8 ∧ Stl.runs Smoke.c0 t ∧ Stl.holds Smoke.c0 t ∧ (t.stall Smoke.c0.stall).rstack = 5 :: [] := by
  unfold Stl.runs Stl.holds; decide +kernel

theorem witness_LoopsAndWaitf : let s := Smoke.run { rf := { g := [(1, 1)] }, loops := List.replicate 2 ⟨0, 0, 1, 0⟩ }
    Stl.runs Smoke.c0 s ∧ Stl.holds Smoke.c0 s ∧ ((s.src Smoke.c0.stall).gR 0).toNat = 0 ∧ ((s.src Smoke.c0.stall).gR 1).toNat = 1 ∧
    (s.stall Smoke.c0.stall).loops.length < 3 := by
  unfold Stl.runs Stl.holds; decide +kernel

theorem witness_SyncHoldsAndReleases : let s := Smoke.run {}
    let t : State := { stalls := [(0, { status := .atSync, code := true, syncCnt := 1 })] }
    Stl.runs Smoke.c0 s ∧ Stl.holds Smoke.c0 s ∧ (t.stall Smoke.c0.stall).status = .atSync ∧ Stl.syncReady t Smoke.c0.stall = true := by
  unfold Stl.runs Stl.holds; decide +kernel

/-- A state for each stopping exception, with the record free and with the record taken. -/
theorem witness_StoppingExceptions :
    let i := Smoke.c0.stall
    let deep := Smoke.run { rstack := List.replicate 8 0, rf := { g := [(1, 1)] }, loops := List.replicate 3 ⟨0, 0, 1, 0⟩ }
    (Stl.raises (Smoke.run {}) Smoke.c0 (.illegal Smoke.c0) 1 ∧ Stl.raises (Smoke.run {}) Smoke.c0 (.pmemUncorr Smoke.c0) 2 ∧
      Stl.raises (Smoke.run { pc := 4096 }) Smoke.c0 (.fetchEnd Smoke.c0) 3 ∧ Stl.raises deep Smoke.c0 (.call Smoke.c0 0) 4 ∧
      Stl.raises (Smoke.run {}) Smoke.c0 (.ret Smoke.c0) 5 ∧ Stl.raises deep Smoke.c0 (.loop Smoke.c0 1 9) 6 ∧
      Stl.raises deep Smoke.c0 (.loopi Smoke.c0 1 9) 6) ∧
    (Smoke.run {}).flag (Reg.STL_EXC_VALID i) = false ∧ (Smoke.run { pc := 4096 }).flag (Reg.STL_EXC_VALID i) = false ∧
    deep.flag (Reg.STL_EXC_VALID i) = false ∧
    Stl.raises ((Smoke.run {}).setFlag (Reg.STL_EXC_VALID i) true) Smoke.c0 (.illegal Smoke.c0) 1 ∧
    ((Smoke.run {}).setFlag (Reg.STL_EXC_VALID i) true).flag (Reg.STL_EXC_VALID i) = true := by
  refine ⟨⟨?_, ?_, ?_, ?_, ?_, ?_, ?_⟩, by decide +kernel, by decide +kernel, by decide +kernel, ?_, by decide +kernel⟩
  · exact .inl ⟨rfl, by unfold Stl.runs; decide +kernel, rfl⟩
  · exact .inr (.inl ⟨rfl, by decide +kernel, rfl⟩)
  · exact .inr (.inr (.inl ⟨rfl, by decide +kernel, by decide +kernel, by decide +kernel, rfl⟩))
  · exact .inr (.inr (.inr (.inl ⟨0, rfl, by unfold Stl.runs Stl.holds; decide +kernel, by decide +kernel, rfl⟩)))
  · exact .inr (.inr (.inr (.inr (.inl ⟨rfl, by unfold Stl.runs Stl.holds; decide +kernel, by decide +kernel, rfl⟩))))
  · exact .inr (.inr (.inr (.inr (.inr (.inl ⟨1, 9, rfl, by unfold Stl.runs Stl.holds; decide +kernel, by decide +kernel,
      by decide +kernel, rfl⟩)))))
  · exact .inr (.inr (.inr (.inr (.inr (.inr ⟨1, 9, rfl, by unfold Stl.runs Stl.holds; decide +kernel, by decide +kernel,
      by decide +kernel, rfl⟩)))))
  · exact .inl ⟨rfl, by unfold Stl.runs; decide +kernel, rfl⟩

theorem witness_MultiplyAccumulateResults :
    Stl.runs Smoke.c0 (Smoke.run {}) ∧ Stl.awaits (Smoke.run {}) Smoke.c0.stall [31, 31] = false ∧
    (Smoke.run {}).flag (Reg.STL_RESIDUE_CTL_ARMED Smoke.c0.stall) = false := by
  unfold Stl.runs; decide +kernel

theorem witness_ComplexMultiplyResults :
    1 < 2 ∧ Stl.runs Smoke.c0 (Smoke.run {}) ∧ Stl.awaits (Smoke.run {}) Smoke.c0.stall [31, 31] = false ∧
    (Smoke.run {}).flag (Reg.STL_RESIDUE_CTL_ARMED Smoke.c0.stall) = false := by
  unfold Stl.runs; decide +kernel

theorem witness_ReadOutResults : Stl.runs Smoke.c0 (Smoke.run {}) ∧ Stl.awaits (Smoke.run {}) Smoke.c0.stall [31] = false := by
  unfold Stl.runs; decide +kernel

theorem witness_ElementArithmeticResults : Stl.runs Smoke.c0 (Smoke.run {}) ∧ Stl.awaits (Smoke.run {}) Smoke.c0.stall [31, 31, 31] = false ∧
    Stl.awaits (Smoke.run {}) Smoke.c0.stall [31, 31] = false := by unfold Stl.runs; decide +kernel

theorem witness_PredicateWriteResults : 7 < 8 ∧ Stl.runs Smoke.c0 (Smoke.run {}) ∧ Stl.awaits (Smoke.run {}) Smoke.c0.stall [31, 31] = false :=
  ⟨by decide, witness_ElementArithmeticResults.1, witness_ElementArithmeticResults.2.2⟩

theorem witness_DynamicsResults : (Stl.runs Smoke.c0 (Smoke.run {}) ∧ Stl.awaits (Smoke.run {}) Smoke.c0.stall [31, 31, 31] = false ∧
    Stl.awaits (Smoke.run {}) Smoke.c0.stall [31, 31] = false) ∧ 30 < 31 ∧ 65535 < 2 ^ 16 ∧ (0 : Int) ≤ 2 ^ 31 - 1 ∧
    (2 ^ 31 - 1 : Int) < 2 ^ 31 ∧ (-2 ^ 31 : Int) ≤ -2 ^ 31 ∧ (-2 ^ 31 : Int) < 2 ^ 31 := ⟨witness_ElementArithmeticResults, by decide⟩

theorem witness_ButterflyResults : Stl.runs Smoke.c0 (Smoke.run {}) ∧ Stl.awaits (Smoke.run {}) Smoke.c0.stall [31, 31, 31] = false :=
  ⟨witness_ElementArithmeticResults.1, witness_ElementArithmeticResults.2.1⟩

/-- An element at the end of its range takes the largest addend; two orders of two addends lose nothing. -/
theorem witness_AccumulationIsExact :
    let x : Acc := { v := 2 ^ 71 - 1, wrap := 7 }
    let run (l : List Int) : Acc := l.foldl (fun y d => y.add d 72) x
    (-2 ^ 71 ≤ x.v ∧ x.v < 2 ^ 71 ∧ -8 ≤ x.wrap ∧ x.wrap ≤ 7) ∧ x.lost = false ∧ (-2 ^ 63 : Int).natAbs ≤ 2 ^ 63 ∧
    (x.add (-2 ^ 63) 72).lost = false ∧ (x.add 1 72).lost = true ∧ List.Perm [-1, 0] [0, -1] ∧
    (∀ d ∈ ([-1, 0] : List Int), d.natAbs ≤ 2 ^ 63) ∧ (run [-1, 0]).lost = false ∧ (run [0, -1]).lost = false := by decide +kernel

theorem witness_LossNeedsManyAdditions :
    ((List.replicate 3840 (2 ^ 63 - 1 : Int)).length < 3841 ∧ ∀ d ∈ List.replicate 3840 (2 ^ 63 - 1 : Int), d.natAbs < 2 ^ 63) ∧
    (List.replicate 7679 (2 ^ 62 : Int)).length < 7680 ∧ ∀ d ∈ List.replicate 7679 (2 ^ 62 : Int), d.natAbs ≤ 2 ^ 62 := by
  refine ⟨⟨by rw [List.length_replicate]; decide, fun d h => ?_⟩, by rw [List.length_replicate]; decide, fun d h => ?_⟩ <;>
    (rw [List.eq_of_mem_replicate h]; decide)

theorem witness_RoundingIsConvergent : 2 * (Arith.conv 1 1 * 2 ^ 1 - 1).natAbs = 2 ^ 1 ∧ Arith.conv 1 1 = 0 ∧ Arith.conv 3 1 = 2 := by
  decide

/-- An access in range in each space, and one out of range after the first address fault. -/
theorem witness_LoadResults : let s := Smoke.run {}
    let f := (Smoke.run { rf := { p := [(0, 0x3FFFD)] } }).setFlag (Reg.STL_EXC_ADDR 0) true
    Stl.runs Smoke.c0 s ∧ Stl.holds Smoke.c0 s ∧
    (∀ i ∈ ([.ldV, .ldb, .ldh, .ldS] : List (OpCtx → LaOp → Instr)), Stl.waits s (i Smoke.c0 Smoke.one) = false) ∧
    (∀ sp ∈ [Space.loc, .bst, .hay], Stl.quiet s Smoke.c0 Smoke.one sp ((Stl.elements s Smoke.c0 Smoke.one sp).map (·.1))) ∧
    Stl.quiet s Smoke.c0 Smoke.one .loc [((Stl.access s Smoke.c0.stall Smoke.one .loc false).1).headD 0] ∧
    Stl.runs Smoke.c0 f ∧ Stl.holds Smoke.c0 f ∧ (Stl.elements f Smoke.c0 Smoke.one .loc).map (·.1) = [0x3FFFD] ∧
    Stl.quiet f Smoke.c0 Smoke.one .loc [0x3FFFD] := by
  unfold Stl.runs Stl.holds Stl.quiet; decide +kernel

theorem witness_StoreResults : let s := Smoke.run {}
    Stl.runs Smoke.c0 s ∧ Stl.holds Smoke.c0 s ∧
    (∀ i ∈ ([.stV, .stb, .sth] : List (OpCtx → LaOp → Instr)), Stl.waits s (i Smoke.c0 Smoke.one) = false) ∧
    (∀ sp ∈ [Space.loc, .bst, .hay], Stl.quiet s Smoke.c0 Smoke.one sp ((Stl.elements s Smoke.c0 Smoke.one sp).map (·.1)) ∧
      Stl.breaches s Smoke.c0.cyc (Stl.cellAddrs (Stl.cells s Smoke.c0 Smoke.one sp)) = false) ∧
    Stl.quiet s Smoke.c0 Smoke.one .loc [((Stl.access s Smoke.c0.stall Smoke.one .loc false).1).headD 0] ∧
    Stl.breaches s Smoke.c0.cyc (Stl.cellAddrs [(Space.loc.origin 0, Smoke.one.stored 0)]) = false := by
  unfold Stl.runs Stl.holds Stl.quiet; decide +kernel

theorem witness_BusAddResults : let s := Smoke.run {}
    let f := (Smoke.run { rf := { p := [(0, 0x4000)] } }).setFlag (Reg.STL_EXC_ADDR 0) true
    Stl.runs Smoke.c0 s ∧ Stl.holds Smoke.c0 s ∧ Stl.waits s (.busadd Smoke.c0 Smoke.one) = false ∧
    (∀ e ∈ Stl.elements s Smoke.c0 Smoke.one .bus, Bus.outOfRange s.frameN e.1 = true → s.flag (Reg.STL_EXC_ADDR Smoke.c0.stall) = true) ∧
    (∀ e ∈ Stl.elements f Smoke.c0 Smoke.one .bus, Bus.outOfRange f.frameN e.1 = true ∧ f.flag (Reg.STL_EXC_ADDR Smoke.c0.stall) = true) := by
  unfold Stl.runs Stl.holds; decide +kernel

/-- A load with one before it in the other space, a store likewise, and bytes that no store of the frame has touched. -/
theorem witness_AccessesLand :
    let r : LoadRec := { hay := true, dest := 31, p24 := false, rel := 0, after := 0, elems := [{ addr := 0, dests := [0] }] }
    let q : LoadRec := { r with hay := false }
    let st : StoreRec := ⟨true, 0, []⟩
    let su : StoreRec := ⟨false, 0, []⟩
    let s := Smoke.run { loads := [q] ++ r :: [], stores := [su] ++ st :: [] }
    (s.stall 0).loads = [q] ++ r :: [] ∧ (s.stall 0).loads = [] ++ q :: [r] ∧ (∀ x ∈ [q], x.hay ≠ true ∨ x.dest ≠ 31) ∧
    (∀ e ∈ r.elems, Mem.contested s 0 r.rel r.after e.addr 4 = false) ∧ (∀ e ∈ r.elems, ∀ x ∈ e.dests, x < 32) ∧
    (s.stall 0).stores = [su] ++ st :: [] ∧ (∀ x ∈ [su], x.hay ≠ true) ∧
    ([0, 1] : List Byte) ≠ [] ∧ Mem.contested s 0 0 s.mem.issued 0 ([0, 1] : List Byte).length = false := by decide +kernel

theorem witness_AddressesFollowTheirMode :
    0 < 1 ∧ (3 : Nat) ≤ 3 ∧ 7 < 2 ^ 3 ∧ 31 < 32 ∧ RegFile.lR { l := [(0, 1)] } Smoke.one.pn ≠ 0 ∧ Smoke.one.amode ≠ .brev := by decide

theorem witness_AddressFaultsRecord : (Smoke.run {}).flag (Reg.STL_EXC_ADDR 0) = false ∧
    ((Smoke.run {}).setFlag (Reg.STL_EXC_ADDR 0) true).flag (Reg.STL_EXC_ADDR 0) = true := by decide +kernel

/-- The bundle of Table 04-10 may stand in a bale, and one with a reserved header bit may not. -/
theorem witness_BundlesSpellTheirOperations : 47 < 48 ∧ Enc.bundleOk 0x50000000091128000000002044300000 = true ∧
    Enc.bundleOk 0x00000000000000000000000000000001 = false := by decide +kernel

/-- `s` with the values of some fields. -/
def Smoke.set (l : List (Fld × Nat)) (s : State := {}) : State := l.foldl (fun t p => t.setFld p.1 p.2) s
/-- A descriptor with its first words, and a state in whose queue it is the head. -/
def Smoke.desc (ws : List Word) : Desc := { ticket := 5, words := ws }
/-- The state with the PLL locked, so that every block runs and the host's accesses are served; and with the endpoint in D3hot. -/
def Smoke.up (s : State) : State := s.setFld Reg.CLK_STATUS_PLL_STATE 2
def Smoke.mute (s : State) : State := { s with host := { s.host with d3hot := true } }
def Smoke.q (d : Desc) : State := if Cmd.isLong d.op then { cmd := { long := [d] } } else { cmd := { short := [d] } }

/-- The non-zero bytes of the least bale that the format allows: TIMETABLE, CODE and FOOTPRINT (Tables 09-4 to 09-6), 96 kHz, N = 16. -/
def Smoke.bale : List Host.Cell :=
  [(0x9180000, 66), (0x9180001, 65), (0x9180002, 76), (0x9180003, 69), (0x9180004, 1), (0x9180006, 3), (0x9180008, 208), (0x9180009, 4),
   (0x918000C, 1), (0x918000D, 2), (0x918000E, 4), (0x9180018, 7), (0x9180040, 1), (0x9180042, 1), (0x9180045, 1), (0x9180048, 160),
   (0x9180049, 1), (0x918004C, 183), (0x918004D, 77), (0x918004E, 70), (0x918004F, 234), (0x9180050, 2), (0x9180052, 1), (0x9180054, 160),
   (0x9180055, 2), (0x9180058, 128), (0x9180059, 1), (0x918005C, 54), (0x918005D, 47), (0x918005E, 246), (0x918005F, 186), (0x9180060, 8),
   (0x9180062, 1), (0x9180064, 32), (0x9180065, 4), (0x9180068, 32), (0x918006C, 94), (0x918006D, 64), (0x918006E, 195), (0x918006F, 76),
   (0x9180100, 205), (0x9180101, 16), (0x9180420, 1), (0x9180430, 2), (0x9180438, 64)]

/-- That bale in slot 0, whose state is `st`, and the descriptor `d` at the head of its queue. -/
def Smoke.slot (st : Nat) (d : Desc) : State :=
  ({ Smoke.q d with mem := { bytes := Smoke.bale } }).setFld (Reg.TOP_BALE_SLOT_STATE 0) st

/-- CRC-32C byte by byte, each step on a numeral. -/
def Smoke.fold : Nat → List Byte → Nat
  | c, [] => c
  | 0, b :: bs => Smoke.fold (Crc.step 0 b) bs
  | n + 1, b :: bs => Smoke.fold (Crc.step (n + 1) b) bs

theorem Smoke.fold_eq (bs : List Byte) : ∀ c, Smoke.fold c bs = bs.foldl Crc.step c := by
  induction bs with
  | nil => intro c; cases c <;> rfl
  | cons b bs ih => intro c; cases c <;> exact ih _

theorem Smoke.crc_eq : Crc.crc32c = fun m => Smoke.fold 0xFFFFFFFF m ^^^ 0xFFFFFFFF := funext fun m => by rw [Smoke.fold_eq]; rfl

theorem Smoke.bale_crc : Bale.crcOk (Bale.rd { mem := { bytes := Smoke.bale } } 0) = true := by
  unfold Bale.crcOk; rw [Smoke.crc_eq]; decide +kernel

/-- The least bale passes the checks of LOAD_BALE (R293). -/
theorem test_bale_loads : Bale.loadCheck (Bale.rd { mem := { bytes := Smoke.bale } } 0) = 0 := by
  unfold Bale.loadCheck; rw [Smoke.bale_crc]; decide +kernel

/-- The least bale passes the checks of VERIFY_BALE (R294). -/
theorem test_bale_verifies : Bale.verifyCheck (Smoke.slot 2 (Smoke.desc [2])) (Bale.rd (Smoke.slot 2 (Smoke.desc [2])) 0) = 0 := by
  have h : Bale.loadCheck (Bale.rd (Smoke.slot 2 (Smoke.desc [2])) 0) = 0 := test_bale_loads
  unfold Bale.verifyCheck; rw [h]; decide +kernel

theorem witness_SubmissionsAreTicketed :
    let s (n : Nat) (r : Bool) : State := Smoke.up (({ cmd := { openT := List.replicate n (0, 0, 0) } } : State).setFlag Reg.CMD_STAT_CPX_READY r)
    let d : Desc := { ticket := (s 0 true).fld Reg.CMD_OUTSTANDING_NEXT, words := List.replicate 16 (0 : Word) }
    (List.replicate 16 (0 : Word)).length = 16 ∧ State.reset.served = false ∧
    ((s 1023 true).served = true ∧ (s 1023 true).cmd.openT.length < 1024 ∧ (s 1023 true).flag Reg.CMD_STAT_CPX_READY = true) ∧
    Cmd.mirrors (s 0 true) d = false ∧ ((s 1024 true).served = true ∧ 1024 ≤ (s 1024 true).cmd.openT.length) ∧
    (s 0 false).served = true ∧ (s 0 false).flag Reg.CMD_STAT_CPX_READY = false := by decide +kernel

theorem witness_CommandsRejectedByName :
    (let d := Smoke.desc [0x05]
     Cmd.head (Smoke.q d) false = some d ∧ d.peer = false ∧ Cmd.known d.op = false) ∧
    ∀ op ∈ [0x01, 0x02, 0x03, 0x04, 0x10, 0x11], ∀ role ∈ [2, 4],
      let d := Smoke.desc [BitVec.ofNat 32 op]
      let s := (Smoke.q d).setFld Reg.TWN_ST_ROLE role
      Cmd.head s (Cmd.isLong op) = some d ∧ d.op = op ∧ d.peer = false ∧ d.sent = false ∧ d.isLocal = false ∧ (s.role = 2 ∨ s.role = 4) := by
  decide +kernel

/-- Each bale command in the slot states that let it act, and in one that does not. -/
theorem witness_BaleCommandsFollowTheirChecks :
    let s (op st : Nat) := Smoke.slot st (Smoke.desc [BitVec.ofNat 32 op])
    let run (op st : Nat) : Prop := Cmd.starts (s op st) op (Smoke.desc [BitVec.ofNat 32 op]) ∧ Bale.st (s op st) 0 = st ∧ (s op st).mem.err = []
    (run 0x01 1 ∧ (Smoke.desc [0x01]).flag 1 = false ∧ Bale.loadCheck (Bale.rd (s 0x01 1) 0) = 0) ∧
    (Bale.loadCheck (Bale.rd (Smoke.q (Smoke.desc [0x01])) 0) = 1) ∧
    (let d := Smoke.desc [0x0201]
     Cmd.starts (Smoke.slot 3 d) 0x01 d ∧ d.flag 1 = true ∧ Bale.st (Smoke.slot 3 d) 0 = 3) ∧
    (run 0x02 2 ∧ Bale.len (Bale.rd (s 0x02 2) 0) ≤ 0x340000 ∧ Bale.verifyCheck (s 0x02 2) (Bale.rd (s 0x02 2) 0) = 0) ∧
    (run 0x03 3 ∧ Bale.len (Bale.rd (s 0x03 3) 0) ≤ 0x340000 ∧ (Bale.liveRd (s 0x03 3)).isNone = true ∧
      (let t := (s 0x03 3).setFld (Reg.TOP_BALE_SLOT_STATE 1) 4
       Bale.st t (1 - 0) = 4 ∧ t.bale.taken ≠ some (1 - 0))) ∧
    run 0x04 4 ∧ run 0x02 1 ∧ run 0x03 2 ∧ run 0x04 3 := by
  unfold Cmd.starts
  exact ⟨⟨by decide +kernel, by decide +kernel, test_bale_loads⟩, by decide +kernel, by decide +kernel,
    ⟨by decide +kernel, by decide +kernel, test_bale_verifies⟩, by decide +kernel, by decide +kernel, by decide +kernel, by decide +kernel,
    by decide +kernel⟩

theorem witness_ArmingWritesFillTheOtherBank : let s : State := { bale := { arming := some 1 } }
    s.bale.arming = some 1 ∧ 1 < 2 ∧ (∀ w, Mem.err s w ≤ 1) ∧ ∀ j, Bale.nb (Bale.rd s 1) j ≤ 4096 := by
  have h : Bale.sect (Bale.rd { bale := { arming := some 1 } } 1) 2 = none := by decide +kernel
  refine ⟨rfl, by decide, fun w => by simp [Mem.err, Sparse.get, Sparse.look], fun j => ?_⟩
  unfold Bale.nb; rw [h]; exact Nat.zero_le _

/-- Inline words to a declared stall parameter page, to a word with F fields and to one without; words of the host; a page without F fields;
a commit; a read. -/
theorem witness_ParameterCommands :
    let op (n fl sp page off cnt : Nat) := Smoke.desc [BitVec.ofNat 32 (n + 256 * fl), 0, BitVec.ofNat 32 (sp + 65536 * page),
      BitVec.ofNat 32 (off + 65536 * cnt)]
    let s (d : Desc) : State := { Smoke.q d with bale := { pages := [64 * 47] } }
    let ok (n : Nat) (d : Desc) (inl : Bool) : Prop := Cmd.starts (s d) n d ∧ Param.check (s d) (Param.operands d inl) = none
    (let d := op 0x10 4 1 (64 * 47) 4092 1
     ok 0x10 d true ∧ d.flag 2 = true ∧ (Param.operands d true).space = 1) ∧
    (let d := op 0x10 4 0 0x60 0x80 1
     ok 0x10 d true ∧ (Param.operands d true).space = 0 ∧ (Param.operands d true).count = 1 ∧ Reg.shMask (s d) 0x060080 ≠ 0) ∧
    (let d := op 0x10 4 0 0x60 0 1
     ok 0x10 d true ∧ (Param.operands d true).space = 0 ∧ (Param.operands d true).count = 1 ∧ Reg.shMask (s d) 0x060000 = 0) ∧
    (let d := op 0x10 0 1 (64 * 47) 0 1024
     ok 0x10 d false ∧ d.flag 2 = false ∧ (s d).canSend = true ∧ (Smoke.mute (s d)).canSend = false ∧
       Cmd.starts (Smoke.mute (s d)) 0x10 d ∧ Param.check (Smoke.mute (s d)) (Param.operands d false) = none) ∧
    (let d := op 0x10 4 0 0x10 0 1
     Cmd.starts (s d) 0x10 d ∧ Param.check (s d) (Param.operands d true) = some (3, 0x81)) ∧
    (let d := op 0x11 0 0 0 0 0
     Cmd.starts (s d) 0x11 d) ∧
    (let d := op 0x12 0 1 (64 * 47) 0 1024
     ok 0x12 d false ∧ (s d).canSend = true ∧ (Smoke.mute (s d)).canSend = false ∧
       Cmd.starts (Smoke.mute (s d)) 0x12 d ∧ Param.check (Smoke.mute (s d)) (Param.operands d false) = none) ∧
    (let d := op 0x12 0 1 0 0 1
     Cmd.starts (s d) 0x12 d ∧ Param.check (s d) (Param.operands d false) = some (3, 0x81)) := by
  unfold Cmd.starts; dsimp only; and_intros <;> decide +kernel

theorem witness_QueryCommandsAnswer :
    let s (n : Nat) : State := Smoke.q (Smoke.desc [BitVec.ofNat 32 n])
    (Cmd.starts (s 0x20) 0x20 (Smoke.desc [0x20]) ∧ (s 0x20).rcd.built = false) ∧
    (let t : State := { s 0x20 with rcd := { built := true } }
     Cmd.starts t 0x20 (Smoke.desc [0x20]) ∧ ¬ (t.rcd.built = false ∨ ((Smoke.desc [0x20]).flag 3 = false ∧
       (Smoke.desc [0x20]).field 16 8 ≠ t.reg64 0x000400))) ∧
    (Cmd.starts (s 0x21) 0x21 (Smoke.desc [0x21]) ∧ (s 0x21).cmd.run = []) ∧
    (Cmd.starts (s 0x22) 0x22 (Smoke.desc [0x22]) ∧ (s 0x22).running = false ∧ (s 0x22).canSend = true ∧
      Cmd.starts (Smoke.mute (s 0x22)) 0x22 (Smoke.desc [0x22]) ∧ (Smoke.mute (s 0x22)).running = false ∧ (Smoke.mute (s 0x22)).canSend = false) ∧
    ((s 0x22).setFlag Reg.TOP_FRAME_CFG_RUN true).running = true ∧
    (let d := Smoke.desc [0x30, 0, BitVec.ofNat 32 (1 + 65536 * 5)]
     let t : State := { Smoke.q d with variant := .bd9616 }
     Cmd.starts t 0x30 d ∧ d.field 8 1 = 1 ∧ d.field 10 2 < 192 ∧ Fc.assigned (d.field 10 2) = true ∧ Fc.present t.variant (d.field 10 2) = false) ∧
    (let t : State := { s 0x40 with variant := .bd9616 }
     Cmd.starts t 0x40 (Smoke.desc [0x40]) ∧ t.variant.tether = false) ∧
    (Cmd.starts (s 0x40) 0x40 (Smoke.desc [0x40]) ∧ (s 0x40).variant.tether = true ∧ (s 0x40).flag Reg.TWN_ST_OWN = false) ∧
    (let t := (s 0x40).setFlag Reg.TWN_ST_OWN true
     Cmd.starts t 0x40 (Smoke.desc [0x40]) ∧ t.flag Reg.TWN_ST_OWN = true ∧ t.flag Reg.TWN_ST_PEER_ELIG = false) ∧
    (let t : State := { s 0x41 with variant := .bd9616 }
     Cmd.starts t 0x41 (Smoke.desc [0x41]) ∧ t.variant.tether = false) ∧
    (Cmd.starts (s 0x41) 0x41 (Smoke.desc [0x41]) ∧ (s 0x41).variant.tether = true ∧ Tth.up (s 0x41) = false) := by
  unfold Cmd.starts; dsimp only; and_intros <;> decide +kernel

/-- The link is UP, the roles fit and the peer has the bale of this device, so that TWIN_RESYNC begins. -/
theorem witness_QueryCommandsAnswer_resync :
    let t : State := (((({ Smoke.q (Smoke.desc [0x41]) with twn := { peer := some { cap := 0, baleRoot := 0, root := 0, gen := 0, k := 0, role := 3
                                                                                    own := false, elig := true, senior := false
                                                                                    haysync := false, cold := false } } } : State).setFld
      Reg.TWN_ST_LINK 2).setFld Reg.TWN_ST_ROLE 1).setFld Reg.TWN_ST_PEER_ROLE 3)
    Cmd.starts t 0x41 (Smoke.desc [0x41]) ∧ t.variant.tether = true ∧ Tth.up t = true ∧ Twn.pairFits t = true ∧ Twn.sameBale t = true ∧
    t.twn.resync = none := by
  unfold Cmd.starts; dsimp only; and_intros <;> decide +kernel

/-- Words for a parameter page and for a block's registers, on a device without a peer in step and on one with. -/
theorem witness_HostAnswersLand :
    let r (sp : Nat) : Run := { d := Smoke.desc [0x10, 0, BitVec.ofNat 32 sp, 0x10000], long := false, adj := 0, wait := .hostRead }
    let s (sp : Nat) : State := { cmd := { run := [r sp] } }
    let p (sp : Nat) : State := ((s sp).setFld Reg.TWN_ST_ROLE 1).setFld Reg.TWN_ST_LINK 2
    ∀ sp ∈ [0, 1], (∀ t ∈ [s sp, p sp], Param.waiting t = some (r sp) ∧ t.saveWarned = false) ∧ (r sp).d.peer = false ∧ (r sp).sent = false ∧
      (r sp).answer = none ∧ (Param.operands (r sp).d false).space = sp ∧ Cmd.mirrors (s sp) (r sp).d = false ∧
      Cmd.mirrors (p sp) (r sp).d = true := by decide +kernel

theorem witness_RingServesTheHost :
    let s : State := Smoke.up ((({ cmd := { ringQ := [5] } } : State).setFlag Reg.CMD_RING_CTL_EN true).setFld Reg.CMD_RING_CTL_LOG2SZ 12)
    let r := Smoke.up State.reset
    State.reset.served = false ∧ r.served = true ∧ r.cmd.ringQ = [] ∧ r.flag Reg.CMD_RING_CTL_EN = false ∧
    s.served = true ∧ s.cmd.ringQ = [5] ∧ s.flag Reg.CMD_RING_CTL_EN = true ∧
    (s.fld Reg.CMD_RING_TAIL_TAIL + 1) % Cmd.ringSize s ≠ 4095 % Cmd.ringSize s % 2 ^ 12 % Cmd.ringSize s := by
  decide +kernel

theorem witness_FunctionResetsQuietTheHostSide :
    let r : Run := { d := Smoke.desc [0x10, 0, 1, 0x10000], long := false, adj := 0, wait := .hostRead }
    let s : State := { cmd := { run := [r] } }
    (State.reset.host.perst = false ∧ Param.waiting State.reset = none ∧ ({ host := { perst := true } } : State).host.perst = true) ∧
    (s.host.perst = false ∧ Param.waiting s = some r ∧ r.d.peer = false ∧ r.sent = false ∧ r.answer = none ∧ s.saveWarned = false) ∧
    State.reset.evu.pba = 0 ∧ State.reset.cmd.ringQ = [] := by decide +kernel

/-- A write of RAW, EN or MAP at the last source, a source of a present unit, one of an absent unit and one already raised; MSI-X on, off, masked
and with a hold interval that ends. -/
theorem witness_EventsRequestMessages :
    let s : State := Smoke.up { evu := { enable := true, mask := 0 } }
    let p : State := (s.setReg 0x030580 1).setVecBit 0x030000 0 true
    let h : State := { p with evu := { enable := true, mask := 0, vec := [(0, { hold := true, wait := true })] } }
    7 < 8 ∧ 255 < 256 ∧ 31 < 32 ∧ State.reset.served = false ∧ s.served = true ∧ Pll.running State.reset = false ∧ Pll.running s = true ∧ Evu.present s.variant 196 = true ∧ s.vecBit 0x030000 196 = false ∧ Evu.present s.variant 255 = false ∧
    p.vecBit 0x030000 0 = true ∧
    (let e := s.setReg 0x030020 1
     (e.reg 0x030020).toNat.testBit 0 = true ∧ (e.reg 0x030580).toNat.testBit (e.fld (Reg.EVU_MAP_VECTOR 0)) = false) ∧
    ¬ ((Evu.vec s 0).wait = true ∧ s.evu.enable = true ∧ (s.reg 0x030580).toNat.testBit 0 = true) ∧
    ((Evu.vec h 0).wait = true ∧ h.evu.enable = true ∧ (h.reg 0x030580).toNat.testBit 0 = true) ∧ h.evu.funcMask = false ∧
    h.evu.mask.testBit 0 = false ∧ h.canSend = true ∧ Evu.shut h 0 = false ∧
    (let u : State := { h with evu := { h.evu with funcMask := true } }
     (Evu.vec u 0).wait = true ∧ u.evu.enable = true ∧ (u.reg 0x030580).toNat.testBit 0 = true ∧ u.evu.funcMask = true ∧ Evu.shut u 0 = true) ∧
    (let e := s.setReg 0x030020 1
     Pll.running e = true ∧ Evu.present e.variant 0 = true ∧ e.vecBit 0x030000 0 = false) ∧
    (let o : State := { p with evu := { p.evu with enable := false } }
     o.evu.enable = false ∧ (o.reg 0x030580).toNat.testBit 0 = true ∧ (Evu.vec o 0).hold = false ∧ o.canSend = true) ∧
    State.reset.evu.enable = false ∧ (Evu.vec State.reset 0).hold = false ∧ Evu.present State.reset.variant 0 = true := by decide +kernel

/-- A 64-bit register of another block and one of the timekeeper, with its node time; the words of AES_RXCS; a word with RC fields and one
of the timekeeper; reserved space and an absent unit. -/
theorem witness_RegisterReadsLatchAndClear :
    let s := Smoke.up State.reset
    let b := Smoke.up { variant := .bd9616 }
    State.reset.served = false ∧ s.served = true ∧ b.served = true ∧ s.tkp.node ≤ s.tkp.node ∧
    (∀ off ∈ [0x0D0028, 0x050050], off ∈ Reg.lowWords ∧ Reg.present s.variant off = true) ∧
    7 < s.variant.aess ∧
    (∀ off ∈ [0x000100, 0x050010], (Reg.rowAt off).isSome = true ∧ Reg.present s.variant off = true ∧ off ≠ 0x050070 ∧ off ≠ 0x000400 ∧
      off ∉ Reg.lowWords ∧ ¬ (0x080400 ≤ off ∧ off < 0x080600 ∧ off % 0x40 = 0) ∧ Reg.once off = false) ∧
    (0x0F0000 / 65536 ≠ 5 ∧ s.latched.contains 0x0F0000 = false ∧ (Reg.rowAt 0x0F0000).isNone = true) ∧
    (b.latched.contains 0x0D0004 = false ∧ Reg.present b.variant 0x0D0004 = false ∧ 0x0D0004 ∉ Reg.lowWords) := by decide +kernel

/-- Reserved space, an absent unit, and words of the three blocks; one with F fields and one without. -/
theorem witness_RegisterWritesFollowTheAccess :
    State.reset.served = false ∧ (Smoke.up State.reset).served = true ∧ 47 < (Smoke.up State.reset).variant.stalls ∧ 0 < Variant.drvCh .bd9648 ∧
    (Reg.rowAt 0x0F0000).isNone = true ∧ Reg.present .bd9616 0x0D0028 = false ∧
    (∀ off ∈ [0x020400, 0x021000], Reg.configOf off = true ∧ (Reg.rowAt off).isSome = true ∧ Reg.present .bd9648 off = true) ∧
    (∀ off ∈ [0x020020, 0x000040, 0x0C0000], Reg.configOf off = false ∧ (Reg.rowAt off).isSome = true ∧ Reg.present .bd9648 off = true ∧
      (off / 0x10000 = 2 ∨ (off / 0x10000 = 0 ∧ off ≠ 0x000100 ∧ off ≠ 0x000334) ∨ (off / 0x10000 = 0xC ∧ off ≠ 0x0C0010))) ∧
    Reg.shMask State.reset 0x000040 = 0 ∧ ∃ off ∈ [0x0C4000, 0x0C1000, 0x0C0400], Reg.shMask State.reset off ≠ 0 := by decide +kernel

/-- A present stall and an absent one; a multiplier checker and an adder checker of an element, the selected one armed, with no record and
with one. -/
theorem witness_ErrorRecordsClear :
    let s := Smoke.up State.reset
    let c : Checker := { unit := 1, lane := 3, elem := 3, mismatch := fun up => up }
    let a := (Smoke.set [(Reg.STL_RESIDUE_CTL_UNITSEL 0, 1), (Reg.STL_RESIDUE_CTL_LANE 0, 3), (Reg.STL_RESIDUE_CTL_ELEM 0, 3),
      (Reg.STL_RESIDUE_CTL_ARMED 0, 1)] s)
    State.reset.served = false ∧ s.served = true ∧ s.variant.stalls ≤ 48 ∧ 47 < s.variant.stalls ∧
    (c.mismatch false = false ∧ c.mismatch true = true) ∧ s.flag (Reg.STL_RESIDUE_CTL_ARMED 0) = false ∧
    a.flag (Reg.STL_RESIDUE_CTL_ARMED 0) = true ∧
    c.unit = a.fld (Reg.STL_RESIDUE_CTL_UNITSEL 0) ∧ c.lane = a.fld (Reg.STL_RESIDUE_CTL_LANE 0) ∧ c.elem = a.fld (Reg.STL_RESIDUE_CTL_ELEM 0) ∧
    a.flag (Reg.STL_RESIDUE_VALID 0) = false ∧ (a.setFlag (Reg.STL_RESIDUE_VALID 0) true).flag (Reg.STL_RESIDUE_VALID 0) = true := by decide +kernel

/-- The hayloft, a local memory of an absent stall, a bale slot that is OPEN and one that is not, with no boundary struck and with some; an
address that no target takes, and one without a path. -/
theorem witness_HostWritesWhereItMay :
    let s := Smoke.up State.reset
    let r := s.setFlag Reg.TOP_FRAME_CFG_RUN true
    let b : State := Smoke.up { variant := .bd9616 }
    (State.reset.served = false ∧ s.served = true ∧ r.served = true ∧ b.served = true) ∧
    Mtx.refusal b 8 true 0xA800000 = .absent ∧ Mtx.refusal s 8 true 0xF000000 = .decode ∧
    (let f := s.setFlag Reg.MTX_STAT_IN_SERVICE true
     f.served = true ∧ Mtx.refusal f 8 true 0xA000000 = .nopath) ∧
    (Mtx.refusal r 8 true 0 = .ok ∧ Mtx.target 0 ≠ 15 ∧ s.running = false ∧ r.running = true) ∧
    (Mtx.refusal r 8 true 0x9180000 = .ok ∧ Mtx.target 0x9180000 = 15 ∧ Hst.slot [(0x9180000, 1)] = some 0 ∧ Bale.st r 0 ≤ 1 ∧
      r.saveWarned = false) ∧
    (Hst.slot [(0x9000000, 1)] = none ∧ 1 < Bale.st (Smoke.slot 2 (Smoke.desc [2])) 0) ∧ r.mem.err = [] := by decide +kernel

theorem witness_MatrixSwitches :
    let s := Smoke.up State.reset
    let f := s.setFlag Reg.MTX_STAT_IN_SERVICE true
    let x (s : State) (n : Nat) := s.setFld Reg.MTX_STAT_FAST_STATE n
    State.reset.served = false ∧ s.served = true ∧ f.served = true ∧ Mtx.fallback s = false ∧ Mtx.fallback f = true ∧ (x s 1).fld Reg.MTX_STAT_FAST_STATE ≠ 0 ∧
    ((x s 0).fld Reg.MTX_STAT_FAST_STATE = 0 ∧ Mtx.fallback (x s 0) = false) ∧ ((x f 0).fld Reg.MTX_STAT_FAST_STATE = 0 ∧ Mtx.fallback (x f 0) = true) ∧
    ((x f 1).fld Reg.MTX_STAT_FAST_STATE ≤ 1 ∧ Mtx.fallback (x f 1) = true) ∧ 1 < (x f 2).fld Reg.MTX_STAT_FAST_STATE ∧
    (x f 2).fld Reg.MTX_STAT_FAST_STATE = 2 ∧
    (let t : State := { s with mtx := { req := some true }, phase := .d }
     t.mtx.req = some true ∧ t.mtx.reqLate = false ∧ t.phase = .d ∧ t.mtx.unanswered = [] ∧ Mtx.fallback t ≠ true) ∧
    (let t : State := { f with mtx := { req := some false }, phase := .d }
     t.mtx.req = some false ∧ t.mtx.reqLate = false ∧ t.phase = .d ∧ t.fld Reg.MTX_STAT_FAST_STATE = 0 ∧ t.mtx.unanswered = []) ∧
    (let t : State := { s with mtx := { req := some true, reqLate := true } }
     t.mtx.req ≠ none ∧ t.mtx.reqLate = true) ∧
    s.mtx.req = none ∧ 50 ∈ ({ fc := { pulses := [50] } } : State).fc.pulses ∧ 50 ∉ s.fc.pulses := by decide +kernel

theorem witness_MatrixFaultsAreNoted :
    Fc.ready State.reset 50 ∧ Fc.ready (State.reset.setFlag Reg.MTX_STAT_IN_SERVICE true) 51 ∧ Mtx.watchdog 6 = some 52 ∧
    Fc.ready State.reset 52 ∧ Mtx.watchdog 8 = none := by
  unfold Fc.ready; decide +kernel

/-- A transaction on its way that is served; a request that is held back, refused, not granted, and granted; a BARN master at its limit; a
transaction that is reissued, which its target has applied and not. -/
theorem witness_MatrixTransactionsTakeEffect :
    let s := Smoke.up State.reset
    let r (m : Nat) (w : Bool) (a : Nat) : MtxReq := ⟨m, w, false, [(a, 1)], true⟩
    let x : MtxTx := ⟨r 9 true 0, Mtx.pointOf (r 9 true 0), 3, .flying, []⟩
    (Mtx.sends State.reset (r 8 true 0) = false ∧ Mtx.sends s (r 8 true 0) = true ∧ Mtx.sends s (r 9 true 0) = true ∧ Mtx.sends s (r 0 true 0) = true) ∧
    (x.stage = .flying ∧ x.point = Mtx.pointOf x.req ∧ x.req.cells = [(0, 1)]) ∧ s.mtx.unanswered = [] ∧ s.mtx.queue = [] ∧
    (Mtx.full s (r 8 true 0) = false ∧ Mtx.holds s { r 8 false 0 with room := false } = true) ∧
    (let f : State := { s with stalls := [(0, { stores := List.replicate 4 ⟨true, 0, [0]⟩ })] }
     Mtx.full f (r 0 true 0) = true ∧ f.mtx.queue = []) ∧
    (Mtx.holds s (r 8 true 0xF000000) = false ∧ Mtx.refusal s 8 true 0xF000000 = .decode ∧ s.flag Reg.MTX_ERR_VALID = false ∧
      (s.setFlag Reg.MTX_ERR_VALID true).flag Reg.MTX_ERR_VALID = true) ∧
    (Mtx.holds s (r 8 true 0) = false ∧ Mtx.refusal s 8 true 0 = .ok ∧
      Mtx.granted s (r 8 true 0) 0 0 0 [⟨14, false, 9000⟩, ⟨13, false, 0⟩, ⟨9, true, 0⟩, ⟨14, false, 1⟩, ⟨14, false, 2⟩] = false) ∧
    (Mtx.granted s (r 8 false 0) 0 1 0 [] = true ∧ Mtx.refusal s 8 false 0 = .ok) ∧
    (Mtx.holds s (r 9 true 0) = false ∧ Mtx.refusal s 9 true 0 = .ok ∧ Mtx.granted s (r 9 true 0) 0 1 0 [] = true) ∧
    (Mtx.target 0 ≤ 13 ∧ Mtx.inProg 0 = false) ∧ s.mtx.replay = false ∧ s.mem.err = [] ∧
    (∀ k ∈ [0, 4], let t : State := { s with mtx := { unanswered := [{ x with stage := .dropped }], replay := true,
                                                      applied := Sparse.put [] (Mtx.key 9 x.point) 0 k } }
     t.mtx.replay = true ∧ Mtx.stallRows t = 0 ∧ t.mem.adds = 0 ∧ Mtx.refusal t 9 true 0 = .ok ∧
     Mtx.done t (Mtx.key 9 x.point) x.seq = decide (k = 4)) := by decide +kernel

theorem witness_GroomScrubs :
    let s : State := { mem := { err := [(64, 1)] }, stalls := [(0, { progErr := [(4095, 1), (4096, 2)] }), (1, { status := .running })] }
    let base := 64 / 64 * 64
    (Mem.present s.variant base = true ∧ Mem.inTack base = false ∧
      ∀ w ∈ Mem.wordsOf ((List.range 64).map (base + ·)), Mem.err s w ≤ 1) ∧ Mem.inTack 0x9000000 = true ∧
    0 < s.variant.stalls ∧ (s.stall 0).status ≠ .running ∧ (s.stall 0).status ≠ .atSync ∧ s.bale.arming = none ∧ (s.stall 1).status = .running ∧
    max 1 (Sparse.get (s.stall 0).progErr (4096 * 0 + 4095) 0) ≤ 1 ∧ max 0 (Sparse.get (s.stall 0).progErr (4096 * 1 + 0) 0) = 2 ∧
    Fc.ready s (24 + 0 / 8) := by
  unfold Fc.ready; decide +kernel

theorem witness_FaultsAreCollected :
    let s : State := { fc := { src := [(1, { pair := 2, st := .fault, cls := 3 }), (2, { pair := 0 }), (3, { pair := 3 })] } }
    Fc.ready s 0 ∧ s.flag Reg.FC_FIRST_VALID = false ∧
    (Fc.present s.variant 1 = true ∧ (s.fcSrc 1).pair = 2 ∧ (s.fcSrc 1).st = .fault ∧ Fc.aonLost s = false) ∧
    (∀ n ∈ [2, 3], Fc.present s.variant n = true ∧ ((s.fcSrc n).pair = 0 ∨ (s.fcSrc n).pair = 3) ∧ (s.fcSrc n).st = .idle ∧
      Fc.masked s n = false) := by
  unfold Fc.ready; decide +kernel

/-- A state for each class that acts: MUTE and SAFE. -/
theorem witness_FaultsAreCollected_classes :
    (∃ n ∈ List.range 192, Fc.cls State.reset n = Fc.mute) ∧ (∃ n ∈ List.range 192, Fc.cls State.reset n = Fc.safe) := by decide +kernel

theorem witness_FaultsAreReleased :
    let x : FcSource := { pair := 1, st := .held, cls := Fc.mute }
    let s : State := (({ fc := { src := [(0, x)] } } : State).setFlag (Reg.FC_SRC_AUTO 0) true)
    ((s.fcSrc 0).st = .held ∧ (s.fcSrc 0).cls = Fc.mute ∧ s.flag (Reg.FC_SRC_AUTO 0) = true ∧ (s.fcSrc 0).pair = 1 ∧
      (s.fcSrc 0).latch = false) ∧
    (State.reset.fcSrc 0).st ≠ .held ∧
    (let d := Smoke.desc [0x30, 0, 1]
     let t : State := { Smoke.q d with fc := { src := [(0, x)] } }
     Cmd.head t false = some d ∧ d.op = 0x30 ∧ d.peer = false ∧ d.sent = false ∧ Cmd.mirrors t d = false ∧ d.field 8 1 = 1 ∧
     d.field 10 2 = 0 ∧ Fc.present t.variant 0 = true ∧ (t.fcSrc 0).pair = 1 ∧ (t.fcSrc 0).st = .held ∧ Fc.mute ≤ (t.fcSrc 0).cls ∧
     Fc.aonLost t = false ∧ Fc.aonLost { t with clk := { det := [(4, { lost := true })] } } = true ∧ t.clk.x86.length ≤ 3) ∧
    (∀ w ∈ State.reset.fc.windows, w.src ≠ 0) ∧
    (let t : State := { fc := { windows := [⟨4, 0⟩] ++ ⟨5, 0⟩ :: [] } }
     Fc.aonLost t = false ∧ t.fc.windows = [⟨4, 0⟩] ++ ⟨5, 0⟩ :: [] ∧ ∀ v ∈ [(⟨4, 0⟩ : FcWindow)], v.src ≠ 5) ∧
    State.reset.clk.x84 = {} ∧ 41 ∈ ({ fc := { pulses := [41] } } : State).fc.pulses := by decide +kernel

theorem witness_ClocksFollowTheirDetectors :
    let p (n : Nat) := State.reset.setFld Reg.CLK_STATUS_PLL_STATE n
    (∀ n ∈ [1, 2, 3, 4], (p n).fld Reg.CLK_STATUS_PLL_STATE = n) ∧
    ((p 3).setFlag Reg.CLK_STATUS_REF_OK true).flag Reg.CLK_STATUS_REF_OK = true ∧ (p 3).fld Reg.CLK_STATUS_PLL_STATE ≠ 2 ∧
    (∀ d ∈ [0, 1, 2, 3, 4], 2 * 0 < Clk.nominal d ∧ 9 * Clk.nominal d ≤ 10 * Clk.nominal d) ∧
    ((State.reset.setFlag Reg.CLK_GATE_SNS_EN true).variant.snsIn ≠ 0 ∧
      (State.reset.setFlag Reg.CLK_GATE_SNS_EN true).flag Reg.CLK_GATE_SNS_EN = true) ∧ State.reset.flag Reg.CLK_GATE_SNS_EN = false ∧
    (∃ n ∈ List.range 1000, ¬ 2 * n < Clk.nominal 4 ∧ ¬ 9 * Clk.nominal 4 ≤ 10 * n) ∧ Fc.aonLost State.reset = false ∧
    Fc.aonLost { clk := { det := [(4, { lost := true })] } } = true := by
  decide +kernel

theorem witness_PowerIsWatchedAndSaved :
    6 ≤ 6 ∧ (-128 : Int) ≤ 127 ∧ (127 : Int) < 128 ∧
    (let s : State := Smoke.up { pwr := { seen := 0xFF } }
     Power.watches s = true ∧ Power.watches { pwr := { porst := true } } = false ∧ Pll.running s = true ∧
     s.pwr.seen.testBit 6 = true ∧ s.flag Reg.PWR_STAT_HOLD_OK ≠ true ∧ s.flag Reg.PWR_STAT_TWARN_ON = false ∧ s.pwr.seen.testBit 7 = true) ∧
    (State.reset.flag Reg.PWR_STAT_ARMED = false ∧
     (let s := Smoke.set [(Reg.PWR_STAT_ARMED, 1)]
      s.flag Reg.PWR_STAT_ARMED = true ∧ s.saveWarned = false ∧ s.variant.drvCh ≠ 0 ∧ Pll.running (Smoke.up s) = true)) ∧
    State.reset.pwr.saving = none ∧ (Save.image State.reset).bytes.length ≤ 0xFFF0 := by decide +kernel

/-- The boot of a held image reads a slot that is LIVE. -/
def Smoke.live : State :=
  Smoke.up { Smoke.set [(Reg.TOP_BALE_SLOT_STATE 0, 5)] { mem := { bytes := Smoke.bale } } with pwr := { sel := 0, stage := 1 } }

theorem test_live_bale_verifies : Bale.verifyCheck Smoke.live (Bale.rd Smoke.live 0) = 0 := by
  have h : Bale.loadCheck (Bale.rd Smoke.live 0) = 0 := test_bale_loads
  unfold Bale.verifyCheck; rw [h]; decide +kernel

theorem witness_ResetsAndBootFollowTheirTables :
    let p (x : PwrState) : State := { pwr := x }
    (∀ s ∈ [p {}, p { porst := true }, p { por := true }, p { por := true, porst := true }, p { warm := true }, Smoke.up (p {})],
      s.wf = true) ∧
    ((p {}).pwr.porst = false ∧ (p {}).pwr.por = false) ∧ ((p { porst := true }).pwr.porst = true ∧ (p { porst := true }).pwr.por = false) ∧
    ((p { por := true }).pwr.por = true ∧ (p { por := true }).pwr.porst = false) ∧
    ((p { por := true, porst := true }).pwr.porst = !false ∧ (p { por := true, porst := true }).pwr.por = true) ∧
    ((Smoke.set [(Reg.PWR_STAT_SAVE_WARN, 1)]).wf = true ∧ (Smoke.set [(Reg.PWR_STAT_SAVE_WARN, 1)]).saveWarned = true ∧
      (Smoke.set [(Reg.PWR_STAT_SAVE_WARN, 1)]).pwr.saving = none ∧ (p {}).saveWarned = false) ∧
    ((p { warm := true }).pwr.por = false ∧ (p { warm := true }).pwr.porst = false ∧ (p { warm := true }).pwr.warm = true) ∧
    ((p {}).pwr.por || (p {}).pwr.porst || (p {}).pwr.warm) = false ∧ (p {}).clk.x84 = {} ∧ 5 < (p {}).variant.barns ∧
    (p {}).served = false ∧ (Smoke.up (p {})).served = true ∧
    (∀ sel ∈ [0, 2], let s : State := Smoke.up (p { sel := sel })
      s.wf = true ∧ s.pwr.stage ≠ 2 ∧ 2 ≤ s.fld Reg.CLK_STATUS_PLL_STATE ∧ s.saveWarned = false ∧ s.pwr.sel = sel ∧ Bale.st s 0 ≠ 5 ∧
      Bale.st s 1 ≠ 5 ∧ s.pwr.stage = 0 ∧ Sparse.get s.clk.odd 86 0 = 0) ∧
    (p {}).fld Reg.CLK_STATUS_PLL_STATE < 2 ∧
    (Smoke.live.wf = true ∧ Smoke.live.pwr.sel = 0 ∧ Smoke.live.pwr.stage = 1 ∧ Boot.liveSlot Smoke.live = some 0 ∧ Smoke.live.mem.err = [] ∧
      2 ≤ Smoke.live.fld Reg.CLK_STATUS_PLL_STATE ∧ Smoke.live.saveWarned = false ∧
      (Smoke.live.pwr.por || Smoke.live.pwr.porst || Smoke.live.pwr.warm) = false) := by decide +kernel

/-- A domain slot that follows port 0 and domain 0, peer to peer where `p` is 1, in state `d`, with the record `x`; port 0 has link. -/
def Smoke.dom (p d : Nat) (x : TkpSlot) : State :=
  Smoke.set [(Reg.TKP_DOM_EN 0, 1), (Reg.TKP_DOM_PORT 0, 0), (Reg.TKP_DOM_DNUM 0, 0), (Reg.TKP_DOM_PROFILE 0, p), (Reg.TKP_DOM_DSTATE 0, d),
    (Reg.NSW_PORT_EN 0, 1), (Reg.NSW_PORT_LINK 0, 1)] { tkp := { slot0 := x } }

theorem witness_TimekeeperFollowsItsDomains :
    let s := State.reset
    let m : ForeignMaster := ⟨[1], 7, 8, 1, 0, none⟩
    let i : PtpIn := ⟨0, 0, .udp4, 2, 0⟩
    let f : EgFrame := ⟨7, 2, 0, none, none, .supervision⟩
    (s.served = false ∧ (Smoke.up s).served = true ∧ Pll.running (Smoke.up s) = true) ∧
    (Smoke.set [(Reg.TKP_STAT_STATE, 2)]).tkpState ≠ 0 ∧ s.tkpState = 0 ∧ ({ tkp := { tsq := [(1, 2)] } } : State).tkp.tsq ≠ [] ∧
    (let t := Smoke.set [(Reg.TKP_STAT_STATE, 2), (Reg.TKP_CTL_AUTO, 0)] (Smoke.dom 0 3 {})
     Tkp.valid t 0 = true ∧ t.tkpState = 2 ∧ t.fld Reg.TKP_STAT_SEL_LIVE = 0 ∧ t.flag Reg.TKP_CTL_AUTO = false ∧ Tkp.valid s 1 = false) ∧
    (let t := Smoke.up (Smoke.set [(Reg.TKP_STAT_STATE, 1)] (Smoke.dom 0 3 {}))
     t.served = true ∧ t.tkpState = 1 ∧ Tkp.valid t 0 = true) ∧
    (let t := Smoke.set [(Reg.TKP_STAT_STATE, 1), (Reg.TKP_CFG_FREE_S, 10)]
     t.tkpState = 1 ∧ t.fld Reg.TKP_CFG_FREE_S ≠ 0 ∧ Tkp.valid t (t.fld Reg.TKP_STAT_SEL_LIVE) = false) ∧
    (let t := Smoke.dom 1 3 {}
     t.flag (Reg.TKP_DOM_EN 0) = true ∧ Nsw.live t (t.fld (Reg.TKP_DOM_PORT 0)) = true ∧ Tkp.p2p t 0 = true ∧
     (Nsw.port t 0).now = none ∧ (Nsw.port t 0).queued = [] ∧ ¬ (64 < t.tkp.tsq.length) ∧ s.flag (Reg.TKP_DOM_EN 0) = false ∧
     (let u : State := { t with nsw := { t.nsw with ports := [(0, { now := some f })] } }
      (Nsw.port u 0).now ≠ none ∧ 2 ≤ Egress.freeOwn u 0 7 ∧ Nsw.live u 0 = true)) ∧
    Tkp.slotsFor s i = [] ∧
    (let t := Smoke.dom 0 1 { masters := [{ m with last := 0 }] }
     Tkp.slotsFor t i = [0] ∧ (Tkp.slot (Smoke.dom 0 1 {}) 0).masters = [] ∧ (Tkp.slot t 0).masters = [m] ∧ m.source = m.source ∧
     Tkp.nsOf 0 - m.last ≤ 4 * Tkp.interval 0 ∧ t.fld (Reg.TKP_DOM_DSTATE 0) = 1 ∧ Tkp.accepts t 0 7 = false) ∧
    (let t := Smoke.dom 0 2 { chosen := some 7, pending := some ⟨3, 0, 0⟩, req := some { seq := 4, t3 := some 0 }, last := some (5, 6) }
     Tkp.slotsFor t i = [0] ∧ Tkp.accepts t 0 7 = true ∧ (-8 : Int) < -7 ∧ (-7 : Int) ≤ -7 ∧ (-7 : Int) ≤ 1 ∧ t.tkpState ≠ 1 ∧ t.tkpState ≠ 4 ∧
     (Tkp.slot t 0).pending = some ⟨3, 0, 0⟩ ∧ (Tkp.slot t 0).req = some { seq := 4, t3 := some 0 } ∧ (Tkp.slot t 0).last = some (5, 6) ∧
     Tkp.p2p t 0 = false) ∧
    (let t := Smoke.dom 1 2 { req := some { seq := 4, t3 := some 0, resp := some (1, 2) } }
     Tkp.slotsFor t i = [0] ∧ Tkp.p2p t 0 = true ∧ (Nsw.port t 0).now = none ∧
     (Tkp.slot t 0).req = some { seq := 4, t3 := some 0, resp := some (1, 2) }) := by
  decide +kernel

/-- Frames run in the format of 96 kHz with N = 16 in phase `p`; the bale of slot 0 is live. -/
def Smoke.framed (p : Phase) : State :=
  Smoke.set [(Reg.TOP_FRAME_CFG_RUN, 1), (Reg.TOP_FRAME_CFG_FS, 2), (Reg.TOP_FRAME_CFG_NLOG, 4), (Reg.TKP_STAT_STATE, 2),
    (Reg.TOP_BALE_LIVE_VALID, 1)] { phase := p, stalls := [(47, { code := true, status := .running })] }

theorem witness_FramesFollowTheirStages :
    let s := State.reset
    let f := Smoke.framed .none
    (∀ p ∈ [Phase.s, .c, .d], (Smoke.framed p).running = true ∧ (Smoke.framed p).phase = p ∧ s.running = false) ∧
    (Frame.may s 0 = false ∧ Frame.may f 1 = true ∧ f.tkp.restep = false ∧
      (let r : State := { f with tkp := { restep := true } }
       Frame.may r 1 = true ∧ r.tkp.restep = true ∧ r.running = true)) ∧
    (s.tkpState < 2 ∧
      (let t := Smoke.set [(Reg.TKP_STAT_STATE, 2)]
       2 ≤ t.tkpState ∧ t.flag Reg.TOP_BALE_LIVE_VALID = false ∧ t.tkp.restep = false ∧ t.bale.taken = none) ∧
      (let t := Smoke.set [(Reg.TKP_STAT_STATE, 2)] { Smoke.slot 4 (Smoke.desc [4]) with bale := { taken := some 0 } }
       2 ≤ t.tkpState ∧ t.flag Reg.TOP_BALE_LIVE_VALID = false ∧ t.bale.taken = some 0 ∧
       Frame.may t (5 * Swap.rate t 0 / (3000 * Swap.n t 0)) = true)) ∧
    (let c := Smoke.framed .c
     c.mem.cutDone = false ∧ Twn.feeds c = false ∧
     (let t := Smoke.set [(Reg.TWN_ST_ROLE, 1), (Reg.TWN_ST_LINK, 2)] { c with twn := { resync := some ⟨none, true, false, 0⟩ } }
      let u : State := { t with stalls := [], mem := { t.mem with cutDone := true } }
      (t.running = true ∧ t.phase = .c ∧ t.mem.cutDone = false ∧ Twn.feeds t = true ∧ t.mem.err = []) ∧
      u.running = true ∧ u.phase = .c ∧ Stl.overrunning u = [] ∧ u.cmd.run = [] ∧ u.bale.taken = none ∧ Twn.feeds u = true ∧
      u.mem.cutDone = true ∧ u.twn.mirFrame = u.frameNo ∧ Tth.heldBlocks u < 64)) ∧
    (let c := Smoke.framed .c
     47 < c.variant.stalls ∧ (c.stall 47).code = true ∧ (c.stall 47).status ≠ .waitf ∧ (c.stall 47).status ≠ .exception ∧
     ∃ n ∈ List.range 6, Fc.cls c (12 + n) ≠ Fc.reset) ∧
    (let d := Smoke.framed .d
     d.bale.taken = none ∧ d.mem.err = [] ∧ d.graph.inDone = false ∧ ({ graph := { inDone := true } } : State).graph.inDone = true) ∧
    s.cmd.taken = none ∧ (let x : Snapshot := { k := 1, regs := [], pages := [(64 * 47, [1])] }
     ({ cmd := { taken := some x } } : State).cmd.taken = some x ∧ ({ cmd := { taken := some x } } : State).mem.err = []) ∧
    s.served = false ∧ (Smoke.up s).served = true ∧ (Smoke.up (Smoke.set [(Reg.NSW_CTL_STRM_EN, 1)])).served = true ∧
    (Smoke.set [(Reg.NSW_CTL_STRM_EN, 1)]).flag Reg.NSW_CTL_STRM_EN = true ∧ s.flag Reg.NSW_CTL_STRM_EN = false := by
  decide +kernel

/-- The image in slot 1 declares stall parameter page 0 with KEEP, and slot 0 is live; `b` is the first byte of the page. -/
def Smoke.pages (b : Sparse Byte) (x : BaleState) : State :=
  Smoke.set [(Reg.TOP_BALE_LIVE_VALID, 1)]
    { mem := { bytes := [(0x94C0006, 1), (0x94C0040, 6), (0x94C0045, 1), (0x94C0048, 16), (0x94C0101, 1)] }
      bale := { x with pages := [0], pageLive := b, pageShad := b } }

theorem Smoke.pages_beyond (v : Variant) (l : List Nat) (n : Nat) (h : 256 ≤ n) (k : n ∉ l) : n ∉ Page.registers v ++ l := by
  intro m
  rcases List.mem_append.1 m with m | m
  · exact absurd (List.mem_range.1 (List.mem_filter.1 m).1) (by omega)
  · exact k m

theorem witness_ConfigurationIsSavedAndPublished :
    let s := Smoke.pages [(0, 1)] {}
    let z := Smoke.pages [] {}
    let w := Smoke.pages [(0, 1)] { mark := some 1 }
    (Bale.liveRd s).isSome = true ∧ (Smoke.set [(Reg.PWR_STAT_SAVE_WARN, 1)] s).saveWarned = true ∧ 3000 ∉ Page.all s ∧
    (∀ r, Bale.liveRd z = some r → Save.holds z (Save.root z) (Page.boot z r 256) 256 (Page.shadow z 256) true = true) ∧
    s.saveWarned = false ∧ 256 ∈ Page.all s ∧ s.pwr.area.length < 311 ∧
    (∀ r, Bale.liveRd s = some r → Save.holds s (Save.root s) (Page.boot s r 256) 256 (Page.shadow s 256) true = false) ∧
    s.bale.mark = none ∧ w.bale.mark = some 1 ∧ w.saveWarned = false ∧ 3000 ∉ Swap.backlog w 1 ∧ 256 ∈ Swap.backlog w 1 := by
  have hs (b : Sparse Byte) (h : Bale.live (Smoke.pages b {}) = some 0) :
      Bale.liveRd (Smoke.pages b {}) = some (Bale.rd (Smoke.pages b {}) 0) := by unfold Bale.liveRd; rw [h]; rfl
  have h0 := hs [] (by decide +kernel)
  have h1 := hs [(0, 1)] (by decide +kernel)
  refine ⟨by rw [h1]; rfl, by decide +kernel, Smoke.pages_beyond _ _ _ (by decide) (by decide +kernel), ?_, by decide +kernel,
    List.mem_append.2 (.inr (by decide +kernel)), by decide +kernel, ?_, rfl, rfl, by decide +kernel, ?_,
    List.mem_filter.2 ⟨List.mem_append.2 (.inr (by decide +kernel)), by decide +kernel⟩⟩
  · intro r h
    obtain rfl := Option.some.inj (h0.symm.trans h)
    decide +kernel
  · intro r h
    obtain rfl := Option.some.inj (h1.symm.trans h)
    decide +kernel
  · intro h
    exact Smoke.pages_beyond _ _ _ (by decide) (by decide +kernel) (List.mem_filter.1 h).1

theorem witness_ConfigurationIsSavedAndPublished_records :
    let s : State := { rcd := { built := true, onchg := true, own := [(1, 2)], peer := [(0, 1, 2, 0)] } }
    let d : State := { s with rcd := { s.rcd with peer := [(0, 1, 3, 0)] } }
    (s.rcd.built = true ∧ s.flag Reg.TOP_RCD_FLAGS_STALE = false ∧ State.reset.rcd.built = false) ∧
    (State.reset.role = 0 ∧ Rcd.common s = some (2, 2) ∧ (Smoke.set [(Reg.TWN_ST_ROLE, 2)] s).role ≠ 0 ∧ Rcd.common d = some (2, 3) ∧
      (Smoke.set [(Reg.TWN_ST_ROLE, 2), (Reg.TOP_FRAME_CFG_RUN, 1)] d).running = true) ∧
    ((Smoke.set [(Reg.TOP_ANN_CTL_PERIOD, 1), (Reg.NSW_SRC_IPV4, 1)] s).fld Reg.TOP_ANN_CTL_PERIOD ≠ 0 ∧
      (Smoke.set [(Reg.NSW_SRC_IPV4, 1)] s).fld Reg.NSW_SRC_IPV4 ≠ 0 ∧
      (Smoke.set [(Reg.TOP_ANN_CTL_ONCHG, 1), (Reg.NSW_SRC_IPV4, 1)] s).flag Reg.TOP_ANN_CTL_ONCHG = true ∧
      State.reset.fld Reg.NSW_SRC_IPV4 = 0 ∧ State.reset.rcd.onchg = false) := by decide +kernel

/-- Port 0 of the network is up, and stream 0 takes one-channel L24 packets for UDP port 5004 of a group. -/
def Smoke.net (l : List (Fld × Nat)) (x : NswState) : State :=
  Smoke.set ([(Reg.NSW_PORT_EN 0, 1), (Reg.NSW_PORT_LINK 0, 1), (Reg.NSW_SI_EN 0, 1), (Reg.NSW_SI_FMT 0, 1), (Reg.NSW_SI_NCH 0, 1),
    (Reg.NSW_SI_ADDR0 0, 0xE0000001), (Reg.NSW_SI_UDP_PORT 0, 5004), (Reg.NSW_SI_PT 0, 96), (Reg.NSW_SI_SRC_IP 0, 0)] ++ l) { nsw := x }
def Smoke.l24 : AudioPkt := { Smoke.pkt with dst := 0xE0000001, pt := 96, stamp := 0, seq := 9, payload := [1, 2, 3] }
def Smoke.plain (b : NetBody) : NetFrame := { Smoke.frame with tags := 0, vid := 0, body := b }

theorem witness_NetworkFramesAreSwitched :
    let s := Smoke.net [] {}
    (State.reset.variant.ports ≤ 4 ∧ Nsw.live State.reset 0 = false ∧ Nsw.live s 0 = true ∧ Nsw.inReset s 0 = false ∧
      Nsw.inReset { pwr := { warm := true } } 0 = true ∧ Pll.running (Smoke.up s) = true) ∧
    (Smoke.frame.fcsOk = true ∧ Smoke.frame.len ≤ 1522 ∧ Nsw.mode s 0 = 0 ∧ (Smoke.plain .ptp).tags ≤ 1 ∧ 1 < { Smoke.frame with tags := 2 }.tags ∧
      { Smoke.frame with fcsOk := false }.fcsOk ≠ true ∧
      (Smoke.plain (.arp 5)).body = .arp 5 ∧ s.fld Reg.NSW_SRC_IPV4 = 0 ∧ (Smoke.plain .other).body = .other) ∧
    ((Nsw.findStream s Smoke.l24 none).isSome = true ∧ Nsw.findStream s { Smoke.l24 with pt := 97 } none = none) ∧
    (let d := Smoke.net [(Reg.NSW_RED_MODE 0, 1), (Reg.NSW_RED_NODES 0, 511)] { dup := [(0, 1, 65535)] }
     Nsw.mode d 0 = 1 ∧ d.nsw.dup.contains (0, 1, 65535) = true ∧ d.nsw.dup.contains (0, 2, 65535) = false ∧
     d.fld (Reg.NSW_RED_NODES 0) < 512 ∧ d.nsw.dup.contains (0, 2, 0) = false ∧ 2 * 0 < d.variant.ports ∧ Nsw.live d 0 = true ∧
     Nsw.mode s 0 = 0 ∧ (true ≠ (0 % 2 == 1)) ∧ (∀ p, p < 2 → p / 2 = 0 ∧ (Nsw.port d p).queued = [])) ∧
    (let h := Smoke.net [(Reg.NSW_RED_MODE 0, 2), (Reg.NSW_RED_MODE 1, 2)] {}
     Nsw.mode h 0 = 2 ∧ h.nsw.dup.contains (0, 1, 9) = false ∧ 1 ≠ Nsw.mac h ∧ 2 ≠ Nsw.mac h ∧ Egress.held h (2 * 0 + (1 - 0 % 2)) = []) ∧
    s.nsw.engine = [] ∧
    (let e := Smoke.net [(Reg.TOP_FRAME_CFG_RUN, 1), (Reg.TOP_FRAME_CFG_FS, 1), (Reg.NSW_CTL_STRM_EN, 1)]
       { engine := [(Smoke.l24, none, 0)], si := [(0, { seq := some 7 })] }
     Nsw.findStream e Smoke.l24 none = some 0 ∧ Nsw.malformed e 0 Smoke.l24 = false ∧ Nsw.malformed e 0 { Smoke.l24 with payload := [1] } = true ∧
     (Nsw.rec e 0).seq = some 7 ∧ (7 + 1) % 65536 ≠ Smoke.l24.seq ∧ e.mem.err = [] ∧ Nsw.placing e = true ∧
     0 < Smoke.l24.payload.length / (Nsw.siN e 0 * Nsw.bytes (e.fld (Reg.NSW_SI_FMT 0))) ∧ Nsw.isLate e (Nsw.firstCount e 0 Smoke.l24 0) 0 = false ∧
     Nsw.isEarly e (Nsw.firstCount e 0 Smoke.l24 0) 0 = false ∧ 0 ∈ Nsw.own e 0 ∧ e.fld (Reg.NSW_SI_FIRST 0) + 0 < Nsw.served e) ∧
    ((Nsw.port s 0).now = none ∧
     (let f : EgFrame := { queue := 7, own := 1, pool := 0, red := none, head := none, body := .supervision }
      let e : EgFrame := { f with body := .ptp 0 1 0 0 none }
      let n := Smoke.net [] { ports := [(0, { now := some f, queued := [e] })] }
      (Nsw.port n 0).now = some f ∧ n.flag (Reg.NSW_PORT_EN 0) = true ∧ n.flag (Reg.NSW_PORT_LINK 0) = true ∧
      Egress.next (Nsw.port n 0).queued = some (e, []) ∧ n.tkp.tsq.length < 64)) ∧
    (s.fld Reg.NSW_SRC_IPV4 = 0 ∧ (let a := Smoke.net [(Reg.NSW_SRC_IPV4, 5)] {}
      a.fld Reg.NSW_SRC_IPV4 ≠ 0 ∧ (Nsw.groupsJoined a).filter (fun y => (none : Option Nat).getD y = y) = [0xE0000001])) ∧
    (let p : TxPkt := { stream := 0, count := 0, fmt := 1, spp := 1, nch := 1, first := 0, ports := 1, words := [], rows := [[0]] }
     let t := Smoke.net [(Reg.TOP_FRAME_CFG_RUN, 1), (Reg.NSW_CTL_STRM_EN, 1)] { tx := [p] }
     let a : TxPkt := { p with stream := 1 }
     let first (l : List TxPkt) (p : TxPkt) := l.filter fun x => !x.short && TxPkt.before x p
     first [p] p = [p] ∧ first [p, a] a = [p, a] ∧ TxPkt.before a p = false ∧
     ([p, a].find? fun p => p.stream = 1 ∧ !p.short) = some a ∧ 0 < 128 ∧
     (t.nsw.tx.find? fun p => p.stream = 0 ∧ !p.short) = some p ∧ (s.nsw.tx.find? fun p => p.stream = 0 ∧ !p.short) = none ∧ s.running = false ∧
     t.running = true ∧ t.flag Reg.NSW_CTL_STRM_EN = true ∧ (TxPkt.frame t p).2 ≤ 2048) := by
  dsimp only; and_intros <;> decide +kernel

theorem witness_PortsReceiveAndTransmit :
    let m : AesSub := { Smoke.sub with pre := 3 }
    let w : AesSub := { Smoke.sub with pre := 2 }
    let r := Smoke.set [(Reg.TOP_FRAME_CFG_RUN, 1), (Reg.TOP_FRAME_CFG_FS, 1), (Reg.SAP_CFG_EN 15, 1), (Reg.SAP_CFG_DIR 15, 0),
      (Reg.SAP_CFG_SLAVE 15, 1), (Reg.SAP_ST_CLK_OK 15, 1)] {}
    let b : State := { r with sap := { ports := [(15, { bad := 1 })] } }
    let t := Smoke.set [(Reg.TOP_FRAME_CFG_RUN, 1), (Reg.TOP_FRAME_CFG_FS, 1), (Reg.SAP_CFG_EN 15, 1), (Reg.SAP_CFG_DIR 15, 1),
      (Reg.SAP_CFG_SLAVE 15, 0), (Reg.SAP_ST_CLK_OK 15, 1), (Reg.SAP_ST_STATE 15, 3)] {}
    (Pll.running (Smoke.up r) = true ∧ Sap.on State.reset 15 false = false ∧ Sap.on r 15 false = true ∧ r.flag (Reg.SAP_CFG_SLAVE 15) = true ∧
      0 ≠ Sap.slots r 15 * Sap.sw r 15 ∧ (Port.rec r 15).bad = 0 ∧ (Port.rec b 15).bad ≠ 0 ∧ Sap.on b 15 false = true) ∧
    (r.flag (Reg.SAP_ST_CLK_OK 15) = true ∧ r.rate ≠ 0 ∧ r.mem.err = [] ∧ Port.placing r = true) ∧
    (Sap.on State.reset 15 true = false ∧ Sap.on t 15 true = true ∧ t.rate ≠ 0 ∧ t.flag (Reg.SAP_CFG_SLAVE 15) = false ∧
      t.flag Reg.FC_STAT_MUTE = false ∧ (Port.rec t 15).mute = 0 ∧ t.flag (Reg.SAP_ST_CLK_OK 15) = true ∧ t.running = true ∧
      t.fld (Reg.SAP_ST_STATE 15) = 3) ∧
    (15 < r.variant.saps ∧ r.flag (Reg.SAP_CFG_EN 15) = true ∧ (Smoke.set [(Reg.SAP_ST_CLK_OK 15, 0)] r).flag (Reg.SAP_ST_CLK_OK 15) = false ∧
      (Port.rec (Smoke.set [(Reg.SAP_ST_CLK_OK 15, 0)] r) 15).bad = 0) ∧
    (Variant.aess .bd9616 ≤ 7 ∧ 7 < Variant.aess .bd9648 ∧
      ∀ n ∈ [0, 1, 2], (let a := Smoke.set [(Reg.AES_CFG_RX_EN 7, 1), (Reg.AES_ST_LOCK 7, n)]
        a.flag (Reg.AES_CFG_RX_EN 7) = true ∧ a.fld (Reg.AES_ST_LOCK 7) = n)) ∧
    (Aes.good m w = true ∧ Aes.good m m = false ∧ m.pre = 3 ∧ (Aes.rec State.reset 7).seek ≠ some 191 ∧
      (Aes.rec { sap := { aes := [(7, { seek := some 191 })] } } 7).seek = some 191) ∧
    (let x := Smoke.set [(Reg.AES_CFG_TX_EN 7, 1), (Reg.TOP_FRAME_CFG_RUN, 1), (Reg.TOP_FRAME_CFG_FS, 1), (Reg.AES_ST_TXSTATE 7, 3)]
     State.reset.flag (Reg.AES_CFG_TX_EN 7) = false ∧ x.flag (Reg.AES_CFG_TX_EN 7) = true ∧ x.rate ≠ 0 ∧
     x.flag (Reg.AES_CFG_TX_SLAVE 7) = false ∧ x.flag (Reg.AES_CFG_ROLE_GATE 7) = false ∧ x.running = true ∧ x.flag Reg.FC_STAT_MUTE = false ∧
     (Port.rec x (24 + 7)).mute = 0 ∧ x.fld (Reg.AES_ST_TXSTATE 7) = 3) := by decide +kernel

/-- The drive stage runs, its channel 63 in state `st` with the record `x`. -/
def Smoke.drive (st : Nat) (x : DrvChan) (l : List (Fld × Nat)) : State :=
  Smoke.set ([(Reg.CLK_GATE_MOD_EN, 1), (Reg.DRV_CTL_EN, 1), (Reg.DRV_ST_RUN, 1), (Reg.TKP_STAT_STATE, 2), (Reg.TOP_FRAME_CFG_RUN, 1),
    (Reg.DRV_CH_EN 63, 1), (Reg.DRV_CHST_STATE 63, st)] ++ l) { drv := { chans := [(63, x)] } }

theorem witness_DriveAndSenseFollowTheirChannels_drive :
    let s := Smoke.drive 2 { gm := 1, cause := 5, m := 1, len := 1 } [(Reg.DRV_CH_FFEN 63, 0), (Reg.DRV_CH_SAGEN 63, 0), (Reg.DRV_CH_MUTE 63, 0)]
    let o := Smoke.drive 0 {} []
    (o.served = false ∧ (Smoke.up o).served = true ∧ (Smoke.up s).served = true ∧ Drv.active (Smoke.up s) 63 = true ∧
      (∀ n, n < 64 → Drv.active (Smoke.up o) n = false) ∧ Drv.st (Smoke.up (Smoke.drive 5 {} [])) 63 = 5) ∧
    (63 < s.variant.drvCh ∧ Variant.drvCh .bd9616 = 0 ∧ s.flag Reg.CLK_GATE_MOD_EN = true ∧ 2 ≤ s.tkpState ∧ s.drv.dead = false) ∧
    (Drv.active s 63 = true ∧ ∀ n, n < 64 → Drv.active o n = false) ∧
    (let r := Smoke.drive 2 {} [(Reg.DRV_CHST_REQ 63, 1)]
     r.flag (Reg.DRV_CHST_REQ 63) = true ∧ Drv.active r 63 = true ∧ r.role = 0 ∧ s.flag (Reg.DRV_CHST_REQ 63) = false) ∧
    (Drv.st (Smoke.drive 4 {} []) 63 = 4 ∧ Drv.st (Smoke.drive 5 {} []) 63 = 5 ∧ Drv.st s 63 ≠ 4) ∧
    (Drv.senseBad o 63 = false ∧ Drv.senseBad (Smoke.drive 2 {} [(Reg.DRV_CH_PROT 63, 1)]) 63 = true) ∧
    (Drv.wanted s = true ∧ s.drv.save = none ∧ s.flag Reg.FC_STAT_MUTE = false ∧ s.twn.drop = none ∧
      ∀ n, n < 64 → s.flag (Reg.DRV_CHST_SLOST n) = false) ∧
    (Drv.st o 63 = 0 ∧ Drv.mayRun o 63 = true ∧ o.flag (Reg.DRV_CHST_REQ 63) = false) ∧
    (Drv.st s 63 = 2 ∧ Drv.mayRun s 63 = true ∧ s.flag (Reg.DRV_CH_FFEN 63) = false ∧ s.flag (Reg.DRV_CH_SAGEN 63) = false ∧
      (Drv.chan s 63).cause = 5 ∧ (Drv.chan s 63).len ≤ (Drv.chan s 63).m ∧ s.flag (Reg.DRV_CH_MUTE 63) = false) := by decide +kernel

theorem witness_DriveAndSenseFollowTheirChannels_sense :
    let s := Smoke.set [(Reg.CLK_GATE_SNS_EN, 1), (Reg.SFB_CTL_EN, 1), (Reg.SFB_ST_RUN, 1), (Reg.SFB_CH_EN 127, 1), (Reg.SFB_CHST_STATE 127, 1),
      (Reg.TOP_FRAME_CFG_RUN, 1), (Reg.TOP_FRAME_CFG_FS, 1)] { sfb := { flows := [(127, 1)], chans := [(127, { on := true, src := 127 })] } }
    (State.reset.served = false ∧ (Smoke.up s).served = true ∧ 0 < s.variant.snsIn ∧ Variant.snsIn .bd9616 = 0 ∧ s.flag Reg.SFB_ST_RUN = true ∧ (false && s.flag Reg.CLK_GATE_SNS_EN) = false ∧
      s.flag (Reg.SFB_CH_EN 127) = true ∧ State.reset.flag Reg.SFB_ST_RUN = false ∧ (true && s.flag Reg.CLK_GATE_SNS_EN) = true) ∧
    (127 < s.variant.snsIn ∧ Sfb.flows s 127 = true ∧ Sfb.flows s 126 = false ∧ 127 ∈ Sfb.readers s 127) ∧
    (s.running = true ∧ s.flag Reg.SFB_SBUF_CLASH = false ∧ s.rate ≠ 0 ∧ s.mem.err = [] ∧ State.reset.running = false ∧
      (Smoke.set [(Reg.SFB_CHST_STATE 0, 3)] s).fld (Reg.SFB_CHST_STATE 0) = 3) ∧
    (s.fld (Reg.SFB_CHST_STATE 127) = 1 ∧ Sfb.flows s (Sfb.chan s 127).src = true ∧ (List.replicate 8 true).length = 8 ∧
      (List.replicate 64 true).length = 64) := by decide +kernel

/-- What a peer with the capabilities of this device says of itself. -/
def Smoke.peer (role : Nat) : Hello :=
  { cap := Variant.cap .bd9648, baleRoot := 0, root := 0, gen := 0, k := 0, role := role, own := false, elig := true, senior := false
    haysync := false, cold := false }

/-- The twin unit is enabled, all lanes are locked, the link is in state `link`. -/
def Smoke.twin (link : Nat) (l : List (Fld × Nat)) (x : TwnState) : State :=
  Smoke.set ([(Reg.TWN_CTL_EN, 1), (Reg.TWN_ST_LINK, link)] ++ l) { twn := { x with lanes := 255 } }

theorem witness_OwnershipAndTheLinkFollowTheirRules :
    let s := Smoke.twin 2 [] { wasUp := true }
    let d := Smoke.twin 0 [] {}
    (Variant.tether .bd9616 = false ∧ s.variant.tether = true ∧ s.flag Reg.TWN_ST_OWN = false ∧ Sparse.get s.clk.odd 11 0 = 0 ∧
      ¬ Sparse.get ({ s with clk := { odd := [(11, 1)] } } : State).clk.odd 11 0 = 0) ∧
    (s.served = false ∧ (Smoke.up s).served = true ∧ Pll.running (Smoke.up s) = true ∧ Twn.clocked (Smoke.up (Smoke.twin 2 [(Reg.CLK_GATE_MOD_EN, 1)] {})) = true ∧
      ∀ l ∈ [[], [(Reg.TWN_ST_OWN, 1)], [(Reg.TWN_ST_OWN, 1), (Reg.DRV_ST_RUN, 1)], [(Reg.TWN_CTL_EN, 0)]],
        (Smoke.up (Smoke.twin 2 l {})).served = true ∧ (Smoke.up (Smoke.twin 2 l {})).variant.tether = true ∧
        (Smoke.up (Smoke.twin 2 l {})).twn.drop = none) ∧
    ((Smoke.twin 2 [(Reg.TWN_CTL_EN, 0)] {}).flag Reg.TWN_CTL_EN = false ∧ Fc.cls (Smoke.twin 2 [(Reg.TWN_CTL_EN, 0)] {}) 70 ≠ Fc.reset) ∧
    ((Smoke.twin 2 [(Reg.TWN_ST_OWN, 1), (Reg.DRV_ST_RUN, 1)] {}).flag Reg.TWN_ST_OWN = true ∧
      (Smoke.twin 2 [(Reg.TWN_ST_OWN, 1), (Reg.DRV_ST_RUN, 1)] {}).flag Reg.DRV_ST_RUN = true ∧ s.flag Reg.DRV_ST_RUN = false ∧
      s.twn.drop = none) ∧
    (let c := Smoke.desc [0x40]
     let q := Smoke.set [(Reg.TWN_ST_OWN, 1), (Reg.TWN_ST_PEER_ELIG, 1), (Reg.DRV_ST_RUN, 1)] (Smoke.q c)
     Cmd.head q (Cmd.isLong 0x40) = some c ∧ c.op = 0x40 ∧ c.peer = false ∧ c.sent = false ∧ Cmd.mirrors q c = false ∧
     Cmd.mirrored 0x40 = false ∧ q.flag Reg.TWN_ST_OWN = true ∧ q.flag Reg.TWN_ST_PEER_ELIG = true ∧ q.flag Reg.DRV_ST_RUN = true) ∧
    (let a := Smoke.twin 2 [(Reg.TWN_CTL_OWN_EN, 1), (Reg.TOP_FRAME_CFG_RUN, 1), (Reg.DRV_ST_RUN, 1), (Reg.TWN_ST_ROLE, 3),
       (Reg.TWN_ST_PEER_P, 0), (Reg.TWN_ST_PEER_N, 1), (Reg.TWN_ST_COLD, 0)] { qual := some 0 }
     Twn.mayAssert s 0 = false ∧ Twn.mayAssert a 4916 = true ∧ Twn.mayAssert a 4915 = false ∧ a.role = 3) ∧
    (Cmd.waiting s .handover = [] ∧ (let r : Run := { d := Smoke.desc [0x40], long := true, adj := 0, wait := .handover }
      Cmd.waiting { cmd := { run := [r] } } .handover ≠ [])) ∧
    (let p := Smoke.twin 2 [(Reg.TWN_ST_PEER_P, 0), (Reg.TWN_ST_PEER_N, 1), (Reg.TWN_ST_ROLE, 1), (Reg.TOP_FRAME_CFG_RUN, 1)] {}
     p.flag Reg.TWN_ST_PEER_P ≠ true ∧ p.flag Reg.TWN_ST_PEER_N = true ∧ p.twn.ambig = false ∧ p.flag Reg.TWN_ST_OWN = false ∧ p.role = 1 ∧
     p.twn.roleAt = none ∧ p.running = true ∧
     Twn.shown p) ∧
    (s.flag Reg.TWN_ST_PEER_P = s.flag Reg.TWN_ST_PEER_N ∧ (Smoke.twin 2 [(Reg.TWN_ST_PEER_N, 1)] {}).flag Reg.TWN_ST_PEER_N = true) ∧
    (s.flag Reg.TWN_CTL_EN = true ∧ s.saveWarned = false ∧ State.reset.flag Reg.TWN_CTL_EN = false) ∧
    (4 ≤ ({ s with twn := { s.twn with hbEdges := 3 } } : State).twn.hbEdges + 1 ∧ s.flag Reg.TWN_ST_HB_OK = false ∧
      (Smoke.twin 2 [(Reg.TWN_ST_HB_OK, 1)] {}).flag Reg.TWN_ST_HB_OK = true) ∧
    (d.fld Reg.TWN_ST_LINK = 0 ∧ 255 ||| 2 ^ 7 = 255 ∧ 0 ||| 2 ^ 7 ≠ 255 ∧ s.fld Reg.TWN_ST_LINK ≠ 0 ∧ s.twn.wasUp = true) ∧
    Fc.cls s 70 ≠ Fc.reset ∧ State.reset.twn.lanes ≠ 255 ∧
    (let f := Smoke.set [(Reg.TOP_FRAME_CFG_RUN, 1), (Reg.TWN_ST_ROLE, 2)] { phase := .s }
     f.running = true ∧ f.phase = .s ∧ f.role = 2 ∧ f.twn.fwdDone = false ∧ f.mem.err = [] ∧ State.reset.running = false) ∧
    (let r : Run := { d := { Smoke.desc [0x11] with peer := true }, long := false, adj := 0, wait := .commit none [] }
     let f := Smoke.set [(Reg.TOP_FRAME_CFG_RUN, 1), (Reg.TWN_ST_ROLE, 4)] { cmd := { run := [r] } }
     f.role = 4 ∧ f.cmd.run = [r] ∧ r.d.peer = true ∧ r.wait = .commit none [] ∧ f.running = true) ∧
    (let a := Smoke.twin 2 [(Reg.TWN_ST_ROLE, 1), (Reg.TWN_CTL_AUTO_RESYNC, 1), (Reg.TWN_ST_PEER_ROLE, 3)] { peer := some (Smoke.peer 3) }
     a.role = 1 ∧ a.flag Reg.TWN_CTL_AUTO_RESYNC = true ∧ a.fld Reg.TWN_ST_LINK = 2 ∧ a.fld Reg.TWN_ST_PEER_ROLE = 3 ∧ Twn.sameBale a = true ∧
     a.twn.peer = some (Smoke.peer 3) ∧ (Smoke.peer 3).root = Twn.ownRoot a ∧ a.twn.resync = none ∧ a.twn.lastAuto = none) := by
  unfold Twn.shown; dsimp only; and_intros <;> decide +kernel

/-- A clean block reaches each kind of state that a message's effect distinguishes. -/
theorem witness_TetherMessagesTakeEffect :
    let h : TthHdr := { seq := 0, frame := 0, ack := 0, nak := none, crcOk := true, last := true }
    let s := Smoke.twin 2 [(Reg.TOP_FRAME_CFG_RUN, 1)] {}
    (s.variant.tether = true ∧ State.reset.fld Reg.TWN_ST_LINK = 0 ∧ State.reset.twn.lanes ≠ 255) ∧
    (Twn.intact h = true ∧ h.known = true ∧ { h with known := false }.known = false ∧ Twn.intact { h with lost := [7] } = false ∧ 7 < 8) ∧
    (s.fld Reg.TWN_ST_LINK ≠ 0 ∧ Twn.intact { h with crcOk := false } = false ∧ Fc.cls s 71 ≠ Fc.reset ∧ s.twn.crcRun < 3 ∧
      3 ≤ (Smoke.twin 2 [] { crcRun := 3 }).twn.crcRun) ∧
    (let b : TthHeld := { seq := 5, n := 1, resent := [], frame := 0, body := .nop }
     let t := Smoke.twin 2 [] { held := [b], rxCount := 14 }
     h.crcOk = true ∧ h.seq = t.twn.rxNext ∧ t.twn.wait = [] ∧ t.twn.rxCount + 1 < 16 ∧ t.twn.held = [b] ∧
     { h with ack := 6 }.ack = (b.seq + b.n) % 2 ^ 32 ∧ { h with nak := some 5, ack := 5 }.nak = some b.seq ∧ b.seq < 2 ^ 31 - 1) ∧
    (let t := Smoke.twin 1 [] { helloIn := true, helloSeq := some 3 }
     t.fld Reg.TWN_ST_LINK = 1 ∧ h.seq = t.twn.rxNext ∧ t.twn.held = [] ∧ t.twn.wait = [] ∧ t.twn.rxCount + 1 < 16 ∧ t.twn.helloIn = true ∧
     t.twn.helloSeq = some 3 ∧ 3 < { h with ack := 4 }.ack) ∧
    (Twn.clean h s ∧ h.frame = s.frameNo ∧ s.running = true ∧ s.role ≠ 1 ∧ s.twn.fwdDone = false ∧ s.mem.err = [] ∧
      1535 < 1536 * s.frameN ∧ s.twn.fwdGot.length + 1 < 1536 * s.frameN ∧ s.twn.mirFrame = h.frame ∧ s.twn.mirFrame ≠ { h with frame := 1 }.frame ∧
      Twn.shown s ∧
      s.twn.own = [] ∧ s.cmd.run = [] ∧ s.cmd.short = [] ∧ s.cmd.long = [] ∧ s.twn.resync = none ∧ s.flag Reg.TWN_ST_OWN = false) ∧
    (let x : TwnDigest := ⟨1, 2, 3, false, false, false, false⟩
     let t := Smoke.twin 2 [] { own := [(0, x)] }
     Twn.clean h t ∧ t.twn.own = [(h.frame, x)] ∧ t.twn.theirs = [] ∧ Twn.haysync t = false ∧ x.ovr = false ∧ x.out ≠ x.bus) ∧
    (let r : Run := { d := Smoke.desc [0x10], long := false, adj := 0, wait := .hostRead, sent := true }
     let q : Run := { r with wait := .ack 0 0 [] }
     (∀ x ∈ [r, q], (let t : State := { s with cmd := { run := [x] } }
       Twn.clean h t ∧ t.cmd.run = [x] ∧ x.sent = true ∧ x.d.peer = false ∧ x.d.ticket = 5)) ∧ r.wait ≠ .ack 0 0 [] ∧ q.wait = .ack 0 0 []) ∧
    (let r : Run := { d := { Smoke.desc [4] with peer := true }, long := true, adj := 0, wait := .swap 0 none }
     let t : State := Smoke.set [(Reg.TWN_ST_ROLE, 2), (Reg.TOP_BALE_SLOT_STATE 0, 4)] { s with cmd := { run := [r] } }
     Twn.clean { h with frame := 1 } t ∧ t.role = 2 ∧ { h with frame := 1 }.frame = t.frameNo + 1 ∧ t.saveWarned = false ∧
     t.cmd.run = [r] ∧ r.wait = .swap 0 none ∧ Bale.st t 0 = 4) ∧
    (let r : Run := { d := { Smoke.desc [0x11] with peer := true }, long := false, adj := 0, wait := .commit none [] }
     let t : State := Smoke.set [(Reg.TWN_ST_ROLE, 4)] { s with cmd := { run := [r] } }
     Twn.clean h t ∧ t.role = 4 ∧ t.cmd.run = [r] ∧ r.d.ticket ≤ 5 ∧ t.cmd.writes = [] ∧ t.cmd.taken = none ∧
     (Save.backlog t (some (Commit.snapshot t (t.frameNo + 1) [])) true).length ≤ 12 ∧ Commit.tooMany t [] = false) ∧
    (let a := Smoke.set [(Reg.TWN_ST_ROLE, 1)] s
     Twn.clean h a ∧ a.role = 1 ∧ a.running = true ∧ a.flag Reg.TWN_ST_OWN = false ∧ a.twn.resync = none) ∧
    (let c := Smoke.set [(Reg.TWN_ST_ROLE, 3)] s
     Twn.clean h c ∧ c.role = 3 ∧ c.running = true ∧ ({ c with twn := { c.twn with resync := some ⟨none, true, false, 0⟩ } } : State).twn.resync ≠ none) ∧
    (let o := Smoke.set [(Reg.TWN_ST_OWN, 1)] s
     Twn.clean h o ∧ o.flag Reg.TWN_ST_OWN = true) ∧
    (Bale.st s 1 ≤ 1 ∧ (1 < 2) ∧ { h with last := false }.last = false ∧
      1 < Bale.st (Smoke.set [(Reg.TOP_BALE_SLOT_STATE 1, 2)] s) 1) := by
  unfold Twn.clean Twn.shown; dsimp only; and_intros <;> decide +kernel

theorem witness_DebugPortFollowsTheTestAccessPort :
    ∀ t ∈ [3, 4, 8, 11, 15], ∀ r ∈ [0, 1, 2], ∀ l ∈ [true, false],
      let s : State := { dbg := { tap := t, ir := r, shift := [true] }, pwr := { lock := l } }
      s.dbg.tap = t ∧ s.dbg.ir = r ∧ s.pwr.lock = l := by decide

/-- Register G[g] of stall 0 after a command, where it gives a next state. -/
def Smoke.g (r : Host.Outcome State Fault Refusal) (g : Nat) : Option Nat :=
  match r with
  | .next t => some (((t.stall 0).rf.g.find? fun p => p.1 == g).elim 0 fun p => p.2.toNat)
  | _ => none

/-- The example of R156: MOVI G7, 0x4, then MOVSH G7, 0x11A2, then MOVSH G7, 0x1678 make 0x12345678. -/
theorem test_constant_by_movi_movsh : Smoke.g (exec (.movi Smoke.c0 7 0x4) (Smoke.run {})) 7 = some 4 ∧
    Smoke.g (exec (.movsh Smoke.c0 7 0x11A2) (Smoke.run { rf := { g := [(7, 0x4)] } })) 7 = some 0x91A2 ∧
    Smoke.g (exec (.movsh Smoke.c0 7 0x1678) (Smoke.run { rf := { g := [(7, 0x91A2)] } })) 7 = some 0x12345678 ∧
    Smoke.g (exec (.movi Smoke.c0 7 0x1FFF) (Smoke.run {})) 7 = some 0xFFFFFFFF := by decide +kernel

/-- Table 03-4 and the text after it. -/
theorem test_rounding : ([3, 5, 7, -3, -5].map fun n => (Acc.read { v := n * 2 ^ 30, wrap := 0, sat := false, lost := false } 31 32).1) =
      [2, 2, 4, -2, -2] ∧
    Acc.read { v := 9000000 * 2 ^ 31, wrap := 0, sat := false, lost := false } 31 24 = (8388607, true) ∧
    Acc.read { v := -9000000 * 2 ^ 31, wrap := 0, sat := false, lost := false } 31 24 = (-8388608, true) := by decide +kernel

/-- Table 03-6 and the line after it for the conjugate. -/
theorem test_complex_product : Arith.cmul false false (2 ^ 30, 2 ^ 29) (2 ^ 30, -2 ^ 30) = (3 * 2 ^ 59, -2 ^ 59) ∧
    Arith.cmul true false (2 ^ 30, 2 ^ 29) (2 ^ 30, -2 ^ 30) = (2 ^ 59, 3 * 2 ^ 59) ∧
    Arith.word (Arith.conv (3 * 2 ^ 59) 31) = 0x30000000 ∧ Arith.word (Arith.conv (-2 ^ 59) 31) = 0xF0000000 := by decide +kernel

/-- The bundle of Table 04-10 is well encoded; it is not with a bit set in its empty LS1 slot, nor with load/store opcode 0x1F, which is reserved. -/
theorem test_bundle_of_the_example : Enc.bundleOk 0x50000000091128000000002044300000 = true ∧
    Enc.bundleOk (0x50000000091128000000002044300000 + 2 ^ 42) = false ∧
    Enc.bundleOk (0x50000000091128000000002044300000 + 30 * 2 ^ 91) = false := by decide +kernel

/-- Table 04-13. -/
theorem test_bit_reversed_walk : ([0, 32, 16, 48, 8, 40, 24, 56].map fun o => Addr.brev (0x2000 + o) 8 0x2000 64 - 0x2000) =
    [32, 16, 48, 8, 40, 24, 56, 0] := by decide +kernel

/-- Table 15-7. -/
theorem test_carrier_periods : Drv.modulate 3200 3160 4194304 72817 (2 ^ 23) [0, 0, 0, 0] = (2489, 711, [15808, 0, 0, 0], false) ∧
    Drv.modulate 3200 3160 4194304 72817 (2 ^ 23) [15808, 0, 0, 0] = (2489, 712, [13504, 15808, 0, 0], false) := by decide +kernel

end Sys2Proof.Machine
end

/-! The event unit's reach, and small laws of the state that the obligations of chapters 00 and 07 share. -/
namespace Sys2Proof.Machine

/-! ### Accesses of the host -/

theorem State.bar_of_served {s : State} (h : s.served = true) (f : State → State) : s.bar f = f s := by
  simp [State.bar, State.when, h]

theorem State.bar_of_not_served {s : State} (h : s.served = false) (f : State → State) : s.bar f = s := by
  simp [State.bar, State.when, h]

theorem State.canSend_of_served {s : State} (h : s.served = true) : s.canSend = true := by
  simp only [State.served, Bool.and_eq_true] at h
  exact h.1

/-- Whether an access is served depends on the host link, the detectors and CLK_STATUS. -/
theorem State.served_congr {s t : State} (hh : t.host = s.host) (hc : t.clk = s.clk) (hr : t.reg 0x010000 = s.reg 0x010000) :
    t.served = s.served := by
  have hp : Pll.running t = Pll.running s := by
    unfold Pll.running Pll.state State.fld
    rw [show Reg.CLK_STATUS_PLL_STATE.off = 0x010000 from rfl, hr]
  unfold State.served State.canSend Clk.isLost
  rw [hh, hc, hp]

/-- A field reads the same where its word does. -/
theorem State.fld_congr {s t : State} (f : Fld) (h : t.reg f.off = s.reg f.off) : t.fld f = s.fld f := by
  unfold State.fld
  rw [h]

theorem State.flag_congr {s t : State} (f : Fld) (h : t.reg f.off = s.reg f.off) : t.flag f = s.flag f := by
  unfold State.flag
  rw [State.fld_congr f h]

/-! ### What firing an event and answering the host can change -/

/-- From `s` to `t` nothing changes but the event unit, its page of registers, what has been sent, and, where the host cannot be reached,
the discards of crossing 2 (R63, R342). -/
structure Evu.Within (s t : State) : Prop where
  same : t = { s with regs := t.regs, evu := t.evu, out := t.out }
  regs : ∀ off, off / 65536 ≠ 3 → off ≠ 0x010114 → t.reg off = s.reg off
  disc : s.canSend = true → t.reg 0x010114 = s.reg 0x010114
  out : s.out <+: t.out

theorem Evu.Within.refl (s : State) : Evu.Within s s := ⟨rfl, fun _ _ _ => rfl, fun _ => rfl, List.prefix_refl _⟩

theorem Evu.Within.canSend {s t : State} (h : Evu.Within s t) : t.canSend = s.canSend := by
  rw [h.same]; rfl

theorem Evu.Within.trans {s t u : State} (h : Evu.Within s t) (k : Evu.Within t u) : Evu.Within s u := by
  refine ⟨?_, fun off h3 hd => (k.regs off h3 hd).trans (h.regs off h3 hd), fun hs => ?_, h.out.trans k.out⟩
  · have e := k.same
    rw [h.same] at e
    exact e
  · exact (k.disc (h.canSend.trans hs)).trans (h.disc hs)

theorem Evu.Within.mtx {s t : State} (h : Evu.Within s t) : t.mtx = s.mtx := by rw [h.same]
theorem Evu.Within.mem {s t : State} (h : Evu.Within s t) : t.mem = s.mem := by rw [h.same]
theorem Evu.Within.stalls {s t : State} (h : Evu.Within s t) : t.stalls = s.stalls := by rw [h.same]
theorem Evu.Within.host {s t : State} (h : Evu.Within s t) : t.host = s.host := by rw [h.same]
theorem Evu.Within.clk {s t : State} (h : Evu.Within s t) : t.clk = s.clk := by rw [h.same]
theorem Evu.Within.tkp {s t : State} (h : Evu.Within s t) : t.tkp = s.tkp := by rw [h.same]

theorem Evu.Within.served {s t : State} (h : Evu.Within s t) : t.served = s.served :=
  State.served_congr h.host h.clk (h.regs _ (by decide) (by decide))

theorem Evu.Within.fld {s t : State} (h : Evu.Within s t) (f : Fld) (h3 : f.off / 65536 ≠ 3) (hd : f.off ≠ 0x010114) :
    t.fld f = s.fld f := State.fld_congr f (h.regs _ h3 hd)

theorem Evu.Within.flag {s t : State} (h : Evu.Within s t) (f : Fld) (h3 : f.off / 65536 ≠ 3) (hd : f.off ≠ 0x010114) :
    t.flag f = s.flag f := State.flag_congr f (h.regs _ h3 hd)

/-- A list of steps within reach stays within reach. -/
theorem Evu.Within.each {α : Type} (l : List α) (f : State → α → State) (hf : ∀ t, ∀ x ∈ l, Evu.Within t (f t x)) :
    ∀ s : State, Evu.Within s (s.each l f) := by
  induction l with
  | nil => exact Evu.Within.refl
  | cons x l ih =>
    intro s
    exact (hf s x (by simp)).trans (ih (fun t y hy => hf t y (by simp [hy])) (f s x))

theorem Evu.within_setReg (s : State) {off : Nat} (w : Word) (h : off / 65536 = 3) : Evu.Within s (s.setReg off w) := by
  have other (o : Nat) (ho : o / 65536 ≠ 3) : (s.setReg off w).reg o = s.reg o :=
    State.reg_setReg_other s w fun e => ho (e ▸ h)
  exact ⟨rfl, fun o ho _ => other o ho, fun _ => other _ (by decide), List.prefix_refl _⟩

theorem Evu.within_setFld (s : State) (f : Fld) (v : Nat) (h : f.off / 65536 = 3) : Evu.Within s (s.setFld f v) :=
  Evu.within_setReg s _ h

theorem Evu.within_send (s : State) (e : Emit) : Evu.Within s (s.send e) :=
  ⟨rfl, fun _ _ _ => rfl, fun _ => rfl, List.prefix_append _ _⟩

/-- What is offered to the host goes out, or counts as a discard (R63). -/
theorem Evu.within_hostOut (s : State) (e : Emit) : Evu.Within s (s.hostOut e) := by
  unfold State.hostOut
  split
  · exact Evu.within_send s e
  · next hs =>
    split
    · exact ⟨rfl, fun o _ ho => State.reg_setFld_other s _ _ ho, fun h => absurd h hs, List.prefix_refl _⟩
    · exact Evu.Within.refl s

theorem Evu.within_setVec (s : State) (v : Nat) (x : EvuVec) : Evu.Within s (Evu.setVec s v x) :=
  ⟨rfl, fun _ _ _ => rfl, fun _ => rfl, List.prefix_refl _⟩

theorem Evu.within_setPba (s : State) (v : Nat) (b : Bool) : Evu.Within s (Evu.setPba s v b) :=
  ⟨rfl, fun _ _ _ => rfl, fun _ => rfl, List.prefix_refl _⟩

theorem Evu.within_sendReq (s : State) {v : Nat} (hv : v < 32) : Evu.Within s (Evu.sendReq s v) := by
  unfold Evu.sendReq
  split
  · exact Evu.within_setPba s v true
  · refine (((Evu.within_hostOut s (.msix v)).trans (Evu.within_setPba _ v false)).trans ?_).trans (Evu.within_setVec _ v _)
    refine Evu.within_setFld _ _ _ ?_
    show (0x030500 + 0x4 * v) / 65536 = 3
    omega

theorem Evu.within_request (s : State) {v : Nat} (hv : v < 32) : Evu.Within s (Evu.request s v) := by
  unfold Evu.request
  split
  · exact Evu.Within.refl s
  · split
    · exact Evu.within_setVec s v _
    · exact Evu.within_sendReq s hv

theorem Evu.lt_of_mem_bitsOf {x v : Nat} (h : v ∈ Evu.bitsOf 0 x) : v < 32 := by
  unfold Evu.bitsOf at h
  split at h
  · cases h
  · simp only [List.mem_map, List.mem_filter, List.mem_range] at h
    obtain ⟨j, ⟨hj, -⟩, rfl⟩ := h
    omega

theorem Evu.within_eval (s : State) (again : Bool) : Evu.Within s (Evu.eval s again) :=
  (Evu.within_setReg s _ (by decide)).trans
    (Evu.Within.each _ _ (fun t _ hv => Evu.within_request t (Evu.lt_of_mem_bitsOf hv)) _)

theorem Evu.lt_of_present {v : Variant} {e : Nat} (h : Evu.present v e = true) : e < 256 := by
  unfold Evu.present at h
  refine Decidable.byContradiction fun hn => ?_
  simp [show ¬ e ≤ 4 by omega, show ¬ e ≤ 10 by omega, show ¬ e ≤ 23 by omega, show ¬ e ≤ 49 by omega, show ¬ e ≤ 56 by omega,
    show ¬ e ≤ 70 by omega, show ¬ e ≤ 77 by omega, show ¬ e ≤ 83 by omega, show e ≠ 84 by omega, show e ≠ 85 by omega,
    show ¬ e ≤ 89 by omega, show ¬ e ≤ 111 by omega, show ¬ e ≤ 119 by omega, show ¬ e ≤ 123 by omega, show ¬ e ≤ 191 by omega,
    show ¬ e ≤ 196 by omega] at h

/-- A source that fires reaches the event unit alone (R341). -/
theorem Evu.within_fire (s : State) (e : Nat) : Evu.Within s (s.fire e) := by
  unfold State.fire
  split
  · next h =>
    simp only [Bool.and_eq_true] at h
    have he := Evu.lt_of_present h.1.2
    refine (Evu.within_setFld s _ _ ?_).trans (Evu.within_eval _ false)
    show (0x030000 + 4 * (e / 32)) / 65536 = 3
    omega
  · exact Evu.Within.refl s

end Sys2Proof.Machine

/-! One step of the queue, and the reads of REGWIN (00_scope.md R14, Table 00-6; 10_host_commands.md R317). -/
namespace Sys2Proof.Machine

/-- Settles O1: both clauses are the two branches of `step`. -/
theorem stepRunsFront : Obligations.StepRunsFront := by
  unfold Obligations.StepRunsFront
  refine ⟨fun _ _ _ => rfl, fun s h => ?_⟩
  unfold step
  rw [h]

/-! ### Latches of register reads -/

/-- Entries made from one function of the key, over a map. -/
theorem Sparse.look_foldl_insert {α : Type} (g : Nat → α) (offs : List Nat) (o : Nat) (m : Sparse α) :
    Sparse.look (offs.foldl (fun m o => Sparse.insert m o (g o)) m) o = if o ∈ offs then some (g o) else Sparse.look m o := by
  induction offs generalizing m with
  | nil => simp
  | cons a l ih =>
    rw [List.foldl_cons, ih]
    by_cases hl : o ∈ l
    · simp [hl]
    · by_cases ha : o = a
      · subst ha; simp [hl, Sparse.look_insert_same]
      · simp [hl, ha, Sparse.look_insert_other _ _ _ _ ha]

/-- A latch changes nothing that a read finds in the registers. -/
theorem Reg.peek_latch (s : State) (offs : List Nat) (o : Nat) : Reg.peek (Reg.latch s offs) o = Reg.peek s o := rfl

/-- A word that a read has latched reads as it stood at that read (R14), in every state with these latches. -/
theorem Reg.value_of_latch {s t : State} {offs : List Nat} {o : Nat} (h : o ∈ offs) (hl : t.latched = (Reg.latch s offs).latched)
    (hh : t.hiLatch = (Reg.latch s offs).hiLatch) : Reg.value t o = Reg.peek s o := by
  have hc : t.latched.contains o = true := by simp [hl, Reg.latch, h]
  unfold Reg.value
  rw [if_pos hc, hh]
  simp only [Reg.latch, Sparse.get, Sparse.look_foldl_insert, h, if_true, Option.getD_some]

theorem Reg.value_latch_not_mem (s : State) {offs : List Nat} {o : Nat} (h : o ∉ offs) : Reg.value (Reg.latch s offs) o = Reg.value s o := by
  have hl : (Reg.latch s offs).latched.contains o = s.latched.contains o := by simp [Reg.latch, h]
  unfold Reg.value
  rw [hl, Reg.peek_latch]
  simp only [Reg.latch, Sparse.get, Sparse.look_foldl_insert, h, if_false]


/-! ### Reads -/

/-- The word at `off` has no bits that a read clears. -/
def Reg.noRc (off : Nat) : Bool := (Reg.rowAt off).all fun r => r.rc == 0

theorem Reg.clearRc_of_noRc (s : State) {off : Nat} (h : Reg.noRc off = true) : Reg.clearRc s off = s := by
  unfold Reg.noRc at h
  unfold Reg.clearRc
  split
  · rfl
  · next r hr =>
    rw [hr] at h
    exact if_pos (.inl (by simpa using h))

theorem Reg.clearRc_of_absent (s : State) {off : Nat} (h : Reg.rowAt off = none ∨ Reg.present s.variant off = false) :
    Reg.clearRc s off = s := by
  unfold Reg.clearRc
  split
  · rfl
  · next r hr => exact if_pos (.inr (h.resolve_left (by simp [hr])))

/-- Clearing RC fields leaves every other word, and everything but the registers (Table 00-6). -/
theorem Reg.clearRc_of_row (s : State) {off : Nat} {r : RegRow} (hr : Reg.rowAt off = some r) (hp : Reg.present s.variant off = true) :
    Reg.clearRc s off = { s with regs := (Reg.clearRc s off).regs } ∧
    (Reg.clearRc s off).reg off = s.reg off &&& ~~~(BitVec.ofNat 32 r.rc) ∧
    ∀ o, o ≠ off → (Reg.clearRc s off).reg o = s.reg o := by
  unfold Reg.clearRc
  simp only [hr, hp, Bool.true_eq_false, or_false]
  split
  · next h0 => exact ⟨rfl, by rw [h0]; exact BitVec.and_allOnes.symm, fun _ _ => rfl⟩
  · exact ⟨rfl, State.reg_setReg_same s off _, fun o ho => State.reg_setReg_other s _ ho⟩

/-- A read of a word that latches for more than one read, or not at all. -/
theorem Reg.readWord_of_not_once (s : State) {off : Nat} (h : Reg.once off = false) :
    Reg.readWord s off = (Reg.clearRc s off, Reg.value s off) := by
  simp [Reg.readWord, h]

/-- A read of a high word uses its latch up (R14). -/
theorem Reg.readWord_of_once (s : State) {off : Nat} (h : Reg.once off = true) :
    Reg.readWord s off = (Reg.clearRc { s with latched := s.latched.filter fun o => o ≠ off, hiLatch := Sparse.erase s.hiLatch off } off,
      Reg.value s off) := by
  simp [Reg.readWord, h]

/-- A read of a word without RC fields, after a latch of the words `offs`. -/
theorem Reg.readPlain_latch (s : State) (offs : List Nat) {off : Nat} (ho : Reg.once off = false) (hrc : Reg.noRc off = true) :
    Reg.readPlain (Reg.latch s offs) off = (Reg.latch s offs).send (.readData (0x10000000 + off) (Reg.value (Reg.latch s offs) off)) := by
  unfold Reg.readPlain Reg.answer
  rw [Reg.readWord_of_not_once _ ho, Reg.clearRc_of_noRc _ hrc]
  rfl

/-- The word at `off` is word 0 of an AES_RXCS (R415). -/
def Reg.aesFirst (off : Nat) : Prop := 0x080400 ≤ off ∧ off < 0x080600 ∧ off % 0x40 = 0

/-- A read of a word that is not one of the three kinds that set latches sets none. -/
theorem Reg.latches_eq_self (s : State) {off : Nat} (h1 : off ≠ 0x000400) (h2 : off ∉ Reg.lowWords ∨ Reg.present s.variant off = false)
    (h3 : Reg.aesFirst off → s.variant.aess ≤ (off - 0x080400) / 0x40) : Reg.latches s off = s := by
  unfold Reg.latches
  rw [if_neg h1, if_neg, if_neg]
  · rintro ⟨ha, hb, hc, hd⟩
    exact absurd (h3 ⟨ha, hb, hc⟩) (by omega)
  · rintro ⟨ha, hb⟩
    rcases h2 with h2 | h2
    · exact h2 (by simpa using ha)
    · rw [h2] at hb; cases hb

theorem Reg.latches_lowWord (s : State) {off : Nat} (h : off ∈ Reg.lowWords) (hp : Reg.present s.variant off = true) :
    Reg.latches s off = Reg.latch s [off + 4] := by
  have h0 : off ≠ 0x000400 := fun e => absurd (e ▸ h) (by decide)
  unfold Reg.latches
  rw [if_neg h0, if_pos ⟨by simpa using h, hp⟩]

theorem Reg.latches_aesFirst (s : State) {port : Nat} (hp : port < 8) (h : port < s.variant.aess) :
    Reg.latches s (0x080400 + 0x40 * port) = Reg.latch s (Reg.aesWords port) := by
  have hl : ∀ p < 8, 0x080400 + 0x40 * p ∉ Reg.lowWords := by decide
  have hi : (0x080400 + 0x40 * port - 0x080400) / 0x40 = port := by omega
  unfold Reg.latches
  rw [if_neg (by omega), if_neg fun h => hl port hp (by simpa using h.1), if_pos (by omega), hi]

/-! ### Node time -/

theorem Tkp.advance_of_le (s : State) {root : Nat} (h : root ≤ s.tkp.node) : Tkp.advance s root = s := if_pos h

theorem Tkp.node_le_advance (s : State) (root : Nat) : s.tkp.node ≤ (Tkp.advance s root).tkp.node := by
  by_cases h : root ≤ s.tkp.node
  · exact Nat.le_of_eq (by rw [Tkp.advance_of_le s h])
  · have e : (Tkp.advance s root).tkp.node = root := by
      unfold Tkp.advance State.when
      rw [if_neg h]
      dsimp only
      split
      · rw [(Evu.within_fire _ 76).tkp]; rfl
      · rfl
    omega

/-- Node time that advances does not change whether the host's accesses are served. -/
theorem Tkp.advance_served (s : State) (root : Nat) : (Tkp.advance s root).served = s.served := by
  unfold Tkp.advance State.when
  split
  · rfl
  · have e (n : Nat) : (Tkp.showTime { s with tkp := { s.tkp with node := n } }).served = s.served := by
      refine State.served_congr rfl rfl ?_
      unfold Tkp.showTime
      rw [State.reg_setFld_other _ _ _ (by decide), State.reg_setFld_other _ _ _ (by decide)]
      rfl
    dsimp only
    split
    · rw [(Evu.within_fire _ 76).served, e]
    · exact e root

/-- A read at a node time that is not ahead, of a word that is not the timestamp queue's head. -/
theorem Reg.read_now (s : State) (at_ off : Nat) (h : off / 65536 = 5 → at_ ≤ s.tkp.node ∧ off ≠ 0x050070) :
    Reg.read s at_ off = Reg.readWord (Reg.latches s off) off := by
  have ho : off ≠ 0x050070 := fun e => (h (by rw [e])).2 e
  have ha : (if off / 65536 = 5 then Tkp.advance s at_ else s) = s := by
    split
    · next h5 => exact Tkp.advance_of_le s (h h5).1
    · rfl
  unfold Reg.read
  simp only [ho, if_false, ha]

/-! ### The commands -/

theorem exec_registerReadClear (s : State) (at_ off : Nat) (h : s.served = true) :
    exec (.registerReadClear at_ off) s = .next (Reg.answer off (Reg.read s at_ off)) :=
  congrArg Host.Outcome.next (State.bar_of_served h (Bar.read at_ off))

/-- What the low words of R14 and their high words have in common. -/
theorem Reg.lowWords_facts : ∀ off ∈ Reg.lowWords, Reg.once off = false ∧ Reg.noRc off = true ∧ Reg.once (off + 4) = true ∧
    Reg.noRc (off + 4) = true ∧ off + 4 ∉ Reg.lowWords ∧ off + 4 ≠ 0x000400 ∧ off + 4 ≠ 0x050070 ∧ (off + 4) % 0x40 ≠ 0 ∧
    (off + 4) / 65536 = off / 65536 := by decide +kernel

/-- A read of a low word latches its high word, which one later read returns (R14). -/
theorem exec_lowWordRead (s : State) (at_ off : Nat) (hs : s.served = true) (hl : off ∈ Reg.lowWords)
    (hp : Reg.present s.variant off = true) (ha : off / 65536 = 5 → at_ ≤ s.tkp.node) : ∃ t u, exec (.lowWordRead off) s = .next t ∧
    t = { s with out := t.out, latched := t.latched, hiLatch := t.hiLatch } ∧
    t.out = s.out ++ [.readData (0x10000000 + off) (Reg.value s off)] ∧
    exec (.registerReadClear at_ (off + 4)) t = .next u ∧ u.out = t.out ++ [.readData (0x10000000 + off + 4) (Reg.peek s (off + 4))] ∧
    u.latched.contains (off + 4) = false := by
  obtain ⟨ho, hrc, ho', hrc', hl', h400, h70, h40, h5⟩ := Reg.lowWords_facts off hl
  have ht : Reg.readPlain (Reg.latches s off) off = (Reg.latch s [off + 4]).send (.readData (0x10000000 + off) (Reg.value s off)) := by
    rw [Reg.latches_lowWord s hl hp, Reg.readPlain_latch s _ ho hrc, Reg.value_latch_not_mem s (by simp)]
  generalize htt : (Reg.latch s [off + 4]).send (.readData (0x10000000 + off) (Reg.value s off)) = t at ht
  have hv : Reg.value t (off + 4) = Reg.peek s (off + 4) :=
    Reg.value_of_latch (offs := [off + 4]) (by simp) (by rw [← htt]; rfl) (by rw [← htt]; rfl)
  have hr : Reg.read t at_ (off + 4) = _ := (Reg.read_now t at_ (off + 4) fun e => ⟨by rw [← htt]; exact ha (h5 ▸ e), h70⟩).trans
    (by rw [Reg.latches_eq_self t h400 (.inl hl') (fun h => absurd h.2.2 h40), Reg.readWord_of_once t ho', Reg.clearRc_of_noRc _ hrc'])
  have e : exec (.lowWordRead off) s = .next (Reg.readPlain (Reg.latches s off) off) :=
    congrArg Host.Outcome.next (State.bar_of_served hs (Bar.lowWordRead off))
  refine ⟨t, _, ht ▸ e, by rw [← htt]; rfl, by rw [← htt]; rfl,
    exec_registerReadClear t at_ (off + 4) (by rw [← htt]; exact hs), ?_, ?_⟩
  · rw [hr, hv]
    rfl
  · rw [hr]
    simp [Reg.answer, State.send]

/-- A read of a word that is latched at it returns the word, and every word latched reads as it stood. -/
theorem Reg.readPlain_latch_mem (s : State) {offs : List Nat} {off : Nat} (hm : off ∈ offs) (ho : Reg.once off = false)
    (hrc : Reg.noRc off = true) : let t := Reg.readPlain (Reg.latch s offs) off
    t = { s with out := t.out, latched := t.latched, hiLatch := t.hiLatch } ∧
    t.out = s.out ++ [.readData (0x10000000 + off) (Reg.peek s off)] ∧ ∀ o ∈ offs, Reg.value t o = Reg.peek s o := by
  have hv : Reg.value (Reg.latch s offs) off = Reg.peek s off := Reg.value_of_latch hm rfl rfl
  rw [Reg.readPlain_latch s _ ho hrc, hv]
  exact ⟨rfl, rfl, fun o ho => Reg.value_of_latch ho rfl rfl⟩

/-- A read of word 0 of TOP_RCD latches every word of the record (R315). -/
theorem exec_topRcdLatch (s : State) (hs : s.served = true) : ∃ t, exec .topRcdLatch s = .next t ∧
    t = { s with out := t.out, latched := t.latched, hiLatch := t.hiLatch } ∧
    t.out = s.out ++ [.readData 0x10000400 (Reg.peek s 0x000400)] ∧ ∀ o ∈ Reg.rcdWords, Reg.value t o = Reg.peek s o := by
  have hl : Reg.latches s 0x000400 = Reg.latch s Reg.rcdWords := if_pos rfl
  have e : exec .topRcdLatch s = .next (Reg.readPlain (Reg.latches s 0x000400) 0x000400) :=
    congrArg Host.Outcome.next (State.bar_of_served hs Bar.topRcdLatch)
  rw [hl] at e
  exact ⟨_, e, Reg.readPlain_latch_mem s (by decide) (by decide) (by decide +kernel)⟩

theorem Variant.aess_le (v : Variant) : v.aess ≤ 8 := by cases v <;> decide

/-- A read of word 0 of AES_RXCS latches the words of its port (R415). -/
theorem exec_aesRxcsLatch (s : State) (port : Nat) (hs : s.served = true) (hp : port < s.variant.aess) :
    ∃ t, exec (.aesRxcsLatch port) s = .next t ∧
    t = { s with out := t.out, latched := t.latched, hiLatch := t.hiLatch } ∧
    t.out = s.out ++ [.readData (0x10080400 + 0x40 * port) (Reg.peek s (0x080400 + 0x40 * port))] ∧
    ∀ o ∈ Reg.aesWords port, Reg.value t o = Reg.peek s o := by
  have h8 : port < 8 := Nat.lt_of_lt_of_le hp (Variant.aess_le s.variant)
  have hw : ∀ p < 8, Reg.once (0x080400 + 0x40 * p) = false ∧ Reg.noRc (0x080400 + 0x40 * p) = true ∧
      0x080400 + 0x40 * p ∈ Reg.aesWords p := by decide +kernel
  obtain ⟨ho, hrc, hm⟩ := hw port h8
  have e : exec (.aesRxcsLatch port) s = .next (Reg.readPlain (Reg.latches s (0x080400 + 0x40 * port)) (0x080400 + 0x40 * port)) :=
    congrArg Host.Outcome.next (State.bar_of_served hs (Bar.aesRxcsLatch port))
  rw [Reg.latches_aesFirst s h8 hp] at e
  obtain ⟨hf, hout, hv⟩ := Reg.readPlain_latch_mem s hm ho hrc
  exact ⟨_, e, hf, by rw [hout, ← Nat.add_assoc], hv⟩

/-- A read of a word that sets no latch returns it and clears its RC fields (Table 00-6). -/
theorem exec_registerReadClear_row (s : State) (at_ off : Nat) (r : RegRow) (hs : s.served = true) (hr : Reg.rowAt off = some r)
    (hp : Reg.present s.variant off = true) (ha : off / 65536 = 5 → at_ ≤ s.tkp.node ∧ off ≠ 0x050070) (h400 : off ≠ 0x000400)
    (hl : off ∉ Reg.lowWords) (haes : ¬ Reg.aesFirst off) (ho : Reg.once off = false) :
    ∃ t, exec (.registerReadClear at_ off) s = .next t ∧ t = { s with regs := t.regs, out := t.out } ∧
      t.out = s.out ++ [.readData (0x10000000 + off) (Reg.value s off)] ∧ t.reg off = s.reg off &&& ~~~(BitVec.ofNat 32 r.rc) ∧
      ∀ o, o ≠ off → t.reg o = s.reg o := by
  obtain ⟨hc, hoff, hother⟩ := Reg.clearRc_of_row s hr hp
  refine ⟨_, exec_registerReadClear s at_ off hs, ?_⟩
  rw [Reg.read_now s at_ off ha, Reg.latches_eq_self s h400 (.inl hl) (fun h => absurd h haes), Reg.readWord_of_not_once s ho]
  generalize Reg.clearRc s off = c at *
  refine ⟨?_, ?_, hoff, hother⟩
  · rw [hc]; rfl
  · rw [hc]; rfl

theorem Reg.peek_of_absent (s : State) {off : Nat} (h : Reg.rowAt off = none ∨ Reg.present s.variant off = false) : Reg.peek s off = 0 := by
  unfold Reg.peek
  split
  · rfl
  · next r hr => simp [h.resolve_left (by simp [hr])]

/-- The words of AES_RXCS are those of the AES3 ports that the variant has. -/
theorem Reg.aesFirst_present {v : Variant} {off : Nat} (h : Reg.aesFirst off) :
    ¬ Reg.rowAt off = none ∧ Reg.present v off = decide ((off - 0x080400) / 0x40 < v.aess) := by
  obtain ⟨h1, h2, h3⟩ := h
  have hk : off = 0x080400 + 0x40 * ((off - 0x080400) / 0x40) := by omega
  have h8 : (off - 0x080400) / 0x40 < 8 := by omega
  generalize (off - 0x080400) / 0x40 = k at *
  subst hk
  have hw : ∀ p < 8, Reg.rowAt (0x080400 + 0x40 * p) ≠ none ∧ ∀ v, Reg.present v (0x080400 + 0x40 * p) = decide (p < v.aess) := by
    intro p hp
    refine ⟨?_, fun v => ?_⟩
    · revert p; decide +kernel
    · cases v <;> (revert p; decide +kernel)
  exact ⟨(hw k h8).1, (hw k h8).2 v⟩

/-- Reserved space and absent units read 0 (R6, R7). -/
theorem exec_registerReadClear_absent (s : State) (at_ off : Nat) (hs : s.served = true) (h5 : off / 65536 ≠ 5)
    (hl : s.latched.contains off = false)
    (h : Reg.rowAt off = none ∨ (Reg.present s.variant off = false ∧ off ∉ Reg.lowWords)) :
    ∃ t, exec (.registerReadClear at_ off) s = .next t ∧
    t = { s with out := t.out, latched := t.latched, hiLatch := t.hiLatch } ∧ t.out = s.out ++ [.readData (0x10000000 + off) 0] := by
  have h' : Reg.rowAt off = none ∨ Reg.present s.variant off = false := h.imp_right And.left
  have hrow : ∀ o ∈ 0x000400 :: Reg.lowWords, Reg.rowAt o ≠ none := by decide +kernel
  have h400 : off ≠ 0x000400 := by
    rintro rfl
    rcases h' with e | e
    · exact hrow _ (by simp) e
    · revert e; cases s.variant <;> decide
  have hlow : off ∉ Reg.lowWords := h.elim (fun e m => hrow off (by simp [m]) e) And.right
  have haes : Reg.aesFirst off → s.variant.aess ≤ (off - 0x080400) / 0x40 := fun a => by
    have := h'.resolve_left (Reg.aesFirst_present (v := s.variant) a).1
    rw [(Reg.aesFirst_present a).2] at this
    simpa using this
  have hv : Reg.value s off = 0 := by
    unfold Reg.value
    rw [hl, Reg.peek_of_absent s h']
    rfl
  refine ⟨_, exec_registerReadClear s at_ off hs, ?_⟩
  rw [Reg.read_now s at_ off fun e => absurd e h5, Reg.latches_eq_self s h400 (.inl hlow) haes]
  cases ho : Reg.once off
  · rw [Reg.readWord_of_not_once s ho, Reg.clearRc_of_absent s h', hv]
    exact ⟨rfl, rfl⟩
  · have hc := Reg.clearRc_of_absent { s with latched := s.latched.filter fun o => o ≠ off, hiLatch := Sparse.erase s.hiLatch off } h'
    rw [Reg.readWord_of_once s ho, hc, hv]
    exact ⟨rfl, rfl⟩

/-- A read of the timekeeper's registers sees the node time of the access (R317, R390). -/
theorem exec_registerReadClear_tkp (s : State) (at_ off : Nat) (hs : s.served = true) (h5 : off / 65536 = 5) :
    exec (.registerReadClear at_ off) s = (if off = 0x050070 then exec .tkpTsqTsRead (Tkp.advance s at_)
      else exec (.registerReadClear s.tkp.node off) (Tkp.advance s at_)) := by
  have hs' : (Tkp.advance s at_).served = true := (Tkp.advance_served s at_).trans hs
  rw [exec_registerReadClear s at_ off hs]
  split
  · next h =>
    subst h
    exact (congrArg Host.Outcome.next (State.bar_of_served hs' Bar.tkpTsqTsRead)).symm
  · next h =>
    rw [exec_registerReadClear _ _ off hs', Reg.read_now _ _ off fun _ => ⟨Tkp.node_le_advance s at_, h⟩]
    simp [Reg.read, h5, h]

/-- Settles O39: a latch set by a read holds the words as they stood, and every other served read returns the word and clears its RC
fields. -/
theorem registerReadsLatchAndClear : Obligations.RegisterReadsLatchAndClear := by
  unfold Obligations.RegisterReadsLatchAndClear
  refine ⟨fun s at_ off port hs => ?_, exec_lowWordRead, exec_topRcdLatch, exec_aesRxcsLatch, exec_registerReadClear_row,
    exec_registerReadClear_absent, exec_registerReadClear_tkp⟩
  have e (f : State → State) : Host.Outcome.next (ρ := Refusal) (φ := Fault) (s.bar f) = .next s := by
    rw [State.bar_of_not_served hs]
  exact ⟨e _, e _, e _, e _⟩

end Sys2Proof.Machine

/-! Writes of REGWIN (00_scope.md R15, R19; 08_signal_graph.md R247 to R249; 10_host_commands.md R317, R336). -/
namespace Sys2Proof.Machine

/-! ### Counters -/

theorem Fld.of_lt (f : Fld) (w : Word) : f.of w < 2 ^ f.wid := Nat.mod_lt _ (Nat.pow_pos (by decide))

theorem Fld.of_le_max (f : Fld) (w : Word) : f.of w ≤ f.max := Nat.le_sub_one_of_lt (Fld.of_lt f w)

theorem State.fld_addCnt_same (s : State) (f : Fld) (n : Nat) (hf : f.lo + f.wid ≤ 32) :
    (s.addCnt f n).fld f = min (s.fld f + n) f.max := by
  have hp : 0 < 2 ^ f.wid := Nat.pow_pos (by decide)
  unfold State.addCnt
  rw [State.fld_setFld_same s f _ hf, Nat.mod_eq_of_lt]
  unfold Fld.max
  omega

theorem State.fld_incCnt_same (s : State) (f : Fld) (hf : f.lo + f.wid ≤ 32) : (s.incCnt f).fld f = min (s.fld f + 1) f.max :=
  State.fld_addCnt_same s f 1 hf

/-- Nothing but registers changes from `s` to `t`. -/
def State.RegsOnly (s t : State) : Prop := t = { s with regs := t.regs }

theorem State.RegsOnly.refl (s : State) : State.RegsOnly s s := rfl

theorem State.RegsOnly.trans {s t u : State} (h : State.RegsOnly s t) (k : State.RegsOnly t u) : State.RegsOnly s u := by
  unfold State.RegsOnly at h k ⊢
  rw [h] at k
  exact k

theorem State.regsOnly_setReg (s : State) (off : Nat) (w : Word) : State.RegsOnly s (s.setReg off w) := rfl

theorem State.regsOnly_setFld (s : State) (f : Fld) (v : Nat) : State.RegsOnly s (s.setFld f v) := rfl

theorem State.regsOnly_incCnt (s : State) (f : Fld) : State.RegsOnly s (s.incCnt f) := rfl

theorem Cmd.regsOnly_adjust (s : State) (src where_ : Nat) : State.RegsOnly s (Cmd.adjust s src where_) :=
  ((State.regsOnly_incCnt s _).trans (State.regsOnly_setFld _ _ src)).trans (State.regsOnly_setFld _ _ where_)

theorem Cmd.adjust_count (s : State) (off : Nat) : (Cmd.adjust s 0 off).fld Reg.CMD_ADJUSTED_COUNT_COUNT =
    min (s.fld Reg.CMD_ADJUSTED_COUNT_COUNT + 1) Reg.CMD_ADJUSTED_COUNT_COUNT.max := by
  unfold Cmd.adjust
  rw [State.fld_setFld_other _ _ _ _ (by decide), State.fld_setFld_other _ _ _ _ (by decide)]
  exact State.fld_incCnt_same s _ (by decide)

theorem Cmd.adjust_reg (s : State) (off : Nat) {o : Nat} (h1 : o ≠ 0x040048) (h2 : o ≠ 0x04004C) :
    (Cmd.adjust s 0 off).reg o = s.reg o := by
  unfold Cmd.adjust
  rw [State.reg_setFld_other _ _ _ h2, State.reg_setFld_other _ _ _ h2]
  exact State.reg_setFld_other s _ _ h1

/-- Adjustments of register writes are counted, and the last one is noted (R336). -/
theorem Cmd.adjust_each {α : Type} (off : Nat) (l : List α) : ∀ s : State,
    let t := s.each l fun t _ => Cmd.adjust t 0 off
    State.RegsOnly s t ∧ (∀ o, o ≠ 0x040048 → o ≠ 0x04004C → t.reg o = s.reg o) ∧
    t.fld Reg.CMD_ADJUSTED_COUNT_COUNT =
      min (s.fld Reg.CMD_ADJUSTED_COUNT_COUNT + l.length) Reg.CMD_ADJUSTED_COUNT_COUNT.max := by
  induction l with
  | nil => exact fun s => ⟨State.RegsOnly.refl s, fun _ _ _ => rfl, (Nat.min_eq_left (Fld.of_le_max _ _)).symm⟩
  | cons x l ih =>
    intro s
    obtain ⟨hsame, hreg, hcnt⟩ := ih (Cmd.adjust s 0 off)
    rw [Cmd.adjust_count] at hcnt
    refine ⟨(Cmd.regsOnly_adjust s 0 off).trans hsame, fun o h1 h2 => (hreg o h1 h2).trans (Cmd.adjust_reg s off h1 h2), hcnt.trans ?_⟩
    rw [List.length_cons]
    generalize s.fld Reg.CMD_ADJUSTED_COUNT_COUNT = c
    generalize Fld.max _ = m
    omega

/-! ### The plain write -/

theorem Reg.blend_zero (old v : Word) : Reg.blend old v 0 = old := by
  unfold Reg.blend
  simp only [BitVec.and_zero, BitVec.or_zero]
  exact BitVec.and_allOnes

/-- The live word that a plain write of `v` leaves at `off`, of row `r`, with its adjustments (R15, R19). -/
def Reg.written (s : State) (off : Nat) (v : Word) (r : RegRow) : Adj :=
  let m := Reg.liveMask s off r &&& Reg.presentBits s off
  let cleared := s.reg off &&& ~~~(v &&& BitVec.ofNat 32 r.w1c)
  if m = 0 then ⟨cleared, 0, 0⟩ else Reg.adjust s off (Reg.blend cleared v m) m

/-- The shadow word that a write of `v` leaves at `off`, with its adjustments (R247 to R249). -/
def Reg.shadowed (s : State) (off : Nat) (v : Word) : Adj :=
  let sh := Reg.shMask s off
  if sh = 0 then ⟨s.shReg off, 0, 0⟩ else Reg.adjust s off (Reg.blend (s.shReg off) v sh) sh

theorem Reg.shadowWrite_of_no_mask {s : State} {off : Nat} (v : Word) (h : Reg.shMask s off = 0) : Reg.shadowWrite s off v = (s, 0) := by
  unfold Reg.shadowWrite
  exact if_pos h

/-- What a write to the shadow bank does: the word, the count of adjustments, and the note for the next PARAM_COMMIT. -/
theorem Reg.shadowWrite_spec (s : State) (off : Nat) (v : Word) : let x := Reg.shadowWrite s off v
    x.1 = { s with shadow := x.1.shadow, cmd := x.1.cmd } ∧ x.1.shReg off = (Reg.shadowed s off v).w ∧ x.2 = (Reg.shadowed s off v).n ∧
    (∀ o, o ≠ off → x.1.shReg o = s.shReg o) ∧ (Reg.shMask s off = 0 → x.1.cmd = s.cmd) ∧
    (Reg.shMask s off ≠ 0 → off ∈ x.1.cmd.writes) := by
  by_cases h : Reg.shMask s off = 0
  · rw [Reg.shadowWrite_of_no_mask v h]
    simp [Reg.shadowed, h]
  · have e : (Reg.shadowed s off v) = Reg.adjust s off (Reg.blend (s.shReg off) v (Reg.shMask s off)) (Reg.shMask s off) := if_neg h
    rw [e]
    have ew : Reg.shadowWrite s off v = _ := if_neg h
    rw [ew]
    refine ⟨rfl, State.shReg_setShReg_same s off _, rfl, fun o ho => State.shReg_setShReg_other s _ ho, fun h0 => absurd h0 h, fun _ => ?_⟩
    show off ∈ if s.cmd.writes.contains off then s.cmd.writes else s.cmd.writes ++ [off]
    split
    · next hc => simpa using hc
    · simp

theorem Reg.plainWrite_eq (s : State) {off : Nat} (v : Word) {r : RegRow} (hr : Reg.rowAt off = some r)
    (hp : Reg.present s.variant off = true) : let a := Reg.written s off v r
    let x := Reg.shadowWrite (s.setReg off a.w) off v
    Reg.plainWrite s off v = x.1.each (List.range (a.n + x.2)) fun t _ => Cmd.adjust t 0 off := by
  unfold Reg.plainWrite
  simp only [hr, hp, Bool.not_true, Bool.false_eq_true, if_false]
  rfl

/-- The words that count adjustments take none: nothing in them is written. -/
theorem Reg.written_of_count {s : State} {off : Nat} (v : Word) {r : RegRow} (ho : off = 0x040048 ∨ off = 0x04004C)
    (hr : Reg.rowAt off = some r) : Reg.written s off v r = ⟨s.reg off, 0, 0⟩ ∧ Reg.shMask s off = 0 := by
  have hrow : ∀ o ∈ [0x040048, 0x04004C], ∀ r ∈ Reg.rowAt o, r.rw = 0 ∧ r.rws = 0 ∧ r.w1c = 0 ∧ r.sh = 0 := by decide +kernel
  obtain ⟨h1, h2, h3, h4⟩ := hrow off (by simpa using ho) r hr
  have hm : Reg.liveMask s off r = 0 := by
    unfold Reg.liveMask
    rw [if_neg (by omega), if_neg (by omega), h1, h2]
    simp
  constructor
  · unfold Reg.written
    simp only [hm, h3, Nat.zero_and, if_true, BitVec.and_zero]
    rw [show s.reg off &&& ~~~0#32 = s.reg off from BitVec.and_allOnes]
  · unfold Reg.shMask
    rw [hr]
    simp [h4]

theorem Reg.plainWrite_of_count (s : State) {off : Nat} (v : Word) {r : RegRow} (ho : off = 0x040048 ∨ off = 0x04004C)
    (hr : Reg.rowAt off = some r) (hp : Reg.present s.variant off = true) : Reg.plainWrite s off v = s.setReg off (s.reg off) := by
  obtain ⟨hw, hsh⟩ := Reg.written_of_count (s := s) v ho hr
  have e := Reg.plainWrite_eq s v hr hp
  rw [hw] at e
  rw [e, Reg.shadowWrite_of_no_mask (s := s.setReg off (s.reg off)) v hsh]
  rfl

/-- What a plain write does (R15, R19, R247 to R249, R336). -/
theorem Reg.plainWrite_spec (s : State) {off : Nat} (v : Word) {r : RegRow} (hr : Reg.rowAt off = some r)
    (hp : Reg.present s.variant off = true) : let a := Reg.written s off v r
    let b := Reg.shadowed (s.setReg off a.w) off v
    let t := Reg.plainWrite s off v
    t = { s with regs := t.regs, shadow := t.shadow, cmd := t.cmd } ∧ t.reg off = a.w ∧ t.shReg off = b.w ∧
    t.fld Reg.CMD_ADJUSTED_COUNT_COUNT = min (s.fld Reg.CMD_ADJUSTED_COUNT_COUNT + a.n + b.n) Reg.CMD_ADJUSTED_COUNT_COUNT.max ∧
    (∀ o, o ≠ off → o ≠ 0x040048 → o ≠ 0x04004C → t.reg o = s.reg o) ∧ (∀ o, o ≠ off → t.shReg o = s.shReg o) ∧
    (Reg.shMask s off = 0 → t.cmd = s.cmd) ∧ (Reg.shMask s off ≠ 0 → off ∈ t.cmd.writes) := by
  by_cases ho : off = 0x040048 ∨ off = 0x04004C
  · obtain ⟨hw, hsh⟩ := Reg.written_of_count (s := s) v ho hr
    have hb : Reg.shadowed (s.setReg off (s.reg off)) off v = ⟨s.shReg off, 0, 0⟩ := if_pos hsh
    have hreg (o : Nat) : (s.setReg off (s.reg off)).reg o = s.reg o := by
      by_cases h : o = off
      · rw [h, State.reg_setReg_same]
      · exact State.reg_setReg_other s _ h
    rw [Reg.plainWrite_of_count s v ho hr hp, hw]
    dsimp only
    rw [hb]
    exact ⟨rfl, hreg off, rfl, (State.fld_congr _ (hreg _)).trans (Nat.min_eq_left (Fld.of_le_max _ _)).symm, fun o _ _ _ => hreg o,
      fun _ _ => rfl, fun _ => rfl, fun h => absurd hsh h⟩
  · intro a b t
    obtain ⟨xsame, xsh, xn, xother, xcmd, xwrites⟩ := Reg.shadowWrite_spec (s.setReg off a.w) off v
    obtain ⟨tsame, treg, tcnt⟩ := Cmd.adjust_each off (List.range (a.n + (Reg.shadowWrite (s.setReg off a.w) off v).2))
      (Reg.shadowWrite (s.setReg off a.w) off v).1
    rw [← show t = _ from Reg.plainWrite_eq s v hr hp] at tsame treg tcnt
    rw [List.length_range, xn] at tcnt
    generalize Reg.shadowWrite (s.setReg off a.w) off v = x at *
    have hx (o : Nat) : x.1.reg o = (s.setReg off a.w).reg o := State.reg_congr (by rw [xsame]) o
    have hc : x.1.fld Reg.CMD_ADJUSTED_COUNT_COUNT = s.fld Reg.CMD_ADJUSTED_COUNT_COUNT :=
      State.fld_congr _ ((hx _).trans (State.reg_setReg_other s _ fun h => ho (.inl h.symm)))
    have tsh : t.shadow = x.1.shadow := by rw [tsame]
    have tcmd : t.cmd = x.1.cmd := by rw [tsame]
    have tshReg (o : Nat) : t.shReg o = x.1.shReg o := by unfold State.shReg; rw [tsh]
    refine ⟨?_, ?_, (tshReg off).trans xsh, by rw [tcnt, hc, Nat.add_assoc], fun o h h1 h2 => ?_, fun o h => (tshReg o).trans (xother o h),
      fun h => tcmd.trans (xcmd h), fun h => tcmd ▸ xwrites h⟩
    · rw [tsame, xsame]
      rfl
    · rw [treg off (fun h => ho (.inl h)) fun h => ho (.inr h), hx, State.reg_setReg_same]
    · rw [treg o h1 h2, hx, State.reg_setReg_other s _ h]

/-- A plain write does not stop the block from serving the host. -/
theorem Reg.plainWrite_served (s : State) {off : Nat} (v : Word) (h : off ≠ 0x010000) : (Reg.plainWrite s off v).served = s.served := by
  cases hr : Reg.rowAt off with
  | none => simp [Reg.plainWrite, hr]
  | some r =>
    cases hp : Reg.present s.variant off with
    | false => simp [Reg.plainWrite, hr, hp]
    | true =>
      obtain ⟨hsame, -, -, -, hreg, -⟩ := Reg.plainWrite_spec s v hr hp
      exact State.served_congr (by rw [hsame]) (by rw [hsame]) (hreg _ (Ne.symm h) (by decide) (by decide))

/-! ### Words with a command of their own -/

/-- A served write of a whole word of a present unit. -/
theorem exec_registerWrite (s : State) (off : Nat) (v : Word) (hs : s.served = true) (hr : (Reg.rowAt off).isSome = true)
    (hp : Reg.present s.variant off = true) : exec (.registerWrite off v true) s =
      .next (Reg.hook (Reg.plainWrite s off (Reg.blend v (s.reg off) (Reg.own off))) off (s.reg off) v) := by
  have e : exec (.registerWrite off v true) s = .next (Reg.write s off v) :=
    congrArg Host.Outcome.next (State.bar_of_served hs (Bar.registerWrite off v true))
  rw [e]
  unfold Reg.write
  rw [if_neg]
  simp [Option.isSome_iff_ne_none.mp hr, hp]

/-- The word has bits that the write itself does not set. -/
def Reg.owned : List Nat := [0x040054, 0x040060, 0x050000, 0x060000, 0x0D0000]

theorem Reg.own_of_not_owned {off : Nat} (h : off ∉ Reg.owned) : Reg.own off = 0 := by
  simp only [Reg.owned, List.mem_cons, List.not_mem_nil, or_false, not_or] at h
  unfold Reg.own
  split <;> simp_all

theorem exec_registerWrite_not_owned (s : State) (off : Nat) (v : Word) (hs : s.served = true) (hr : (Reg.rowAt off).isSome = true)
    (hp : Reg.present s.variant off = true) (ho : off ∉ Reg.owned) :
    exec (.registerWrite off v true) s = .next (Reg.hook (Reg.plainWrite s off v) off (s.reg off) v) := by
  rw [exec_registerWrite s off v hs hr hp, Reg.own_of_not_owned ho, Reg.blend_zero]

/-- The words outside the vectors whose write is more than a plain one. -/
def Reg.commandWords : List Nat :=
  [0x000100, 0x000334, 0x010004, 0x040054, 0x040060, 0x050000, 0x050010, 0x050030, 0x060000, 0x090000, 0x0A0000, 0x0A3010, 0x0A3014,
    0x0B0000, 0x0B00B0, 0x0C0010, 0x0D0000, 0x0E0000, 0x0E0004, 0x0E0008]

/-- The word has no command of its own, and is no configuration of the collector: its write is a plain one. -/
structure Reg.Plain (off : Nat) : Prop where
  word : off ∉ Reg.commandWords
  raw : ¬ (0x030000 ≤ off ∧ off < 0x030040)
  map : ¬ (0x030100 ≤ off ∧ off < 0x030500)
  submit : ¬ (0x040000 ≤ off ∧ off < 0x040040)
  port : ¬ (0x060010 ≤ off ∧ off < 0x060040 ∧ off % 8 = 0)
  sap : ¬ (0x070000 ≤ off ∧ off < 0x070200 ∧ off % 32 = 0)
  aes : ¬ (0x080000 ≤ off ∧ off < 0x080100 ∧ off % 32 = 0)
  stall : ¬ (0x100000 ≤ off ∧ (off % 0x4000 = 0x108 ∨ off % 0x4000 = 0x110 ∨ off % 0x4000 = 0x120))
  config : Reg.configOf off = false

theorem Reg.Plain.ne {off : Nat} (h : Reg.Plain off) {o : Nat} (ho : o ∈ Reg.commandWords) : off ≠ o := fun e => h.word (e ▸ ho)

theorem Reg.stlHook_eq_self (s : State) {off : Nat} (v : Word) (h : ¬ (off % 0x4000 = 0x108 ∨ off % 0x4000 = 0x110 ∨ off % 0x4000 = 0x120)) :
    Reg.stlHook s off v = s := by
  unfold Reg.stlHook
  dsimp only
  split
  · omega
  · omega
  · omega
  · rfl

/-- The write of a plain word does nothing more. -/
theorem Reg.hook_eq_self (s : State) {off : Nat} (old v : Word) (h : Reg.Plain off) : Reg.hook s off old v = s := by
  have hport := h.port
  unfold Reg.hook
  split
  case h_1 => rw [if_neg (h.ne (by decide)), if_neg (h.ne (by decide))]
  case h_2 => exact if_neg (h.ne (by decide))
  case h_3 => simp [State.when, h.config]
  case h_4 =>
    have hraw := h.raw
    rw [if_neg (by omega), if_neg h.map]
  case h_5 =>
    have hsubmit := h.submit
    unfold Reg.cmdHook
    rw [if_neg (by omega), if_neg (h.ne (by decide)), if_neg (h.ne (by decide))]
  case h_6 =>
    unfold Reg.tkpHook
    rw [if_neg (h.ne (by decide)), if_neg (h.ne (by decide)), if_neg (h.ne (by decide))]
  case h_7 =>
    unfold Reg.nswHook
    rw [if_neg (h.ne (by decide)), if_neg (by omega), if_neg (by omega)]
  case h_8 =>
    have hsap := h.sap
    exact if_neg (by omega)
  case h_9 =>
    have haes := h.aes
    exact if_neg (by omega)
  case h_10 => exact if_neg (h.ne (by decide))
  case h_11 => rw [if_neg (h.ne (by decide)), if_neg (not_or.mpr ⟨h.ne (by decide), h.ne (by decide)⟩)]
  case h_12 =>
    unfold Reg.mtxHook
    rw [if_neg (h.ne (by decide)), if_neg (h.ne (by decide))]
  case h_13 => exact if_neg fun e => h.ne (by decide) e.1
  case h_14 => exact if_neg (h.ne (by decide))
  case h_15 => rw [if_neg (h.ne (by decide)), if_neg (h.ne (by decide)), if_neg (h.ne (by decide))]
  case h_16 =>
    have hstall := h.stall
    split
    · exact Reg.stlHook_eq_self s v (by omega)
    · rfl

theorem Reg.Plain.not_owned {off : Nat} (h : Reg.Plain off) : off ∉ Reg.owned := fun m =>
  h.word ((by decide : ∀ o ∈ Reg.owned, o ∈ Reg.commandWords) off m)

/-! ### Configuration of the collector -/

theorem Reg.findRow_mem {off : Nat} {r : RegRow} : ∀ {l : List RegRow}, Reg.findRow off l = some r → r ∈ l
  | [], h => by cases h
  | q :: l, h => by
    unfold Reg.findRow at h
    split at h
    · cases h; simp
    · exact List.mem_cons_of_mem q (Reg.findRow_mem h)

/-- The collector's registers have no shadow (Tables 16-12 to 16-15). -/
theorem Reg.shMask_of_config (s : State) {off : Nat} (h : Reg.configOf off = true) : Reg.shMask s off = 0 := by
  have hrows : ∀ r ∈ Reg.fcRows, r.sh = 0 := by decide
  have hb : off / 0x10000 = 2 := by
    simp only [Reg.configOf, Bool.and_eq_true, decide_eq_true_eq] at h
    omega
  unfold Reg.shMask
  split
  · next r hr =>
    have hr' : Reg.findRow off Reg.fcRows = some r := by
      rw [← hr]
      unfold Reg.rowAt Reg.blockRows
      rw [hb]
      rfl
    rw [hrows r (Reg.findRow_mem hr')]
    simp
  · rfl

/-- A plain write of a word without a shadow changes nothing but registers. -/
theorem Reg.plainWrite_regsOnly (s : State) {off : Nat} (v : Word) (h : Reg.shMask s off = 0) :
    State.RegsOnly s (Reg.plainWrite s off v) := by
  cases hr : Reg.rowAt off with
  | none => simp [Reg.plainWrite, hr, State.RegsOnly.refl]
  | some r =>
    cases hp : Reg.present s.variant off with
    | false => simp [Reg.plainWrite, hr, hp, State.RegsOnly.refl]
    | true =>
      rw [Reg.plainWrite_eq s v hr hp, Reg.shadowWrite_of_no_mask (s := s.setReg off (Reg.written s off v r).w) v h]
      exact (State.regsOnly_setReg s off _).trans (Cmd.adjust_each off _ _).1

/-- Setting a flag that fires an event: the flag, and what the event unit does with the event. -/
theorem State.setFire_spec (s : State) (f : Fld) (e : Nat) (hf : f.lo + f.wid ≤ 32) (hw : f.wid = 1) (h3 : f.off / 65536 ≠ 3)
    (hd : f.off ≠ 0x010114) : let t := s.setFire f e
    t = { s with regs := t.regs, evu := t.evu, out := t.out } ∧ t.flag f = true ∧ s.out <+: t.out ∧
    (∀ o, o / 65536 ≠ 3 → o ≠ f.off → (o = 0x010114 → s.canSend = true) → t.reg o = s.reg o) ∧
    (∀ g : Fld, g.off = f.off → g.lo + g.wid ≤ f.lo ∨ f.lo + f.wid ≤ g.lo → t.fld g = s.fld g) := by
  unfold State.setFire
  split
  · next h => exact ⟨rfl, h, List.prefix_refl _, fun _ _ _ _ => rfl, fun _ _ _ => rfl⟩
  · have h := Evu.within_fire (s.setFlag f true) e
    generalize (s.setFlag f true).fire e = t at h
    refine ⟨h.same, (h.flag f h3 hd).trans (State.flag_setFlag_same s f true hf hw), h.out, fun o ho hn hs => ?_, fun g hg ha => ?_⟩
    · have k : t.reg o = (s.setFlag f true).reg o := by
        by_cases hx : o = 0x010114
        · subst hx; exact h.disc (hs rfl)
        · exact h.regs o ho hx
      exact k.trans (State.reg_setFld_other s f _ hn)
    · exact (h.fld g (hg ▸ h3) (hg ▸ hd)).trans (State.fld_setFlag_apart s f g true hf (.inr ha))

/-- A change of the collector's configuration crosses as one word, and eight that come too fast leave STALE (R57, log 68). -/
theorem Fc.configured_spec (s : State) (hs : s.canSend = true) : let t := Fc.configured s
    t = { s with regs := t.regs, clk := t.clk, evu := t.evu, out := t.out, free := t.free } ∧
    (∀ o, o / 65536 ≠ 3 → o ≠ 0x0103A8 → t.reg o = s.reg o) ∧
    (s.clk.cfg < 7 ∨ Fc.aonLost s = true → t.evu = s.evu ∧ t.out = s.out ∧ t.regs = s.regs) ∧
    (t.flag (Reg.CLK_XFLAG_STALE_NOW 85) = true → s.flag (Reg.CLK_XFLAG_STALE_NOW 85) = false →
      t.flag (Reg.CLK_XFLAG_STALE 85) = true ∧ t.flag (Reg.CLK_XFLAG_OVERRUN 85) = s.flag (Reg.CLK_XFLAG_OVERRUN 85)) := by
  unfold Fc.configured
  extract_lets c s1 s2 t
  have hcfg : s1.clk.cfg = min 8 (s.clk.cfg + 1) := rfl
  by_cases hslow : s1.clk.cfg < 8 ∨ Fc.aonLost s = true
  · have ht : t = s1 := if_pos hslow
    rw [ht]
    exact ⟨rfl, fun _ _ _ => rfl, fun _ => ⟨rfl, rfl, rfl⟩, fun h h' => absurd (h.symm.trans h') (by decide)⟩
  · have hfast : ¬ (s.clk.cfg < 7 ∨ Fc.aonLost s = true) := fun h => hslow (h.imp_left fun h => by omega)
    have ht : t = if s1.freeBit = true then s2.setFire (Reg.CLK_XFLAG_STALE 85) 8 else s2 := if_neg hslow
    have same2 : s2 = { s with regs := s2.regs, clk := s2.clk, free := s2.free } := rfl
    have reg2 (o : Nat) (ho : o ≠ 0x0103A8) : s2.reg o = s.reg o := State.reg_setFld_other s1.drew _ _ ho
    have now2 : s2.flag (Reg.CLK_XFLAG_STALE_NOW 85) = s1.freeBit := State.flag_setFlag_same _ _ _ (by decide) rfl
    have over2 : s2.flag (Reg.CLK_XFLAG_OVERRUN 85) = s.flag (Reg.CLK_XFLAG_OVERRUN 85) :=
      State.flag_setFlag_apart s1.drew _ _ _ (by decide) (by decide)
    have send2 : s2.canSend = true := hs
    clear_value s2 t
    cases hb : s1.freeBit with
    | false =>
      rw [hb, if_neg Bool.false_ne_true] at ht
      rw [ht]
      exact ⟨same2.trans (by rw [same2]), fun o _ ho => reg2 o ho, fun h => absurd h hfast,
        fun h => absurd (h.symm.trans (now2.trans hb)) (by decide)⟩
    | true =>
      rw [hb, if_pos rfl] at ht
      obtain ⟨same3, stale3, -, reg3, fld3⟩ := State.setFire_spec s2 (Reg.CLK_XFLAG_STALE 85) 8 (by decide) rfl (by decide) (by decide)
      rw [← ht] at same3 stale3 reg3 fld3
      refine ⟨?_, fun o h3 ho => (reg3 o h3 ho fun _ => send2).trans (reg2 o ho), fun h => absurd h hfast, fun _ _ => ⟨stale3, ?_⟩⟩
      · rw [same3, same2]
      · rw [← over2]
        unfold State.flag
        rw [fld3 (Reg.CLK_XFLAG_OVERRUN 85) rfl (by decide)]

/-! ### The commands -/

/-- A served write of a plain word (R15, R19, R247 to R249, R336). -/
theorem exec_registerWrite_plain (s : State) (off : Nat) (v : Word) (r : RegRow) (hs : s.served = true) (hr : Reg.rowAt off = some r)
    (hp : Reg.present s.variant off = true) (h : Reg.Plain off) : exec (.registerWrite off v true) s = .next (Reg.plainWrite s off v) := by
  rw [exec_registerWrite_not_owned s off v hs (by simp [hr]) hp h.not_owned, Reg.hook_eq_self _ _ v h]

/-- A served write of a word of the collector's configuration: it crosses where it has changed (R57). -/
theorem exec_registerWrite_config (s : State) (off : Nat) (v : Word) (r : RegRow) (hs : s.served = true) (hr : Reg.rowAt off = some r)
    (hp : Reg.present s.variant off = true) (h : Reg.configOf off = true) : exec (.registerWrite off v true) s =
      .next (if (Reg.plainWrite s off v).reg off = s.reg off then Reg.plainWrite s off v else Fc.configured (Reg.plainWrite s off v)) := by
  have hb : 0x020400 ≤ off ∧ off < 0x022800 := by
    simpa only [Reg.configOf, Bool.and_eq_true, decide_eq_true_eq] using h
  have ho : off ∉ Reg.owned := fun m => by
    have : ∀ o ∈ Reg.owned, ¬ (0x020400 ≤ o ∧ o < 0x022800) := by decide
    exact this off m hb
  have hk : off / 0x10000 = 2 := by omega
  rw [exec_registerWrite_not_owned s off v hs (by simp [hr]) hp ho]
  unfold Reg.hook
  rw [hk]
  by_cases hc : (Reg.plainWrite s off v).reg off = s.reg off
  · simp [State.when, hc]
  · simp [State.when, hc, h]

theorem exec_registerWrite_config_spec (s : State) (off : Nat) (v : Word) (r : RegRow) (hs : s.served = true) (hr : Reg.rowAt off = some r)
    (hp : Reg.present s.variant off = true) (h : Reg.configOf off = true) : let a := Reg.written s off v r
    ∃ t, exec (.registerWrite off v true) s = .next t ∧
      t = { s with regs := t.regs, cmd := t.cmd, clk := t.clk, evu := t.evu, out := t.out, free := t.free } ∧ t.reg off = a.w ∧
      (∀ o, o ≠ off → o / 65536 ≠ 3 → o ∉ [0x0103A8, 0x040048, 0x04004C] → t.reg o = s.reg o) ∧
      (a.w = s.reg off ∨ s.clk.cfg < 7 ∨ Fc.aonLost s = true → t.evu = s.evu ∧ t.out = s.out ∧ t.reg 0x0103A8 = s.reg 0x0103A8) ∧
      (t.flag (Reg.CLK_XFLAG_STALE_NOW 85) = true → s.flag (Reg.CLK_XFLAG_STALE_NOW 85) = false →
        t.flag (Reg.CLK_XFLAG_STALE 85) = true ∧ t.flag (Reg.CLK_XFLAG_OVERRUN 85) = s.flag (Reg.CLK_XFLAG_OVERRUN 85)) := by
  intro a
  have hb : 0x020400 ≤ off ∧ off < 0x022800 := by
    simpa only [Reg.configOf, Bool.and_eq_true, decide_eq_true_eq] using h
  have e := exec_registerWrite_config s off v r hs hr hp h
  have psame := Reg.plainWrite_regsOnly s v (Reg.shMask_of_config s h)
  obtain ⟨-, pw, -, -, preg, -⟩ := Reg.plainWrite_spec s v hr hp
  generalize Reg.plainWrite s off v = p at *
  have pflag (f : Fld) (hf : f.off = 0x0103A8) : p.flag f = s.flag f :=
    State.flag_congr f (by rw [hf]; exact preg _ (by omega) (by decide) (by decide))
  by_cases hc : p.reg off = s.reg off
  · rw [if_pos hc] at e
    refine ⟨p, e, by rw [psame], pw, fun o ho _ hn => ?_, fun _ => ?_, fun h1 h0 => ?_⟩
    · simp only [List.mem_cons, List.not_mem_nil, or_false, not_or] at hn
      exact preg o ho hn.2.1 hn.2.2
    · exact ⟨by rw [psame], by rw [psame], preg _ (by omega) (by decide) (by decide)⟩
    · rw [pflag _ rfl, h0] at h1
      cases h1
  · rw [if_neg hc] at e
    obtain ⟨csame, creg, ccalm, cstale⟩ := Fc.configured_spec p (by rw [psame]; exact (State.canSend_of_served hs : s.canSend = true))
    generalize Fc.configured p = t at *
    refine ⟨t, e, ?_, (creg off (by omega) (by omega)).trans pw, fun o ho h3 hn => ?_, fun hcalm => ?_, ?_⟩
    · rw [csame, psame]
    · simp only [List.mem_cons, List.not_mem_nil, or_false, not_or] at hn
      exact (creg o h3 hn.1).trans (preg o ho hn.2.1 hn.2.2)
    · have hcalm' : p.clk.cfg < 7 ∨ Fc.aonLost p = true := by
        rw [psame]
        exact hcalm.resolve_left fun e => hc (pw.trans e)
      obtain ⟨cevu, cout, cregs⟩ := ccalm hcalm'
      refine ⟨by rw [cevu, psame], by rw [cout, psame], ?_⟩
      rw [State.reg_congr cregs]
      exact preg _ (by omega) (by decide) (by decide)
    · rw [← pflag _ rfl, ← pflag (Reg.CLK_XFLAG_OVERRUN 85) rfl]
      exact cstale

/-- A command that a served write brings, on the condition that a bit was written 1. -/
theorem State.next_when {t : State} (ht : t.served = true) (b : Bool) (f : State → State) :
    Host.Outcome.next (φ := Fault) (ρ := Refusal) (t.when b f) = if b then .next (t.bar f) else .next t := by
  rw [State.bar_of_served ht]
  unfold State.when
  split <;> rfl

/-- A served write of a word outside the vectors that has a command of its own. -/
theorem exec_registerWrite_command (s : State) (v : Word) (hs : s.served = true) {off : Nat}
    (ho : off ∈ [0x000100, 0x000334, 0x0B00B0, 0x0C0010, 0x0E0000, 0x0E0004]) :
    exec (.registerWrite off v true) s = .next (Reg.hook (Reg.plainWrite s off v) off (s.reg off) v) ∧ (Reg.plainWrite s off v).served = true := by
  have hrow : ∀ o ∈ [0x000100, 0x000334, 0x0B00B0, 0x0C0010, 0x0E0000, 0x0E0004],
      (Reg.rowAt o).isSome = true ∧ (∀ x, Reg.present x o = true) ∧ o ∉ Reg.owned ∧ o ≠ 0x010000 := by
    intro o ho
    refine ⟨?_, fun x => ?_, ?_⟩
    · revert o; decide +kernel
    · cases x <;> (revert o; decide +kernel)
    · revert o; decide +kernel
  obtain ⟨hr, hp, hown, hclk⟩ := hrow off ho
  exact ⟨exec_registerWrite_not_owned s off v hs hr (hp _) hown, (Reg.plainWrite_served s v hclk).trans hs⟩

theorem Reg.hook_stall (s : State) {off : Nat} (old v : Word) (h : 0x100000 ≤ off ∧ off < 0x1C0000) :
    Reg.hook s off old v = Reg.stlHook s off v := by
  unfold Reg.hook
  split
  case h_16 => exact if_pos h
  all_goals omega

/-- A served write of an error word of a stall that is present (R101, R102, R146). -/
theorem exec_registerWrite_stall (s : State) (v : Word) (n k : Nat) (hs : s.served = true) (hn : n < s.variant.stalls)
    (hk : k = 0x108 ∨ k = 0x110 ∨ k = 0x120) : exec (.registerWrite (0x100000 + k + 0x4000 * n) v true) s =
      .next (Reg.stlHook (Reg.plainWrite s (0x100000 + k + 0x4000 * n) v) (0x100000 + k + 0x4000 * n) v) ∧
    (Reg.plainWrite s (0x100000 + k + 0x4000 * n) v).served = true := by
  have h48 : n < 48 := Nat.lt_of_lt_of_le hn (by cases s.variant <;> decide)
  have hrow : ∀ k ∈ [0x108, 0x110, 0x120], ∀ n < 48, (Reg.rowAt (0x100000 + k + 0x4000 * n)).isSome = true := by decide +kernel
  have hr := hrow k (by simpa using hk) n h48
  have hp : Reg.present s.variant (0x100000 + k + 0x4000 * n) = true := by
    have hb : 0x10 ≤ (0x100000 + k + 0x4000 * n) / 0x10000 ∧ (0x100000 + k + 0x4000 * n) / 0x10000 < 0x1C := by omega
    have hi : (0x100000 + k + 0x4000 * n - 0x100000) / 0x4000 = n := by omega
    unfold Reg.present
    rw [if_pos hb, hi]
    simpa using hn
  have ho : 0x100000 + k + 0x4000 * n ∉ Reg.owned := fun m => by
    have : ∀ o ∈ Reg.owned, o < 0x100000 := by decide
    have := this _ m
    omega
  refine ⟨?_, (Reg.plainWrite_served s v (by omega)).trans hs⟩
  rw [exec_registerWrite_not_owned s _ v hs hr hp ho, Reg.hook_stall _ _ v (by omega)]

/-- The error words of a stall act as its commands. -/
theorem Reg.stlHook_eq (s : State) (v : Word) (n : Nat) :
    Reg.stlHook s (0x100108 + 0x4000 * n) v = s.when (v.toNat.testBit 31) (Bar.stlResidueValidClear n) ∧
    Reg.stlHook s (0x100110 + 0x4000 * n) v = s.when (v.toNat.testBit 7) (Bar.inject n) ∧
    Reg.stlHook s (0x100120 + 0x4000 * n) v = Bar.stlExcClear n (v.toNat.testBit 31) (v.toNat.testBit 24) s := by
  have hi (k : Nat) (hk : k < 0x4000) : (0x100000 + k + 0x4000 * n - 0x100000) / 0x4000 = n := by omega
  have hm (k : Nat) (hk : k < 0x4000) : (0x100000 + k + 0x4000 * n) % 0x4000 = k := by omega
  unfold Reg.stlHook
  refine ⟨?_, ?_, ?_⟩
  · simp only [hm 0x108 (by decide), hi 0x108 (by decide)]
  · simp only [hm 0x110 (by decide), hi 0x110 (by decide)]
  · simp only [hm 0x120 (by decide), hi 0x120 (by decide)]

/-- The words of RAW, EN and MAP, and of DRV_UNLATCH: the row, and which variants have it. -/
theorem Reg.eventWords : (∀ n < 16, (Reg.rowAt (0x030000 + 4 * n)).isSome = true) ∧ (∀ n < 256, (Reg.rowAt (0x030100 + 4 * n)).isSome = true) ∧
    ∀ n < 2, (Reg.rowAt (0x0A3010 + 4 * n)).isSome = true := by decide +kernel

theorem Reg.present_event (x : Variant) {off : Nat} (h : off / 0x10000 = 3) : Reg.present x off = true := by
  unfold Reg.present
  simp [h]

theorem Reg.present_unlatch (x : Variant) {n : Nat} (hn : n < 2) (hd : 0 < x.drvCh) : Reg.present x (0x0A3010 + 4 * n) = true := by
  have h : ∀ x ∈ [Variant.bd9648, .bd9632], ∀ n < 2, Reg.present x (0x0A3010 + 4 * n) = true := by decide +kernel
  cases x with
  | bd9648 => exact h _ (by simp) n hn
  | bd9632 => exact h _ (by simp) n hn
  | bd9616 => exact absurd hd (by decide)

/-- A served write of a word of RAW or EN, or of MAP, re-evaluates the vectors (R341, R342). -/
theorem exec_registerWrite_event (s : State) (off : Nat) (v : Word) (hs : s.served = true) (hr : (Reg.rowAt off).isSome = true)
    (h3 : off / 0x10000 = 3) (h : off < 0x030040 ∨ (0x030100 ≤ off ∧ off < 0x030500)) :
    exec (.registerWrite off v true) s = .next (Evu.eval (Reg.plainWrite s off v) (decide (off < 0x030040))) := by
  have ho : off ∉ Reg.owned := fun m => by
    have : ∀ o ∈ Reg.owned, o / 0x10000 ≠ 3 := by decide
    exact this _ m h3
  rw [exec_registerWrite_not_owned s off v hs hr (Reg.present_event _ h3) ho]
  unfold Reg.hook
  rw [h3]
  by_cases hlt : off < 0x030040
  · simp only [hlt, if_true, decide_true]
  · simp only [hlt, if_false, h.resolve_left hlt, and_self, if_true, decide_false]

/-- A served write of DRV_UNLATCH (R448). -/
theorem exec_registerWrite_unlatch (s : State) (v : Word) (n : Nat) (hs : s.served = true) (hn : n < 2) (hd : 0 < s.variant.drvCh) :
    exec (.registerWrite (0x0A3010 + 4 * n) v true) s = exec (.drvUnlatch n v) (Reg.plainWrite s (0x0A3010 + 4 * n) v) := by
  have ho : ∀ n < 2, 0x0A3010 + 4 * n ∉ Reg.owned := by decide
  have hs' : (Reg.plainWrite s (0x0A3010 + 4 * n) v).served = true := (Reg.plainWrite_served s v (by omega)).trans hs
  rw [exec_registerWrite_not_owned s _ v hs (Reg.eventWords.2.2 n hn) (Reg.present_unlatch _ hn hd) (ho n hn)]
  refine congrArg Host.Outcome.next (Eq.trans ?_ (State.bar_of_served hs' (Bar.drvUnlatch n v)).symm)
  unfold Reg.hook
  rw [show (0x0A3010 + 4 * n) / 0x10000 = 0xA by omega]
  show (if _ then _ else _) = _
  rw [if_neg (by omega), if_pos (by omega), show (0x0A3010 + 4 * n - 0x0A3010) / 4 = n by omega]

/-- Reserved space and absent units take no write, nor does a word with partial byte enables (R6, R317). -/
theorem exec_registerWrite_discarded (s : State) (off : Nat) (v : Word) : exec (.registerWrite off v false) s = .next s ∧
    (Reg.rowAt off = none ∨ Reg.present s.variant off = false → exec (.registerWrite off v true) s = .next s) := by
  have bar_self (f : State → State) (h : f s = s) : Host.Outcome.next (φ := Fault) (ρ := Refusal) (s.bar f) = .next s := by
    unfold State.bar State.when
    rw [h, ite_self]
  refine ⟨bar_self (Bar.registerWrite off v false) rfl, fun h => bar_self (Bar.registerWrite off v true) ?_⟩
  show Reg.write s off v = s
  unfold Reg.write
  rw [if_pos]
  rcases h with h | h
  · simp [h]
  · simp [h]

/-- The words of the blocks outside the stalls whose write is a command of its own. -/
theorem exec_registerWrite_block (s : State) (v : Word) (hs : s.served = true) :
    let w (off : Nat) := exec (.registerWrite off v true) s
    let plain (off : Nat) := Reg.plainWrite s off v
    w 0x000100 = (if Fld.on Reg.TOP_MEM_STAT_UE v then exec .topMemStatUeClear (plain 0x000100) else .next (plain 0x000100)) ∧
    w 0x000334 = (if Fld.on Reg.TOP_TACK_STAT_UE v then exec .topTackStatUeClear (plain 0x000334) else .next (plain 0x000334)) ∧
    w 0x0B00B0 = (if Fld.on Reg.MTX_ERR_VALID v then exec .mtxErrClear (plain 0x0B00B0) else .next (plain 0x0B00B0)) ∧
    w 0x0C0010 = (if Fld.on Reg.GRAPH_METER_CTL_PH_CLR v then exec .phClr (plain 0x0C0010) else .next (plain 0x0C0010)) ∧
    w 0x0E0000 = (if Fld.on Reg.PWR_CTL_WARM v then exec .warm (plain 0x0E0000) else .next (plain 0x0E0000)) ∧
    w 0x0E0004 = exec (.pwrBlkrst v) (plain 0x0E0004) := by
  have h (off : Nat) (ho : off ∈ [0x000100, 0x000334, 0x0B00B0, 0x0C0010, 0x0E0000, 0x0E0004]) :=
    exec_registerWrite_command s v hs ho
  obtain ⟨e1, s1⟩ := h 0x000100 (by decide)
  obtain ⟨e2, s2⟩ := h 0x000334 (by decide)
  obtain ⟨e3, s3⟩ := h 0x0B00B0 (by decide)
  obtain ⟨e4, s4⟩ := h 0x0C0010 (by decide)
  obtain ⟨e5, s5⟩ := h 0x0E0000 (by decide)
  obtain ⟨e6, s6⟩ := h 0x0E0004 (by decide)
  refine ⟨e1.trans (State.next_when s1 _ Bar.topMemStatUeClear), e2.trans (State.next_when s2 _ Bar.topTackStatUeClear),
    e3.trans (State.next_when s3 _ Bar.mtxErrClear), e4.trans (Eq.trans ?_ (State.next_when s4 _ Bar.phClr)),
    e5.trans (State.next_when s5 _ Bar.warm),
    e6.trans (congrArg Host.Outcome.next (State.bar_of_served s6 (Bar.pwrBlkrst v)).symm)⟩
  show Host.Outcome.next (if _ ∧ _ then _ else _) = Host.Outcome.next (if _ then _ else _)
  simp only [true_and]

/-- The error words of a stall, whose writes are its commands. -/
theorem exec_registerWrite_stallCommands (s : State) (v : Word) (n : Nat) (hs : s.served = true) (hn : n < s.variant.stalls) :
    let w (off : Nat) := exec (.registerWrite off v true) s
    let plain (off : Nat) := Reg.plainWrite s off v
    let on (i : Nat) := v.toNat.testBit i
    w (0x100108 + 0x4000 * n) = (if on 31 then exec (.stlResidueValidClear n) (plain (0x100108 + 0x4000 * n))
      else .next (plain (0x100108 + 0x4000 * n))) ∧
    w (0x100110 + 0x4000 * n) = (if on 7 then exec (.inject n) (plain (0x100110 + 0x4000 * n)) else .next (plain (0x100110 + 0x4000 * n))) ∧
    w (0x100120 + 0x4000 * n) = exec (.stlExcClear n (on 31) (on 24)) (plain (0x100120 + 0x4000 * n)) := by
  intro w plain on
  obtain ⟨e1, s1⟩ := exec_registerWrite_stall s v n 0x108 hs hn (by decide)
  obtain ⟨e2, s2⟩ := exec_registerWrite_stall s v n 0x110 hs hn (by decide)
  obtain ⟨e3, s3⟩ := exec_registerWrite_stall s v n 0x120 hs hn (by decide)
  rw [(Reg.stlHook_eq _ v n).1] at e1
  rw [(Reg.stlHook_eq _ v n).2.1] at e2
  rw [(Reg.stlHook_eq _ v n).2.2] at e3
  exact ⟨e1.trans (State.next_when s1 _ (Bar.stlResidueValidClear n)), e2.trans (State.next_when s2 _ (Bar.inject n)),
    e3.trans (congrArg Host.Outcome.next (State.bar_of_served s3 (Bar.stlExcClear n (on 31) (on 24))).symm)⟩

/-- Settles O40: a write is its plain part (`Reg.plainWrite_spec`), then what the word's hook does with it. -/
theorem registerWritesFollowTheAccess : Obligations.RegisterWritesFollowTheAccess := by
  unfold Obligations.RegisterWritesFollowTheAccess
  refine ⟨fun s off v whole hs => congrArg Host.Outcome.next (State.bar_of_not_served hs _), exec_registerWrite_discarded,
    fun s off v r hs hr hp hw hraw hmap hsub hport hsap haes hstl hc => ?_, exec_registerWrite_config_spec,
    fun s v n hs hn => ?_, fun s v n hs => ⟨fun hn => ⟨?_, ?_⟩, fun hn => ?_, exec_registerWrite_unlatch s v n hs⟩⟩
  · have hplain : Reg.Plain off := ⟨hw, hraw, hmap, hsub, hport, hsap, haes, hstl, hc⟩
    exact ⟨_, exec_registerWrite_plain s off v r hs hr hp hplain, Reg.plainWrite_spec s v hr hp⟩
  · obtain ⟨h1, h2, h3, h4, h5, h6⟩ := exec_registerWrite_block s v hs
    exact ⟨h1, h2, h3, h4, h5, h6, exec_registerWrite_stallCommands s v n hs hn⟩
  · have e := exec_registerWrite_event s (0x030000 + 4 * n) v hs (Reg.eventWords.1 n (by omega)) (by omega) (.inl (by omega))
    rw [decide_eq_true (by omega)] at e
    exact e.trans (congrArg Host.Outcome.next (State.bar_of_served hs (Bar.evuRawWrite n v)).symm)
  · have e := exec_registerWrite_event s (0x030000 + 4 * (8 + n)) v hs (Reg.eventWords.1 (8 + n) (by omega)) (by omega) (.inl (by omega))
    rw [decide_eq_true (by omega), show 0x030000 + 4 * (8 + n) = 0x030020 + 4 * n by omega] at e
    exact e.trans (congrArg Host.Outcome.next (State.bar_of_served hs (Bar.evuEnWrite n v)).symm)
  · have e := exec_registerWrite_event s (0x030100 + 4 * n) v hs (Reg.eventWords.2.1 n hn) (by omega) (.inr (by omega))
    rw [decide_eq_false (by omega)] at e
    exact e.trans (congrArg Host.Outcome.next (State.bar_of_served hs (Bar.evuMapWrite n v)).symm)

end Sys2Proof.Machine

/-! Transactions of the bus matrix (07_bus_matrix.md R218 to R238). -/
namespace Sys2Proof.Machine

/-! ### Answers to the host -/

/-- From `s` to `t` only what is offered to the host changes: it has gone out, or crossing 2 counts it as discarded (R63). -/
structure State.Answers (s t : State) : Prop where
  same : t = { s with regs := t.regs, out := t.out }
  regs : ∀ off, off ≠ 0x010114 → t.reg off = s.reg off
  kept : State.keptBut [Reg.CLK_XDISC_DISCARD 2] s t
  out : s.out <+: t.out

theorem State.Answers.refl (s : State) : State.Answers s s :=
  ⟨rfl, fun _ _ => rfl, State.keptBut_refl _ s, List.prefix_refl _⟩

theorem State.Answers.trans {s t u : State} (h : State.Answers s t) (k : State.Answers t u) : State.Answers s u := by
  refine ⟨?_, fun o ho => (k.regs o ho).trans (h.regs o ho), State.keptBut_trans h.kept k.kept, h.out.trans k.out⟩
  have e := k.same
  rw [h.same] at e
  exact e

theorem State.answers_send (s : State) (e : Emit) : State.Answers s (s.send e) :=
  ⟨rfl, fun _ _ => rfl, State.keptBut_refl _ s, List.prefix_append _ _⟩

theorem State.answers_hostOut (s : State) (e : Emit) : State.Answers s (s.hostOut e) := by
  unfold State.hostOut
  split
  · exact State.answers_send s e
  · split
    · exact ⟨rfl, fun o ho => State.reg_setFld_other s _ _ ho,
        State.keptBut_incCnt _ (by decide) (by simp) (State.keptBut_refl _ s), List.prefix_refl _⟩
    · exact State.Answers.refl s

theorem State.answers_each {α : Type} (l : List α) (f : State → α → State) (hf : ∀ t x, State.Answers t (f t x)) :
    ∀ s : State, State.Answers s (s.each l f) := by
  induction l with
  | nil => exact State.Answers.refl
  | cons x l ih => exact fun s => (hf s x).trans (ih (f s x))

/-- The response of a transaction goes out (R234). -/
theorem Mtx.respond_spec (s : State) (m : Nat) (write : Bool) (code : MtxResp) (ws : List (Nat × Word)) :
    State.Answers s (Mtx.respond s m write code ws) ∧ .response m write code ws ∈ (Mtx.respond s m write code ws).out := by
  have h : State.Answers (s.send (.response m write code ws)) (Mtx.respond s m write code ws) := by
    unfold Mtx.respond State.when
    split
    · exact State.answers_each ws _ (fun t x => State.answers_hostOut t _) _
    · exact State.Answers.refl _
  exact ⟨(State.answers_send s _).trans h, h.out.subset (by simp)⟩

/-! ### The queue -/

theorem Mtx.enqueue_queued (s : State) (r : MtxReq) (waited : Nat) : Mtx.queued r waited s (Mtx.enqueue s r waited) := by
  refine ⟨rfl, ?_⟩
  show _ ∈ if (s.mtx.queue.any fun x => x.req == r) = true then _ else _
  split
  · next h =>
    simp only [List.any_eq_true, beq_iff_eq] at h
    obtain ⟨x, hx, rfl⟩ := h
    exact List.mem_map.mpr ⟨x, hx, if_pos rfl⟩
  · simp

theorem Mtx.not_mem_dequeue (s : State) (r : MtxReq) : ∀ q ∈ (Mtx.dequeue s r).mtx.queue, q.req ≠ r := by
  intro q hq
  have := (List.mem_filter.mp hq).2
  simpa using this

/-! ### Addresses -/

theorem Mtx.target_lt (a : Nat) : Mtx.target a < 32 := by
  unfold Mtx.target
  iterate 12 refine iteInduction (motive := (· < 32)) (fun _ => by omega) fun _ => ?_
  decide

/-- The addresses of the hayloft, the barn stores and the local memories (Table 07-2). -/
theorem Mtx.target_memory (a : Nat) : Mtx.target a ≤ 13 ∧ Mtx.inProg a = false ↔ a < 0x8C00000 ∨ (0xA000000 ≤ a ∧ a < 0xAC00000) := by
  unfold Mtx.target Mtx.inProg
  rw [Bool.and_eq_false_iff, decide_eq_false_iff_not, decide_eq_false_iff_not]
  iterate 12 refine iteInduction (motive := fun t => t ≤ 13 ∧ _ ↔ _) (fun _ => by omega) fun _ => ?_
  omega

/-! ### Memory without error marks -/

/-- From `s` to `t` only the bytes of memory, its error marks and the record of the frame's stores change. -/
def Mem.CellsOnly (s t : State) : Prop :=
  t = { s with mem := { s.mem with bytes := t.mem.bytes, err := t.mem.err, shared := t.mem.shared } }

theorem Mem.CellsOnly.refl (s : State) : Mem.CellsOnly s s := rfl

theorem Mem.CellsOnly.trans {s t u : State} (h : Mem.CellsOnly s t) (k : Mem.CellsOnly t u) : Mem.CellsOnly s u := by
  unfold Mem.CellsOnly at h k ⊢
  rw [h] at k
  exact k

theorem Mem.err_setErr_same (s : State) (w m : Nat) : Mem.err (Mem.setErr s w m) w = m := Sparse.get_put_same s.mem.err w 0 m

theorem Mem.err_setErr_other (s : State) {v w : Nat} (m : Nat) (h : v ≠ w) : Mem.err (Mem.setErr s w m) v = Mem.err s v :=
  Sparse.get_put_other s.mem.err w v 0 0 m h

/-- The check bits of a word without an error: it stays without, and so does every other such word (R579). -/
theorem Mem.merge_clean (src : Nat) (as : List Nat) (s : State) {w : Nat} (h : Mem.err s w = 0) :
    Mem.CellsOnly s (Mem.merge src as s w) ∧ (Mem.merge src as s w).mem.bytes = s.mem.bytes ∧
    ∀ v, Mem.err s v = 0 → Mem.err (Mem.merge src as s w) v = 0 := by
  unfold Mem.merge
  split
  · refine ⟨rfl, rfl, fun v hv => ?_⟩
    by_cases e : v = w
    · rw [e, Mem.err_setErr_same]
    · rw [Mem.err_setErr_other s 0 e, hv]
  · rw [h]
    exact ⟨rfl, rfl, fun _ hv => hv⟩

theorem Mem.merge_each_clean (src : Nat) (as ws : List Nat) : ∀ s : State, (∀ w ∈ ws, Mem.err s w = 0) →
    Mem.CellsOnly s (s.each ws (Mem.merge src as)) ∧ (s.each ws (Mem.merge src as)).mem.bytes = s.mem.bytes := by
  induction ws with
  | nil => exact fun s _ => ⟨rfl, rfl⟩
  | cons w ws ih =>
    intro s h
    obtain ⟨hsame, hbytes, herr⟩ := Mem.merge_clean src as s (h w (by simp))
    obtain ⟨isame, ibytes⟩ := ih (Mem.merge src as s w) fun v hv => herr v (h v (by simp [hv]))
    exact ⟨hsame.trans isame, ibytes.trans hbytes⟩

/-- Bytes written one after the other: each address holds the last byte written to it. -/
theorem State.setByte_each (cells : List (Nat × Byte)) : ∀ s : State, let t := s.each cells fun t c => t.setByte c.1 c.2
    Mem.CellsOnly s t ∧ ∀ x, t.byte x = Mem.lastByte cells x (s.byte x) := by
  induction cells with
  | nil => exact fun s => ⟨rfl, fun _ => rfl⟩
  | cons c cells ih =>
    intro s
    obtain ⟨isame, ibyte⟩ := ih (s.setByte c.1 c.2)
    refine ⟨Mem.CellsOnly.trans (t := s.setByte c.1 c.2) rfl isame, fun x => (ibyte x).trans ?_⟩
    show Mem.lastByte cells x _ = Mem.lastByte cells x (if c.1 = x then c.2 else s.byte x)
    split
    · next e => rw [← e, State.byte_setByte_same]
    · next e => rw [State.byte_setByte_other s c.2 (Ne.symm e)]

theorem Mem.mem_wordsOf {as : List Nat} {w : Nat} : w ∈ Mem.wordsOf as ↔ ∃ a ∈ as, Mem.wordOf a = w := by
  unfold Mem.wordsOf
  rw [List.mem_eraseDups, List.mem_map]

/-- A write of bytes into words without an error (R579). -/
theorem Mem.write_clean (s : State) (src : Nat) (cells : List (Nat × Byte)) (h : ∀ c ∈ cells, Mem.err s (Mem.wordOf c.1) = 0) :
    Mem.CellsOnly s (Mem.write s src cells) ∧ ∀ x, (Mem.write s src cells).byte x = Mem.lastByte cells x (s.byte x) := by
  unfold Mem.write
  split
  · next he =>
    rw [List.isEmpty_iff.mp he]
    exact ⟨rfl, fun _ => rfl⟩
  · have hw : ∀ w ∈ Mem.wordsOf (cells.map fun c => c.1), Mem.err s w = 0 := by
      intro w hw
      obtain ⟨a, ha, rfl⟩ := Mem.mem_wordsOf.mp hw
      obtain ⟨c, hc, rfl⟩ := List.mem_map.mp ha
      exact h c hc
    obtain ⟨msame, mbytes⟩ := Mem.merge_each_clean src (cells.map fun c => c.1) _ s hw
    dsimp only
    generalize s.each _ _ = m at *
    obtain ⟨bsame, bbyte⟩ := State.setByte_each cells m
    have hm (x : Nat) : m.byte x = s.byte x := by unfold State.byte; rw [mbytes]
    refine ⟨Mem.CellsOnly.trans (t := m.each cells fun t c => t.setByte c.1 c.2) (msame.trans bsame) rfl, fun x => ?_⟩
    rw [← hm]
    exact bbyte x

/-- A read that meets no word with an error changes nothing. -/
theorem Mem.readNote_clean (s : State) (src : Nat) (as : List Nat) (h : ∀ a ∈ as, Mem.err s (Mem.wordOf a) = 0) : Mem.readNote s src as = s := by
  have meet (ws : List Nat) (hw : ∀ w ∈ ws, Mem.err s w = 0) : s.each ws (Mem.meet src) = s := by
    induction ws with
    | nil => rfl
    | cons w ws ih =>
      have e : Mem.meet src s w = s := by
        unfold Mem.meet
        rw [hw w (by simp)]
        rfl
      show State.each (Mem.meet src s w) ws _ = s
      rw [e]
      exact ih fun v hv => hw v (by simp [hv])
  refine meet _ fun w hw => ?_
  obtain ⟨a, ha, rfl⟩ := Mem.mem_wordsOf.mp hw
  exact h a ha

/-! ### What a plain transaction does -/

/-- The bytes of a 32-bit word lie in one SEC-DED word (R185, R188, R191). -/
theorem Mem.wordOf_word (a : Nat) {i : Nat} (hi : i < 4) : Mem.wordOf (a / 4 * 4 + i) = Mem.wordOf a := by
  unfold Mem.wordOf Mem.wordSize
  by_cases h : 0xA000000 ≤ a
  · rw [if_pos h, if_pos (by omega)]
    omega
  · rw [if_neg h, if_neg (by omega)]
    omega

/-- A read of a word of memory without an error returns its bytes. -/
theorem Mtx.word_plain (s : State) {a : Nat} (ht : Mtx.target a ≤ 13) (hp : Mtx.inProg a = false) (he : Mem.err s (Mem.wordOf a) = 0) :
    Mtx.word s (a / 4 * 4) = (s, BitVec.ofNat 32 (Arith.ofBytes (s.bytesAt (a / 4 * 4) 4))) := by
  have hm := (Mtx.target_memory a).mp ⟨ht, hp⟩
  obtain ⟨ht', hp'⟩ := (Mtx.target_memory (a / 4 * 4)).mpr (by omega)
  have hu : Mtx.unlaid (a / 4 * 4) = false := by
    unfold Mtx.unlaid
    rw [Bool.or_eq_false_iff, Bool.and_eq_false_iff, Bool.and_eq_false_iff]
    simp only [decide_eq_false_iff_not]
    omega
  have hb : ((List.range 4).map fun i => Mem.clean s (a / 4 * 4 + i)) = s.bytesAt (a / 4 * 4) 4 := by
    refine List.map_congr_left fun i hi => ?_
    unfold Mem.clean
    rw [Mem.wordOf_word a (List.mem_range.mp hi), he]
    rfl
  unfold Mtx.word
  split
  · omega
  · omega
  · rw [if_neg (by simp [hp']), if_neg (by simp [hu]), hb]

/-- A read of a plain request returns the words as they are, and changes nothing. -/
theorem Mtx.data_plain (s : State) (r : MtxReq) (h : Mtx.plain s r) : Mtx.data s r.cells = (s, Mtx.shown s r) := by
  have fold (ws : List Nat) (hw : ∀ a ∈ ws, Mtx.word s a = (s, BitVec.ofNat 32 (Arith.ofBytes (s.bytesAt a 4)))) :
      ∀ acc : List (Nat × Word), ws.foldl (fun p a => ((Mtx.word p.1 a).1, p.2 ++ [(a, (Mtx.word p.1 a).2)])) (s, acc) =
        (s, acc ++ ws.map fun a => (a, BitVec.ofNat 32 (Arith.ofBytes (s.bytesAt a 4)))) := by
    induction ws with
    | nil => simp
    | cons a ws ih =>
      intro acc
      rw [List.foldl_cons, hw a (by simp), ih (fun b hb => hw b (by simp [hb]))]
      simp
  refine (fold (Mtx.words r.cells) (fun a ha => ?_) []).trans (by rw [List.nil_append]; rfl)
  unfold Mtx.words at ha
  rw [List.mem_eraseDups, List.mem_map] at ha
  obtain ⟨c, hc, rfl⟩ := ha
  obtain ⟨ht, hp, he⟩ := h c hc
  exact Mtx.word_plain s ht hp he

/-- What a plain transaction leaves as it was beside what `Mtx.effected` says: everything but memory and the counter of discarded writes. -/
structure Mtx.Plainly (s t : State) : Prop where
  same : t = { s with regs := t.regs, mem := { s.mem with bytes := t.mem.bytes, err := t.mem.err, shared := t.mem.shared } }
  regs : ∀ off, off ≠ 0x000100 → t.reg off = s.reg off

theorem Mtx.Plainly.refl (s : State) : Mtx.Plainly s s := ⟨rfl, fun _ _ => rfl⟩

theorem Mtx.Plainly.of_cellsOnly {s t : State} (h : Mem.CellsOnly s t) : Mtx.Plainly s t := by
  refine ⟨?_, fun o _ => State.reg_congr (by rw [h]) o⟩
  unfold Mem.CellsOnly at h
  rw [h]

/-- The words that the answer to a plain request carries. -/
def Mtx.answer (s : State) (r : MtxReq) : List (Nat × Word) := if r.write then [] else Mtx.shown s r

theorem Mtx.effect_read (s : State) (r : MtxReq) (hc : r.cells ≠ []) (h : Mtx.plain s r) (hw : r.write = false) :
    Mtx.effect s r = (s, Mtx.shown s r) := by
  obtain ⟨c, l, hcl⟩ := List.exists_cons_of_ne_nil hc
  obtain ⟨ht, hp, -⟩ := h c (by simp [hcl])
  have hr : Mtx.read s r.cells (r.cells.headD (0, 0)).1 = s := by
    rw [show (r.cells.headD (0, 0)).1 = c.1 by rw [hcl]; rfl]
    unfold Mtx.read
    rw [if_neg (by simp [hp]; omega)]
    refine Mem.readNote_clean s 2 _ fun a hm => ?_
    obtain ⟨d, hd, rfl⟩ := List.mem_map.mp hm
    exact (h d hd).2.2
  unfold Mtx.effect
  rw [hw, if_neg Bool.false_ne_true, Mtx.data_plain s r h]
  dsimp only
  rw [hr]

theorem Mtx.effect_write (s : State) (r : MtxReq) (hc : r.cells ≠ []) (h : Mtx.plain s r) (hw : r.write = true) :
    Mtx.effect s r = (if r.master = 8 then Hst.writeMem s r.cells else Mem.write s 2 r.cells, []) := by
  obtain ⟨c, l, hcl⟩ := List.exists_cons_of_ne_nil hc
  obtain ⟨ht, hp, -⟩ := h c (by simp [hcl])
  unfold Mtx.effect
  rw [hw, if_pos rfl, show (r.cells.headD (0, 0)).1 = c.1 by rw [hcl]; rfl]
  unfold Mtx.write
  split
  · omega
  · omega
  · omega
  · rw [if_neg (by simp [hp])]

/-- A plain transaction takes effect at its target. -/
theorem Mtx.effect_plain (s : State) (r : MtxReq) (hc : r.cells ≠ []) (h : Mtx.plain s r) :
    (Mtx.effect s r).2 = Mtx.answer s r ∧ Mtx.Plainly s (Mtx.effect s r).1 ∧ Mtx.effected s r (Mtx.effect s r).1 := by
  cases hw : r.write with
  | false =>
    rw [Mtx.effect_read s r hc h hw]
    refine ⟨by simp [Mtx.answer, hw], Mtx.Plainly.refl s, rfl, fun _ => rfl, fun e => ?_, fun e => ?_⟩ <;> simp [hw] at e
  | true =>
    obtain ⟨wsame, wbyte⟩ := Mem.write_clean s 2 r.cells fun c hc => (h c hc).2.2
    rw [Mtx.effect_write s r hc h hw]
    refine ⟨by simp [Mtx.answer, hw], ?_⟩
    dsimp only
    by_cases hd : r.master = 8 ∧ s.running = true
    · have e : (if r.master = 8 then Hst.writeMem s r.cells else Mem.write s 2 r.cells) = s.incCnt Reg.TOP_MEM_STAT_HOST_WR_DISC := by
        unfold Hst.writeMem
        rw [if_pos hd.1, if_pos hd.2]
      rw [e]
      refine ⟨⟨rfl, fun o ho => State.reg_setFld_other s _ _ ho⟩, rfl, fun _ => rfl, fun _ hn => ?_, fun _ _ _ => rfl⟩
      exact absurd hd.2 (by simpa [hd.1] using hn)
    · have e : (if r.master = 8 then Hst.writeMem s r.cells else Mem.write s 2 r.cells) = Mem.write s 2 r.cells := by
        unfold Hst.writeMem
        split
        · next h8 => exact if_neg fun hr => hd ⟨h8, hr⟩
        · rfl
      rw [e]
      refine ⟨Mtx.Plainly.of_cellsOnly wsame, ?_, fun e => by simp [hw] at e, fun _ _ => wbyte, fun _ h8 hr => absurd ⟨h8, hr⟩ hd⟩
      rw [wsame]

/-! ### States that a transaction cannot tell apart -/

/-- The two states agree in memory, stalls and whether boundaries are struck. -/
structure Mtx.Alike (s t : State) : Prop where
  mem : t.mem = s.mem
  stalls : t.stalls = s.stalls
  running : t.running = s.running

theorem Mtx.Alike.byte {s t : State} (h : Mtx.Alike s t) (a : Nat) : t.byte a = s.byte a := by unfold State.byte; rw [h.mem]

theorem Mtx.Alike.plain {s t : State} (h : Mtx.Alike s t) {r : MtxReq} (hp : Mtx.plain s r) : Mtx.plain t r := by
  unfold Mtx.plain Mem.err at hp ⊢
  rw [h.mem]
  exact hp

theorem Mtx.Alike.answer {s t : State} (h : Mtx.Alike s t) (r : MtxReq) : Mtx.answer t r = Mtx.answer s r := by
  unfold Mtx.answer Mtx.shown State.bytesAt State.byte
  rw [h.mem]

theorem Mtx.Alike.effected {s s' t : State} (h : Mtx.Alike s s') {r : MtxReq} (e : Mtx.effected s' r t) : Mtx.effected s r t := by
  obtain ⟨hst, hread, hwrite, hdisc⟩ := e
  refine ⟨hst.trans h.stalls, fun hw => (hread hw).trans h.mem, fun hw hr x => ?_, fun hw h8 hr => ?_⟩
  · rw [← h.byte]
    exact hwrite hw (by rw [h.running]; exact hr) x
  · exact (hdisc hw h8 (by rw [h.running]; exact hr)).trans h.mem

theorem Mtx.effected_of_same {s t t' : State} {r : MtxReq} (hm : t'.mem = t.mem) (hs : t'.stalls = t.stalls) (e : Mtx.effected s r t) :
    Mtx.effected s r t' := by
  obtain ⟨hst, hread, hwrite, hdisc⟩ := e
  refine ⟨hs.trans hst, fun hw => hm.trans (hread hw), fun hw hr x => ?_, fun hw h8 hr => hm.trans (hdisc hw h8 hr)⟩
  rw [← hwrite hw hr x]
  unfold State.byte
  rw [hm]

theorem Mtx.alike_setFld (s : State) (f : Fld) (v : Nat) (h : f.off ≠ 0x000020) : Mtx.Alike s (s.setFld f v) :=
  ⟨rfl, rfl, State.flag_congr _ (State.reg_setFld_other s f v h.symm)⟩

/-! ### A transaction takes effect and is answered -/

/-- Everything of a plain transaction's state but the matrix's own record and the memory: the registers but two counters. -/
structure Mtx.Kept (s t : State) : Prop where
  regs : ∀ off, off ≠ 0x000100 → off ≠ 0x010114 → t.reg off = s.reg off
  adds : t.mem.adds = s.mem.adds

theorem Mtx.apply_spec (s : State) (x : MtxTx) (hc : x.req.cells ≠ []) (h : Mtx.plain s x.req) :
    (Mtx.apply s x).2 = Mtx.answer s x.req ∧ Mtx.effected s x.req (Mtx.apply s x).1 ∧ Mtx.Kept s (Mtx.apply s x).1 ∧
    (Mtx.apply s x).1.mtx = { s.mtx with applied := Sparse.put s.mtx.applied (Mtx.key x.req.master x.point) 0 (x.seq + 1) } := by
  obtain ⟨hans, hplain, heff⟩ := Mtx.effect_plain s x.req hc h
  have hm : (Mtx.effect s x.req).1.mtx = s.mtx := by rw [hplain.same]
  have ha : (Mtx.effect s x.req).1.mem.adds = s.mem.adds := by rw [hplain.same]
  unfold Mtx.apply
  generalize Mtx.effect s x.req = p at *
  refine ⟨hans, Mtx.effected_of_same rfl rfl heff, ⟨fun o ho _ => hplain.regs o ho, ha⟩, ?_⟩
  unfold Mtx.note
  dsimp only
  rw [hm]

theorem Mtx.code_plain (s : State) (r : MtxReq) (h : Mtx.plain s r) : Mtx.code s r = .ok := by
  have hn : (r.cells.any fun c => Mem.err s (Mem.wordOf c.1) == 2) = false := by
    rw [List.any_eq_false]
    intro c hc
    rw [(h c hc).2.2]
    decide
  unfold Mtx.code
  simp only [hn, Bool.and_false, Bool.false_eq_true, if_false]

/-- A plain transaction on its way is served and answered (R234). -/
theorem Mtx.serve_spec (s : State) (x : MtxTx) (hc : x.req.cells ≠ []) (h : Mtx.plain s x.req) :
    Mtx.effected s x.req (Mtx.serve s x) ∧ Mtx.Kept s (Mtx.serve s x) ∧
    (Mtx.serve s x).mtx = { s.mtx with unanswered := s.mtx.unanswered.filter fun y => y ≠ x,
                                        applied := Sparse.put s.mtx.applied (Mtx.key x.req.master x.point) 0 (x.seq + 1) } ∧
    .response x.req.master x.req.write .ok (Mtx.answer s x.req) ∈ (Mtx.serve s x).out := by
  have alike : Mtx.Alike s { s with mtx := { s.mtx with unanswered := s.mtx.unanswered.filter fun y => y ≠ x } } := ⟨rfl, rfl, rfl⟩
  obtain ⟨hans, heff, hkept, hmtx⟩ := Mtx.apply_spec _ x hc (alike.plain h)
  unfold Mtx.serve
  rw [Mtx.code_plain s x.req h]
  dsimp only
  rw [alike.answer] at hans
  replace heff := alike.effected heff
  generalize Mtx.apply _ x = p at *
  obtain ⟨hresp, hmem⟩ := Mtx.respond_spec p.1 x.req.master x.req.write .ok p.2
  rw [hans] at hresp hmem ⊢
  generalize Mtx.respond p.1 _ _ _ _ = t at *
  refine ⟨Mtx.effected_of_same (by rw [hresp.same]) (by rw [hresp.same]) heff,
    ⟨fun o h1 h2 => (hresp.regs o h2).trans (hkept.regs o h1 h2), ?_⟩, ?_, hmem⟩
  · rw [hresp.same]
    exact hkept.adds
  · rw [hresp.same]
    exact hmtx

/-! ### A granted transaction -/

/-- The state in which a request has been granted (R226, R230, R233, R238). -/
def Mtx.grantOf (s : State) (r : MtxReq) : State :=
  let key := Mtx.key r.master (Mtx.pointOf r)
  let s0 := Mtx.dequeue s r
  let s1 : State := { s0 with mtx := { s0.mtx with seq := Sparse.put s0.mtx.seq key 0 ((Sparse.get s.mtx.seq key 0 + 1) % 256)
                                                   last := Sparse.put s0.mtx.last (Mtx.pointOf r) 0 (r.master + 1) } }
  s1.setFld (Reg.MTX_PARK_LAST (Mtx.target (r.cells.headD (0, 0)).1)) r.master

/-- The transaction of a granted request, on its way. -/
def Mtx.txOf (s : State) (r : MtxReq) : MtxTx :=
  ⟨r, Mtx.pointOf r, Sparse.get s.mtx.seq (Mtx.key r.master (Mtx.pointOf r)) 0, .flying, []⟩

/-- The transaction stays unanswered. -/
def Mtx.keepTx (t : State) (y : MtxTx) : State := { t with mtx := { t.mtx with unanswered := t.mtx.unanswered ++ [y] } }

theorem Mtx.serveAll_nil {s : State} (h : s.mtx.unanswered = []) (p : MtxTx → Bool) : Mtx.serveAll s p = s := by
  unfold Mtx.serveAll
  rw [h]
  rfl

theorem Mtx.go_inFlight (s : State) (r : MtxReq) : Mtx.go s r .inFlight = Mtx.keepTx (Mtx.grantOf s r) (Mtx.txOf s r) := rfl

theorem Mtx.go_served {s : State} (r : MtxReq) (h : s.mtx.unanswered = []) : Mtx.go s r .served = Mtx.serve (Mtx.grantOf s r) (Mtx.txOf s r) :=
  congrArg (Mtx.serve · (Mtx.txOf s r)) (Mtx.serveAll_nil (s := Mtx.grantOf s r) h _)

theorem Mtx.go_lost {s : State} (r : MtxReq) (h : s.mtx.unanswered = []) : let p := Mtx.apply (Mtx.grantOf s r) (Mtx.txOf s r)
    Mtx.go s r .lost = Mtx.keepTx p.1 { Mtx.txOf s r with stage := .applied, words := p.2 } :=
  congrArg (fun t => Mtx.keepTx (Mtx.apply t (Mtx.txOf s r)).1 { Mtx.txOf s r with stage := .applied, words := (Mtx.apply t (Mtx.txOf s r)).2 })
    (Mtx.serveAll_nil (s := Mtx.grantOf s r) h _)

theorem Mtx.grantOf_spec (s : State) (r : MtxReq) : let key := Mtx.key r.master (Mtx.pointOf r)
    Mtx.Alike s (Mtx.grantOf s r) ∧ Sparse.get (Mtx.grantOf s r).mtx.seq key 0 = (Sparse.get s.mtx.seq key 0 + 1) % 256 ∧
    (Mtx.grantOf s r).fld (Reg.MTX_PARK_LAST (Mtx.target (r.cells.headD (0, 0)).1)) = r.master % 16 ∧
    (∀ q ∈ (Mtx.grantOf s r).mtx.queue, q.req ≠ r) ∧ (Mtx.grantOf s r).mtx.unanswered = s.mtx.unanswered := by
  refine ⟨?_, Sparse.get_put_same _ _ _ _, State.fld_setFld_same _ _ _ (by show 8 + 4 ≤ 32; decide), Mtx.not_mem_dequeue s r, rfl⟩
  have h := Mtx.alike_setFld s (Reg.MTX_PARK_LAST (Mtx.target (r.cells.headD (0, 0)).1)) r.master
    (by show 0x0B0060 + 0x4 * _ ≠ 0x000020; omega)
  exact ⟨rfl, rfl, h.running⟩

/-! ### Errors that are recorded -/

/-- What the record of an error holds of the access, before it is marked valid (R235). -/
def Mtx.firstError (s : State) (code m : Nat) (write : Bool) (a : Nat) : State :=
  let s1 := ((s.setFld Reg.MTX_ERR_CODE code).setFlag Reg.MTX_ERR_WRITE write).setFld Reg.MTX_ERR_TARGET (Mtx.target a)
  (s1.setFld Reg.MTX_ERR_MASTER m).setFld Reg.MTX_ERR_ADDR_ADDR a

theorem Mtx.firstError_regsOnly (s : State) (code m : Nat) (write : Bool) (a : Nat) : State.RegsOnly s (Mtx.firstError s code m write a) :=
  ((((State.regsOnly_setFld s _ _).trans (State.regsOnly_setFld _ _ _)).trans (State.regsOnly_setFld _ _ _)).trans
    (State.regsOnly_setFld _ _ _)).trans (State.regsOnly_setFld _ _ _)

theorem Mtx.firstError_fields (s : State) (code m : Nat) (write : Bool) (a : Nat) (hc : code < 4) : let t := Mtx.firstError s code m write a
    t.fld Reg.MTX_ERR_CODE = code ∧ t.fld Reg.MTX_ERR_MASTER = m % 16 ∧ t.fld Reg.MTX_ERR_ADDR_ADDR = a % 2 ^ 32 ∧
    t.flag Reg.MTX_ERR_WRITE = write ∧ t.fld Reg.MTX_ERR_TARGET = Mtx.target a := by
  intro t
  let s0 := (s.setFld Reg.MTX_ERR_CODE code).setFlag Reg.MTX_ERR_WRITE write
  let s1 := s0.setFld Reg.MTX_ERR_TARGET (Mtx.target a)
  have word (g : Fld) (ho : g.off ≠ Reg.MTX_ERR_ADDR_ADDR.off) : t.fld g = (s1.setFld Reg.MTX_ERR_MASTER m).fld g :=
    State.fld_setFld_other _ _ _ _ ho
  have past (g : Fld) (ho : g.off ≠ Reg.MTX_ERR_ADDR_ADDR.off)
      (hm : g.lo + g.wid ≤ Reg.MTX_ERR_MASTER.lo ∨ Reg.MTX_ERR_MASTER.lo + Reg.MTX_ERR_MASTER.wid ≤ g.lo) : t.fld g = s1.fld g :=
    (word g ho).trans (State.fld_setFld_apart _ _ _ _ (by decide) (.inr hm))
  have code_eq : t.fld Reg.MTX_ERR_CODE = code % 2 ^ 2 :=
    calc t.fld Reg.MTX_ERR_CODE = s1.fld Reg.MTX_ERR_CODE := past _ (by decide) (by decide)
      _ = s0.fld Reg.MTX_ERR_CODE := State.fld_setFld_apart _ _ _ _ (by decide) (.inr (by decide))
      _ = (s.setFld Reg.MTX_ERR_CODE code).fld Reg.MTX_ERR_CODE := State.fld_setFlag_apart _ _ _ _ (by decide) (.inr (by decide))
      _ = code % 2 ^ 2 := State.fld_setFld_same _ _ _ (by decide)
  have write_eq : t.fld Reg.MTX_ERR_WRITE = s0.fld Reg.MTX_ERR_WRITE :=
    (past _ (by decide) (by decide)).trans (State.fld_setFld_apart _ _ _ _ (by decide) (.inr (by decide)))
  refine ⟨code_eq.trans (Nat.mod_eq_of_lt hc), (word _ (by decide)).trans (State.fld_setFld_same _ _ _ (by decide)),
    State.fld_setFld_same _ _ _ (by decide), ?_, ?_⟩
  · unfold State.flag
    rw [write_eq]
    exact State.flag_setFlag_same _ _ _ (by decide) rfl
  · rw [past _ (by decide) (by decide)]
    exact (State.fld_setFld_same _ _ _ (by decide)).trans (Nat.mod_eq_of_lt (Mtx.target_lt a))

/-- The first error is recorded whole (R235). -/
theorem Mtx.error_first (s : State) (code m : Nat) (write : Bool) (a : Nat) (h : s.flag Reg.MTX_ERR_VALID = false) (hc : code < 4) :
    let t := Mtx.error s code m write a
    t = { s with regs := t.regs, evu := t.evu, out := t.out } ∧ t.flag Reg.MTX_ERR_VALID = true ∧
    t.fld Reg.MTX_ERR_CODE = code ∧ t.fld Reg.MTX_ERR_MASTER = m % 16 ∧ t.fld Reg.MTX_ERR_ADDR_ADDR = a % 2 ^ 32 ∧
    t.flag Reg.MTX_ERR_WRITE = write ∧ t.fld Reg.MTX_ERR_TARGET = Mtx.target a := by
  rw [show Mtx.error s code m write a = (Mtx.firstError s code m write a).setFire Reg.MTX_ERR_VALID 51 from if_neg (by simp [h])]
  have only := Mtx.firstError_regsOnly s code m write a
  obtain ⟨c, ms, ad, w, tg⟩ := Mtx.firstError_fields s code m write a hc
  generalize Mtx.firstError s code m write a = u at *
  obtain ⟨same, valid, -, regs, apart⟩ := State.setFire_spec u Reg.MTX_ERR_VALID 51 (by decide) rfl (by decide) (by decide)
  generalize u.setFire Reg.MTX_ERR_VALID 51 = t at *
  have word (g : Fld) (ho : g.off = Reg.MTX_ERR_VALID.off) (hb : g.lo + g.wid ≤ Reg.MTX_ERR_VALID.lo) : t.fld g = u.fld g :=
    apart g ho (.inl hb)
  refine ⟨?_, valid, (word Reg.MTX_ERR_CODE rfl (by decide)).trans c, (word Reg.MTX_ERR_MASTER rfl (by decide)).trans ms, ?_, ?_,
    (word Reg.MTX_ERR_TARGET rfl (by decide)).trans tg⟩
  · rw [only] at same
    exact same
  · rw [← ad]
    exact State.fld_congr Reg.MTX_ERR_ADDR_ADDR (regs _ (by decide) (by decide) fun e => absurd e (by decide))
  · rw [← w]
    unfold State.flag
    rw [word Reg.MTX_ERR_WRITE rfl (by decide)]

/-- A further error is recorded as an overflow (R235). -/
theorem Mtx.error_further (s : State) (code m : Nat) (write : Bool) (a : Nat) (h : s.flag Reg.MTX_ERR_VALID = true) :
    let t := Mtx.error s code m write a
    t = { s with regs := t.regs } ∧ t.flag Reg.MTX_ERR_VALID = true ∧ t.flag Reg.MTX_ERR_OVF = true ∧
    t.fld Reg.MTX_ERR_COUNT = min (s.fld Reg.MTX_ERR_COUNT + 1) Reg.MTX_ERR_COUNT.max := by
  unfold Mtx.error
  rw [if_pos h]
  have count (g : Fld) (ho : Reg.MTX_ERR_COUNT.lo + Reg.MTX_ERR_COUNT.wid ≤ g.lo) :
      ((s.setFlag Reg.MTX_ERR_OVF true).incCnt Reg.MTX_ERR_COUNT).flag g = (s.setFlag Reg.MTX_ERR_OVF true).flag g :=
    State.flag_setFld_apart _ _ _ _ (by decide) (.inr (.inr ho))
  refine ⟨(State.regsOnly_setFld s _ _).trans (State.regsOnly_incCnt _ _), ?_, ?_, ?_⟩
  · rw [count _ (by decide), State.flag_setFlag_apart _ _ _ _ (by decide) (.inr (by decide)), h]
  · rw [count _ (by decide), State.flag_setFlag_same _ _ _ (by decide) rfl]
  · rw [State.fld_incCnt_same _ _ (by decide), State.fld_setFlag_apart _ _ _ _ (by decide) (.inr (by decide))]

theorem Mtx.error_noted (s : State) (code m : Nat) (write : Bool) (a : Nat) (hc : code < 4) :
    Mtx.noted code m write a s (Mtx.error s code m write a) := by
  cases h : s.flag Reg.MTX_ERR_VALID with
  | false =>
    obtain ⟨same, valid, c, m, ad, w, tg⟩ := Mtx.error_first s code m write a h hc
    exact ⟨by rw [same], valid, fun _ => ⟨c, m, ad, w, tg⟩, fun e => by simp [h] at e⟩
  | true =>
    obtain ⟨same, valid, ovf, cnt⟩ := Mtx.error_further s code m write a h
    exact ⟨by rw [same], valid, fun e => by simp [h] at e, fun _ => ⟨ovf, cnt⟩⟩

/-- The request that waits no more and the answer do not touch the record. -/
theorem Mtx.noted_answered {code m : Nat} {write : Bool} {a : Nat} {s t u : State} {r : MtxReq}
    (h : Mtx.noted code m write a (Mtx.dequeue s r) t) (k : State.Answers t u) : Mtx.noted code m write a s u := by
  obtain ⟨same, valid, first, further⟩ := h
  have fld (f : Fld) (hf : f.off ≠ 0x010114) : u.fld f = t.fld f := State.fld_congr f (k.regs _ hf)
  have flag (f : Fld) (hf : f.off ≠ 0x010114) : u.flag f = t.flag f := State.flag_congr f (k.regs _ hf)
  refine ⟨by rw [k.same, same]; rfl, (flag _ (by decide)).trans valid, fun h => ?_, fun h => ?_⟩
  · rw [fld Reg.MTX_ERR_CODE (by decide), fld Reg.MTX_ERR_MASTER (by decide), fld Reg.MTX_ERR_ADDR_ADDR (by decide),
      flag Reg.MTX_ERR_WRITE (by decide), fld Reg.MTX_ERR_TARGET (by decide)]
    exact first h
  · rw [flag Reg.MTX_ERR_OVF (by decide), fld Reg.MTX_ERR_COUNT (by decide)]
    exact further h

/-- Recording a response touches neither the matrix's own record, nor memory, nor the stalls. -/
theorem Mtx.record_same (s : State) (code : MtxResp) (m : Nat) (write : Bool) (a : Nat) :
    (Mtx.record s code m write a).mtx.queue = s.mtx.queue ∧ (Mtx.record s code m write a).mem = s.mem ∧
    (Mtx.record s code m write a).stalls = s.stalls := by
  have error (k : Nat) (hk : k < 4) : (Mtx.error s k m write a).mtx.queue = s.mtx.queue ∧ (Mtx.error s k m write a).mem = s.mem ∧
      (Mtx.error s k m write a).stalls = s.stalls := by
    cases h : s.flag Reg.MTX_ERR_VALID with
    | false =>
      rw [(Mtx.error_first s k m write a h hk).1]
      exact ⟨rfl, rfl, rfl⟩
    | true =>
      rw [(Mtx.error_further s k m write a h).1]
      exact ⟨rfl, rfl, rfl⟩
  cases code
  · exact ⟨rfl, rfl, rfl⟩
  · exact ⟨rfl, rfl, rfl⟩
  · exact ⟨rfl, rfl, rfl⟩
  · exact error 1 (by decide)
  · exact error 2 (by decide)

end Sys2Proof.Machine

/-! MATRIX_TRANSACTION and REISSUE_COMPLETE (07_bus_matrix.md R218 to R238). -/
namespace Sys2Proof.Machine

theorem Mtx.headD_of_cons {r : MtxReq} {c : Nat × Byte} {l : List (Nat × Byte)} (h : r.cells = c :: l) : (r.cells.headD (0, 0)).1 = c.1 := by
  rw [h]; rfl

theorem Mtx.pointOf_of_cons {r : MtxReq} {c : Nat × Byte} {l : List (Nat × Byte)} (h : r.cells = c :: l) :
    Mtx.pointOf r = Mtx.point r.write c.1 := by
  unfold Mtx.pointOf
  rw [Mtx.headD_of_cons h]

/-! ### A refused request -/

/-- A request that its target does not take waits no more and is answered with its error, and nothing takes effect (R219 to R221, R235). -/
theorem Mtx.refused_spec (s : State) (r : MtxReq) (code : MtxResp) (a : Nat) (ws : List (Nat × Word)) :
    let t := Mtx.respond (Mtx.record (Mtx.dequeue s r) code r.master r.write a) r.master r.write code ws
    (∀ q ∈ t.mtx.queue, q.req ≠ r) ∧ t.mem = s.mem ∧ t.stalls = s.stalls ∧ .response r.master r.write code ws ∈ t.out ∧
    (code = .decode → Mtx.noted 1 r.master r.write a s t) ∧ (code = .nopath → Mtx.noted 2 r.master r.write a s t) := by
  obtain ⟨hqueue, hmem, hstalls⟩ := Mtx.record_same (Mtx.dequeue s r) code r.master r.write a
  obtain ⟨hresp, hout⟩ := Mtx.respond_spec (Mtx.record (Mtx.dequeue s r) code r.master r.write a) r.master r.write code ws
  refine ⟨?_, ?_, ?_, hout, fun e => ?_, fun e => ?_⟩
  · rw [hresp.same]
    intro q hq
    exact Mtx.not_mem_dequeue s r q (hqueue ▸ hq)
  · rw [hresp.same]
    exact hmem
  · rw [hresp.same]
    exact hstalls
  · subst e
    exact Mtx.noted_answered (Mtx.error_noted (Mtx.dequeue s r) 1 r.master r.write a (by decide)) hresp
  · subst e
    exact Mtx.noted_answered (Mtx.error_noted (Mtx.dequeue s r) 2 r.master r.write a (by decide)) hresp

/-! ### A granted request -/

/-- The request has been granted and waits no more: the next sequence number, and the master that the point served last (R226, R230, R238). -/
structure Mtx.WentOn (s : State) (r : MtxReq) (t : State) : Prop where
  seq : Sparse.get t.mtx.seq (Mtx.key r.master (Mtx.pointOf r)) 0 = (Sparse.get s.mtx.seq (Mtx.key r.master (Mtx.pointOf r)) 0 + 1) % 256
  last : t.fld (Reg.MTX_PARK_LAST (Mtx.target (r.cells.headD (0, 0)).1)) = r.master % 16
  queue : ∀ q ∈ t.mtx.queue, q.req ≠ r

theorem Mtx.Kept.wentOn {s t : State} {r : MtxReq} (k : Mtx.Kept (Mtx.grantOf s r) t) (hs : t.mtx.seq = (Mtx.grantOf s r).mtx.seq)
    (hq : t.mtx.queue = (Mtx.grantOf s r).mtx.queue) : Mtx.WentOn s r t := by
  obtain ⟨-, seq, last, queue, -⟩ := Mtx.grantOf_spec s r
  refine ⟨hs ▸ seq, ?_, hq ▸ queue⟩
  rw [← last]
  refine State.fld_congr _ (k.regs _ ?_ ?_)
  · show 0x0B0060 + 0x4 * _ ≠ 0x000100
    omega
  · have := Mtx.target_lt (r.cells.headD (0, 0)).1
    show 0x0B0060 + 0x4 * _ ≠ 0x010114
    omega

theorem Mtx.get_applied_of_put {t : State} {m : Sparse Nat} {k n : Nat} (h : t.mtx.applied = Sparse.put m k 0 n) :
    Sparse.get t.mtx.applied k 0 = n := by
  rw [h]
  exact Sparse.get_put_same m k 0 n

/-- A granted transaction that stays on its way. -/
theorem Mtx.go_inFlight_spec {s : State} (r : MtxReq) (hu : s.mtx.unanswered = []) : let t := Mtx.go s r .inFlight
    Mtx.WentOn s r t ∧ t.mem = s.mem ∧ t.mtx.unanswered = [Mtx.txOf s r] := by
  obtain ⟨alike, -, -, -, un⟩ := Mtx.grantOf_spec s r
  rw [Mtx.go_inFlight]
  refine ⟨Mtx.Kept.wentOn ⟨fun _ _ _ => rfl, rfl⟩ rfl rfl, alike.mem, ?_⟩
  show (Mtx.grantOf s r).mtx.unanswered ++ _ = _
  rw [un, hu, List.nil_append]

/-- A granted transaction that is served at once (R234, R238). -/
theorem Mtx.go_served_spec {s : State} {r : MtxReq} (hc : r.cells ≠ []) (hp : Mtx.plain s r) (hu : s.mtx.unanswered = []) :
    let t := Mtx.go s r .served
    Mtx.WentOn s r t ∧ Mtx.effected s r t ∧ Sparse.get t.mtx.applied (Mtx.key r.master (Mtx.pointOf r)) 0 = (Mtx.txOf s r).seq + 1 ∧
    t.mtx.unanswered = [] ∧ .response r.master r.write .ok (Mtx.answer s r) ∈ t.out := by
  obtain ⟨alike, -, -, -, un⟩ := Mtx.grantOf_spec s r
  obtain ⟨heff, hkept, hmtx, hout⟩ := Mtx.serve_spec (Mtx.grantOf s r) (Mtx.txOf s r) hc (alike.plain hp)
  rw [alike.answer] at hout
  rw [Mtx.go_served r hu]
  generalize Mtx.serve (Mtx.grantOf s r) (Mtx.txOf s r) = t at *
  refine ⟨hkept.wentOn (by rw [hmtx]) (by rw [hmtx]), alike.effected heff, ?_, ?_, hout⟩
  · exact Mtx.get_applied_of_put (m := (Mtx.grantOf s r).mtx.applied) (by rw [hmtx]; rfl)
  · rw [hmtx, un, hu]
    rfl

/-- A granted transaction that takes effect and whose answer is lost (R238). -/
theorem Mtx.go_lost_spec {s : State} {r : MtxReq} (hc : r.cells ≠ []) (hp : Mtx.plain s r) (hu : s.mtx.unanswered = []) :
    let t := Mtx.go s r .lost
    Mtx.WentOn s r t ∧ Mtx.effected s r t ∧ Sparse.get t.mtx.applied (Mtx.key r.master (Mtx.pointOf r)) 0 = (Mtx.txOf s r).seq + 1 ∧
    t.mtx.unanswered = [{ Mtx.txOf s r with stage := .applied, words := Mtx.answer s r }] := by
  obtain ⟨alike, -, -, -, un⟩ := Mtx.grantOf_spec s r
  obtain ⟨hans, heff, hkept, hmtx⟩ := Mtx.apply_spec (Mtx.grantOf s r) (Mtx.txOf s r) hc (alike.plain hp)
  rw [show (Mtx.txOf s r).req = r from rfl, alike.answer] at hans
  have e := Mtx.go_lost r hu
  dsimp only at e ⊢
  rw [e, hans]
  generalize (Mtx.apply (Mtx.grantOf s r) (Mtx.txOf s r)).1 = t at *
  refine ⟨?_, alike.effected (Mtx.effected_of_same rfl rfl heff), ?_, ?_⟩
  · refine Mtx.Kept.wentOn ⟨hkept.regs, hkept.adds⟩ ?_ ?_
    · show t.mtx.seq = _
      rw [hmtx]
    · show t.mtx.queue = _
      rw [hmtx]
  · exact Mtx.get_applied_of_put (t := t) (m := (Mtx.grantOf s r).mtx.applied) (by rw [hmtx]; rfl)
  · show t.mtx.unanswered ++ _ = _
    rw [hmtx, un, hu, List.nil_append]

/-- What a granted transaction leaves, by its fate (R222, R230, R233, R234, R238). -/
theorem Mtx.go_spec {s : State} {r : MtxReq} {fate : MtxFate} (hfate : fate = .served ∨ fate = .lost ∨ fate = .inFlight) (hc : r.cells ≠ [])
    (hp : Mtx.plain s r) (hu : s.mtx.unanswered = []) : let t := Mtx.go s r fate
    Mtx.WentOn s r t ∧ (fate = .inFlight → t.mem = s.mem ∧ t.mtx.unanswered = [Mtx.txOf s r]) ∧
    (fate ≠ .inFlight → Mtx.effected s r t ∧ Sparse.get t.mtx.applied (Mtx.key r.master (Mtx.pointOf r)) 0 = (Mtx.txOf s r).seq + 1) ∧
    (fate = .lost → t.mtx.unanswered = [{ Mtx.txOf s r with stage := .applied, words := Mtx.answer s r }]) ∧
    (fate = .served → t.mtx.unanswered = [] ∧ .response r.master r.write .ok (Mtx.answer s r) ∈ t.out) := by
  rcases hfate with rfl | rfl | rfl
  · obtain ⟨went, heff, happ, hun, hout⟩ := Mtx.go_served_spec hc hp hu
    exact ⟨went, nofun, fun _ => ⟨heff, happ⟩, nofun, fun _ => ⟨hun, hout⟩⟩
  · obtain ⟨went, heff, happ, hun⟩ := Mtx.go_lost_spec hc hp hu
    exact ⟨went, nofun, fun _ => ⟨heff, happ⟩, fun _ => hun, nofun⟩
  · obtain ⟨went, hmem, hun⟩ := Mtx.go_inFlight_spec r hu
    exact ⟨went, fun _ => ⟨hmem, hun⟩, fun k => absurd rfl k, nofun, nofun⟩

/-! ### The command -/

theorem execMatrixTransaction_not_sent {s : State} {r : MtxReq} (waited slot : Nat) (rivals : List MtxRival) (fate : MtxFate)
    (h : r.cells = [] ∨ Mtx.sends s r = false) : execMatrixTransaction r waited slot rivals fate s = .next s := by
  unfold execMatrixTransaction
  rw [if_pos]
  rcases h with h | h <;> simp [h]

theorem Mtx.serveAll_one {s : State} {x : MtxTx} {p : MtxTx → Bool} (hu : s.mtx.unanswered = [x]) (hst : x.stage = .flying) (hp : p x = true) :
    Mtx.serveAll s p = Mtx.serve s x := by
  unfold Mtx.serveAll
  rw [hu, List.filter_cons_of_pos (by rw [hst, hp]; rfl)]
  rfl

section
variable {s : State} {r : MtxReq} {c : Nat × Byte} {l : List (Nat × Byte)} (hcl : r.cells = c :: l) (hs : Mtx.sends s r = true)
include hcl hs

/-- One that names the transaction on its way serves it. -/
theorem execMatrixTransaction_on_way {x : MtxTx} (waited slot : Nat) (rivals : List MtxRival) (hu : s.mtx.unanswered = [x])
    (hst : x.stage = .flying) (hr : x.req = r) (hx : x.point = Mtx.pointOf r) :
    execMatrixTransaction r waited slot rivals .served s = .next (Mtx.serve s x) := by
  have hb : (x.stage == MtxStage.flying && x.req == r) = true := by rw [hst, hr, beq_self_eq_true r]; rfl
  unfold execMatrixTransaction
  rw [if_neg (by simp [hcl, hs]), hu, if_pos ⟨rfl, by rw [List.any_cons, hb]; rfl⟩,
    List.find?_cons_of_pos (p := fun x : MtxTx => x.stage == .flying && x.req == r) hb]
  refine congrArg _ (Mtx.serveAll_one hu hst ?_)
  rw [hr, hx]
  simp

/-- A request that is not on its way. -/
theorem execMatrixTransaction_request (waited slot : Nat) (rivals : List MtxRival) (fate : MtxFate) (h : ∀ x ∈ s.mtx.unanswered, x.req ≠ r) :
    execMatrixTransaction r waited slot rivals fate s = .next (
      if Mtx.full s r && !(s.mtx.queue.any fun q => q.req == r) then s
      else if Mtx.holds s r then Mtx.enqueue s r waited
      else
        let code := Mtx.refusal s r.master r.write c.1
        if code ≠ .ok then
          Mtx.respond (Mtx.record (Mtx.dequeue s r) code r.master r.write c.1) r.master r.write code (Mtx.zeros r.write r.cells)
        else if Mtx.granted s r c.1 waited slot (Mtx.rivals s r rivals) then Mtx.go s r fate
        else Mtx.enqueue s r waited) := by
  have hn : ¬ (s.mtx.unanswered.any fun x => x.stage == .flying && x.req == r) = true := by
    rw [List.any_eq_true]
    rintro ⟨x, hx, hb⟩
    rw [Bool.and_eq_true, beq_iff_eq (a := x.req)] at hb
    exact h x hx hb.2
  unfold execMatrixTransaction
  rw [if_neg (by simp [hcl, hs]), if_neg fun k => hn k.2, Mtx.headD_of_cons hcl]

end

theorem Mtx.queue_any {s : State} {r : MtxReq} : (s.mtx.queue.any fun q => q.req == r) = true ↔ ∃ q ∈ s.mtx.queue, q.req = r := by
  simp only [List.any_eq_true, beq_iff_eq]

/-! ### Reissue -/

theorem Mtx.stallRows_congr {s t : State} (h : t.stalls = s.stalls) : Mtx.stallRows t = Mtx.stallRows s := by
  unfold Mtx.stallRows State.stall
  rw [h]

theorem Mtx.againStalls_of_none {s : State} (h : Mtx.stallRows s = 0) (ha : s.mem.adds = 0) : Mtx.againStalls s = s := by
  unfold Mtx.againStalls
  generalize Mtx.stallRows s = n at *
  exact if_pos ⟨h, ha⟩

/-- The state in which the one unanswered transaction is reissued (R238). -/
def Mtx.reissuing (s : State) : State :=
  let s0 : State := { s with mtx := { s.mtx with unanswered := [], replay := false } }
  s0.incCnt Reg.MTX_REPLAY_REPLAYED

theorem Mtx.reissuing_spec (s : State) : Mtx.Alike s (Mtx.reissuing s) ∧ State.keptBut [Reg.MTX_REPLAY_REPLAYED] s (Mtx.reissuing s) ∧
    (Mtx.reissuing s).fld Reg.MTX_REPLAY_REPLAYED = min (s.fld Reg.MTX_REPLAY_REPLAYED + 1) 65535 := by
  have running := State.flag_congr Reg.TOP_FRAME_CFG_RUN (State.reg_setFld_other s Reg.MTX_REPLAY_REPLAYED
    (min (s.fld Reg.MTX_REPLAY_REPLAYED + 1) Reg.MTX_REPLAY_REPLAYED.max) (by decide))
  exact ⟨⟨rfl, rfl, running⟩, State.keptBut_incCnt _ (by decide) (by simp) (State.keptBut_refl _ s),
    State.fld_incCnt_same s Reg.MTX_REPLAY_REPLAYED (by decide)⟩

/-- The one unanswered transaction is reissued, if the stalls have none. -/
theorem execReissueComplete_one {s : State} {x : MtxTx} (hr : s.mtx.replay = true) (hu : s.mtx.unanswered = [x]) (hrows : Mtx.stallRows s = 0)
    (hadds : s.mem.adds = 0) {t : State}
    (ht : Mtx.again { s with mtx := { s.mtx with unanswered := [], replay := false } } x = t) (hst : t.stalls = s.stalls)
    (ha : t.mem.adds = s.mem.adds) : execReissueComplete s = .next t := by
  unfold execReissueComplete
  rw [if_neg (by simp [hr]), hu, List.foldl_cons, List.foldl_nil, ht,
    Mtx.againStalls_of_none ((Mtx.stallRows_congr hst).trans hrows) (ha.trans hadds)]

theorem Mtx.again_eq {s : State} {x : MtxTx} {c : Nat × Byte} {l : List (Nat × Byte)} (hcl : x.req.cells = c :: l)
    (h : Mtx.refusal s x.req.master x.req.write c.1 = .ok) : Mtx.again { s with mtx := { s.mtx with unanswered := [], replay := false } } x =
      if Mtx.done s (Mtx.key x.req.master x.point) x.seq then
        Mtx.respond ((Mtx.reissuing s).incCnt Reg.MTX_REPLAY_DUP) x.req.master x.req.write .ok x.words
      else Mtx.serve (Mtx.reissuing s) x := by
  have hf : Mtx.refusal (Mtx.reissuing s) x.req.master x.req.write c.1 = Mtx.refusal s x.req.master x.req.write c.1 := by
    have hb : Mtx.fallback (Mtx.reissuing s) = Mtx.fallback s :=
      State.flag_congr Reg.MTX_STAT_IN_SERVICE (State.reg_setFld_other s Reg.MTX_REPLAY_REPLAYED _ (by decide))
    unfold Mtx.refusal
    rw [hb]
    rfl
  unfold Mtx.again
  show (if Mtx.refusal (Mtx.reissuing s) _ _ (x.req.cells.headD (0, 0)).1 ≠ _ then _ else _) = _
  rw [Mtx.headD_of_cons hcl, if_neg (by rw [hf, h]; exact fun k => k rfl)]
  rfl

/-- A transaction whose effect its target has applied is answered again, and nothing else happens (R238). -/
theorem Mtx.duplicate_spec (s : State) (m : Nat) (write : Bool) (ws : List (Nat × Word)) :
    let t := Mtx.respond ((Mtx.reissuing s).incCnt Reg.MTX_REPLAY_DUP) m write .ok ws
    t = { s with regs := t.regs, mtx := { s.mtx with unanswered := [], replay := false }, out := t.out } ∧
    State.keptBut [Reg.MTX_REPLAY_REPLAYED, Reg.MTX_REPLAY_DUP, Reg.CLK_XDISC_DISCARD 2] s t ∧
    .response m write .ok ws ∈ t.out ∧ t.fld Reg.MTX_REPLAY_REPLAYED = min (s.fld Reg.MTX_REPLAY_REPLAYED + 1) 65535 ∧
    t.fld Reg.MTX_REPLAY_DUP = min (s.fld Reg.MTX_REPLAY_DUP + 1) 65535 := by
  obtain ⟨hresp, hout⟩ := Mtx.respond_spec ((Mtx.reissuing s).incCnt Reg.MTX_REPLAY_DUP) m write .ok ws
  obtain ⟨-, kept, replayed⟩ := Mtx.reissuing_spec s
  have apart : (Mtx.reissuing s).fld Reg.MTX_REPLAY_DUP = s.fld Reg.MTX_REPLAY_DUP :=
    State.fld_setFld_apart s Reg.MTX_REPLAY_REPLAYED Reg.MTX_REPLAY_DUP _ (by decide) (.inr (by decide))
  have fld (f : Fld) (hf : f.off ≠ 0x010114) := State.fld_congr f (hresp.regs _ hf)
  refine ⟨hresp.same, State.keptBut_trans ?_ (State.keptBut_mono hresp.kept (by simp)), hout, ?_, ?_⟩
  · exact State.keptBut_incCnt _ (by decide) (by simp) (State.keptBut_mono kept (by simp))
  · rw [fld Reg.MTX_REPLAY_REPLAYED (by decide), ← replayed]
    exact State.fld_setFld_apart _ _ _ _ (by decide) (.inr (by decide))
  · rw [fld Reg.MTX_REPLAY_DUP (by decide), ← apart]
    exact State.fld_incCnt_same _ Reg.MTX_REPLAY_DUP (by decide)

/-- A transaction whose effect its target has not applied takes effect when it is reissued (R238). -/
theorem Mtx.reissued_spec (s : State) (x : MtxTx) (hc : x.req.cells ≠ []) (hp : Mtx.plain s x.req) :
    let t := Mtx.serve (Mtx.reissuing s) x
    (t.mtx.replay = false ∧ t.mtx.unanswered = [] ∧ Mtx.effected s x.req t ∧
      Sparse.get t.mtx.applied (Mtx.key x.req.master x.point) 0 = x.seq + 1 ∧
      .response x.req.master x.req.write .ok (Mtx.answer s x.req) ∈ t.out ∧
      t.fld Reg.MTX_REPLAY_REPLAYED = min (s.fld Reg.MTX_REPLAY_REPLAYED + 1) 65535 ∧
      t.fld Reg.MTX_REPLAY_DUP = s.fld Reg.MTX_REPLAY_DUP) ∧ t.mem.adds = s.mem.adds := by
  obtain ⟨alike, kept, replayed⟩ := Mtx.reissuing_spec s
  obtain ⟨heff, hkept, hmtx, hout⟩ := Mtx.serve_spec (Mtx.reissuing s) x hc (alike.plain hp)
  rw [alike.answer] at hout
  generalize Mtx.serve (Mtx.reissuing s) x = t at *
  have fld (f : Fld) (hf : f.off = 0x0B00B8) : t.fld f = (Mtx.reissuing s).fld f :=
    State.fld_congr f (hkept.regs _ (by rw [hf]; decide) (by rw [hf]; decide))
  refine ⟨⟨?_, ?_, alike.effected heff, Mtx.get_applied_of_put (by rw [hmtx]), hout, (fld _ rfl).trans replayed,
    (fld _ rfl).trans (kept _ (by decide) (by decide))⟩, hkept.adds⟩
  · rw [hmtx]; rfl
  · rw [hmtx]; rfl

/-- Settles O45: each way of a request is a lemma about the state it leads to; what has taken effect is said by `Mtx.serve_spec` and
`Mtx.apply_spec`. -/
theorem matrixTransactionsTakeEffect : Obligations.MatrixTransactionsTakeEffect := by
  unfold Obligations.MatrixTransactionsTakeEffect
  refine ⟨fun s r waited slot rivals fate h => execMatrixTransaction_not_sent waited slot rivals fate h,
    fun s r c l waited slot rivals fate hcl hs => ⟨?_, fun hnew => ?_⟩, fun s h => ?_, fun s x c l hr hu hrows hadds hcl href => ⟨?_, ?_⟩⟩
  · rintro x rfl hu hst rfl hx hp
    obtain ⟨heff, -, hmtx, hout⟩ := Mtx.serve_spec s x (by simp [hcl]) hp
    refine ⟨_, execMatrixTransaction_on_way hcl hs waited slot rivals hu hst rfl hx, ?_, ?_, heff, hout⟩
    · rw [hmtx, hu]
      simp
    · rw [← Mtx.pointOf_of_cons hcl, ← hx]
      exact Mtx.get_applied_of_put (by rw [hmtx])
  · have e := execMatrixTransaction_request hcl hs waited slot rivals fate hnew
    refine ⟨fun hf hq => e.trans ?_, fun hroom => ?_⟩
    · have hn : (s.mtx.queue.any fun q => q.req == r) = false :=
        Bool.eq_false_iff.mpr fun k => by obtain ⟨q, hm, hr⟩ := Mtx.queue_any.mp k; exact hq q hm hr
      rw [hf, hn]
      rfl
    · have room : ¬ (Mtx.full s r && !(s.mtx.queue.any fun q => q.req == r)) = true := by
        rcases hroom with h | h
        · simp [h]
        · rw [Mtx.queue_any.mpr h]
          simp
      rw [if_neg room] at e
      refine ⟨fun hh => ?_, fun hh hcode => ?_, fun hh hcode hg => ?_, fun hh hcode hg hfate hp hu => ?_⟩
      · rw [if_pos hh] at e
        exact ⟨_, e, Mtx.enqueue_queued s r waited⟩
      · rw [if_neg (by simp [hh])] at e
        dsimp only at e
        rw [if_pos hcode] at e
        exact ⟨_, e, Mtx.refused_spec s r _ c.1 _⟩
      · rw [if_neg (by simp [hh])] at e
        dsimp only at e
        rw [if_neg (by simp [hcode]), if_neg (by simp [hg])] at e
        exact ⟨_, e, Mtx.enqueue_queued s r waited⟩
      · rw [if_neg (by simp [hh])] at e
        dsimp only at e
        rw [if_neg (by simp [hcode]), if_pos hg] at e
        have hc : r.cells ≠ [] := by simp [hcl]
        rw [← Mtx.pointOf_of_cons hcl, ← Mtx.headD_of_cons hcl]
        refine ⟨_, e, ?_⟩
        obtain ⟨went, hspec⟩ := Mtx.go_spec hfate hc hp hu
        exact ⟨went.seq, went.last, went.queue, hspec⟩
  · show execReissueComplete s = _
    unfold execReissueComplete
    rw [if_pos (by simp [h])]
  · intro hdone
    have ea := Mtx.again_eq hcl href
    rw [if_pos hdone] at ea
    have spec := Mtx.duplicate_spec s x.req.master x.req.write x.words
    refine ⟨_, execReissueComplete_one hr hu hrows hadds ea ?_ ?_, spec⟩
    · rw [spec.1]
    · rw [spec.1]
  · intro hdone hp
    have ea := Mtx.again_eq hcl href
    rw [if_neg (by simp [hdone])] at ea
    obtain ⟨spec, hadd⟩ := Mtx.reissued_spec s x (by simp [hcl]) hp
    exact ⟨_, execReissueComplete_one hr hu hrows hadds ea spec.2.2.1.1 hadd, spec⟩

end Sys2Proof.Machine

/-! Stores land while a MIGRATE record names a source beyond the memories (06_schedule_memory.md R179, R198; 09_bales_digest.md R301;
16_fault_collector.md R471, Table 16-7). -/
namespace Sys2Proof.Machine

/-! ### A migration source that no memory holds

The fault source of an uncorrectable word follows from its address. Beyond the last local memory the addresses run on into the numbers of
other sources: a word of stall 200 belongs to F055, whose RESET reaction takes the tether down, and a command that waits for the standby's
answer then completes into CMD_LOG and its mirror in the tack room. -/

/-- STORES_LAND in phase D without refresh units: what was issued has landed, and the migration sources are read. -/
theorem exec_storesLand_zero {s : State} (hr : s.running = true) (hd : s.phase = .d) : exec (.storesLand 0) s =
    .next (Swap.readMigration { s with
      stalls := s.stalls.map fun p => (p.1, { p.2 with stores := [] }), mem := { s.mem with adds := 0 } }) := by
  show execStoresLand 0 s = _
  simp [execStoresLand, hr, hd, Twn.refresh]

/-- The bytes of slot 1: one section, MIGRATE at 0x60, with one record, which copies 4 bytes from offset 0 of stall 200. -/
def Stray.image : List Host.Cell :=
  [(0x94C0006, 1), (0x94C0040, 10), (0x94C0044, 0x60), (0x94C0068, 1), (0x94C0071, 200), (0x94C007C, 4)]

/-- The command with ticket 0, done on this device, waits for the answer of the standby (R326). -/
def Stray.run : Run := { d := { ticket := 0, words := [] }, long := true, adj := 0, wait := .ack 0 0 [] }

/-- Phase D of a frame at whose bus close the swap to slot 1 was taken: the tether is UP, F055 has class RESET, and the word that the
migration reads first is marked uncorrectable. -/
def Stray.state : State :=
  let s : State :=
    { phase := .d
      mem := { bytes := Stray.image, err := [(Mem.localBase 200, 2)] }
      cmd := { run := [Stray.run] }
      bale := { mark := some 1, taken := some 1 } }
  (((s.setFlag Reg.TOP_FRAME_CFG_RUN true).setFlag Reg.TOP_BALE_LIVE_VALID true).setFld Reg.TWN_ST_LINK 2).setFld
    (Reg.FC_SRC_CLASS 55) Fc.reset

/-- Where byte 3 of the record of ticket 0 lies in the mirror of CMD_LOG (R543). -/
def Stray.address : Nat := 0x9010003

theorem Stray.running : Stray.state.running = true := by decide +kernel

/-- Reading the migration source leaves memory as an event of F055 does, the fault source of the marked word (Table 16-7). -/
theorem Stray.readMigration_mem : (Swap.readMigration Stray.state).mem = (Stray.state.faultEvent 55).mem := by decide +kernel

/-- F055 resets the twin unit, and the completion record of ticket 0 is written. -/
theorem Stray.faultEvent_byte : (Stray.state.faultEvent 55).byte Stray.address = 0x80 := by decide +kernel

theorem Stray.byte_before : Stray.state.byte Stray.address = 0 := by decide +kernel

theorem Stray.byte_after : (Swap.readMigration Stray.state).byte Stray.address = 0x80 := by
  unfold State.byte
  rw [Stray.readMigration_mem]
  exact Stray.faultEvent_byte

/-- Refutes O53: at STORES_LAND no byte of memory should change, also where words are marked, but the read of a migration source whose
address lies beyond the local memories resets the twin unit, and the record of a command that waited for the standby is written. -/
theorem not_framesFollowTheirStages : ¬ Obligations.FramesFollowTheirStages := by
  unfold Obligations.FramesFollowTheirStages
  rintro ⟨-, h⟩
  obtain ⟨-, -, -, -, -, -, -, -, -, -, -, -, lands, -⟩ := h Stray.state
  obtain ⟨t, step, kept, -⟩ := lands 0 Stray.running rfl
  have next : exec (.storesLand 0) Stray.state = .next (Swap.readMigration Stray.state) := exec_storesLand_zero Stray.running rfl
  obtain rfl : Swap.readMigration Stray.state = t := Host.Outcome.next.inj (next.symm.trans step)
  have same := kept Stray.address
  rw [Stray.byte_before, Stray.byte_after] at same
  exact absurd same (by decide)

end Sys2Proof.Machine
